-- ==== Sys2Proof/Word.lean ====
section
/-! DEFINITION. The word types of the FM8 and the index types of 00_scope.md R8 (global numbering). -/

namespace Sys2Proof

/-- A register word: every register block is laid out in 32-bit words (01_architecture.md R33). -/
abbrev Word := BitVec 32

/-- One byte. -/
abbrev Byte := BitVec 8

/-- Accelerator 0-7 (00_scope.md R8). -/
abbrev Acc := Fin 8

/-- Crozier channel: 0-7 the accelerators, 8 the tray (00_scope.md R8). -/
abbrev Chan := Fin 9

/-- Global rail number 0-119 (00_scope.md R8). -/
abbrev Rail := Fin 120

/-- Fan output 0-15 (12_cooling_and_thermal.md R355). -/
abbrev Fan := Fin 16

/-- Pump 0-3 (12_cooling_and_thermal.md R361). -/
abbrev Pump := Fin 4

/-- Coolant loop 0-1 (12_cooling_and_thermal.md R361). -/
abbrev Loop := Fin 2

/-- Two-wire port 0-10 (13_two_wire_buses.md R383). -/
abbrev Port := Fin 11

/-- Frond model slot 0-3 (09_frond_inference_array.md R264). -/
abbrev Slot := Fin 4

end Sys2Proof
end

