-- ==== Sys2Proof/Syntax.lean ====
section
/-! DEFINITION. The commands the FM8 takes: one constructor of `Instr` for each row of the table of operations and
events, with the row's operands. A happening names its object and carries the reading it delivers; a catalogue
command carries its frame (14_mailboxes_and_authority.md R414) and its parameters (15_command_catalogue.md). -/

namespace Sys2Proof

/-- Where a command arrived: the two mailboxes, FMP on Ethernet port 0 or 1, or MCTP (14 R429, 02 R52). -/
inductive Source where
  | mb0 | mb1 | fmp0 | fmp1 | mctp
deriving DecidableEq, Repr

/-- The envelope of a command on its transport (14 R420, R429). `key` is FLAGS[1:0]; `wellFormed` says that the frame
passes step 1 of R414 other than DEVICE; `addr` and `udp` are the sender's address on FMP. -/
structure Frame where
  src : Source
  seq : BitVec 16
  ifver : Byte
  key : BitVec 2
  ctr : BitVec 64
  tag : BitVec 128
  device : BitVec 64
  wellFormed : Bool
  addr : BitVec 128
  udp : BitVec 16
  /-- the tick in which its last byte, or the write to MBX_GO, came (02 R39). -/
  stamp : Nat
  /-- over MCTP: the packets came in sequence and the message has at most 4,160 bytes (13 R410). -/
  assembled : Bool := true
deriving DecidableEq, Repr

/-- The command catalogue (15_command_catalogue.md): one constructor a command, with its parameters as sent. -/
inductive Cmd where
  | sysCapabilities | sysHeartbeat | sysStatus
  | sysCommitEpoch (epoch : BitVec 16)
  | powerSetCap (cap : Word)
  | powerSetEnvelope (peak avg ramp tol balMax : Word)
  | powerStatus
  | rackPowerOn
  | rackPowerOff (grace flags : Byte)
  | rackHold | rackReset | rackJoin | rackDetach | trayPowerOn
  | trayPowerOff (grace flags : Byte)
  | trayFaultClear
  | crzSetDep (dep : List Word)
  | crzSetConfig (seqCfg : Word) (stepwin : List Word)
  | crzClearFault (ch : Byte)
  | crzStatus
  | partitionPowerOn (acc : Byte)
  | partitionPowerOff (acc mode : Byte)
  | partitionReset (acc mode flags : Byte)
  | partitionPark (acc : Byte)
  | partitionUnpark (acc : Byte)
  | supSetWindow (rail : Byte) (win trayDiv : Word)
  | supSetFastWindow (k : Byte) (fwc : Word)
  | supMargin (rail steps : Byte)
  | supStatus
  | steerSetMode (ctrl : Word)
  | steerSetPhasePref (acc : Byte) (pref : BitVec 64)
  | steerSetParkOrder (order : Word)
  | steerSetGroup (group : Word)
  | steerSetConfig (cfg cfg2 thermCeil : Word) (leak : List Word)
  | steerStatus
  | ledgerBindJob (slot : BitVec 16) (flags : Byte) (job : BitVec 64)
  | ledgerUnbindJob (slot : BitVec 16)
  | ledgerSetCoeff (bin : Byte) (coef : List Word)
  | ledgerSetConfig (cfg : Word)
  | ledgerStatus
  | frondStage (slot flags : Byte) (offset total : Word) (data : List Byte)
  | frondLoad (slot source flags : Byte)
  | frondUnload (slot flags : Byte)
  | frondRun (slot flags : Byte)
  | frondSetSched (sched : Word)
  | frondStatus
  | srsSetConfig (cfg eq : Word)
  | srsStatus
  | bupTest (acc : Byte)
  | bupFloorPlan (acc : Byte)
  | bupJournalRead (serial : BitVec 64) (first : BitVec 16)
  | bupJournalForget (serial : BitVec 64)
  | bupSetConfig (cfg : Word)
  | bupStatus
  | coolSetConfig (cfg cfg2 : Word)
  | coolSetCurve (curve : List Word)
  | coolSetTable (table : List Word)
  | coolSetMap (fanMap thmMap : List Word) (leakUsed : BitVec 16)
  | coolSetLoop (loop : List Word)
  | coolSetMode (mode : Byte)
  | coolClearFault (pumps : Byte)
  | coolClearLeak (zone : Byte)
  | coolStatus
  | twbSetConfig (port avs : List Word) (tgt : Word)
  | twbTransfer (port addr proto code : Byte) (wlen rlen : BitVec 16) (wdata : List Byte)
  | twbStatus
  | netSetConfig (udp : BitVec 16) (addrs : List (BitVec 128)) (group : BitVec 128)
  | netSubscribe (streams version : Byte) (div : BitVec 16)
  | fwStage (target flags : Byte) (offset total : Word) (data : List Byte)
  | fwVerify (target : Byte)
  | fwActivate (target slot flags : Byte)
  | fwStatus
  | secDebugChallenge (level : Byte)
  | secDebugUnlock (level : Byte) (sig : List Byte)
  | secDebugLock
  | secSetLifecycle (state : Byte) (sig : List Byte)
  | secSetKey (key : Byte) (wrapped : List Byte)
  | secStatus
deriving DecidableEq, Repr

/-- The strap pins as sampled with the pull-up and with the pull-down (18 R528): [4:0] STAGGER, [7:5] CRIT_SEL,
[9:8] BOOT_SEL; then the present level of WP_N and of TEST_EN. -/
structure StrapSample where
  up : BitVec 10
  down : BitVec 10
  wpN : Bool
  testEn : Bool
deriving DecidableEq, Repr

/-- What one event tick samples: XNET_IDLE at its start (03 R74), the 20 conversions that each converter finishes in it, in the
converter's own order (05 R129: an input voltage in 0.1 mV; of slow sub-input 15 the die temperature in 1/16 degrees C plus
0x8000), the tach inputs with a falling edge in it, fans 0-15 and pumps 16-19 (12 R355), the replica rings below their floor,
application cluster, safety island, Brim, Frond (01 R16, R551), the trim direction of VID_PWM (18 R532), the level of WP_N (01
R32, 18 R528), the ECC errors corrected in it (01 R27), the engines whose references were computed in it (09 R281), and the
two-wire buses, ports 0-10 and then the e-fuse buses 0-7, on which through all of it SDA was low with SCL high, or SCL was low
(13 R399). -/
structure TickIn where
  xnetIdle : BitVec 8
  scan : Vector (Vector Nat 20) 2
  tach : BitVec 20
  rings : BitVec 4
  trimUp : Bool
  trimDown : Bool
  wpN : Bool
  eccCorrected : Nat
  refs : Nat
  sdaHeld : BitVec 19
  sclHeld : BitVec 19
deriving DecidableEq, Repr

/-- What the lockstep comparator finds (17 R510): outputs that differ at a handshake, a checkpoint of one core that the other has
not matched, or no checkpoint of either core, for a time in us. -/
inductive Divergence where
  | handshake
  | unmatched (us : Nat)
  | silent (us : Nat)
deriving DecidableEq, Repr

/-- The memory that an uncorrectable ECC error hit (01 R27): an address of the system SRAM (01 R28) or of the LPDDR5X (01
R29), the buffer under assembly, Frond's SRAM by what it held, or the oldest record of an intake queue. -/
inductive EccSite where
  | systemSram (addr : BitVec 24)
  | assemblyBuffer
  | lpddr (addr : BitVec 40)
  | frondRun (s : Slot)
  | frondWeights (s : Slot)
  | frondReference
  | sorusRecord (n : Acc)
deriving DecidableEq, Repr

/-- A two-wire read as the port finds it (13 R388, R389): the word read, or why it did not complete. `lost`: arbitration was lost
`count` times, the last time at a byte and a bit, and the read completed all the same, or no longer fitted (R394, R395). -/
inductive BusRead where
  | ok (w : BitVec 16)
  | nack
  | pecError
  | notDone
  | lost (count : Nat) (byte : Byte) (bit : BitVec 3) (word : Option (BitVec 16))
deriving DecidableEq, Repr

/-- One core rail of an AVSBus frame (13 R404 to R407): voltage in mV, raw current, CRC right, alert flag. -/
structure AvsRead where
  mv : Nat
  current : BitVec 16
  crcOk : Bool
  alert : Bool
  status : BitVec 16
  answered : Bool
deriving DecidableEq, Repr

/-- The response to an AVSBus write (13 R405, R406): CRC right, the write accepted, the status-alert flag with the status then
read. -/
structure AvsWrite where
  crcOk : Bool
  accepted : Bool
  alert : Bool
  status : BitVec 16
deriving DecidableEq, Repr

/-- One regulator of a main-bus burst (13 R390): its rail index, VOUT_MODE as last read, the three reads, and the
scanned voltage at that time in 0.1 mV. -/
structure RegRead where
  rail : Nat
  voutMode : Byte
  vout : BusRead
  iout : BusRead
  status : BusRead
deriving DecidableEq, Repr

/-- A two-wire bus: a port, or the e-fuse bus of an accelerator (13 R383). -/
inductive Bus where
  | port (p : Port)
  | efuse (n : Acc)
deriving DecidableEq, Repr

/-- How a bus recovery goes (13 R400): the number of pulses after which SDA is high, or that it stays low and whether
the bus is free once ISO_EN is opened. -/
inductive Recovery where
  | freed (pulses : Fin 10)
  | stuck (freeWhenIsolated : Bool)
deriving DecidableEq, Repr

/-- How a raw two-wire transfer ends on the bus (13 R389, R393 to R395, R411). -/
inductive TransferEnd where
  | ok (data : List Byte)
  | nack
  | pecError
  | arbLost (losses : Nat) (addr : BitVec 7) (byte : Byte) (bit : BitVec 3) (data : Option (List Byte))
deriving DecidableEq, Repr

/-- What ends the body of an upstream frame (10 R285, R288, R289): TERM with its CRC-32C, another control block, the START of the
next frame, or the loss of block lock. -/
inductive FrameEnd where
  | term (crc : Word)
  | control (type : Byte)
  | start
  | lockLost
deriving DecidableEq, Repr

/-- An upstream frame around its body, as received (10 R285, R287): FTYPE, LEN, VER, FSEQ and CRC-8 of its START block, the data
blocks that arrived, and what ended them. -/
structure FrameHdr where
  ftype : Byte
  len : BitVec 16
  ver : Byte
  fseq : BitVec 16
  crc8 : Byte
  blocks : Nat
  ending : FrameEnd
deriving DecidableEq, Repr

/-- An entry of an event frame (10 R292). -/
structure EventEntry where
  ns : BitVec 64
  code : BitVec 16
  arg : BitVec 16
  data : Word
deriving DecidableEq, Repr

/-- An event frame around its first entry, which the row names (10 R292): the frame, FRAME_NS of the first entry, and the entries
behind it. -/
structure EventHdr where
  hdr : FrameHdr
  ns : BitVec 64
  more : List EventEntry
deriving DecidableEq, Repr

/-- A context entry of an activity frame (10 R290): counters in the order of the table. -/
structure CtxFrame where
  phase : BitVec 4
  epoch : Byte
  runNs : BitVec 32
  collWaitNs : BitVec 32
  counters : Vector (BitVec 48) 9
deriving DecidableEq, Repr

/-- The body of an activity frame (10 R290). Temperatures are signed, in 1/16 degrees C; entry 48 of `ctx` is the
ballast context. -/
structure Activity where
  frameNs : BitVec 64
  avail : BitVec 48
  tjMax : Int
  tjDie0 : Int
  tjDie1 : Int
  tjHbm : Int
  oppApplied : Fin 16
  throttleApplied : Nat
  quotaApplied : Nat
  booted : Bool
  parked : Bool
  dsLock : Bool
  forceSeen : Bool
  testRunning : Bool
  ballastApplied : Nat
  dsErr : BitVec 16
  envSeq : BitVec 16
  commitSeq : BitVec 16
  parkSeq : BitVec 16
  ctx : List CtxFrame
deriving DecidableEq, Repr

/-- The identity block of an accelerator (03 R64): `fmax` holds 5 x 1,024 entries, band-major; `die`, `hbm`,
`cluster`, `core` and `engine` are the masks of DEFECT_FUSE (11 R321). -/
structure Identity where
  serial : BitVec 64
  binFuse : Byte
  fwFamily : Byte
  xnetRev : BitVec 16
  fmax : List (BitVec 16)
  dieMask : BitVec 2
  hbmMask : BitVec 8
  clusterMask : BitVec 64
  coreMask : BitVec 1024
  engineMask : BitVec 16384
deriving DecidableEq, Repr

/-- A rack-state announcement (14 R432). -/
structure Announce where
  device : BitVec 64
  seq : BitVec 16
  slot : Fin 32
  rackState : Fin 16
  detached : Bool
  armed : Bool
  leader : Bool
  boot : Word
  tick : BitVec 64
  ctr : BitVec 64
  tag : BitVec 128
deriving DecidableEq, Repr

/-- One engine of a test-result frame (11 R293 by 10): its package-local index and its four checksums. -/
structure EngineResult where
  engine : Fin 16384
  sums : Vector (BitVec 64) 4
deriving DecidableEq, Repr

/-- The body of a test-result frame (10 R293). -/
structure TestFrame where
  runId : Word
  fixedSeed : Bool
  results : List EngineResult
deriving DecidableEq, Repr

/-- The two inputs whose arming 03 R72 delays. THERMTRIP_N comes with the time for which it has been low at the arming, ns, 0 when
it is high. -/
inductive AlertInput where
  | thermtrip (lowNs : Nat)
  | vralert
deriving DecidableEq, Repr

/-- The path of an SPDM request (16 R477, 18 R541). -/
inductive SpdmPath where
  | mctp | doe
deriving DecidableEq, Repr

/-- A CXL configuration request of the host (18 R539, 14 R427). -/
inductive ConfigRequest where
  | read (offset : BitVec 12)
  | write (offset : BitVec 12) (data : Word)
  | msixEnable (enable functionMask : Bool)
  | vectorMask (v : Fin 16) (masked : Bool)
deriving DecidableEq, Repr

/-- Why a network frame is not taken (18 R544, R537, 14 R414). -/
inductive NetDrop where
  | badFrame | tagged | ipv4 | stopped
deriving DecidableEq, Repr

/-- A CXL IDE key-management message (18 R541). -/
inductive IdeMessage where
  | keyProg (key : BitVec 256)
  | setGo
  | setStop
deriving DecidableEq, Repr

/-- The commands of the FM8: one constructor a row of the table of operations and events, in its order. -/
inductive Instr where
  /-- COLD_RESET (18 R535): Rise of PORST_N, or first application of AUX3V3, starts the tick count, reads the fuses and begins the cold-reset sequence. -/
  | coldReset (i : StrapSample)
  /-- PORST_N_FALL (18 R536): PORST_N falling removes every RAIL_EN, TRAY_EN and EFUSE_ON at once, without sequencing. -/
  | porstNFall
  /-- START_UP_SELF_TEST (17 R521): The safety island completes its start-up tests; on a pass it starts its code in table mode, on a failure it sets BIST_FAIL. -/
  | startUpSelfTest (failed : BitVec 7)
  /-- BOOT_ROM_RELEASE (16 R471): The boot ROM completes slot selection and verification, derives identities and releases the application cluster. -/
  | bootRomRelease
  /-- WARM_RESET_RELEASE (16 R474): The ROM completes steps 1-5 after a warm reset and releases the application cluster. -/
  | warmResetRelease
  /-- REFCLK_LOST (01 R17): REFCLK shows no edge for 4 µs; the tick moves to the backup oscillator and the links go down. -/
  | refclkLost
  /-- REFCLK_RETURN (02 R37): REFCLK returns and the tick source switches back to it, keeping the tick count continuous. -/
  | refclkReturn
  /-- REFCLK_SETTLED (01 R17): After REFCLK has been present for 100 ms, Crozier may start new power-up steps. -/
  | refclkSettled
  /-- EVENT_TICK (02 R36): The safety island ends each 10 µs event tick and increments the tick counter. -/
  | eventTick (i : TickIn)
  /-- PACE_LOW (01 R16): A replica ring runs below its floor for two consecutive ticks with the trim at 0.85 V. -/
  | paceLow
  /-- EVENT_RELEASE (02 R41): At the start of tick t + 2, the merger releases every event stamped t, in class order. -/
  | eventRelease
  /-- STATE_RECORD_SEAL (02 R46): At each tick multiple of 100, the strobe latches the hardware-owned fields into the inactive assembly buffer. -/
  | stateRecordSeal
  /-- SEAL_DEADLINE (02 R49): At T + 40 ticks, a record whose fields are incomplete or hit by an ECC error is not published and counts as a missed seal. -/
  | sealDeadline (complete : Bool)
  /-- RECORD_PUBLISH (02 R50): The FM8 completes publication of a generation: ring entry, status mirror, SYS_GEN and FMP stream. -/
  | recordPublish
  /-- ECC_UNCORRECTABLE (01 R27): An uncorrectable ECC error discards the data, is counted and sets MEM_ECC_UE. -/
  | eccUncorrectable (site : EccSite)
  /-- CXL_MEM_WRITE (01 R30): A host write to the CXL.mem window completes without effect and is counted in SYS_CXL_WDROP. -/
  | cxlMemWrite (addr : BitVec 30)
  /-- MBX_GO (14 R422): A write to MBX_GO submits the command area, or is ignored and counted as busy, mismatched or repeated. -/
  | mbxGo (m : Fin 2) (seq : BitVec 16)
  /-- MBX_STAT_READ (14 R423): A read of MBX_STAT after a completion returns REREAD 0 the first time and 1 thereafter. -/
  | mbxStatRead (m : Fin 2)
  /-- REGISTER_WRITE (01 R33): A write to a BAR0 register without a row of its own, including RW1C clears that release HATTN_N. -/
  | registerWrite (offset : BitVec 16) (data : Word)
  /-- SRS_RF_WRITE (10 R305): Firmware advances the read pointer of an intake queue; an illegal value is ignored and counted. -/
  | srsRfWrite (n : Acc) (value : Word)
  /-- SRS_HEAD_READ (10 R305): A read of SRS_HEAD returns the record descriptor at RF, or all ones with an UNDERRUN when the queue is empty. -/
  | srsHeadRead (n : Acc)
  /-- WATCHDOG_ARM (17 R512): The first write of SAF_WDT.WDT_MS after a release arms the watchdog. -/
  | watchdogArm (ms : BitVec 16)
  /-- WATCHDOG_SERVE (17 R512): A write of SERVE with the complement of TOKEN serves the watchdog; a wrong or early serve counts as an expiry. -/
  | watchdogServe (value : Byte)
  /-- WATCHDOG_EXPIRY (17 R513): The watchdog expires or the application cluster stops; table mode, warm reset, or SAFE at the third expiry. -/
  | watchdogExpiry (stopped : Bool)
  /-- SYS_CAPABILITIES (00 R3): Command returning the capability fields and versions. -/
  | sysCapabilities (f : Frame)
  /-- SYS_HEARTBEAT (12 R368): Command with no effect that counts as accepted for the heartbeat. -/
  | sysHeartbeat (f : Frame)
  /-- SYS_STATUS (15 R450): Command returning the header and tray section of one generation. -/
  | sysStatus (f : Frame)
  /-- SYS_COMMIT_EPOCH (16 R504): Command committing the next feature epoch. -/
  | sysCommitEpoch (f : Frame) (epoch : BitVec 16)
  /-- POWER_SET_CAP (07 R218): Command staging the tray cap for Brim. -/
  | powerSetCap (f : Frame) (cap : Word)
  /-- POWER_SET_ENVELOPE (07 R218): Command staging the peak, average, ramp, tolerance, guard and ballast limits. -/
  | powerSetEnvelope (f : Frame) (peak avg ramp tol balMax : Word)
  /-- POWER_STATUS (15 R450): Command returning the BRM_ registers. -/
  | powerStatus (f : Frame)
  /-- RACK_POWER_ON (04 R121): Command for a rack power-up: a start pulse from the leader, arming on a follower. -/
  | rackPowerOn (f : Frame)
  /-- RACK_POWER_OFF (04 R121): Command for a rack power-off with drain grace and the immediate flag. -/
  | rackPowerOff (f : Frame) (grace flags : Byte)
  /-- RACK_HOLD (04 R122): Command entering HOLD. -/
  | rackHold (f : Frame)
  /-- RACK_RESET (04 R121): Command making the leader drive a reset pulse from a resting state. -/
  | rackReset (f : Frame)
  /-- RACK_JOIN (04 R124): Command that leaves HOLD or clears DETACHED when the local state matches the leader's. -/
  | rackJoin (f : Frame)
  /-- RACK_DETACH (04 R124): Command detaching the FM8 from SEQSYNC. -/
  | rackDetach (f : Frame)
  /-- TRAY_POWER_ON (04 R124): Command running a detached tray through the local actions of rack states 2-8. -/
  | trayPowerOn (f : Frame)
  /-- TRAY_POWER_OFF (14 R441): Command draining a detached tray and then running the local actions of rack states 10-14. -/
  | trayPowerOff (f : Frame) (grace flags : Byte)
  /-- TRAY_FAULT_CLEAR (15 R451): Command releasing the fault lines, clearing wet latches and leaving OFF or SAFE where permitted. -/
  | trayFaultClear (f : Frame)
  /-- CRZ_SET_DEP (04 R98): Command replacing the dependency graph as one staged set. -/
  | crzSetDep (f : Frame) (dep : List Word)
  /-- CRZ_SET_CONFIG (04 R113): Command setting CRZ_SEQ_CFG and the step windows. -/
  | crzSetConfig (f : Frame) (seqCfg : Word) (stepwin : List Word)
  /-- CRZ_CLEAR_FAULT (15 R450): Command clearing the FAULT and EFUSE_OPEN bits of a channel. -/
  | crzClearFault (f : Frame) (ch : Byte)
  /-- CRZ_STATUS (15 R450): Command returning the Crozier registers. -/
  | crzStatus (f : Frame)
  /-- PARTITION_POWER_ON (15 R453): Command raising a channel's target to S12 through S9-S11. -/
  | partitionPowerOn (f : Frame) (acc : Byte)
  /-- PARTITION_POWER_OFF (15 R453): Command that drains and then lowers a channel's target to S3 or S0. -/
  | partitionPowerOff (f : Frame) (acc mode : Byte)
  /-- PARTITION_RESET (15 R454): Command (MODE 0) that drains, resets the compute dies and returns the channel to S12. -/
  | partitionReset (f : Frame) (acc flags : Byte)
  /-- PARTITION_RESET_FORCE (03 R75): partition.reset MODE 1 carries out a pending reset or power-off without a further drain. -/
  | partitionResetForce (f : Frame) (acc flags : Byte)
  /-- PARTITION_RESET_ABORT (03 R75): partition.reset MODE 2 deasserts XNET_DRAIN and drops the pending command. -/
  | partitionResetAbort (f : Frame) (acc flags : Byte)
  /-- PARTITION_PARK (06 R185): Command parking an accelerator at host request. -/
  | partitionPark (f : Frame) (acc : Byte)
  /-- PARTITION_UNPARK (15 R456): Command unparking a host-parked accelerator; returns CLIPPED when it is cap-parked. -/
  | partitionUnpark (f : Frame) (acc : Byte)
  /-- SUP_SET_WINDOW (05 R139): Command staging a scanned window, or the divider of a tray rail. -/
  | supSetWindow (f : Frame) (rail : Byte) (win trayDiv : Word)
  /-- SUP_SET_FAST_WINDOW (05 R139): Command staging the settings of a fast comparator. -/
  | supSetFastWindow (f : Frame) (k : Byte) (fwc : Word)
  /-- SUP_MARGIN (05 R149): Command setting the margin target of a rail; the walk follows. -/
  | supMargin (f : Frame) (rail steps : Byte)
  /-- SUP_STATUS (15 R457): Command returning the supervision status, margins, tray-rail entries and slow-slot readings. -/
  | supStatus (f : Frame)
  /-- STEER_SET_MODE (06 R190): Command setting STR_CTRL: mode, feedforward enable and felting ceiling. -/
  | steerSetMode (f : Frame) (ctrl : Word)
  /-- STEER_SET_PHASE_PREF (06 R173): Command setting an accelerator's phase preferences. -/
  | steerSetPhasePref (f : Frame) (acc : Byte) (pref : BitVec 64)
  /-- STEER_SET_PARK_ORDER (06 R186): Command setting the park order. -/
  | steerSetParkOrder (f : Frame) (order : Word)
  /-- STEER_SET_GROUP (06 R170): Command setting the shift groups. -/
  | steerSetGroup (f : Frame) (group : Word)
  /-- STEER_SET_CONFIG (06 R193): Command setting the steering configuration, thermal ceilings and leakage table. -/
  | steerSetConfig (f : Frame) (cfg cfg2 thermCeil : Word) (leak : List Word)
  /-- STEER_STATUS (15 R457): Command returning the steering registers and steering details. -/
  | steerStatus (f : Frame)
  /-- LEDGER_BIND_JOB (08 R237): Command binding a job ID to a ledger slot. -/
  | ledgerBindJob (f : Frame) (slot : BitVec 16) (flags : Byte) (job : BitVec 64)
  /-- LEDGER_UNBIND_JOB (08 R240): Command closing a slot's binding; it may end a drain. -/
  | ledgerUnbindJob (f : Frame) (slot : BitVec 16)
  /-- LEDGER_SET_COEFF (08 R229): Command loading a bin's coefficient table. -/
  | ledgerSetCoeff (f : Frame) (bin : Byte) (coef : List Word)
  /-- LEDGER_SET_CONFIG (08 R243): Command setting the Ledger thresholds and run length. -/
  | ledgerSetConfig (f : Frame) (cfg : Word)
  /-- LEDGER_STATUS (15 R457): Command returning the Ledger registers. -/
  | ledgerStatus (f : Frame)
  /-- FROND_STAGE (15 R459): Command writing a chunk of an FRC to the slot's staging area. -/
  | frondStage (f : Frame) (slot flags : Byte) (offset total : Word) (data : List Byte)
  /-- FROND_LOAD (09 R266): Command checking and loading a model into a slot. -/
  | frondLoad (f : Frame) (slot source flags : Byte)
  /-- FROND_UNLOAD (15 R458): Command emptying a slot, and optionally erasing its flash copy. -/
  | frondUnload (f : Frame) (slot flags : Byte)
  /-- FROND_RUN (15 R461): Command launching, or only resetting the state of, an operator slot. -/
  | frondRun (f : Frame) (slot flags : Byte)
  /-- FROND_SET_SCHED (09 R281): Command staging the slot launch offsets. -/
  | frondSetSched (f : Frame) (sched : Word)
  /-- FROND_STATUS (15 R458): Command returning the Frond registers and the latest operator outputs. -/
  | frondStatus (f : Frame)
  /-- SRS_SET_CONFIG (10 R310): Command staging SRS_CFG and SRS_EQ. -/
  | srsSetConfig (f : Frame) (cfg eq : Word)
  /-- SRS_STATUS (15 R462): Command returning the Sorus registers. -/
  | srsStatus (f : Frame)
  /-- BUP_TEST (11 R341): Command running the known-answer test on an idle accelerator in S12. -/
  | bupTest (f : Frame) (acc : Byte)
  /-- BUP_FLOOR_PLAN (11 R339): Command returning an accelerator's floor-plan record. -/
  | bupFloorPlan (f : Frame) (acc : Byte)
  /-- BUP_JOURNAL_READ (11 R337): Command returning a serial's journal entries that are not void. -/
  | bupJournalRead (f : Frame) (serial : BitVec 64) (first : BitVec 16)
  /-- BUP_JOURNAL_FORGET (11 R337): Command voiding a serial's journal entries. -/
  | bupJournalForget (f : Frame) (serial : BitVec 64)
  /-- BUP_SET_CONFIG (11 R344): Command setting BUP_CFG. -/
  | bupSetConfig (f : Frame) (cfg : Word)
  /-- BUP_STATUS (15 R462): Command returning the BUP_ registers. -/
  | bupStatus (f : Frame)
  /-- COOL_SET_CONFIG (12 R380): Command setting COOL_CFG and COOL_CFG2. -/
  | coolSetConfig (f : Frame) (cfg cfg2 : Word)
  /-- COOL_SET_CURVE (12 R380): Command setting the fan and pump curves by band. -/
  | coolSetCurve (f : Frame) (curve : List Word)
  /-- COOL_SET_TABLE (12 R380): Command setting the autonomous table, where the lifecycle state unlocks it. -/
  | coolSetTable (f : Frame) (table : List Word)
  /-- COOL_SET_MAP (12 R380): Command setting the fan, thermistor and leak-channel maps. -/
  | coolSetMap (f : Frame) (fanMap thmMap : List Word) (leakUsed : BitVec 16)
  /-- COOL_SET_LOOP (12 R380): Command setting the coolant loop configuration. -/
  | coolSetLoop (f : Frame) (loop : List Word)
  /-- COOL_SET_MODE (12 R368): Command starting or ending table mode cause 4. -/
  | coolSetMode (f : Frame) (mode : Byte)
  /-- COOL_CLEAR_FAULT (15 R462): Command clearing the failed mark of named pumps. -/
  | coolClearFault (f : Frame) (pumps : Byte)
  /-- COOL_CLEAR_LEAK (12 R378): Command clearing a zone wet latch after 10 s dry. -/
  | coolClearLeak (f : Frame) (zone : Byte)
  /-- COOL_STATUS (15 R462): Command returning the COOL_ registers. -/
  | coolStatus (f : Frame)
  /-- TWB_SET_CONFIG (13 R411): Command setting the two-wire, AVSBus and target-port configuration. -/
  | twbSetConfig (f : Frame) (port avs : List Word) (tgt : Word)
  /-- TWB_TRANSFER (15 R463): Command performing one raw two-wire transaction in a schedule gap. -/
  | twbTransfer (f : Frame) (port addr proto code : Byte) (wlen rlen : BitVec 16) (wdata : List Byte) (e : TransferEnd)
  /-- TWB_STATUS (15 R462): Command returning the TWB_ registers. -/
  | twbStatus (f : Frame)
  /-- NET_SET_CONFIG (14 R428): Command setting the UDP port, addresses and announcement group. -/
  | netSetConfig (f : Frame) (udp : BitVec 16) (addrs : List (BitVec 128)) (group : BitVec 128)
  /-- NET_SUBSCRIBE (14 R431): Command opening or renewing a stream lease. -/
  | netSubscribe (f : Frame) (streams version : Byte) (div : BitVec 16)
  /-- FW_STAGE (16 R492): Command writing a chunk of a firmware image to staging. -/
  | fwStage (f : Frame) (target flags : Byte) (offset total : Word) (data : List Byte)
  /-- FW_VERIFY (16 R493): Command verifying a complete staged image. -/
  | fwVerify (f : Frame) (target : Byte)
  /-- FW_ACTIVATE (16 R494): Command writing a verified image to a slot and starting a trial. -/
  | fwActivate (f : Frame) (target slot flags : Byte)
  /-- FW_STATUS (16 R506): Command returning the firmware status registers and versions. -/
  | fwStatus (f : Frame)
  /-- SEC_DEBUG_CHALLENGE (16 R486): Command returning a fresh debug nonce. -/
  | secDebugChallenge (f : Frame) (level : Byte)
  /-- SEC_DEBUG_UNLOCK (16 R486): Command raising the debug level on a valid signature over the nonce. -/
  | secDebugUnlock (f : Frame) (level : Byte) (sig : List Byte)
  /-- SEC_DEBUG_LOCK (16 R487): Command returning VIEW to LOCKED. -/
  | secDebugLock (f : Frame)
  /-- SEC_SET_LIFECYCLE (16 R483): Command requesting a signed lifecycle transition. -/
  | secSetLifecycle (f : Frame) (state : Byte) (sig : List Byte)
  /-- SEC_SET_KEY (16 R480): Command installing a wrapped command key. -/
  | secSetKey (f : Frame) (key : Byte) (wrapped : List Byte)
  /-- SEC_STATUS (16 R506): Command returning the security status, debug history and identity hashes. -/
  | secStatus (f : Frame)
  /-- MCTP_SET_ENDPOINT_ID (13 R409): The bus owner assigns the FM8's MCTP endpoint ID. -/
  | mctpSetEndpointId (eid : Byte)
  /-- MCTP_REASSEMBLY_TIMEOUT (13 R410): A gap of more than 100 ms between packets discards the MCTP message being reassembled. -/
  | mctpReassemblyTimeout
  /-- SPDM_GET_VERSION (16 R477): SPDM request answered with the supported versions. -/
  | spdmGetVersion (path : SpdmPath)
  /-- SPDM_GET_CAPABILITIES (16 R477): SPDM request answered with the responder's capabilities. -/
  | spdmGetCapabilities (path : SpdmPath)
  /-- SPDM_NEGOTIATE_ALGORITHMS (16 R477): SPDM request selecting SHA3-256 and ML-DSA-44. -/
  | spdmNegotiateAlgorithms (path : SpdmPath)
  /-- SPDM_GET_DIGESTS (16 R477): SPDM request returning the certificate-chain digests. -/
  | spdmGetDigests (path : SpdmPath)
  /-- SPDM_GET_CERTIFICATE (16 R477): SPDM request returning the slot 0 certificate chain. -/
  | spdmGetCertificate (path : SpdmPath) (slot : Byte) (offset len : BitVec 16)
  /-- SPDM_CHALLENGE (16 R477): SPDM challenge signed with the Alias key. -/
  | spdmChallenge (path : SpdmPath) (slot : Byte) (nonce : BitVec 256)
  /-- SPDM_GET_MEASUREMENTS (16 R478): SPDM request returning signed measurements. -/
  | spdmGetMeasurements (path : SpdmPath) (index : Byte) (nonce : BitVec 256) (sign : Bool)
  /-- SPDM_KEY_EXCHANGE (18 R541): SPDM key exchange over the CXL DOE mailbox. -/
  | spdmKeyExchange (path : SpdmPath) (share : List Byte)
  /-- SPDM_FINISH (18 R541): SPDM FINISH establishing the secure session. -/
  | spdmFinish (path : SpdmPath) (good : Bool)
  /-- SPDM_END_SESSION (18 R541): SPDM END_SESSION closing the secure session. -/
  | spdmEndSession (path : SpdmPath)
  /-- IDE_KEY_MANAGEMENT (18 R541): CXL IDE key-management message within the secure session. -/
  | ideKeyManagement (m : IdeMessage)
  /-- PLDM_FW_TRANSFER (16 R492): PLDM firmware-update transfer into a staging area. -/
  | pldmFwTransfer (target : Byte) (first : Bool) (offset total : Word) (data : List Byte)
  /-- PLDM_VERIFY_COMPLETE (16 R492): PLDM verification of a staged component, reporting the checks of R493. -/
  | pldmVerifyComplete (target : Byte)
  /-- PLDM_ACTIVATE_FIRMWARE (16 R492): PLDM ActivateFirmware performs fw.activate without golden replacement. -/
  | pldmActivateFirmware (target slot : Byte)
  /-- PLDM_MONITORING (13 R409): PLDM monitoring request answered over MCTP. -/
  | pldmMonitoring (req : List Byte)
  /-- PERST_N_ASSERT (18 R540): PERST_N low resets the CXL controller, configuration space and MSI-X state only. -/
  | perstNAssert
  /-- CXL_LINK_UP (18 R539): CXL link training completes. -/
  | cxlLinkUp (rate : Fin 7) (width : Fin 5) (flit256 : Bool)
  /-- CXL_LINK_DOWN (18 R542): The CXL link goes down and DOWN_COUNT increments. -/
  | cxlLinkDown
  /-- ETH_LINK_UP (18 R543): An Ethernet port gains link at 2500BASE-X or 1000BASE-X. -/
  | ethLinkUp (p : Fin 2) (fast : Bool)
  /-- ETH_LINK_DOWN (18 R543): An Ethernet port loses link and resumes its alternating attempts. -/
  | ethLinkDown (p : Fin 2)
  /-- LEASE_EXPIRY (14 R431): A stream lease not renewed within 10 s expires. -/
  | leaseExpiry (k : Fin 4)
  /-- RACK_ANNOUNCE_RX (04 R123): A verified rack-state announcement is received and compared; a second slot 0 sets DUP_LEADER. -/
  | rackAnnounceRx (a : Announce)
  /-- RACK_ANNOUNCE_TX (04 R123): The FM8 sends its rack-state announcement at each state change and every 100 ms. -/
  | rackAnnounceTx
  /-- RACK_MISMATCH (04 R123): A state differing from the leader's for more than 20 ms puts the FM8 in HOLD. -/
  | rackMismatch
  /-- LEADER_LOST (04 R123): A follower that hears no leader for 1 s continues on SEQSYNC alone. -/
  | leaderLost
  /-- RACK_LISTEN_END (04 R125): After 1 s of listening following cold reset, the FM8 enters state 0 or HOLD detached. -/
  | rackListenEnd
  /-- SEQSYNC_RISE (04 R119): A qualified SEQSYNC rise in a transit state advances the rack state; the FM8 pulls the line low. -/
  | seqsyncRise
  /-- SEQSYNC_PULSE (04 R120): A low in a resting state is classified by its width as start, invalid or HOLD. -/
  | seqsyncPulse (widthUs : Nat)
  /-- SEQSYNC_RESET_PULSE (04 R120): A low lasting 1 ms in a resting state puts the FM8 in state 0 pulling low. -/
  | seqsyncResetPulse
  /-- SEQSYNC_RELEASE (04 R118): The release condition of a transit state comes to hold and the FM8 releases SEQSYNC. -/
  | seqsyncRelease
  /-- DRAIN_DEADLINE (14 R441): The drain grace expires and the drain ends. -/
  | drainDeadline
  /-- QUIESCE_BALLAST_CLEAR (07 R217): After ballast has been 0 for 10 periods in QUIESCE, the channel targets go to S8. -/
  | quiesceBallastClear
  /-- STAGGER_START (04 R127): A channel's stagger time arrives and it may enter S8, or remove its core rails in state 11. -/
  | staggerStart (n : Acc)
  /-- COOL_RUNDOWN (12 R367): The fan and pump run-down of rack state 13 ends and the tray channel goes to T2. -/
  | coolRundown
  /-- TRAYFLT (04 R114): TRAYFLT_N low for 10 µs removes every rail except NET without sequencing and enters OFF. -/
  | trayflt
  /-- RACKFLT (04 R116): RACKFLT_N driven by another FM8, low for 100 µs, powers the tray down at once and detaches. -/
  | rackflt
  /-- CRZ_STEP_START (04 R88): An upward step starts once its tray prerequisites are stable, enabling its ready rails and starting the window. -/
  | crzStepStart (c : Chan)
  /-- EFUSE_CLOSE_TIMEOUT (04 R87): An e-fuse not in power good within 20 ms is opened, confirmed EFUSE_FAULT, and the channel left in S0. -/
  | efuseCloseTimeout (n : Acc)
  /-- IDENTITY_READ (03 R64): The read of the identity block in S1 completes and loads bin and fmax, or stops the channel. -/
  | identityRead (n : Acc) (id : Option Identity)
  /-- RAIL_PG_CHANGE (04 R101): A filtered RAIL_PG or TRAY_PG transition is counted toward chatter. -/
  | railPgChange (r : Rail) (level : Bool) (cycle : Fin 250)
  /-- RAIL_STABLE (04 R99): A rail's power-good has been high for 32 µs after its enable; the rail counts as stable. -/
  | railStable (r : Rail)
  /-- PG_TIMEOUT (04 R100): The step window ends with a rail not stable. -/
  | pgTimeout (r : Rail)
  /-- PG_LOST (04 R102): A stable rail's power-good has been low for 32 µs. -/
  | pgLost (r : Rail)
  /-- RAIL_OFF (04 R92): A rail comes to count as off, letting the next removal or lower step proceed. -/
  | railOff (r : Rail)
  /-- OFF_TIMEOUT (04 R108): A rail not off 50 ms after its disable opens the e-fuse; on a tray rail it may bring TRAYFLT_N. -/
  | offTimeout (r : Rail)
  /-- EFUSE_FAULT (04 R108): A rail still not off 100 ms after the e-fuse opened; the safety island asserts TRAYFLT_N. -/
  | efuseFault (n : Acc)
  /-- CORE_WINDOW (05 R141): A fast comparator stays outside its window for the filter time. -/
  | coreWindow (k : Fin 16) (level ns : Nat)
  /-- THERMTRIP (04 R106): THERMTRIP_N low for 1 µs starts an emergency shutdown of the accelerator. -/
  | thermtrip (n : Acc) (lowNs : Nat)
  /-- ALERT_ARMING (03 R72): 1 ms after AUX, or a core rail, enters regulation, THERMTRIP_N or VRALERT_N is acted on. -/
  | alertArming (n : Acc) (input : AlertInput)
  /-- VRALERT_FALL (01 R18): VRALERT_N low for 20 ns asserts FORCEMIN_N within 200 ns. -/
  | vralertFall (n : Acc)
  /-- VRALERT_RISE (01 R26): VRALERT_N deasserts and the 1 ms release holdoff starts. -/
  | vralertRise (n : Acc)
  /-- HOLDOFF_END (01 R26): The 1 ms holdoff ends and a level-0 release request may be honoured. -/
  | holdoffEnd (n : Acc)
  /-- DRAIN_SUCCESS (03 R74): A tick's sample finds XNET_IDLE high and the drain succeeds. -/
  | drainSuccess (n : Acc)
  /-- DRAIN_TIMEOUT (03 R74): 5,000 ticks pass without success; ROUTE_BUSY and a pending decision. -/
  | drainTimeout (n : Acc)
  /-- ROUTE_ABORT (03 R75): With no host decision within 10 s, the FM8 takes abort itself. -/
  | routeAbort (n : Acc)
  /-- WINDOW (05 R135): Two consecutive samples of a rail outside its window confirm WINDOW. -/
  | window (r : Rail)
  /-- CONV_FAULT (05 R133): A converter fails its self-check in two consecutive scans and enters degraded supervision. -/
  | convFault (c : Fin 2)
  /-- CONV_FAULT_CLEAR (05 R133): 16 consecutive passing scans clear CONV_FAULT. -/
  | convFaultClear (c : Fin 2)
  /-- SETPOINT_REACHED (03 R81): Core-rail readback within 5 mV of target narrows the windows and applies the frequency increases. -/
  | setpointReached (n : Acc)
  /-- SETPOINT_TIMEOUT (03 R81): Readback not within 5 mV after 1 ms; frequencies held at the lower value. -/
  | setpointTimeout (n : Acc)
  /-- MARGIN_STEP (05 R151): With readback settled and 1 ms elapsed, the margin moves one step toward its target. -/
  | marginStep (r : Rail)
  /-- READBACK_STALE (05 R146): A readback not completed for three periods marks the entry stale. -/
  | readbackStale
  /-- EFUSE_READ_PIN (13 R390): The slot A e-fuse READ_PIN completes and is delivered to Brim and the Ledger. -/
  | efuseReadPin (n : Acc) (rd : BusRead)
  /-- EFUSE_SLOT_B_READ (13 R391): The slot B read of an e-fuse completes: READ_VIN, STATUS_WORD or READ_VOUT. -/
  | efuseSlotBRead (n : Acc) (rd : BusRead)
  /-- TRAY_READ_PIN (13 R390): The hot-swap controller's READ_PIN completes as tray power. -/
  | trayReadPin (rd : BusRead)
  /-- TRAY_SLOT_B_READ (13 R390): A slot B read on the tray segment completes: STATUS_WORD or fan-group current. -/
  | traySlotBRead (rd : BusRead)
  /-- MAIN_BUS_BURST (13 R390): The 10 ms regulator readback burst of a main bus completes. -/
  | mainBusBurst (n : Acc) (regs : List RegRead)
  /-- AVSBUS_READ (13 R390): The 100 µs AVSBus voltage and current read of both core rails completes. -/
  | avsbusRead (n : Acc) (a0 a1 : AvsRead)
  /-- AVS_NO_RESP (13 R407): No AVSBus response for 3 frames; core readback counts as not completed. -/
  | avsNoResp (n : Acc)
  /-- TWB_ALERT (13 R397): TWB_ALERT_N low inserts an alert cycle that reads the responder's STATUS_WORD. -/
  | twbAlert (p : Port) (responder : Option (BitVec 7)) (status : BitVec 16) (staysLow : Bool)
  /-- ALERT_STUCK (13 R398): A NACKed Alert Response Address, or 16 cycles, masks the alert input for 1 s. -/
  | alertStuck (p : Port)
  /-- ALERT_UNMASK (13 R398): After 1 s, the masked alert input is unmasked. -/
  | alertUnmask (p : Port)
  /-- EFB_ALERT (13 R391): EFB_ALERT_N falls and the next slot B reads STATUS_WORD. -/
  | efbAlert (n : Acc)
  /-- STUCK_DATA_LINE (13 R399): SDA low with SCL high for 100 µs starts bus recovery. -/
  | stuckDataLine (bus : Bus) (rec : Recovery)
  /-- CLK_TIMEOUT (13 R399): SCL low for 35 ms is a hung clock. -/
  | clkTimeout (bus : Bus)
  /-- SEG_RETRY (13 R401): Every 1 s the port repeats recovery of a stuck segment. -/
  | segRetry (bus : Bus) (rec : Recovery)
  /-- SORUS_TRAINING_DONE (10 R286): Link training completes and the full downstream state is sent. -/
  | sorusTrainingDone (n : Acc) (sync : Vector (BitVec 2) 64)
  /-- SORUS_TRAINING_FAIL (10 R286): Training does not complete within 2 ms and is retried. -/
  | sorusTrainingFail (n : Acc)
  /-- SORUS_TRAINING_RETRY (10 R286): After repeated failures, training restarts every 100 ms. -/
  | sorusTrainingRetry (n : Acc)
  /-- UPSTREAM_LOCK_LOST (10 R286): Upstream block lock is lost; the frame in progress is rewound and retraining starts. -/
  | upstreamLockLost (n : Acc) (sync : Vector (BitVec 2) 64)
  /-- ACTIVITY_FRAME (10 R290): A good activity frame is published to the intake queue and the Sorus storage. -/
  | activityFrame (n : Acc) (hdr : FrameHdr) (a : Activity)
  /-- BOOT_COMPLETE (04 R86): The accelerator reports boot complete; S9 completes and trials or drains may end. -/
  | bootComplete (n : Acc) (hdr : EventHdr) (arg : BitVec 16) (data : Word)
  /-- BOOT_FAILED (11 R315): The accelerator reports a failed boot; the FM8 retries or gives up. -/
  | bootFailed (n : Acc) (hdr : EventHdr) (reason : BitVec 16)
  /-- TRAIN_STATUS (11 R316): The accelerator reports one training item, or training done. -/
  | trainStatus (n : Acc) (hdr : EventHdr) (arg : BitVec 16) (data : Word)
  /-- TEST_STATUS (11 R328): The accelerator reports the progress, end or a control failure of a test run. -/
  | testStatus (n : Acc) (hdr : EventHdr) (arg : BitVec 16) (data : Word)
  /-- PARK_DONE (06 R185): The accelerator reports park or unpark completion. -/
  | parkDone (n : Acc) (hdr : EventHdr) (parked : Bool) (seq : BitVec 16)
  /-- DS_LOCK_CHANGE (10 R299): The accelerator reports gaining or losing downstream lock. -/
  | dsLockChange (n : Acc) (hdr : EventHdr) (gained : Bool) (dsErr : BitVec 16)
  /-- MEM_ECC (10 R292): The accelerator reports corrected memory errors, which are logged. -/
  | memEcc (n : Acc) (hdr : EventHdr) (site : BitVec 16) (count : Word)
  /-- SENSOR_FAULT (12 R353): The accelerator reports a failed on-die sensor; on-die temperatures count as failed. -/
  | sensorFault (n : Acc) (hdr : EventHdr) (sensor : BitVec 16)
  /-- TEST_RESULT_FRAME (11 R329): A test-result frame's checksums are compared with the references. -/
  | testResultFrame (n : Acc) (hdr : FrameHdr) (body : TestFrame)
  /-- POINTER_RESET (10 R307): A mismatch between the duplicated queue pointers pauses, flushes and resumes the queue. -/
  | pointerReset (n : Acc)
  /-- LINK_LOST_TIMEOUT (10 R299): No good upstream frame for LINK_LOST_MS; the downstream lane counts as lost. -/
  | linkLostTimeout (n : Acc)
  /-- STEERING_LOOP (06 R157): At each tick multiple of 100, steering computes and writes each accelerator's OPP, quota, fmax and park words. -/
  | steeringLoop
  /-- LOOP_OVERRUN (06 R159): A loop not complete by T + 90 ticks is abandoned. -/
  | loopOverrun
  /-- STAGED_SET_APPLY (01 R24): A staged limit or threshold set is range-checked and applied, or rejected whole, at the next tick boundary. -/
  | stagedSetApply
  /-- BRIM_EVALUATION (07 R203): Every 10 ticks, Brim updates the line, ballast and throttle and sends the ENVELOPE words. -/
  | brimEvaluation
  /-- BRIM_BLIND (07 R200): Tray power cannot be formed for 10 periods; FORCEMIN_N on all accelerators. -/
  | brimBlind
  /-- LEDGER_STEP (08 R227): Every 10 ticks the Ledger attributes frame increments into modelled energy. -/
  | ledgerStep
  /-- LEDGER_POSTING (08 R242): At each tick multiple of 1,000, the interval is posted to slots, accounts and the ring. -/
  | ledgerPosting
  /-- FROND_LAUNCH (09 R271): A periodic slot launches at its offset and latches its input capture. -/
  | frondLaunch (s : Slot)
  /-- FROND_RUN_DONE (09 R277): A run completes and posts its clamped outputs together. -/
  | frondRunDone (s : Slot)
  /-- FROND_RELOAD_DONE (09 R269): A slot reload from flash completes through the full checks. -/
  | frondReloadDone (s : Slot)
  /-- FROND_PERSIST_DONE (15 R460): The flash copy and minimum version of a persisted model are written. -/
  | frondPersistDone (s : Slot)
  /-- REF_DONE (09 R280): The reference job completes for every submitted engine. -/
  | refDone
  /-- BOOT_FLASH_VERIFIED (16 R498): Verification of an accelerator boot flash completes, reflashing from golden on failure. -/
  | bootFlashVerified (n : Acc)
  /-- BOOT_TIMEOUT (11 R315): BOOT_COMPLETE does not arrive within BOOT_MS; the FM8 retries or gives up. -/
  | bootTimeout (n : Acc)
  /-- TRAINING_TIMEOUT (11 R318): 45 s pass without training done; unreported items count as failed. -/
  | trainingTimeout (n : Acc)
  /-- TEST_TIMEOUT (11 R330): TEST_MS expires from START; engines without a result count as missing. -/
  | testTimeout (n : Acc)
  /-- FLOOR_PLAN (11 R340): Once the merges are complete and their journal entries written, the new floor plan is published and targets are set. -/
  | floorPlan
  /-- COOLING_LOOP (12 R356): At each tick multiple of 1,000, firmware computes the fan and pump demands. -/
  | coolingLoop
  /-- FAN_GROUP_KICK (12 R358): A fan group's kick starts at its offset after FAN12 is stable. -/
  | fanGroupKick (g : Fin 5)
  /-- FAN_KICK_DONE (12 R358): Two tach edges end a kick and the fan is running. -/
  | fanKickDone (f : Fan)
  /-- FAN_KICK_TIMEOUT (12 R358): A kick reaches 5 s without two edges; the fan is stalled. -/
  | fanKickTimeout (f : Fan)
  /-- FAN_TACH_LOSS (12 R359): No tach edge for 1 s at duty ≥ 20 %; stall or tach fault decided. -/
  | fanTachLoss (f : Fan)
  /-- FAN_SLOW (12 R359): Tach below 1,000 rpm for 3 s at duty ≥ 20 %; the fan is stalled. -/
  | fanSlow (f : Fan)
  /-- TACH_FAULT_CLEAR (12 R359): 10 s of tach edges return a fan in tach fault to running. -/
  | tachFaultClear (f : Fan)
  /-- FAN_REKICK (12 R360): Every 30 s a stalled fan is kicked again. -/
  | fanRekick (f : Fan)
  /-- FLOW_LOW (12 R363): Flow below FLOW_MIN for 200 ms switches the loop to its secondary pump. -/
  | flowLow (l : Loop)
  /-- PUMP_TACH_LOSS (12 R363): The active pump's tach shows no edge for 1 s, or its kick fails; switch-over. -/
  | pumpTachLoss (l : Loop)
  /-- FLOW_LOST (12 R364): Flow not restored 2 s after switch-over, or low with no secondary; level-1 FORCEMIN_N and targets to S3. -/
  | flowLost (l : Loop)
  /-- FLOW_HOLD_END (12 R364): Flow ≥ FLOW_MIN for 10 s ends the flow-lost hold. -/
  | flowHoldEnd (l : Loop)
  /-- PRESS_LOW (12 R365): Inlet pressure below PRESS_LOW for 1 s is flagged. -/
  | pressLow (l : Loop)
  /-- COOL_EST (12 R366): Cooling-established conditions hold and the tray channel enters T4. -/
  | coolEst
  /-- COOL_EST_TIMEOUT (12 R366): Cooling not established 30 s after T3; recorded, and trying continues. -/
  | coolEstTimeout
  /-- THM_FAULT (12 R373): A thermistor out of range for 50 ms is declared failed. -/
  | thmFault (i : Fin 24)
  /-- THM_RECOVER (12 R373): 10 s of in-range samples clear a thermistor failure. -/
  | thmRecover (i : Fin 24)
  /-- CRIT_TEMP (12 R371): The critical-set vote holds; SHDN_N and TRAYFLT_N are asserted. -/
  | critTemp
  /-- ON_DIE_FAULT (12 R353): On-die temperatures fail for 100 ms; the mapped fans and pumps go to table maximum. -/
  | onDieFault (n : Acc)
  /-- REFRESH_REQUEST (12 R352): The HBM refresh request is written after a band change, after 1 s at a lower band, or on retry. -/
  | refreshRequest (n : Acc) (ok : Bool)
  /-- LEAK_EVALUATION (12 R374): Every 50 ms each leak channel's resistance is measured and classified. -/
  | leakEvaluation (ohms : Vector Nat 10)
  /-- LEAK_WET (12 R376): Four wet evaluations confirm a leak; zone power-down or tray escalation. -/
  | leakWet (c : Fin 10)
  /-- LEAK_SENSOR (12 R374): A channel reading open for 1.5 s is declared failed. -/
  | leakSensor (c : Fin 10)
  /-- LEAK_SENSOR_RECOVER (12 R374): 10 s of dry readings recover a failed leak channel. -/
  | leakSensorRecover (c : Fin 10)
  /-- HEARTBEAT_TIMEOUT (12 R368): No command accepted for HB_S seconds; table mode with cause 1. -/
  | heartbeatTimeout
  /-- TABLE_MODE_EXIT (12 R370): Every cause has ceased, firmware runs and a cooling loop completes; table mode ends. -/
  | tableModeExit
  /-- LOCKSTEP_DIVERGENCE (17 R510): The lockstep comparator confirms a divergence and sets the SAFE latch. -/
  | lockstepDivergence (d : Divergence)
  /-- ISLAND_SRAM_ERROR (17 R511): An uncorrectable error in the safety island's SRAM sets SAFE with cause 2. -/
  | islandSramError
  /-- CONVERTERS_BOTH_FAULT (17 R515): Both converters are in fault for 100 ms with a channel up; SAFE with cause 5. -/
  | convertersBothFault
  /-- SAFE_TRAYFLT (17 R519): A channel not in S0 1 s after the SAFE latch brings TRAYFLT_N. -/
  | safeTrayflt
  /-- TRIAL_CONFIRMED (16 R472): After 10 s of watchdog service and a published record, the trial is confirmed. -/
  | trialConfirmed
  /-- TRIAL_TIMEOUT (16 R472): A trial not confirmed 30 s after release starts a warm reset. -/
  | trialTimeout
  /-- GOLDEN_CHECK (16 R496): After boot the golden copies are verified and marked bad on failure. -/
  | goldenCheck
  /-- FW_SLOT_WRITTEN (16 R494): The slot write and readback complete; the boot record is written and FW_ACTIVATED recorded. -/
  | fwSlotWritten (readBack : List Byte)
  /-- ACTIVATE_WARM_RESET (16 R494): 100 ms after publication of FW_ACTIVATED, a warm reset starts. -/
  | activateWarmReset
  /-- ACC_FW_WRITE_DONE (16 R501): An accelerator image and select record are written and verified, releasing the held channel. -/
  | accFwWriteDone (n : Acc) (ok : Bool)
  /-- LIFECYCLE_FUSED (16 R484): The lifecycle signature is verified and the fuses programmed, or the transition fails. -/
  | lifecycleFused (fuseFault : Bool)
  /-- DEBUG_NONCE_EXPIRY (16 R486): A debug nonce expires after 60 s. -/
  | debugNonceExpiry
  /-- CTRL_HOT (18 R549): 16 consecutive die readings at or above 105 °C, or below 100 °C, are recorded. -/
  | ctrlHot
  /-- CXL_CONFIGURATION_LOADED (18 R539): The boot ROM finishes loading the CXL configuration and stops answering configuration requests with Retry Status. -/
  | cxlConfigurationLoaded
  /-- LPDDR5X_TRAINED (18 R535): LPDDR5X training completes, making CXL.mem media ready, activating VID trim, or leaving the FM8 in STANDBY with MEM_SHORT when less than 4 GiB is fitted. -/
  | lpddr5xTrained (gib : BitVec 6)
  /-- CONFIGURATION_REQUEST (18 R539): A CXL configuration request from the host is answered with Retry Status before configuration is loaded, and is otherwise applied, including MSI-X masking. -/
  | configurationRequest (req : ConfigRequest)
  /-- PERST_N_DEASSERT (18 R539): PERST_N rises, and with PORST_N high CXL link training starts within 20 ms. -/
  | perstNDeassert
  /-- IPV6_REASSEMBLY_TIMEOUT (14 R428): IPv6 fragments of a datagram not all received within 100 ms are discarded. -/
  | ipv6ReassemblyTimeout
  /-- NEIGHBOUR_DISCOVERY (18 R544): An IPv6 Neighbour Discovery message arriving on an Ethernet port is answered. -/
  | neighbourDiscovery (p : Fin 2) (msg : List Byte)
  /-- ICMPV6_ECHO (18 R544): An ICMPv6 Echo request arriving on an Ethernet port is answered. -/
  | icmpv6Echo (p : Fin 2) (msg : List Byte)
  /-- NETWORK_FRAME_DROPPED (18 R544): An Ethernet frame or FMP datagram that is malformed, tagged, IPv4, or received while the application cluster is not running is discarded and counted in SYS_NET. -/
  | networkFrameDropped (kind : NetDrop)
  /-- GET_VENDOR_DEFINED_MESSAGE_SUPPORT (13 R409): The MCTP control message is answered with Walarazel's enterprise identifier, whether or not an endpoint ID has been assigned. -/
  | getVendorDefinedMessageSupport
  /-- PUMP_KICK_DONE (12 R362): Two tach edges end a pump's kick, and the pump takes its demand as active pump. -/
  | pumpKickDone (p : Pump)
  /-- FLOW_PRESSURE_FAILED (12 R361): A flow or pressure channel out of its voltage span for 50 ms continuously is declared failed. -/
  | flowPressureFailed (ch : Fin 6)
  /-- SCL_RELEASED (13 R400): After a hung clock, SCL is released and the port starts recovery at step 1. -/
  | sclReleased (bus : Bus) (rec : Recovery)
  /-- ACC_RST_HOLD_END (11 R315): ACC_RST_N held for at least 1 ms for a boot retry or a partition reset is released, or the channel proceeds to S9. -/
  | accRstHoldEnd (n : Acc)
  /-- AVS_WRITE_RESPONSE (13 R405): The response to an AVSBus set-point write arrives; a write not accepted, or a CRC failure, is repeated, and after 3 attempts AVS_NO_RESP is recorded. -/
  | avsWriteResponse (n : Acc) (core : Fin 2) (r : AvsWrite)
  /-- CONFIG_STORE_WRITE_DONE (16 R504): The deferred configuration-store write of a new command key or committed epoch completes, ≤ 60 ms after application. -/
  | configStoreWriteDone (taken : Bool)
deriving DecidableEq, Repr

end Sys2Proof
end

