-- ==== Sys2Proof/Decode.lean ====
section
/-! DEFINITION. The commands that a word spells by the bits of the table of operations and events: its rows give no
bits, so no word spells a command (notes/assumptions/11.md). -/

namespace Sys2Proof

/-- The command that a word spells; the table gives no row any bits. -/
def decodeTableWord (_nbits _w : Nat) : Option Instr := none

end Sys2Proof
end

