-- ==== Sys2Proof/Config.lean ====
section
/-! DEFINITION. What an implementation fixes outside the manual, and the free values: constants with no body, so that
no proof can see what they are (notes/assumptions/2.md, 3.md and 4.md). -/

namespace Sys2Proof

/-- The `k`-th random draw of the security block: RUN_SEED (11_bringup_and_floor_plan.md R323), TOKEN
(17_functional_safety.md R512) and NONCE (16_security_and_firmware.md R486) are cut from it. -/
opaque Config.freeValue : Nat → BitVec 256

/-- SHA3-256, named by the manual and defined outside it (16_security_and_firmware.md R467). -/
opaque Config.sha3 : List Byte → BitVec 256

/-- KMAC256 with key, input, output length in bits and customisation string (16_security_and_firmware.md R475). -/
opaque Config.kmac (key : BitVec 256) (x : List Byte) (l : Nat) (s : String) : BitVec l

/-- Pure ML-DSA-44 verification: public key, message, context, signature (16_security_and_firmware.md R469). -/
opaque Config.mldsaVerify : List Byte → List Byte → String → List Byte → Bool

/-- ML-DSA-44 signing with the key pair of a 32-byte seed (16_security_and_firmware.md R475 to R477). -/
opaque Config.mldsaSign : BitVec 256 → List Byte → String → List Byte

/-- The ML-DSA-44 public key of a 32-byte seed (16_security_and_firmware.md R475). -/
opaque Config.mldsaPub : BitVec 256 → List Byte

/-- CRC-32 with the IEEE 802.3 polynomial, named by the manual (03_accelerator_interface.md R64). -/
opaque Config.crc32 : List Byte → Word

/-- The DER coding of the Alias certificate over its public key and measurements 2-4 (16_security_and_firmware.md
R476 gives its content and no byte layout). -/
opaque Config.aliasCert : List Byte → List (BitVec 256) → List Byte

/-- The measured boot ROM, measurement 1 (16_security_and_firmware.md R478). -/
opaque Config.romHash : BitVec 256

/-- The body of an SPDM, PLDM, neighbour-discovery or echo answer whose bytes another standard defines
(13_two_wire_buses.md R409, 16_security_and_firmware.md R477, 18_pins_electrical_package.md R544). -/
opaque Config.standardAnswer : List Byte → List Byte

/-- The session key that an SPDM key exchange yields (18_pins_electrical_package.md R541). -/
opaque Config.sessionKey : BitVec 256 → List Byte → BitVec 256

/-- SYS_ID and SYS_REV, which the manual names and gives no value (01_architecture.md R33). -/
opaque Config.sysId : BitVec 32

/-- SYS_REV (01_architecture.md R33). -/
opaque Config.sysRev : BitVec 32

/-- Walarazel's IANA enterprise identifier (13_two_wire_buses.md R409), a number the manual does not state. -/
opaque Config.enterpriseId : BitVec 32

/-- The value a scaled steering quantity takes when the manual states no rounding of it to its reported unit
(06_power_steering.md R194): quantity in the reported unit to the reported integer. -/
opaque Config.roundReport : Rat → Int

/-- A quotient by a measured 0, which the manual does not state, from its dividend: a prediction's error at no work power
(06_power_steering.md R165), an activity rate over no engine-cycles (09_frond_inference_array.md, input sources). -/
opaque Config.overZero : Rat → Rat

/-- The mean of no readings, which the manual does not state, W: P_work of an accelerator in the loop at a tick that no reading of
the last 1 ms precedes (06_power_steering.md R161). -/
opaque Config.noReading : Nat → Nat → Rat

end Sys2Proof
end

