-- ==== Sys2Proof/Machine/FrondArith.lean ====
section
/-! DEFINITION. The Frond inference array's arithmetic and the FRC container (09 R245 to R263): number formats and
their roundings as exact rationals, the container's layout and its load checks, the cost bound, and the evaluation of
a model. The engine-test references use the same arithmetic (09 R279). -/

namespace Sys2Proof.Machine

open Sys2Proof

/-- 2 to an integer power. -/
def pow2 (e : Int) : Rat := if 0 ≤ e then (2 : Rat) ^ e.toNat else 1 / (2 : Rat) ^ (-e).toNat

/-- Round half to even to an integer. -/
def roundEven (q : Rat) : Int :=
  let f := q.floor
  let d := q - f
  if d < 1 / 2 then f else if 1 / 2 < d then f + 1 else if f % 2 = 0 then f else f + 1

/-- Floor of the binary logarithm of a nonzero magnitude. -/
def expo (q : Rat) : Int :=
  let e := (Nat.log2 q.num.natAbs : Int) - (Nat.log2 q.den : Int)
  if abs q < pow2 e then e - 1 else e

/-- Round to nearest even with `p` significant bits, a quantum no finer than that of exponent `emin`, saturating at
`mx`. -/
def roundFmt (p : Nat) (emin : Int) (mx q : Rat) : Rat :=
  if q = 0 then 0 else
  let u := pow2 (max (expo q) emin - ((p : Int) - 1))
  let r := (roundEven (q / u) : Rat) * u
  max (-mx) (min mx r)

/-- Greatest finite FP32 and BF16 magnitudes. -/
def maxF32 : Rat := (2 - pow2 (-23)) * pow2 127
def maxBf16 : Rat := (2 - pow2 (-7)) * pow2 127

/-- A magnitude below 2 to the -126 becomes +0 (09 R250). -/
def flush (q : Rat) : Rat := if abs q < pow2 (-126) then 0 else q

/-- One FP32 rounding (09 R250, R251); a flush looks at the rounded magnitude (DEDUCED, notes/assumptions/20.md). -/
def f32 (q : Rat) : Rat := flush (roundFmt 24 (-1000000) maxF32 q)

/-- Conversion to BF16 (09 R251). -/
def toBf16 (q : Rat) : Rat := flush (roundFmt 8 (-1000000) maxBf16 q)

/-- Conversion to FP8 E4M3 and FP4 E2M1 at the array edge (09 R248). -/
def toFp8 (q : Rat) : Rat := roundFmt 4 (-6) 448 q
def toFp4 (q : Rat) : Rat := roundFmt 2 0 6 q

/-- Conversion to an integer code of `bits` bits with fraction `f` (09 R251). -/
def toIntCode (bits f : Nat) (y : Rat) : Rat :=
  let lim : Int := 2 ^ (bits - 1)
  ((max (-lim) (min (lim - 1) (roundEven (y * 2 ^ f))) : Int) : Rat)

/-- A little-endian number of a byte slice. -/
def leNat (b : List Byte) : Nat := b.foldr (fun x acc => x.toNat + 256 * acc) 0

/-- `n` bytes at an offset, 0 past the end. -/
def slice (b : List Byte) (off n : Nat) : List Byte :=
  let l := (b.drop off).take n
  l ++ List.replicate (n - l.length) 0

/-- The number at an offset. -/
def leAt (b : List Byte) (off n : Nat) : Nat := leNat (slice b off n)

/-- Signed reading of an `n`-bit code. -/
def signed (n x : Nat) : Int := if 2 ^ (n - 1) ≤ x then (x : Int) - 2 ^ n else x

/-- A float code of `e` exponent bits and `m` fraction bits; `sub` keeps subnormals, otherwise they read as +0. -/
def floatVal (e m bias : Nat) (sub : Bool) (x : Nat) : Rat :=
  let s := x / 2 ^ (e + m) % 2
  let ex := x / 2 ^ m % 2 ^ e
  let fr := x % 2 ^ m
  let v : Rat :=
    if ex = 0 then (if sub then (fr : Rat) * pow2 (1 - (bias : Int) - m) else 0)
    else (2 ^ m + fr : Nat) * pow2 ((ex : Int) - bias - m)
  if s = 1 then -v else v

/-- FP32 code: none for infinities and NaN (09, number formats). -/
def f32Val (x : Nat) : Option Rat := if x / 2 ^ 23 % 256 = 255 then none else some (floatVal 8 23 127 false x)

/-- Weight formats of a layer descriptor: 0 INT4, 1 INT8, 2 FP4, 3 FP8, 4 BF16 (09, layer descriptor). -/
def weightBits (w : Nat) : Nat := if w = 0 ∨ w = 2 then 4 else if w = 4 then 16 else 8

/-- The value of a weight code, none where the code is invalid (09 R253). -/
def weightVal (w x : Nat) : Option Rat :=
  if w = 0 then some (signed 4 x)
  else if w = 1 then some (signed 8 x)
  else if w = 2 then some (floatVal 2 1 1 true x)
  else if w = 3 then (if x % 128 = 127 then none else some (floatVal 4 3 7 true x))
  else (if x / 128 % 256 = 255 then none else some (floatVal 8 7 127 false x))

/-- Weight code `i` of a packed array at byte offset `off` (4-bit codes: lower index in the low nibble). -/
def weightCode (b : List Byte) (w off i : Nat) : Nat :=
  if weightBits w = 4 then leAt b (off + i / 2) 1 / 16 ^ (i % 2) % 16
  else if weightBits w = 8 then leAt b (off + i) 1 else leAt b (off + 2 * i) 2

/-- FRC header (09). -/
structure FrcHeader where
  totalLen : Nat
  kind : Nat
  layers : Nat
  inFmt : Nat
  history : Nat
  modelId : Nat
  version : Nat
  inCount : Nat
  outCount : Nat
  outLayer : Nat
  period : Nat
  horizon : Nat
  weightLen : Nat
  inMap : Nat
  layerOff : Nat
  outMap : Nat
  weightOff : Nat
deriving DecidableEq, Repr

/-- The header of a container. -/
def frcHeader (b : List Byte) : FrcHeader :=
  { totalLen := leAt b 8 4, kind := leAt b 0xC 1, layers := leAt b 0xD 1, inFmt := leAt b 0xE 1,
    history := leAt b 0xF 1, modelId := leAt b 0x10 8, version := leAt b 0x18 4, inCount := leAt b 0x1C 2,
    outCount := leAt b 0x1E 1, outLayer := leAt b 0x1F 1, period := leAt b 0x20 2, horizon := leAt b 0x22 2,
    weightLen := leAt b 0x24 4, inMap := leAt b 0x28 4, layerOff := leAt b 0x2C 4, outMap := leAt b 0x30 4,
    weightOff := leAt b 0x34 4 }

/-- Input map entry (09). -/
structure FrcIn where
  source : Nat
  unit : Nat
  sub : Nat
  frac : Nat
deriving DecidableEq, Repr

/-- Output map entry (09). -/
structure FrcOut where
  dest : Nat
  unit : Nat
  elem : Nat
  lo : Option Rat
  hi : Option Rat
deriving DecidableEq, Repr

/-- Layer descriptor (09). -/
structure FrcLayer where
  type : Nat
  wfmt : Nat
  outFmt : Nat
  outFrac : Nat
  srcA : Nat
  srcB : Nat
  op : Nat
  inExp : Int
  k : Nat
  n : Nat
  experts : Nat
  topk : Nat
  wOff : Nat
  wLen : Nat
  scaleOff : Nat
  biasOff : Nat
  metaOff : Nat
  metaLen : Nat
  lo : Option Rat
  hi : Option Rat
deriving DecidableEq, Repr

/-- Entry `i` of the input map. -/
def frcIn (b : List Byte) (h : FrcHeader) (i : Nat) : FrcIn :=
  let o := h.inMap + 8 * i
  { source := leAt b o 2, unit := leAt b (o + 2) 1, sub := leAt b (o + 3) 1, frac := leAt b (o + 4) 1 }

/-- Entry `i` of the output map. -/
def frcOut (b : List Byte) (h : FrcHeader) (i : Nat) : FrcOut :=
  let o := h.outMap + 16 * i
  { dest := leAt b o 2, unit := leAt b (o + 2) 1, elem := leAt b (o + 4) 2, lo := f32Val (leAt b (o + 8) 4),
    hi := f32Val (leAt b (o + 12) 4) }

/-- Layer `i`. -/
def frcLayer (b : List Byte) (h : FrcHeader) (i : Nat) : FrcLayer :=
  let o := h.layerOff + 64 * i
  { type := leAt b o 1, wfmt := leAt b (o + 1) 1, outFmt := leAt b (o + 2) 1, outFrac := leAt b (o + 3) 1,
    srcA := leAt b (o + 4) 1, srcB := leAt b (o + 5) 1, op := leAt b (o + 6) 1, inExp := signed 8 (leAt b (o + 7) 1),
    k := leAt b (o + 8) 2, n := leAt b (o + 10) 2, experts := leAt b (o + 12) 1, topk := leAt b (o + 13) 1,
    wOff := leAt b (o + 0x10) 4, wLen := leAt b (o + 0x14) 4, scaleOff := leAt b (o + 0x18) 4,
    biasOff := leAt b (o + 0x1C) 4, metaOff := leAt b (o + 0x20) 4, metaLen := leAt b (o + 0x24) 4,
    lo := f32Val (leAt b (o + 0x28) 4), hi := f32Val (leAt b (o + 0x2C) 4) }

/-- All layers. -/
def frcLayers (b : List Byte) (h : FrcHeader) : List FrcLayer := (List.range h.layers).map (frcLayer b h)

/-- Length of the model's input vector: captures concatenated, padded to a multiple of 16. -/
def inputLen (h : FrcHeader) : Nat := (h.inCount * h.history + 15) / 16 * 16

/-- Length and format of what a source code names: 0 the input vector, j the output of layer j - 1. -/
def srcLen (h : FrcHeader) (ls : List FrcLayer) (src : Nat) : Nat :=
  if src = 0 then inputLen h else match ls[src - 1]? with | some l => l.n | none => 0

def srcFmt (h : FrcHeader) (ls : List FrcLayer) (src : Nat) : Nat :=
  if src = 0 then h.inFmt else match ls[src - 1]? with | some l => l.outFmt | none => 0

/-- The type of the matrices a layer evaluates: its own, or its experts' (09 R257). -/
def matType (l : FrcLayer) : Nat := if l.type = 3 then l.op else l.type

/-- A matrix layer (types 0 to 3). -/
def isMatrix (l : FrcLayer) : Bool := l.type < 4

/-- Operand pairs (09 R247). -/
def pairOk (wfmt act : Nat) : Bool :=
  if wfmt = 0 then act == 0 else if wfmt = 1 then act == 0 || act == 1 else decide (wfmt ≤ 4)

/-- MACs per cell per beat (09 R247). -/
def macRate (wfmt act : Nat) : Nat :=
  if wfmt = 0 ∨ wfmt = 2 then 4 else if wfmt = 3 then 2 else if wfmt = 1 ∧ act = 0 then 2 else 1

/-- Stored weights of a matrix of a given type; `m` is where its metadata stands. -/
def storedCount (b : List Byte) (ty m k n : Nat) : Nat :=
  if ty = 0 then n * k
  else if ty = 1 then 16 * ((List.range (n * k / 16)).filter fun i => leAt b (m + i / 8) 1 / 2 ^ (i % 8) % 2 = 1).length
  else n * k / 2

/-- Metadata bytes of a matrix of a given type. -/
def metaBytes (ty k n : Nat) : Nat := if ty = 1 then (n * k / 16 + 7) / 8 else if ty = 2 then n * k / 8 else 0

/-- Entry `e` of the expert table: weight offset and length, metadata offset and length (09 R257). -/
def expertEntry (b : List Byte) (h : FrcHeader) (l : FrcLayer) (e : Nat) : Nat × Nat × Nat × Nat :=
  let o := h.weightOff + l.metaOff + 16 * e
  (leAt b o 4, leAt b (o + 4) 4, leAt b (o + 8) 4, leAt b (o + 12) 4)

/-- Every FP32 value of an array is valid. -/
def floatsOk (b : List Byte) (off count : Nat) : Bool :=
  (List.range count).all fun i => (f32Val (leAt b (off + 4 * i) 4)).isSome

/-- Every weight code of an array is valid. -/
def weightsOk (b : List Byte) (wfmt off count : Nat) : Bool :=
  (List.range count).all fun i => (weightVal wfmt (weightCode b wfmt off i)).isSome

/-- Bytes that `c` weights take. -/
def weightBytes (wfmt c : Nat) : Nat := (c * weightBits wfmt + 7) / 8

/-- A 2:4 field holds two strictly ascending indices (09, layer types). -/
def pairsAscend (b : List Byte) (off groups : Nat) : Bool :=
  (List.range groups).all fun g =>
    let f := leAt b (off + g / 2) 1 / 16 ^ (g % 2) % 16
    decide (f % 4 < f / 4)

/-- A matrix at `w` with metadata at `m` is stored whole inside the weight section and holds valid codes only. -/
def matrixOk (b : List Byte) (h : FrcHeader) (wfmt ty w wl m ml k n : Nat) : Bool :=
  let c := storedCount b ty (h.weightOff + m) k n
  decide (ty ≤ 2) && decide (w + wl ≤ h.weightLen) && decide (m + ml ≤ h.weightLen) &&
  decide (wl = weightBytes wfmt c) && decide (ml = metaBytes ty k n) &&
  weightsOk b wfmt (h.weightOff + w) c &&
  (ty != 2 || pairsAscend b (h.weightOff + m) (n * k / 4))

/-- The 15 breakpoints of a piecewise-linear table ascend (09 R259). -/
def pwlOk (b : List Byte) (off : Nat) : Bool :=
  (List.range 14).all fun j =>
    match f32Val (leAt b (off + 4 * j) 4), f32Val (leAt b (off + 4 * (j + 1)) 4) with
    | some x, some y => decide (x < y)
    | _, _ => false

/-- Validity of one layer's descriptor and data (09 R247, R253, R255 to R261). -/
def layerOk (b : List Byte) (h : FrcHeader) (ls : List FrcLayer) (i : Nat) (l : FrcLayer) : Bool :=
  let act := srcFmt h ls l.srcA
  let o := h.layerOff + 64 * i
  let inW (off len : Nat) : Bool := decide (off + len ≤ h.weightLen)
  let channels := if l.type = 3 then l.experts + l.experts * l.n else l.n
  decide (l.type ≤ 7) && decide (l.outFmt ≤ 2) && decide (l.outFrac ≤ 15) && decide (l.srcA ≤ i) &&
  (l.k % 16 == 0) && decide (16 ≤ l.k) && decide (l.k ≤ 4096) &&
  (l.n % 16 == 0) && decide (16 ≤ l.n) && decide (l.n ≤ 4096) &&
  (l.k == srcLen h ls l.srcA) && leAt b (o + 0xE) 2 == 0 && leAt b (o + 0x30) 16 == 0 &&
  (if isMatrix l then
    decide (l.wfmt ≤ 4) && pairOk l.wfmt act && (l.srcB == 0xFF) &&
    inW l.scaleOff (4 * channels) && floatsOk b (h.weightOff + l.scaleOff) channels &&
    (l.biasOff == 0xFFFFFFFF || (inW l.biasOff (4 * channels) && floatsOk b (h.weightOff + l.biasOff) channels)) &&
    (if l.type = 3 then
      decide (2 ≤ l.experts) && decide (l.experts ≤ 32) && decide (1 ≤ l.topk) && decide (l.topk ≤ 4) &&
      decide (l.topk ≤ l.experts) && decide (l.op ≤ 2) &&
      inW l.metaOff l.metaLen && (l.metaLen == 16 * l.experts + 188) &&
      floatsOk b (h.weightOff + l.metaOff + 16 * l.experts) 47 &&
      pwlOk b (h.weightOff + l.metaOff + 16 * l.experts) &&
      inW l.wOff l.wLen && decide (weightBytes l.wfmt (l.experts * l.k) ≤ l.wLen) &&
      weightsOk b l.wfmt (h.weightOff + l.wOff) (l.experts * l.k) &&
      (List.range l.experts).all fun e =>
        let (w, wl, m, ml) := expertEntry b h l e
        matrixOk b h l.wfmt l.op w wl m ml l.k l.n
    else l.op == 0 && l.experts == 0 && l.topk == 0 &&
      matrixOk b h l.wfmt l.type l.wOff l.wLen l.metaOff l.metaLen l.k l.n)
  else
    l.wfmt == 0xFF && l.k == l.n && l.experts == 0 && l.topk == 0 &&
    (if l.type = 4 then
      decide (l.op ≤ 4) &&
      (if l.srcB = 0xFE then inW l.metaOff (4 * l.n) && floatsOk b (h.weightOff + l.metaOff) l.n
       else decide (l.srcB ≤ i) && srcLen h ls l.srcB == l.n)
    else l.srcB == 0xFF && l.op == 0 &&
      (if l.type = 5 then inW l.metaOff 188 && (l.metaLen == 188) && floatsOk b (h.weightOff + l.metaOff) 47 &&
        pwlOk b (h.weightOff + l.metaOff)
      else if l.type = 6 then inW l.metaOff l.metaLen && (l.metaLen == 8 * l.n) &&
        floatsOk b (h.weightOff + l.metaOff) (2 * l.n)
      else match l.lo, l.hi with
        | some x, some y => decide (x ≤ y)
        | _, _ => false)))

/-- Intervals that do not meet, pairwise (09 R255). -/
def disjointAll : List (Nat × Nat) → Bool
  | [] => true
  | (a, n) :: l => (l.all fun (c, m) => decide (a + n ≤ c) || decide (c + m ≤ a)) && disjointAll l

/-- Structure of a container: reason 6 of the load rejection table where it fails (09 R255, R247). -/
def structureOk (b : List Byte) : Bool :=
  let h := frcHeader b
  let ls := frcLayers b h
  let secs := [(0, 256), (h.inMap, 8 * h.inCount), (h.layerOff, 64 * h.layers), (h.outMap, 16 * h.outCount),
    (h.weightOff, h.weightLen), (h.totalLen - 2420, 2420)]
  decide (slice b 0 4 = [0x46, 0x52, 0x43, 0x31]) && leAt b 4 2 == 1 &&
  decide (h.totalLen = b.length) && decide (h.totalLen ≤ 32 * 1048576) && decide (2420 ≤ h.totalLen) &&
  decide (h.kind ≤ 2) && decide (1 ≤ h.layers) && decide (h.layers ≤ 64) && decide (h.inFmt ≤ 2) &&
  decide (1 ≤ h.history) && decide (h.history ≤ 16) && h.modelId != 0 &&
  decide (1 ≤ h.inCount) && decide (h.inCount ≤ 512) && decide (1 ≤ h.outCount) && decide (h.outCount ≤ 64) &&
  decide (h.outLayer < h.layers) && h.weightOff % 64 == 0 &&
  leAt b 0x38 8 == 0 && leAt b 0x80 128 == 0 &&
  (secs.all fun (a, n) => decide (a + n ≤ h.totalLen)) && disjointAll secs &&
  decide (h.inCount * h.history ≤ 4096) &&
  ((List.range h.inCount).all fun i =>
    let e := frcIn b h i
    decide (e.source ≤ 0x10) && decide (1 ≤ e.source) && decide (e.frac ≤ 15) && leAt b (h.inMap + 8 * i + 5) 3 == 0 &&
    (if e.source ≤ 8 then decide (e.unit ≤ 7) else e.source == 0x10 || e.unit == 8) &&
    (if e.source = 6 then decide (e.sub ≤ 8) else if e.source = 7 then decide (1 ≤ e.sub) && decide (e.sub ≤ 15)
      else if e.source = 0xC then decide (e.sub ≤ 23) else if e.source = 0xD then decide (e.sub ≤ 15)
      else if e.source = 0xE then decide (e.sub ≤ 1) else true)) &&
  ((List.range h.layers).all fun i => match ls[i]? with | some l => layerOk b h ls i l | none => false) &&
  ((List.range h.outCount).all fun i =>
    let e := frcOut b h i
    leAt b (h.outMap + 16 * i + 3) 1 == 0 && leAt b (h.outMap + 16 * i + 6) 2 == 0 &&
    (match ls[h.outLayer]? with | some l => decide (e.elem < l.n) | none => false) &&
    (match e.lo, e.hi with | some x, some y => decide (x ≤ y) | _, _ => false))

/-- Slot-kind rules (09 R255). -/
def kindRules (b : List Byte) : Bool :=
  let h := frcHeader b
  let outs := (List.range h.outCount).map (frcOut b h)
  if h.kind = 0 then
    h.outCount == 8 && (outs.all fun e => e.dest == 1 && (match e.lo with | some x => decide (0 ≤ x) | none => false)) &&
    ((List.range 8).all fun n => outs.any fun e => e.unit == n) &&
    (h.period == 100 || h.period == 200) && decide (200 ≤ h.horizon) && decide (h.horizon ≤ 1000)
  else if h.kind = 1 then
    (outs.all fun e => (e.dest == 2 && decide (e.unit ≤ 7)) || (e.dest == 3 && e.unit == 8)) &&
    decide (100 ≤ h.period) && decide (h.period ≤ 1000)
  else
    (outs.all fun e => e.dest == 0x10 && decide (e.unit ≤ 63)) &&
    (h.period == 0 || (decide (100 ≤ h.period) && decide (h.period ≤ 10000)))

/-- Ceiling division. -/
def cdiv (a b : Nat) : Nat := (a + b - 1) / b

/-- Parts of a layer: bytes read, stored weights, MAC rate, elements produced (09 R262). -/
def partsOf (b : List Byte) (h : FrcHeader) (ls : List FrcLayer) (l : FrcLayer) : List (Nat × Nat × Nat × Nat) :=
  let r := macRate l.wfmt (srcFmt h ls l.srcA)
  if l.type < 3 then
    [(l.wLen + l.metaLen, storedCount b l.type (h.weightOff + l.metaOff) l.k l.n, r, l.n)]
  else if l.type = 3 then
    let worst := (List.range l.experts).foldl (fun (a : Nat × Nat) e =>
      let (_, wl, m, ml) := expertEntry b h l e
      (max a.1 (wl + ml), max a.2 (storedCount b l.op (h.weightOff + m) l.k l.n))) (0, 0)
    [(weightBytes l.wfmt (l.experts * l.k), l.experts * l.k, r, l.experts)] ++ List.replicate l.topk (worst.1, worst.2, r, l.n) ++
      [(0, 0, 1, l.n * l.topk)]
  else if l.type = 5 then [(188, 0, 1, l.n)]
  else if l.type = 6 then [(8 * l.n, 0, 1, l.n)]
  else if l.type = 4 ∧ l.srcB = 0xFE then [(4 * l.n, 0, 1, l.n)]
  else [(0, 0, 1, l.n)]

/-- Beats of one part with `g` engines (09 R262). -/
def partCost (g : Nat) (p : Nat × Nat × Nat × Nat) : Nat :=
  256 + max (cdiv p.1 (64 * g)) (max (cdiv p.2.1 (256 * g * p.2.2.1)) (cdiv p.2.2.2 (16 * g)))

/-- Costs of all parts. -/
def frcCosts (b : List Byte) (g : Nat) : List Nat :=
  let h := frcHeader b
  let ls := frcLayers b h
  (ls.flatMap (partsOf b h ls)).map (partCost g)

/-- Run bound in microseconds (09 R262). -/
def runBound (b : List Byte) (g : Nat) : Rat := ((frcCosts b g).sum : Rat) / 850 + 2

/-- Bytes of the workspace a model needs: input vector, output buffers, leaky state (09 R263). -/
def workspaceBytes (b : List Byte) : Nat :=
  let h := frcHeader b
  let ls := frcLayers b h
  let sz (f n : Nat) : Nat := if f = 0 then n else 2 * n
  sz h.inFmt (inputLen h) + (ls.map fun l => sz l.outFmt l.n + (if l.type = 6 then 4 * l.n else 0)).sum

/-- A tensor in flight: format, the codes of an integer format (the values themselves in BF16), and the values. -/
structure Tensor where
  fmt : Nat
  codes : List Rat
  reals : List Rat
deriving DecidableEq, Repr

/-- Conversion of FP32 results to an output format (09 R251). -/
def toTensor (fmt frac : Nat) (y : List Rat) : Tensor :=
  let c := if fmt = 2 then y.map toBf16 else y.map (toIntCode (if fmt = 0 then 8 else 16) frac)
  { fmt := fmt, codes := c, reals := if fmt = 2 then c else c.map (· / 2 ^ frac) }

/-- Saturation to the INT32 range (09 R249). -/
def satI32 (x : Int) : Int := max (-(2 ^ 31)) (min (2 ^ 31 - 1) x)

/-- FP32 accumulation in chunks of 16 (09 R250). -/
def accF32 : Nat → Rat → List (Rat × Rat) → Rat
  | 0, acc, _ => acc
  | fuel + 1, acc, l =>
    if l.isEmpty then acc
    else accF32 fuel (f32 (acc + f32 (((l.take 16).map fun p => p.1 * p.2).sum))) (l.drop 16)

/-- The accumulator of one output channel (09 R248 to R250). -/
def accumulate (wfmt : Nat) (inExp : Int) (x : Tensor) (row : List Rat) : Rat :=
  if wfmt ≤ 1 then
    f32 (satI32 ((List.zip row x.codes).map fun (p : Rat × Rat) => p.1 * p.2).sum.floor : Int)
  else
    let act := if wfmt = 2 then x.reals.map fun v => toFp4 (v * pow2 inExp)
      else if wfmt = 3 then x.reals.map fun v => toFp8 (v * pow2 inExp)
      else x.reals.map toBf16
    accF32 (act.length + 1) 0 (List.zip row act)

/-- Row `n` of a matrix as dense weights, absent ones exact zeros (09 R256). -/
def weightRow (b : List Byte) (wfmt ty w m k n : Nat) : List Rat :=
  let val (i : Nat) : Rat := (weightVal wfmt (weightCode b wfmt w i)).getD 0
  if ty = 0 then (List.range k).map fun i => val (n * k + i)
  else if ty = 1 then
    let bit (i : Nat) : Nat := leAt b (m + i / 8) 1 / 2 ^ (i % 8) % 2
    (List.range (k / 16)).flatMap fun j =>
      let blk := n * (k / 16) + j
      if bit blk = 1 then
        let before := ((List.range blk).map bit).sum
        (List.range 16).map fun i => val (16 * before + i)
      else List.replicate 16 0
  else
    (List.range (k / 4)).flatMap fun j =>
      let g := n * (k / 4) + j
      let f := leAt b (m + g / 2) 1 / 16 ^ (g % 2) % 16
      (List.range 4).map fun i =>
        if i = f % 4 then val (2 * g) else if i = f / 4 then val (2 * g + 1) else 0

/-- The output stage of channel `c` of the scale and bias arrays (09 R252). -/
def outStage (b : List Byte) (h : FrcHeader) (l : FrcLayer) (c : Nat) (a : Rat) : Rat :=
  let s := (f32Val (leAt b (h.weightOff + l.scaleOff + 4 * c) 4)).getD 0
  let y := f32 (a * s)
  if l.biasOff = 0xFFFFFFFF then y
  else f32 (y + (f32Val (leAt b (h.weightOff + l.biasOff + 4 * c) 4)).getD 0)

/-- A piecewise-linear table at a byte offset (09 R259). -/
def pwl (b : List Byte) (off : Nat) (x : Rat) : Rat :=
  let at_ (i : Nat) : Rat := (f32Val (leAt b (off + 4 * i) 4)).getD 0
  let s := ((List.range 15).filter fun i => decide (at_ i ≤ x)).length
  f32 (f32 (at_ (15 + 2 * s) * x) + at_ (16 + 2 * s))

/-- The indices of the `k` largest values, the lower index first among equals (09 R257). -/
def topIdx : Nat → List (Nat × Rat) → List Nat
  | 0, _ => []
  | k + 1, l =>
    match l.foldl (fun (o : Option (Nat × Rat)) p => match o with
      | none => some p
      | some q => if q.2 < p.2 then some p else some q) none with
    | none => []
    | some p => p.1 :: topIdx k (l.filter fun q => q.1 ≠ p.1)

/-- A gated-expert layer (09 R257). -/
def gated (b : List Byte) (h : FrcHeader) (l : FrcLayer) (x : Tensor) : List Rat :=
  let logit (e : Nat) : Rat := outStage b h l e
    (accumulate l.wfmt l.inExp x (weightRow b l.wfmt 0 (h.weightOff + l.wOff) 0 l.k e))
  let logits := (List.range l.experts).map fun e => (e, logit e)
  let sel := (topIdx l.topk logits).mergeSort (· ≤ ·)
  let p := sel.map fun e => max 0 (pwl b (h.weightOff + l.metaOff + 16 * l.experts) ((logits.getD e (e, 0)).2))
  let tot := p.foldl (fun a y => f32 (a + y)) 0
  let w := p.map fun y => if tot = 0 then f32 (1 / (l.topk : Rat)) else f32 (y / tot)
  let outs := sel.map fun e =>
    let (wo, _, mo, _) := expertEntry b h l e
    (List.range l.n).map fun n => outStage b h l (l.experts + e * l.n + n)
      (accumulate l.wfmt l.inExp x (weightRow b l.wfmt l.op (h.weightOff + wo) (h.weightOff + mo) l.k n))
  (List.range l.n).map fun n =>
    (List.zip w outs).foldl (fun a (y : Rat × List Rat) => f32 (a + f32 (y.1 * y.2.getD n 0))) 0

/-- Element-wise operation (09 R258). -/
def elemOp (op : Nat) (a b : Rat) : Rat :=
  if op = 0 then f32 (a + b) else if op = 1 then f32 (a - b) else if op = 2 then f32 (a * b)
  else if op = 3 then max a b else min a b

/-- One layer: its output and its leaky state (09 R256 to R261). -/
def evalLayer (b : List Byte) (h : FrcHeader) (l : FrcLayer) (x y : Tensor) (st : List Rat) : Tensor × List Rat :=
  let xs := x.reals
  let fin (v : List Rat) : Tensor := toTensor l.outFmt l.outFrac v
  if l.type < 3 then
    (fin ((List.range l.n).map fun n => outStage b h l n (accumulate l.wfmt l.inExp x
      (weightRow b l.wfmt l.type (h.weightOff + l.wOff) (h.weightOff + l.metaOff) l.k n))), st)
  else if l.type = 3 then (fin (gated b h l x), st)
  else if l.type = 4 then
    let ys := if l.srcB = 0xFE then (List.range l.n).map fun i =>
        (f32Val (leAt b (h.weightOff + l.metaOff + 4 * i) 4)).getD 0
      else y.reals
    (fin ((List.zip xs ys).map fun p => elemOp l.op p.1 p.2), st)
  else if l.type = 5 then (fin (xs.map (pwl b (h.weightOff + l.metaOff))), st)
  else if l.type = 6 then
    let par (i : Nat) : Rat := (f32Val (leAt b (h.weightOff + l.metaOff + 4 * i) 4)).getD 0
    let hs := (List.range l.n).map fun i =>
      f32 (f32 (par i * st.getD i 0) + f32 (par (l.n + i) * xs.getD i 0))
    (fin hs, hs)
  else (fin (xs.map fun v => min (max v (l.lo.getD 0)) (l.hi.getD 0)), st)

/-- All layers in order: the outputs so far, newest last, and the leaky state by layer. -/
def evalLayers (b : List Byte) (h : FrcHeader) (input : Tensor) :
    List FrcLayer → List Tensor → List (List Rat) → List (List Rat) → List Tensor × List (List Rat)
  | [], outs, _, hs => (outs, hs)
  | l :: ls, outs, st, hs =>
    let src (c : Nat) : Tensor := if c = 0 then input else outs.getD (c - 1) { fmt := 2, codes := [], reals := [] }
    let r := evalLayer b h l (src l.srcA) (if l.srcB < 0xFE then src l.srcB else src 0) (st.headD [])
    evalLayers b h input ls (outs ++ [r.1]) st.tail (hs ++ [r.2])

/-- The model's input vector from its captures, newest first (09, input vector). -/
def inputTensor (b : List Byte) (h : FrcHeader) (caps : List (List Rat)) : Tensor :=
  let conv (cap : List Rat) : List (Rat × Rat) := (List.range h.inCount).map fun i =>
    let v := f32 (cap.getD i 0)
    let fr := (frcIn b h i).frac
    if h.inFmt = 2 then (toBf16 v, toBf16 v)
    else
      let c := toIntCode (if h.inFmt = 0 then 8 else 16) fr v
      (c, c / 2 ^ fr)
  let l := ((caps.take h.history).map conv).flatten
  let l := l ++ List.replicate (inputLen h - l.length) (0, 0)
  { fmt := h.inFmt, codes := l.map (·.1), reals := l.map (·.2) }

/-- A run: outputs (destination, unit, clamped value), whether any was clamped, and the new leaky state (09 R254,
R277). -/
def runModel (b : List Byte) (caps : List (List Rat)) (st : List (List Rat)) :
    List (Nat × Nat × Rat) × Bool × List (List Rat) :=
  let h := frcHeader b
  let ls := frcLayers b h
  let r := evalLayers b h (inputTensor b h caps) ls [] st []
  let out := (r.1.getD h.outLayer { fmt := 2, codes := [], reals := [] }).reals
  let one (i : Nat) : (Nat × Nat × Rat) × Bool :=
    let e := frcOut b h i
    let v := out.getD e.elem 0
    let c := max (e.lo.getD 0) (min (e.hi.getD 0) v)
    ((e.dest, e.unit, c), c != v)
  let all := (List.range h.outCount).map one
  (all.map (·.1), all.any (·.2), r.2)

/-- FP32 code of a value that FP32 holds. -/
def f32Code (q : Rat) : BitVec 32 :=
  if q = 0 then 0 else
  let e := expo q
  let m := (abs q / pow2 (e - 23)).floor.toNat - 2 ^ 23
  BitVec.ofNat 32 ((if q < 0 then 2 ^ 31 else 0) + (e + 127).toNat * 2 ^ 23 + m)

end Sys2Proof.Machine
end

