-- ==== Sys2Proof/Machine/State.lean ====
section
/-! DEFINITION. The state of the FM8 as plain data: every register, queue, buffer, counter, mode and pin the manual
gives the part, one structure a block. A field's default is its value at cold reset. Each docstring names the
quantity, its width, the file and rule that name it, and its reset value; a reset value the manual does not state is
marked and logged (notes/assumptions/1.md). -/

namespace Sys2Proof.Machine

open Sys2Proof

/-- No step of the FM8 stops with a fault: a failure is state (a fault code, an event, a result code). -/
inductive Fault where
deriving DecidableEq, Repr

/-- Why a command has no meaning here. -/
inductive Refusal where
  /-- Raised by an arm of `exec` whose command has no meaning yet; safe, the machine stops. -/
  | notModelled (mnemonic : String)
deriving DecidableEq, Repr

/-- Power states (01 R35). -/
inductive PState where
  | off | standby | sequencing | run | drain | safe
deriving DecidableEq, Repr

/-- Where the part stands between a reset and the release of the application cluster (18 R535, R537, 16 R471). -/
inductive Boot where
  /-- PORST_N low. -/
  | porst
  /-- start-up self-tests and boot ROM of a cold reset. -/
  | coldRom
  /-- boot ROM of a warm reset. -/
  | warmRom
  /-- the application cluster runs. -/
  | running
  /-- the application cluster is stopped, no warm reset under way. -/
  | stopped
  /-- no controller slot verifies (16 R473). -/
  | noSlot
deriving DecidableEq, Repr

/-- SYS_ block, event tick and clock (01, 02). -/
structure SysState where
  /-- SYS_TICK.TICK: 64 bits; 02 R36 R38; 0 -/
  tick : Nat := 0
  /-- boot phase: 6 values; 18 R535, 16 R471; coldRom -/
  boot : Boot := .coldRom
  /-- SYS_STATUS.LOCK_VIOL: 1 bit; 01 R35, 00 R13; 0 -/
  lockViol : Bool := false
  /-- SYS_STATUS.MEM_ECC_UE: 1 bit; 01 R35 R27; 0 -/
  memEccUe : Bool := false
  /-- SYS_STATUS.REFCLK_WAS_LOST: 1 bit; 01 R35 R17; 0 -/
  refclkWasLost : Bool := false
  /-- SYS_STATUS.PACE_LOW: 1 bit; 01 R35 R16; 0 -/
  paceLow : Bool := false
  /-- SYS_STATUS.MEM_SHORT: 1 bit; 01 R35 R29; 0 -/
  memShort : Bool := false
  /-- SYS_STATUS.REFCLK_LOST: 1 bit; 01 R35 R17; 0 -/
  refclkLost : Bool := false
  /-- SYS_STATUS.FW_RUNNING: 1 bit; 01 R35; 0 -/
  fwRunning : Bool := false
  /-- SYS_STATUS.SAF_OK: 1 bit; 01 R35; 0 -/
  safOk : Bool := false
  /-- SYS_CXL_WDROP: 32 bits, saturating; 01 R30 R33; DESIGN CHOICE 0 (log 1) -/
  cxlWdrop : Nat := 0
  /-- count of uncorrectable ECC errors: unbounded; 01 R27; DESIGN CHOICE 0 (log 1) -/
  eccUe : Nat := 0
  /-- count of corrected ECC errors: unbounded; 01 R27; DESIGN CHOICE 0 (log 1) -/
  eccCe : Nat := 0
  /-- REFCLK present for 100 ms, so that Crozier may start power-up steps: 1 bit; 01 R17; 1 DEDUCED (log 5) -/
  refclkSettled : Bool := true
  /-- tick at which REFCLK last returned: 64 bits; 01 R17, 02 R37; 0 -/
  refclkTick : Nat := 0
  /-- LPDDR5X trained: 1 bit; 18 R535; 0 -/
  memTrained : Bool := false
  /-- LPDDR5X in self-refresh: 1 bit; 01 R17; 0 -/
  memSelfRefresh : Bool := false
  /-- fitted LPDDR5X, GiB: 6 bits; 01 R29; DESIGN CHOICE 0 until trained (log 1) -/
  memGib : Nat := 0
  /-- VID_PWM duty D: 8 bits; 18 R532; 128 -/
  vidDuty : Nat := 128
  /-- VID_PWM driven, from tick 100: 1 bit; 18 R532; 0 -/
  vidDriven : Bool := false
  /-- SYS_STRAP latched sample under the pull-up: 10 bits; 18 R528 R530; board input, DESIGN CHOICE 0 (log 1) -/
  strapUp : BitVec 10 := 0
  /-- SYS_STRAP latched sample under the pull-down: 10 bits; 18 R528 R530; board input, DESIGN CHOICE 0 (log 1) -/
  strapDown : BitVec 10 := 0
  /-- TEST_EN level: 1 bit; 18 R530; board input, DESIGN CHOICE 0 (log 1) -/
  testEn : Bool := false
  /-- WP_N level, 1 high: 1 bit; 01 R32, 18 R530; board input, DESIGN CHOICE 0 (log 1) -/
  wpN : Bool := false
deriving DecidableEq, Repr

/-- One event of the digest (02 R52: 16 B entry). -/
structure Ev where
  stamp : Nat
  cls : Nat
  unit : Nat
  object : Nat
  code : Nat
  detail : Nat
deriving DecidableEq, Repr

/-- A command as it reaches the application cluster: its frame, code and parameter bytes, the command these spell, the
outcome of a raw transfer, and its stamp. -/
structure Req where
  frame : Frame
  code : Nat
  params : List Byte
  cmd : Option Cmd
  bus : Option TransferEnd
  stamp : Nat
deriving DecidableEq, Repr

/-- What waits in the event merger (02 R39 to R44): a coded event, or a command. -/
inductive Item where
  | ev (e : Ev)
  | req (r : Req)
  /-- The firmware-timer event at which the loop of its stamp starts (06 R157). -/
  | loop
deriving DecidableEq, Repr

/-- An item of the merger with its place in the order of 02 R40. -/
structure Waiting where
  stamp : Nat
  cls : Nat
  unit : Nat
  chan : Nat
  item : Item
deriving DecidableEq, Repr

/-- Result codes (14 R415). -/
inductive Res where
  | ok | busy | badParam | stateConflict | authFail | replay | clipped | unsupported | capUnreachable | routeBusy
  | denied | unknownCommand | version | tooLong | arbFail | busFault | nack | pecError | aborted
deriving DecidableEq, Repr

/-- A finished command whose result is not readable yet, or was sent (14 R421, R429; 02 R62). `sealNo` counts the seals
taken before it was applied, `gen` is its effect generation once published. -/
structure Reply where
  src : Source
  seq : BitVec 16
  code : Nat
  cls : Nat
  unit : Nat
  key : BitVec 2
  ctr : BitVec 64
  ifver : Byte
  addr : BitVec 128
  udp : BitVec 16
  stamp : Nat
  sealNo : Nat
  result : Res
  reason : Nat
  object : Nat
  detail : List Byte
  data : List Byte
  gen : Nat
  /-- the generation that the data of a read command come from (02 R61). -/
  readGen : Option Nat := none
  snapshot : List Byte
  /-- the key that the command was tagged under (14 R435, 16 R480). -/
  tagKey : BitVec 256
  tag : BitVec 128
deriving DecidableEq, Repr

/-- A command accepted on a network source, kept for the duplicate rule (14 R430). -/
structure Accepted where
  frame : Frame
  code : Nat
  params : List Byte
  reply : Option Reply
deriving DecidableEq, Repr

/-- One entry of the source table (02 R52). -/
structure SourceEntry where
  /-- LAST_RESULT: 8 bits; 02 R52; 0xFF -/
  lastResult : Nat := 0xFF
  /-- LAST_SEQ: 16 bits; 02 R52; 0 -/
  lastSeq : BitVec 16 := 0
  /-- LAST_CTR: 64 bits; 02 R52; 0 -/
  lastCtr : BitVec 64 := 0
  /-- LAST_TICK: 64 bits; 02 R52; 0 -/
  lastTick : Nat := 0
deriving DecidableEq, Repr

/-- MBX_ registers of one mailbox, and its result area (14 R419 to R423). -/
structure Mailbox where
  /-- MBX_STAT.SEQ: 16 bits; 14 R419; 0 -/
  seq : BitVec 16 := 0
  /-- MBX_STAT.RESULT when not busy: 8 bits; 14 R419; 0xFF -/
  result : Nat := 0xFF
  /-- MBX_STAT.REREAD: 1 bit; 14 R419 R423; 0 -/
  reread : Bool := false
  /-- MBX_STAT.BUSY: 1 bit; 14 R419; 0 -/
  busy : Bool := false
  /-- MBX_STAT has been read since the last completion: 1 bit; 14 R423; 0 -/
  statRead : Bool := false
  /-- MBX_ERR.GO_MISMATCH: 8 bits, saturating; 14 R419; 0 -/
  goMismatch : Nat := 0
  /-- MBX_ERR.GO_BUSY: 8 bits, saturating; 14 R419; 0 -/
  goBusy : Nat := 0
  /-- result area: 4 KiB as a reply; 14 R421; empty, DESIGN CHOICE (log 1) -/
  area : Option Reply := none
deriving DecidableEq, Repr

/-- BAR0 buffers, host events and interrupts (14). -/
structure MbxState where
  /-- mailboxes 0 and 1: see Mailbox; 14 R419; reset there -/
  box : Vector Mailbox 2 := Vector.replicate 2 {}
  /-- MBX_SEL.MB: 1 bit; 14 R419; 0 -/
  sel : Fin 2 := 0
  /-- MBX_CFG.GEN_DIV: 16 bits; 14 R419; 0 -/
  genDiv : Nat := 0
  /-- MBX_EVT: 16 bits; 14 R425; 0 -/
  evt : BitVec 16 := 0
  /-- MBX_EVT_EN: 16 bits; 14 R425; 0xBFFF -/
  evtEn : BitVec 16 := 0xBFFF
  /-- HATTN_N asserted: 1 bit; 14 R426; 0 -/
  hattn : Bool := false
  /-- MSI-X pending bits: 16 bits; 14 R427; 0 -/
  pba : BitVec 16 := 0
  /-- MSI-X enable and function mask of the configuration space: 2 bits; 14 R427, 18 R539; 0 DESIGN CHOICE (log 1) -/
  msixEnable : Bool := false
  /-- MSI-X function mask: 1 bit; 14 R427; 0 DESIGN CHOICE (log 1) -/
  msixMask : Bool := false
  /-- MSI-X vector masks: 16 bits; 14 R427; all ones PRESUMED, the PCI Express value (log 1) -/
  vecMask : BitVec 16 := 0xFFFF
  /-- host events raised and not applied yet, bit and tick: 14 R425; none -/
  evtDue : List (Nat × Nat) := []
  /-- host events applied since the last seal, as MBX_EVT bits: 14 R425; 0 -/
  evtShown : BitVec 16 := 0
  /-- command areas of MB0 and MB1 and the MSI-X table, by BAR0 offset: 4 KiB, 4 KiB, 256 B; 01 R33, 14 R420; nothing
  listed, an unlisted byte reads 0, DESIGN CHOICE (log 6) -/
  mem : List Host.Cell := []
deriving DecidableEq, Repr

/-- A stream lease (14 R431). -/
structure Lease where
  addr : BitVec 128
  udp : BitVec 16
  port : Fin 2
  records : Bool
  events : Bool
  version : Byte
  div : Nat
  expiry : Nat
deriving DecidableEq, Repr

/-- FMP and network state, counters and floors (14). -/
structure NetState where
  /-- FMP UDP port: 16 bits; 14 R428; 47120 -/
  udp : BitVec 16 := 47120
  /-- further IPv6 addresses, two a port: 4 x 128 bits; 14 R428; none -/
  addrs : List (BitVec 128) := []
  /-- announcement group: 128 bits; 14 R428 R432; ff02::f8 -/
  group : BitVec 128 := 0xff0200000000000000000000000000f8
  /-- stream leases: 4 entries; 14 R431; none -/
  leases : Vector (Option Lease) 4 := Vector.replicate 4 none
  /-- sequence number of stream datagrams: 32 bits; 14 R431; 0 -/
  streamSeq : Nat := 0
  /-- sequence number of announcements: 32 bits; 14 R432; 0 -/
  annSeq : Nat := 0
  /-- last accepted announcement counter of each slot: 32 x 64 bits; 14 R432; none -/
  annLast : Vector (Option (BitVec 64)) 32 := Vector.replicate 32 none
  /-- last accepted counter by source (MB0, MB1, FMP, MCTP) and key (host, rack): 8 x 64 bits; 14 R436; its floor -/
  ctr : Vector (BitVec 64) 8 := Vector.replicate 8 0
  /-- last 16 commands accepted on FMP and on MCTP: 14 R430; none -/
  recentFmp : List Accepted := []
  /-- last 16 commands accepted on MCTP: 14 R430; none -/
  recentMctp : List Accepted := []
  /-- SYS_NET.FRAME_ERR: 8 bits, saturating; 18 R545; 0 -/
  frameErr : Nat := 0
  /-- SYS_NET.DROPPED: 8 bits, saturating; 18 R545; 0 -/
  dropped : Nat := 0
  /-- SYS_NET.P0_RATE and P1_RATE: 2 bits each; 18 R545; 0 -/
  rate : Vector Nat 2 := Vector.replicate 2 0
  /-- settings that a rack command addressed in the tick `rackTick`, for 14 R440; none -/
  rackSet : List (Nat × Nat × Nat) := []
deriving DecidableEq, Repr

/-- Why a drain runs (03 R74, 15 R453, R454). -/
inductive DrainFor where
  | reset (test : Bool)
  | powerOff (full : Bool)
deriving DecidableEq, Repr

/-- A drain in progress on an accelerator, with the command that waits on it (03 R74). -/
structure Drain where
  start : Nat
  goal : DrainFor
  reply : Reply
  idle : Bool
deriving DecidableEq, Repr

/-- An OPP or band change in progress (03 R81): set-point before and after, the OPP, the band and the common frequency
(0 none) that apply when it is reached, and when it began. -/
structure SetChange where
  mv : Nat
  oldMv : Nat
  opp : Nat
  band : Nat
  felt : Nat
  start : Nat
deriving DecidableEq, Repr

/-- One accelerator as its pins, identity and operating point show it (03). -/
structure AccState where
  /-- identity block as read: 14 KiB; 03 R64; none -/
  ident : Option Identity := none
  /-- BIN of the summary: 8 bits; 03 R65; DESIGN CHOICE 0 until read (log 1) -/
  bin : Nat := 0
  /-- fmax entries in force, band-major, 5 x 1024: 16 bits each; 03 R79; none -/
  fmax : List Nat := []
  /-- VRALERT_N level, 1 high: 1 bit; 03 R70; board input, DESIGN CHOICE 1 (log 1) -/
  vrAlertN : Bool := true
  /-- level-0 demand on FORCEMIN_N: 1 bit; 01 R26; 0 -/
  forceL0 : Bool := false
  /-- Crozier's level-1 demand on FORCEMIN_N: 1 bit; 03 R70 R71; 1 (S0) -/
  forceCrz : Bool := true
  /-- safety island's level-1 demand on FORCEMIN_N: 1 bit; 03 R70, 01 R25; 0 -/
  forceSaf : Bool := false
  /-- Brim's level-2 demand of 07 R211: 1 bit; 03 R70; 0 -/
  forceBrim : Bool := false
  /-- Brim's lane-loss demand of 01 R21: 1 bit; 01 R21; 1 (lane untrained) -/
  forceLane : Bool := true
  /-- end tick of the release holdoff: 64 bits; 01 R26; none -/
  holdUntil : Option Nat := none
  /-- releases refused within the holdoff, REL_REFUSED: 16 bits, saturating; 01 R26, 06 R194; 0 -/
  relRefused : Nat := 0
  /-- ACC_RST_N asserted: 1 bit; 03 R70 R71; 1 -/
  rst : Bool := true
  /-- tick at which ACC_RST_N was last asserted: 64 bits; 15 R454; 0 -/
  rstTick : Nat := 0
  /-- XNET_DRAIN: 1 bit; 03 R70 R71; 0 -/
  xnetDrain : Bool := false
  /-- EFUSE_ON: 1 bit; 03 R70 R71; 0 -/
  efuseOn : Bool := false
  /-- ISO_EN: 1 bit; 13 R385; 0 -/
  isoEn : Bool := false
  /-- THERMTRIP_N acted on: 1 bit; 03 R72; 0 -/
  thermArmed : Bool := false
  /-- VRALERT_N acted on: 1 bit; 03 R72; 0 -/
  vrArmed : Bool := false
  /-- THERMTRIP_N pulses shorter than 1 us: unbounded; 03 R70 R552; DESIGN CHOICE 0 (log 1) -/
  thermShort : Nat := 0
  /-- tick at which AUX, and at which a core rail, entered regulation: 64 bits; 03 R72; 0 -/
  auxTick : Nat := 0
  /-- tick at which a core rail entered regulation: 64 bits; 03 R72; 0 -/
  coreTick : Nat := 0
  /-- drain in progress: 03 R74; none -/
  drain : Option Drain := none
  /-- pending drain decision and its deadline tick: 03 R75; none -/
  decision : Option (DrainFor × Nat) := none
  /-- run the engine test at the next S11 (FLAGS[0] of partition.reset): 1 bit; 15 R454; 1 -/
  testWanted : Bool := true
  /-- OPP_REQ: 4 bits; 02 R52; 0 -/
  oppReq : Nat := 0
  /-- OPP_EFF: 4 bits; 02 R52; 0 -/
  oppEff : Nat := 0
  /-- core set-point written over AVSBus, mV: 16 bits; 03 R78; 0 DESIGN CHOICE (log 1) -/
  setMv : Nat := 0
  /-- set-point change in progress: 03 R81; none -/
  change : Option SetChange := none
deriving DecidableEq, Repr

/-- One Crozier channel (04 R112). -/
structure ChanState where
  /-- CRZ_CH_CTRL.TARGET: 4 bits; 04 R112; 0 -/
  target : Nat := 0
  /-- CRZ_CH_STATUS.STATE: 4 bits; 04 R112; 0 -/
  state : Nat := 0
  /-- CRZ_CH_STATUS.WAITING: 1 bit; 04 R112; 0 -/
  waiting : Bool := false
  /-- CRZ_CH_STATUS.FAULT: 1 bit; 04 R112; 0 -/
  fault : Bool := false
  /-- CRZ_CH_STATUS.EFUSE_OPEN: 1 bit; 04 R112; 0 -/
  efuseOpen : Bool := false
  /-- CRZ_CH_STATUS.DIR: 2 bits; 04 R112; 0 -/
  dir : Nat := 0
  /-- the present state's step is complete: 1 bit; 04 R88; 1 -/
  stepDone : Bool := true
  /-- tick of the first enable of the step: 64 bits; 04 R88; none -/
  stepStart : Option Nat := none
  /-- CRZ_FAULT.TRANSITIONS: 8 bits; 04 R112; 0 -/
  fTrans : Nat := 0
  /-- CRZ_FAULT.STATE: 4 bits; 04 R112; 0 -/
  fState : Nat := 0
  /-- CRZ_FAULT.CODE: 4 bits; 04 R112; 0 -/
  fCode : Nat := 0
  /-- CRZ_FAULT.RAIL: 7 bits; 04 R112; 0x7F -/
  fRail : Nat := 0x7F
  /-- CRZ_FAULT_TICK: 32 bits of the stamp; 04 R112; 0 -/
  fTick : Nat := 0
  /-- CH_TICK: 64 bits; 04 R90, 02 R52; 0 -/
  chTick : Nat := 0
  /-- emergency shutdown under way: 1 bit; 04 R106; 0 -/
  emergency : Bool := false
  /-- e-fuse close started at this tick: 64 bits; 04 R87; none -/
  efuseClose : Option Nat := none
  /-- e-fuse reported power good: 1 bit; 04 R87; 0 -/
  efuseGood : Bool := false
  /-- tick at which the e-fuse was opened under 04 R108: 64 bits; none -/
  efuseOpenTick : Option Nat := none
  /-- highest state allowed after an early collapse: 4 bits; 04 R107; none -/
  limit : Option Nat := none
  /-- set off by host command: 1 bit; 04 R118; 0 -/
  setOff : Bool := false
  /-- stagger start tick of S8 entry or of core-rail removal: 64 bits; 04 R127; none -/
  stagger : Option Nat := none
  /-- a reset ordered in HOLD waits for its end: 1 bit; 04 R122, 15 R454; 0 -/
  resetDue : Bool := false
deriving DecidableEq, Repr

/-- One rail of 00 R8 as Crozier sees it (04 R88 to R110). -/
structure RailState where
  /-- RAIL_EN or TRAY_EN: 1 bit; 03 R70, 04 R94; 0 -/
  en : Bool := false
  /-- filtered RAIL_PG or TRAY_PG: 1 bit; 04 R99; board input, DESIGN CHOICE 0 (log 1) -/
  pg : Bool := false
  /-- REFCLK cycle of the last transition of the filtered input, 250 a tick: 04 R99; 0 -/
  pgAt : Nat := 0
  /-- counts as stable: 1 bit; 04 R99; 0 -/
  stable : Bool := false
  /-- counts as off: 1 bit; 04 R92; 1 -/
  off : Bool := true
  /-- REFCLK cycles of the filtered transitions since the enable, newest first: 04 R101; none -/
  trans : List Nat := []
  /-- tick of the last enable: 64 bits; 04 R99; 0 -/
  enTick : Nat := 0
  /-- tick of the last disable: 64 bits; 04 R92 R108; 0 -/
  disTick : Nat := 0
  /-- being removed in a fault shutdown: 1 bit; 04 R103; 0 -/
  removing : Bool := false
  /-- collapsed early in this sequence: 1 bit; 04 R107; 0 -/
  collapsed : Bool := false
  /-- OFF_TIMEOUT confirmed since the disable: 1 bit; 04 R108 R110; 0 -/
  offLate : Bool := false
deriving DecidableEq, Repr

/-- Crozier (04). -/
structure CrzState where
  /-- channels 0-8: see ChanState; 04 R112; reset there -/
  chan : Vector ChanState 9 := Vector.replicate 9 {}
  /-- rails 0-119: see RailState; 04 R99; reset there -/
  rail : Vector RailState 120 := Vector.replicate 120 {}
  /-- CRZ_DEP: 120 x 32 bits; 04 R96 R97; the default graph (Machine/Ops.lean, log 7) -/
  dep : List Word := []
  /-- CRZ_STEPWIN of S1-S8 then T1-T3: 11 x 16 bits; 04 R112; 20 -/
  stepwin : List Nat := List.replicate 11 20
  /-- CRZ_SEQ_CFG: 32 bits; 04 R112; COOL_RUNDOWN 30, ACC_INTERVAL 20, SLOT_INTERVAL 250 -/
  seqCfg : Word := 0x003C50FA
deriving DecidableEq, Repr

/-- Rack states, SEQSYNC and the privileged lines (04 R114 to R128). -/
structure RackState where
  /-- CRZ_RACK.RACK_STATE: 4 bits; 04 R126; 0 -/
  state : Fin 16 := 0
  /-- CRZ_RACK.DUP_LEADER: 1 bit; 04 R126; 0. RW1C, but no command of the catalogue writes CRZ_RACK, so that nothing short of a
  cold reset clears it, nor MISMATCH: DESIGN CHOICE (log 52) -/
  dupLeader : Bool := false
  /-- CRZ_RACK.MISMATCH: 1 bit; 04 R126; 0 -/
  mismatch : Bool := false
  /-- CRZ_RACK.ARMED: 1 bit; 04 R126; 0 -/
  armed : Bool := false
  /-- CRZ_RACK.DETACHED: 1 bit; 04 R126; 0 -/
  detached : Bool := false
  /-- CRZ_RACK.DRIVING: 1 bit; 04 R126; 0 -/
  driving : Bool := false
  /-- CRZ_RACK.LINE, filtered SEQSYNC level: 1 bit; 04 R126; board input, DESIGN CHOICE 1 (log 1) -/
  line : Bool := true
  /-- tick at which the leader's own pulse ends: 64 bits; 04 R121; none -/
  pulse : Option Nat := none
  /-- tick from which SEQSYNC has been high: 64 bits; 04 R120 R121; 0 -/
  highTick : Nat := 0
  /-- tick of entry to the rack state: 64 bits; 04 R118 R127; 0 -/
  stateTick : Nat := 0
  /-- tick at which listening after cold reset began: 64 bits; 04 R125, 18 R535; none -/
  listenTick : Option Nat := none
  /-- listening after cold reset over: 1 bit; 04 R125; 0 -/
  listened : Bool := false
  /-- an announcement of a state other than 0 was heard while listening: 1 bit; 04 R125; 0 -/
  heardOther : Bool := false
  /-- invalid SEQSYNC pulses: unbounded; 04 R120; DESIGN CHOICE 0 (log 1) -/
  badPulses : Nat := 0
  /-- latest announcement of each slot with its arrival tick: 32 entries; 04 R123; none -/
  heard : Vector (Option (Announce × Nat)) 32 := Vector.replicate 32 none
  /-- tick since which the comparison of 04 R123 differs: 64 bits; none -/
  differs : Option Nat := none
  /-- LEADER_LOST reported: 1 bit; 04 R123; 0 -/
  leaderLost : Bool := false
  /-- drain grace armed, seconds: 8 bits; 14 R441; 10 -/
  grace : Nat := 10
  /-- immediate flag armed: 1 bit; 14 R441; 0 -/
  immediate : Bool := false
  /-- DRAIN_DEADLINE: 64 bits; 14 R441; 0 -/
  deadline : Nat := 0
  /-- drain ended in this rack state 9: 1 bit; 14 R441; 0 -/
  drained : Bool := false
  /-- power state held in HOLD: 3 bits; 04 R122 R128; none -/
  heldP : Option PState := none
  /-- OFF latch: 1 bit; 04 R128; 0 -/
  offLatch : Bool := false
  /-- power-down without stagger, grace or SEQSYNC under way: 1 bit; 04 R116 R127; 0 -/
  fastDown : Bool := false
  /-- DETACHED set by 04 R116 (a clear leaves it): 1 bit; 15 R451; 0 -/
  faultDetached : Bool := false
  /-- DETACHED forced by a floating STAGGER strap: 1 bit; 18 R529; 0 -/
  strapDetached : Bool := false
  /-- run-down of rack state 13 over: 1 bit; 12 R367; 0 -/
  rundownDone : Bool := false
  /-- TRAYFLT_N driven by the safety island: 1 bit; 04 R115; 0 -/
  trayfltDrive : Bool := false
  /-- RACKFLT_N driven: 1 bit; 04 R116; 0 -/
  rackfltDrive : Bool := false
  /-- SHDN_N driven: 1 bit; 12 R371, 01 R25; 0 -/
  shdn : Bool := false
  /-- ballast has been cleared in QUIESCE and the targets set to S8: 1 bit; 07 R217; 0 -/
  quiesced : Bool := false
deriving DecidableEq, Repr

/-- Live entry of a rail (05 R147). -/
structure RailEntry where
  /-- V: 16 bits, 0.1 mV (1 mV on tray rails); 05 R147; 0 -/
  v : Nat := 0
  /-- V_MIN of the generation: 16 bits; 05 R147; 0 -/
  vMin : Nat := 0
  /-- V_MAX of the generation: 16 bits; 05 R147; 0 -/
  vMax : Nat := 0
  /-- latest voltage readback, 0.1 mV: 05 R143 R144; none -/
  rb : Option Nat := none
  /-- I readback: 16 bits; 05 R147; 0 -/
  i : Nat := 0
  /-- stale flag: 1 bit; 05 R146; 0 -/
  stale : Bool := false
  /-- tick of the last completed readback: 64 bits; 05 R146; 0 -/
  readTick : Nat := 0
  /-- consecutive readbacks that disagree with the scanned voltage: 05 R144; 0 -/
  disagree : Nat := 0
  /-- SENSE_MISMATCH shown: 1 bit; 05 R144 R147; 0 -/
  mismatch : Bool := false
  /-- below the window, above the window, fast comparator outside, in this generation: 3 bits; 05 R147; 0 -/
  below : Bool := false
  /-- above the window in this generation: 1 bit; 05 R147; 0 -/
  above : Bool := false
  /-- fast comparator outside its window in this generation: 1 bit; 05 R147; 0 -/
  fastOut : Bool := false
  /-- consecutive agreeing readbacks: 05 R144; 0 -/
  agree : Nat := 0
  /-- a sample was taken in this generation: 1 bit; 05 R147; 0 -/
  sampled : Bool := false
  /-- consecutive scans with the rail below its off threshold: 04 R92; 0 -/
  offRun : Nat := 0
  /-- consecutive samples outside the window in force at each: 05 R135; 0 -/
  outRun : Nat := 0
  /-- latest sample at the converter's input, 0.1 mV: 05 R138; 0 -/
  raw : Nat := 0
  /-- tick of the last completed readback of the current: 64 bits; 05 R146; 0 -/
  curTick : Nat := 0
  /-- a new set-point was written and no readback has completed since: 1 bit; 05 R137 R151; 0 -/
  written : Bool := false
deriving DecidableEq, Repr

/-- A staged supervision change (05 R138, 01 R24). -/
inductive SupSet where
  | window (rail : Rail) (win div : Word)
  | fast (k : Fin 16) (fwc : Word)
deriving DecidableEq, Repr

/-- Supervision (05). -/
structure SupState where
  /-- SUP_STATUS.SC0_FAULT, SC1_FAULT: 1 bit each; 05 R154; 0 -/
  scFault : Vector Bool 2 := Vector.replicate 2 false
  /-- SUP_STATUS.SC0_SEEN, SC1_SEEN: 1 bit each; 05 R154; 0 -/
  scSeen : Vector Bool 2 := Vector.replicate 2 false
  /-- SUP_WIN[r]: 120 x 32 bits; 05 R154; OV 32, UV 32 -/
  win : Vector Word 120 := Vector.replicate 120 0x2020
  /-- SUP_FWC[k]: 16 x 32 bits; 05 R154; FILTER 5, OV 25, UV 25 -/
  fwc : Vector Word 16 := Vector.replicate 16 0x51919
  /-- SUP_TRAY_DIV[j]: 8 x 32 bits; 05 R154; DIV 1, NOM 0 -/
  trayDiv : Vector Word 8 := Vector.replicate 8 0x10000
  /-- SUP_MARGIN[r].NOW: 8 bits, signed; 05 R154; 0 -/
  marginNow : Vector Int 120 := Vector.replicate 120 0
  /-- SUP_MARGIN[r].TARGET: 8 bits, signed; 05 R154; 0 -/
  marginTgt : Vector Int 120 := Vector.replicate 120 0
  /-- tick of the last margin step of each rail: 64 bits; 05 R151; 0 -/
  marginTick : Vector Nat 120 := Vector.replicate 120 0
  /-- PMBus base VOUT_COMMAND of each rail, mV: 05 R150; 0 DESIGN CHOICE (log 1) -/
  baseMv : Vector Nat 120 := Vector.replicate 120 0
  /-- staged set: 05 R138; none -/
  staged : List SupSet := []
  /-- widened window (low and high set-point, mV) of each core rail, in the order of the fast comparators: 05 R137; none -/
  widened : Vector (Option (Nat × Nat)) 16 := Vector.replicate 16 none
  /-- rail entries: see RailEntry; 05 R147; reset there -/
  entry : Vector RailEntry 120 := Vector.replicate 120 {}
  /-- a reference has failed in the present scan of each converter: 1 bit; 05 R133; 0 -/
  scBad : Vector Bool 2 := Vector.replicate 2 false
  /-- consecutive failing self-checks of a converter in order, passing ones of a converter in fault: 05 R133; 0 -/
  scRun : Vector Nat 2 := Vector.replicate 2 0
  /-- channel that each converter converts next: 0-95; 05 R129; 0 DESIGN CHOICE (log 53) -/
  scanPos : Vector Nat 2 := Vector.replicate 2 0
  /-- scan number of each converter mod 16: 4 bits; 05 R130 R131; 0 DESIGN CHOICE (log 53) -/
  scanNo : Vector Nat 2 := Vector.replicate 2 0
  /-- slow-slot readings of SC0 then SC1, sub-inputs 0-15: 32 x 16 bits; 05 R131; 0 DESIGN CHOICE (log 1) -/
  slow : Vector Nat 32 := Vector.replicate 32 0
deriving DecidableEq, Repr

/-- A context as steering sees it (03 R82, R83; 06 R169, R194). -/
structure CtxState where
  /-- PHASE: 4 bits; 06 R194; 0 -/
  phase : Nat := 0
  /-- EPOCH: 8 bits; 06 R194; 0 -/
  epoch : Nat := 0
  /-- RUN_NS: 32 bits; 06 R194; 0 -/
  runNs : Nat := 0
  /-- COLL_WAIT_NS: 32 bits; 06 R194; 0 -/
  collNs : Nat := 0
  /-- increase of RUN_NS over the frames since the last loop, ns; 06 R169; 0 -/
  dRun : Nat := 0
  /-- increase of COLL_WAIT_NS over the frames since the last loop, ns; 06 R169; 0 -/
  dColl : Nat := 0
  /-- active in the last loop: 1 bit; 06 R169; 0 -/
  active : Bool := false
  /-- sets K_pref: 1 bit; 06 R194; 0 -/
  setsK : Bool := false
  /-- run fraction of the last loop: exact; 06 R194; 0 -/
  runFrac : Rat := 0
  /-- wait fraction of the last loop: exact; 06 R169; 0 -/
  waitFrac : Rat := 0
deriving DecidableEq, Repr

/-- Whether an accelerator is parked (06 R185). -/
inductive Park where
  | no | parked
  /-- V(OP0) + guard written, not confirmed. -/
  | unparking
deriving DecidableEq, Repr

/-- Steering of one accelerator (06). -/
structure StrAcc where
  /-- STR_PHASE_PREF[n]: 64 bits; 06 R193; 0xF each -/
  pref : BitVec 64 := 0xFFFFFFFFFFFFFFFF
  /-- K_PREF: 4 bits; 06 R194; 0 DESIGN CHOICE before the first loop (log 1) -/
  kPref : Nat := 0
  /-- K_CAP: 4 bits; 06 R194; 0 DESIGN CHOICE before the first loop (log 1) -/
  kCap : Nat := 0
  /-- K_THERM: 4 bits; 06 R194; 0 DESIGN CHOICE before the first loop (log 1) -/
  kTherm : Nat := 0
  /-- K_BRIM: 4 bits; 06 R194; 0 DESIGN CHOICE before the first loop (log 1) -/
  kBrim : Nat := 0
  /-- MODE: 0-3; 06 R194; 3 DEDUCED: outside S9-S12 -/
  mode : Nat := 3
  /-- REASON: 0-6; 06 R194; 0 DESIGN CHOICE (log 1) -/
  reason : Nat := 0
  /-- FELT_MHZ: 16 bits; 06 R194; 0 -/
  feltMhz : Nat := 0
  /-- ALLOC, W: exact; 06 R167; 0 -/
  alloc : Rat := 0
  /-- P_work of the loop, W: exact; 06 R161; 0 -/
  pWork : Rat := 0
  /-- prediction used, W: exact; 06 R163; 0 -/
  pPred : Rat := 0
  /-- shift s_n, W: exact; 06 R167; 0 -/
  shift : Rat := 0
  /-- filtered wait fraction: exact; 06 R169 R172; none until the first W -/
  wFilt : Option Rat := none
  /-- dynamic power D_n, W: exact; 06 R162; 0 -/
  dyn : Rat := 0
  /-- feedforward in use: 1 bit; 06 R164; 0 -/
  ffUse : Bool := false
  /-- feedforward withdrawn: 1 bit; 06 R165; 0 -/
  ffOut : Bool := false
  /-- weighted mean error: exact; 06 R165; 0 -/
  ffErr : Rat := 0
  /-- consecutive loops with the mean below 5 %: 06 R165; 0 -/
  ffGood : Nat := 0
  /-- predictions waiting to be compared, with the tick they speak of: 06 R165; none -/
  preds : List (Nat × Rat) := []
  /-- stale condition: 1 bit; 06 R179; 0 -/
  stale : Bool := false
  /-- tick of the start of the stale condition: 64 bits; 06 R179; 0 -/
  staleTick : Nat := 0
  /-- consecutive fresh loops: 06 R179; 0 -/
  freshRun : Nat := 0
  /-- OPP_REQ of the last loop with fresh frames: 4 bits; 06 R179; 0 -/
  oppFresh : Nat := 0
  /-- rate-of-rise limit: 4 bits; 06 R176; none -/
  ror : Option Nat := none
  /-- rate-of-rise limit before the ROR_STEPs of tick rorLast: 4 bits; 06 R157 R176; none -/
  rorPrev : Option Nat := none
  /-- tick of the last lowering by ROR_STEP: 64 bits; 06 R176; 0 -/
  rorLow : Nat := 0
  /-- tick of the last ROR_STEP: 64 bits; 06 R176; 0 -/
  rorLast : Nat := 0
  /-- tick of the last raise of the limit: 64 bits; 06 R176; 0 -/
  rorRaise : Nat := 0
  /-- frames of the last 10 ms, tick and TJ_MAX: 06 R176; none -/
  tj : List (Nat × Int) := []
  /-- parked: 3 values; 06 R185; no -/
  park : Park := .no
  /-- PARK_REASON: 0-2; 06 R194; 0 -/
  parkReason : Nat := 0
  /-- parked by host software: 1 bit; 06 R186; 0 -/
  hostPark : Bool := false
  /-- D_n and the wait fraction stay frozen until this tick: 64 bits; 06 R180; 0 -/
  frozenUntil : Nat := 0
  /-- P_work of the loops of the last 100 ms, with their ticks, newest first: 06 R166; none -/
  workHist : List (Nat × Rat) := []
  /-- modelled power chosen by the loops of the last 10 ms, with their ticks, newest first: 06 R166; none -/
  modHist : List (Nat × Rat) := []
  /-- activity frames not yet taken by a loop: stamp, time since the last good frame in ns, frame; 06 R157 R169, 10 R301; none -/
  frames : List (Nat × Nat × Activity) := []
  /-- time covered by the frames since the last loop, ns: 06 R169; 0 -/
  dT : Nat := 0
  /-- contexts 0-47: see CtxState; 06 R194; reset there -/
  ctx : Vector CtxState 48 := Vector.replicate 48 {}
  /-- bands whose fmax tables bound the cores now: 03 R79 R81; none -/
  fmaxBands : List Nat := []
  /-- common-frequency limits that bound the cores now: 06 R191; none -/
  feltCaps : List Nat := []
deriving DecidableEq, Repr

/-- What a loop reads of the hardware, as the strobe latches it (06 R158, R162, R179, R180). -/
structure StrLatch where
  /-- tick of the strobe: 64 bits; 06 R158 -/
  tick : Nat
  /-- K_brim: 8 x 4 bits; 06 R178 -/
  kBrim : Vector Nat 8
  /-- FORCEMIN_N asserted: 8 bits; 06 R158 R180 -/
  forced : Vector Bool 8
  /-- D_n and the wait fraction frozen: 8 bits; 06 R180 -/
  frozen : Vector Bool 8
  /-- temperature band: 8 x 3 bits; 06 R158 -/
  band : Vector Nat 8
  /-- SRS_AGE: 8 x 16 bits; 06 R179 -/
  age : Vector Nat 8
  /-- OPP_EFF: 8 x 4 bits; 06 R162 -/
  opp : Vector Nat 8
deriving DecidableEq, Repr

/-- The steering engine (06 R193). -/
structure StrState where
  /-- what the last strobe latched: see StrLatch; 06 R158; none -/
  latch : Option StrLatch := none
  /-- what the loop now computing reads; none between loops: 06 R158; none -/
  now : Option StrLatch := none
  /-- STR_CTRL: 32 bits; 06 R193; FELT_MHZ 0, FF_EN 1, MODE 0 -/
  ctrl : Word := 0x100
  /-- STR_CFG: 32 bits; 06 R193; 8, 2, 5, 10, 2, 200 -/
  cfg : Word := 0x825A20C8
  /-- STR_CFG2: 32 bits; 06 R193; RECOVERY_MS 1000 -/
  cfg2 : Word := 1000
  /-- STR_PARK_ORDER: 32 bits; 06 R193; 0x01234567 -/
  parkOrder : Word := 0x01234567
  /-- STR_GROUP: 32 bits; 06 R193; 0 -/
  group : Word := 0
  /-- STR_THERM_CEIL: 32 bits; 06 R193; 0x0008DFFF -/
  thermCeil : Word := 0x0008DFFF
  /-- STR_LEAK, bin by bin: 15 x 16 bits; 06 R193; the table there -/
  leak : List Nat := [180, 260, 420, 560, 700, 150, 220, 360, 480, 600, 120, 180, 300, 400, 500]
  /-- STR_STATUS.OVERRUNS: 8 bits, saturating; 06 R193; 0 -/
  overruns : Nat := 0
  /-- STR_STATUS.QUOTA: 1-16; 06 R193; 16 -/
  quota : Nat := 16
  /-- STR_STATUS.CAP_UNREACH: 1 bit; 06 R193; 0 -/
  unreach : Bool := false
  /-- STR_STATUS.SHORTFALL: 1 bit; 06 R193; 0 -/
  shortfall : Bool := false
  /-- STR_STATUS.FELT_CAUSE: 0-3; 06 R193; 0 -/
  feltCause : Nat := 0
  /-- STR_STATUS.MODE, felting: 1 bit; 06 R193; 0 -/
  felting : Bool := false
  /-- end tick of the recovery hold: 64 bits; 06 R190; 0 -/
  recoveryEnd : Nat := 0
  /-- start tick of the last completed loop: 64 bits; 06 R157 R159; 0 -/
  lastLoop : Nat := 0
  /-- calibration term E, W: exact; 06 R166; 0 -/
  calib : Rat := 0
  /-- cap seen by the last loop, W: 06 R166; 0 -/
  lastCap : Nat := 0
  /-- set A of the last loop: 8 bits; 06 R166 R172; none -/
  setA : List Acc := []
  /-- consecutive loops without a donor, groups 0-7: 06 R172; 0 -/
  noDonor : Vector Nat 8 := Vector.replicate 8 0
  /-- accelerators parked for the cap, last first: 06 R183 R184; none -/
  capParked : List Acc := []
  /-- loops since the last park: 06 R183; 10 DESIGN CHOICE, no park pending (log 1) -/
  sincePark : Nat := 10
  /-- consecutive loops that would allow an unpark: 06 R184; 0 -/
  unparkRun : Nat := 0
  /-- consecutive loops that would allow a quota rise: 06 R184; 0 -/
  raiseRun : Nat := 0
  /-- loops of shortfall with everything parked: 06 R187; 0 -/
  unreachRun : Nat := 0
  /-- consecutive loops without a shortfall: 06 R187; 0 -/
  clearRun : Nat := 0
  /-- accelerators 0-7: see StrAcc; 06 R194; reset there -/
  acc : Vector StrAcc 8 := Vector.replicate 8 {}
deriving DecidableEq, Repr

/-- The five settings of the envelope (07 R219). -/
structure BrimSet where
  /-- BRM_CAP: 32 bits; 07 R219; 2150 -/
  cap : Word := 2150
  /-- BRM_PEAK: 32 bits; 07 R219; 2400 -/
  peak : Word := 2400
  /-- BRM_AVG: 32 bits; 07 R219; 2150 -/
  avg : Word := 2150
  /-- BRM_RAMP: 32 bits; 07 R219; DOWN 100, UP 100 -/
  ramp : Word := 0x00640064
  /-- BRM_TOL: 32 bits; 07 R219; GUARD 100, TOL 25 -/
  tol : Word := 0x00640019
  /-- BRM_BAL_MAX: 32 bits; 07 R219; 60 -/
  balMax : Word := 60
deriving DecidableEq, Repr

/-- Brim (07). Powers in mW. -/
structure BrmState where
  /-- the envelope in force: see BrimSet; 07 R219; reset there -/
  set : BrimSet := {}
  /-- staged set: 01 R24, 07 R218; none -/
  staged : Option BrimSet := none
  /-- BRM_STATUS.BLIND_SEEN: 1 bit; 07 R219; 0 -/
  blindSeen : Bool := false
  /-- BRM_STATUS.FORCE_SEEN: 1 bit; 07 R219; 0 -/
  forceSeen : Bool := false
  /-- BRM_STATUS.SHORT_SEEN: 1 bit; 07 R219; 0 -/
  shortSeen : Bool := false
  /-- BRM_STATUS.ACTIVE: 1 bit; 07 R219; 0 -/
  active : Bool := false
  /-- BRM_STATUS.BLIND: 1 bit; 07 R219; 0 -/
  blind : Bool := false
  /-- BRM_STATUS.FORCED: 1 bit; 07 R219; 0 -/
  forced : Bool := false
  /-- BRM_STATUS.SHORT: 1 bit; 07 R219; 0 -/
  short : Bool := false
  /-- BRM_STATUS.THROTTLE: 1-64; 07 R219; 64 -/
  theta : Nat := 64
  /-- BRM_LINE: 32 bits, mW; 07 R219; 0 -/
  line : Int := 0
  /-- BRM_UPPER: 32 bits, mW; 07 R219; 0 -/
  upper : Int := 0
  /-- BRM_BAL[n].BAL_W, W: 11 bits; 07 R219; 0 -/
  bal : Vector Nat 8 := Vector.replicate 8 0
  /-- BRM_BAL[n].CAP_W, W: 11 bits; 07 R219; 0 -/
  balCap : Vector Nat 8 := Vector.replicate 8 0
  /-- samples of P, newest first: 1000 x mW; 07 R201; none until activation -/
  samples : List Int := []
  /-- TRAY_P: 32 bits; 02 R51, 07 R201; 0 -/
  trayP : Int := 0
  /-- highest W2 since the previous seal, mW: exact; 07 R201; 0 -/
  w2Peak : Rat := 0
  /-- A100, mW: exact; 07 R201; 0 -/
  a100 : Rat := 0
  /-- allowance X of the previous period: mW; 07 R202 R211; 0 -/
  x : Int := 0
  /-- P_MEAS of each accelerator, mW: 32 bits; 03 R69, 02 R52; 0 -/
  pMeas : Vector Int 8 := Vector.replicate 8 0
  /-- a reading completed since the last evaluation: 8 bits; 07 R198; 0 -/
  gotP : Vector Bool 8 := Vector.replicate 8 false
  /-- periods without a reading: 07 R198; 0 -/
  staleP : Vector Nat 8 := Vector.replicate 8 0
  /-- core-rail power of each accelerator, mW: 07 R198; 0 -/
  pCore : Vector Int 8 := Vector.replicate 8 0
  /-- an AVSBus read completed since the last evaluation: 8 bits; 07 R198; 0 -/
  gotA : Vector Bool 8 := Vector.replicate 8 false
  /-- periods without an AVSBus read: 07 R200; 0 -/
  staleA : Vector Nat 8 := Vector.replicate 8 0
  /-- difference kept for the substitute, mW: 07 R198; 0 -/
  delta : Vector Int 8 := Vector.replicate 8 0
  /-- bulk reading, mW: 07 R199; 0 -/
  bulk : Int := 0
  /-- bulk reading completed since the last evaluation: 1 bit; 07 R199; 0 -/
  gotT : Bool := false
  /-- periods without a bulk reading: 07 R199; 0 -/
  staleT : Nat := 0
  /-- difference kept for the bulk substitute, mW: 07 R199; 0 -/
  deltaT : Int := 0
  /-- substitution on, accelerators 0-7 then the tray: 9 bits; 07 R198 R199; 0 -/
  subst : Vector Bool 9 := Vector.replicate 9 false
  /-- consecutive periods in which P could not be formed: 07 R200; 0 -/
  blindRun : Nat := 0
  /-- consecutive periods in which P was formed: 07 R200; 0 -/
  formedRun : Nat := 0
  /-- throttle episode: 1 bit; 07 R210; 0 -/
  episode : Bool := false
  /-- consecutive periods at theta 64: 07 R210; 0 -/
  fullRun : Nat := 0
  /-- k_ref: 8 x 4 bits; 07 R210; 15 -/
  kRef : Vector Nat 8 := Vector.replicate 8 15
  /-- ceilings of the last 100 periods, newest first: 07 R210; none -/
  kHist : Vector (List Nat) 8 := Vector.replicate 8 []
  /-- K_brim: 8 x 4 bits; 07 R210, 06 R178; 15 -/
  kBrim : Vector Nat 8 := Vector.replicate 8 15
  /-- consecutive periods with P at or below U - TOL: 07 R211; 0 -/
  calmRun : Nat := 0
  /-- ramp-shortfall episode: 1 bit; 07 R208; 0 -/
  shortEp : Bool := false
  /-- largest shortfall step of the generation, mW: 32 bits; 07 R220; 0 -/
  shortW : Int := 0
  /-- ramp shortfall in this generation: 1 bit; 07 R220; 0 -/
  shortGen : Bool := false
  /-- theta below 64 in this generation: 1 bit; 07 R220; 0 -/
  thetaGen : Bool := false
  /-- consecutive periods with B = 0 in QUIESCE: 07 R217; 0 -/
  zeroRun : Nat := 0
  /-- P_MEAS - P_BALLAST of the last 2 ms with the ticks of the readings, newest first, mW: 06 R161; none -/
  workHist : Vector (List (Nat × Int)) 8 := Vector.replicate 8 []
  /-- TRAY_P - sum of P_MEAS of the last 100 periods, newest first, mW: 06 R166; none -/
  ohHist : List Int := []
deriving DecidableEq, Repr

/-- The increments of one good activity frame over the frame before it (08 R223 to R226). -/
structure FrameInc where
  stamp : Nat
  dtNs : Nat
  avail : Nat
  counters : List (List Nat)
  epochs : List Bool
  discard : Bool
deriving DecidableEq, Repr

/-- A ledger slot (08 R237 to R242). -/
structure LdgSlot where
  /-- LDG_JOB[s]: 64 bits; 08 R243; 0 -/
  job : BitVec 64 := 0
  /-- the binding is in force for attribution: 1 bit; 08 R238; 0 -/
  inForce : Bool := false
  /-- closed, its record not written yet: 1 bit; 08 R240; 0 -/
  closing : Bool := false
  /-- EPOCH_CLOSE: 1 bit; 08 R239; 0 -/
  epochClose : Bool := false
  /-- BIND_TICK: 64 bits; 08 R242; 0 -/
  bindTick : Nat := 0
  /-- FIRST_INTERVAL: 64 bits; 08 R242; 0 -/
  first : Nat := 0
  /-- energy since the bind, uJ (ENERGY_MJ and REM_UJ): 08 R242; 0 -/
  energy : Nat := 0
  /-- FLAGS: 32 bits; 08 R242; 0 -/
  flags : Nat := 0
  /-- interval of the last binding change: 64 bits; 08 R237; none -/
  change : Option Nat := none
deriving DecidableEq, Repr

/-- Energy of one context under one binding within an interval, set apart when the binding changes (08 R238). -/
structure LdgSeg where
  ctx : Fin 49
  job : BitVec 64
  fJ : Rat
  held : Rat
  /-- interval of the close, when this is a closed binding. -/
  closed : Option Nat
deriving DecidableEq, Repr

/-- A binding change that waits for its step (08 R238). -/
structure LdgChange where
  acc : Acc
  ctx : Fin 48
  bind : Bool
  at_ : Nat
deriving DecidableEq, Repr

/-- The Ledger of one accelerator (08). -/
structure LdgAcc where
  /-- frames since the last step: 08 R223; none -/
  pend : List FrameInc := []
  /-- tick of the step that took the latest good frame: 64 bits; 08 R226; none -/
  lastStep : Option Nat := none
  /-- modelled energy of contexts 0-47 and of the ballast context in the interval, fJ: exact; 08 R227; 0 -/
  eCtx : Vector Rat 49 := Vector.replicate 49 0
  /-- engine time held by each context in the interval: exact; 08 R234; 0 -/
  held : Vector Rat 49 := Vector.replicate 49 0
  /-- AVAIL of the interval: 08 R234; 0 -/
  avail : Nat := 0
  /-- unheld energy of the interval, fJ: exact; 08 R227; 0 -/
  unheld : Rat := 0
  /-- STEPS: 16 bits; 08 R242; 0 -/
  steps : Nat := 0
  /-- IFLAGS collected in the interval: 10 bits; 08 R242; 0 -/
  flags : BitVec 10 := 0
  /-- measured energy of the interval with the carry, 0.1 uJ: 08 R230; 0 -/
  meas : Int := 0
  /-- energy set apart at binding changes: 08 R238; none -/
  segs : List LdgSeg := []
  /-- LDG_STATUS.STATE_n: 2 bits; 08 R243; 0 -/
  state : Nat := 0
  /-- run toward UNCALIBRATED: 08 R232; 0 -/
  runUncal : Nat := 0
  /-- run toward MODEL_FAULT: 08 R232; 0 -/
  runFault : Nat := 0
  /-- run out of MODEL_FAULT: 08 R232; 0 -/
  runBack : Nat := 0
  /-- run back to calibrated: 08 R232; 0 -/
  runCal : Nat := 0
  /-- OPP_EFF and BAND at the last step: 4 and 3 bits; 08 R242; 0 -/
  opp : Nat := 0
  /-- BAND at the last step: 3 bits; 08 R242; 0 -/
  band : Nat := 0
deriving DecidableEq, Repr

/-- The accelerator entry of an interval record (08 R242). -/
structure IntervalAcc where
  eMeas : Int
  eMod : Rat
  eBal : Int
  eOvh : Int
  eUnbound : Int
  k : Rat
  d : Option Rat
  state : Nat
  flags : BitVec 10
  opp : Nat
  band : Nat
  steps : Nat
deriving DecidableEq, Repr

/-- An interval record (08 R242). Lists are by slot. -/
structure IntervalRec where
  number : Nat
  trayE : Int
  trayOvh : Int
  tflags : Nat
  accs : List IntervalAcc
  slotUj : List Nat
  share : List Rat
deriving DecidableEq, Repr

/-- A closed-job record (08 R242). -/
structure ClosedJob where
  number : Nat
  job : BitVec 64
  energy : Nat
  bindTick : Nat
  closeInterval : Nat
  slot : Nat
  flags : Nat
  first : Nat
deriving DecidableEq, Repr

/-- The Ledger (08). -/
structure LdgState where
  /-- accelerators 0-7: see LdgAcc; 08 R243; reset there -/
  acc : Vector LdgAcc 8 := Vector.replicate 8 {}
  /-- slots 0-383, by accelerator and context: see LdgSlot; 08 R241; reset there -/
  slot : Vector (Vector LdgSlot 48) 8 := Vector.replicate 8 (Vector.replicate 48 {})
  /-- slots 0-383 as the latest posting wrote them to the window: 08 R242; as slot -/
  posted : Vector (Vector LdgSlot 48) 8 := Vector.replicate 8 (Vector.replicate 48 {})
  /-- binding changes that wait for their step: 08 R238; none -/
  changes : List LdgChange := []
  /-- LDG_STATUS.INCONSISTENT_SEEN: 1 bit; 08 R243; 0 -/
  inconsistent : Bool := false
  /-- LDG_CFG: 32 bits; 08 R243; HOLD 10, FAULT_PCT 40, UNCAL_PCT 15 -/
  cfg : Word := 0x000A280F
  /-- LDG_CFG of the next interval: 08 R243; none -/
  nextCfg : Option Word := none
  /-- LDG_COEF of each bin in offset order: 3 x 800 x 32 bits; 08 R243; from the configuration store, else none -/
  coef : Vector (Option (List Word)) 3 := Vector.replicate 3 none
  /-- LDG_COEF of the next interval: 08 R229; none -/
  nextCoef : Vector (Option (List Word)) 3 := Vector.replicate 3 none
  /-- LDG_INTERVAL: 64 bits; 08 R243; 0 -/
  last : Nat := 0
  /-- accounts OVH 0-7, BAL 8-15, UNBOUND 16-23, TRAY_OVH 24, uJ: 08 R241; 0 -/
  account : Vector Int 25 := Vector.replicate 25 0
  /-- flags of each account: 32 bits; 08 R242; 0 -/
  accountFlags : Vector Nat 25 := Vector.replicate 25 0
  /-- tray energy of the interval with the carry, 0.1 uJ: 08 R236; 0 -/
  trayMeas : Int := 0
  /-- TFLAGS collected in the interval: 2 bits; 08 R242; 0 -/
  tflags : Nat := 0
  /-- interval ring, newest first: 16,384 records; 08 R241; none -/
  ring : List IntervalRec := []
  /-- closed-job ring, newest first: 1,048,576 records; 08 R241; none -/
  closed : List ClosedJob := []
  /-- CJ_LAST: 64 bits; 08 R242; 0 -/
  cjLast : Nat := 0
deriving DecidableEq, Repr

/-- A prediction in watts with its completion tick and horizon (09 R277). -/
structure PowerPred where
  tick : Nat
  horizon : Nat
  watts : Rat
deriving DecidableEq, Repr

/-- Work of the array (09 R272): a slot's run or the reference job. -/
inductive FrdWork where
  | slot (x : Fin 4)
  | refs
deriving DecidableEq, Repr

/-- A run of a slot in progress: the capture it latched is the newest of the slot's captures (09 R271). -/
structure FrondRun where
  launch : Nat
  staleIn : Bool
  /-- frond.run that waits for it. -/
  reply : Option Reply
deriving DecidableEq, Repr

/-- One model slot (09 R264, R281). -/
structure FrdSlot where
  /-- FRD_SLOT.STATE: 0 empty, 1 verifying, 2 ready, 3 reloading; 09 R281; 0 -/
  state : Nat := 0
  /-- FRD_SLOT.REJECT: 4 bits; 09 R281; 0 -/
  reject : Nat := 0
  /-- resident container: 32 MiB; 09 R264; none -/
  model : Option (List Byte) := none
  /-- container that takes over at the next launch: 09 R267; none -/
  next : Option (List Byte) := none
  /-- FRD_BOUND.BOUND_G4: 16 bits; 09 R281; 0 -/
  boundG4 : Nat := 0
  /-- FRD_BOUND.BOUND_OWN: 16 bits; 09 R281; 0 -/
  boundOwn : Nat := 0
  /-- FRD_COUNT.SKIPS: 16 bits, saturating; 09 R281; 0 -/
  skips : Nat := 0
  /-- FRD_COUNT.ABORTS: 16 bits, saturating; 09 R281; 0 -/
  aborts : Nat := 0
  /-- captures since the last state reset, newest first: 16 vectors; 09 R254; none -/
  captures : List (List Rat) := []
  /-- leaky-integrator state by layer: FP32; 09 R260; +0 -/
  leaky : List (List Rat) := []
  /-- run in progress: 09 R272; none -/
  run : Option FrondRun := none
  /-- frond.run commands that wait for the run in progress: 15 R461; none -/
  queue : List (Reply × Bool) := []
  /-- outputs of the latest run, in output-map order: destination, unit, value; 09 R277; none -/
  outs : List (Nat × Nat × Rat) := []
  /-- DONE_TICK: 64 bits; 09 R282; 0 -/
  doneTick : Nat := 0
  /-- STALE_IN of the latest run: 1 bit; 09 R282; 0 -/
  staleIn : Bool := false
  /-- OUT_CLAMP of the latest run: 1 bit; 09 R282; 0 -/
  clamped : Bool := false
  /-- skip in this generation: 1 bit; 09 R282; 0 -/
  skipGen : Bool := false
  /-- abort in this generation: 1 bit; 09 R282; 0 -/
  abortGen : Bool := false
  /-- RUNS of this generation: 16 bits; 09 R282; 0 -/
  runsGen : Nat := 0
  /-- staging area of the slot: 32 MiB; 15 R459, 01 R29; empty -/
  staged : List Byte := []
  /-- TOTAL of the staged container: 32 bits; 15 R459; 0 -/
  total : Nat := 0
  /-- unload to do after the run in progress, by its reason: 09 R267 R278; none -/
  afterUnload : Option Nat := none
  /-- state reset to do after the run in progress: 1 bit; 09 R278; 0 -/
  afterReset : Bool := false
  /-- latest activity of each accelerator at the previous launch, for the activity-rate source of the input sources table: 09 R271; none -/
  prevAct : Vector (Option Activity) 8 := Vector.replicate 8 none
  /-- container accepted with PERSIST, not in flash yet: 15 R460; none -/
  persist : Option (List Byte) := none
deriving DecidableEq, Repr

/-- Frond (09 R281). -/
structure FrdState where
  /-- slots 0-3: see FrdSlot; 09 R281; reset there -/
  slot : Vector FrdSlot 4 := Vector.replicate 4 {}
  /-- FRD_STATUS.UE_SEEN: 1 bit; 09 R281; 0 -/
  ueSeen : Bool := false
  /-- FRD_SCHED: 32 bits; 09 R281; OFFSET 60, 70, 80, 90 -/
  sched : Word := 0x5A50463C
  /-- FRD_SCHED offsets staged for the next launch of each slot: 4 x 8 bits; 09 R281; none -/
  nextOffset : Vector (Option Nat) 4 := Vector.replicate 4 none
  /-- work whose part is in progress: 09 R272; none -/
  cur : Option FrdWork := none
  /-- FRD_REF.BUSY: 1 bit; 09 R281; 0 -/
  refBusy : Bool := false
  /-- FRD_REF.ABORTED: 1 bit; 09 R281; 0 -/
  refAborted : Bool := false
  /-- the present reference job was resubmitted after an error: 1 bit; 09 R280 R283; 0 -/
  refAgain : Bool := false
  /-- FRD_REF.DONE: 18 bits; 09 R281; 0 -/
  refDone : Nat := 0
  /-- engines in the present reference job: 18 bits; 09 R279; 0 -/
  refTotal : Nat := 0
  /-- P_PRED of each accelerator: 09 R277; none -/
  pPred : Vector (Option PowerPred) 8 := Vector.replicate 8 none
  /-- TJ_PRED of each accelerator, with its completion tick: 16 bits; 09 R282; 0x8000 -/
  tjPred : Vector (Option (Nat × Rat)) 8 := Vector.replicate 8 none
  /-- coolant outlet prediction, with its completion tick: 16 bits; 09 R282; 0x8000 -/
  coolPred : Option (Nat × Rat) := none
deriving DecidableEq, Repr

/-- A record of an intake queue: where it starts, its descriptor fields and its padded body (10 R300). -/
structure QRec where
  pos : Nat
  ftype : Nat
  ver : Byte
  len : Nat
  fseq : BitVec 16
  flags : Nat
  stamp : Nat
  body : List Byte
deriving DecidableEq, Repr

/-- A COMMIT word sent and not echoed yet (10 R295, R297). -/
structure CommitSent where
  seq : BitVec 16
  opp : Nat
deriving DecidableEq, Repr

/-- One Sorus link with its intake queue and downstream words (10). -/
structure LinkState where
  /-- SRS_LINK[n].STATE: 0 idle, 1 training, 2 up, 3 failed; 10 R310; 0 -/
  state : Nat := 0
  /-- SRS_LINK[n].UP_LOCK: 1 bit; 10 R310; 0 -/
  upLock : Bool := false
  /-- SRS_LINK[n].PAUSED: 1 bit; 10 R310; 0 -/
  paused : Bool := false
  /-- SRS_LINK[n].DS_LOST: 1 bit; 10 R310; 1 -/
  dsLost : Bool := true
  /-- SRS_LINK[n].VER, and the whole VER of the latest good frame: 8 bits; 10 R294 R310; 0 -/
  ver : Byte := 0
  /-- a good frame has been received, so that VER has a value: 1 bit; 10 R294; 0 -/
  verSeen : Bool := false
  /-- SRS_LINK[n].PRESET: 4 bits; 10 R310; 0 -/
  preset : Nat := 0
  /-- tick of the last preset change: 64 bits; 10 R309; none -/
  presetTick : Option Nat := none
  /-- SRS_W[n], WRAP and OFFSET as one 17-bit pointer; 10 R310; 0 -/
  w : Nat := 0
  /-- SRS_RF[n], WRAP and OFFSET as one 17-bit pointer; 10 R310; 0 -/
  rf : Nat := 0
  /-- SRS_ERR[n].CRC_ERR: 16 bits, saturating; 10 R310; 0 -/
  crcErr : Nat := 0
  /-- SRS_ERR[n].FMT_ERR: 16 bits, saturating; 10 R310; 0 -/
  fmtErr : Nat := 0
  /-- SRS_LOSS[n].OVERFLOW: 16 bits, saturating; 10 R310; 0 -/
  overflow : Nat := 0
  /-- SRS_LOSS[n].SEQ_GAP: 16 bits, saturating; 10 R310; 0 -/
  seqGap : Nat := 0
  /-- SRS_MISC[n].UNDERRUN: 16 bits, saturating; 10 R310; 0 -/
  underrun : Nat := 0
  /-- SRS_MISC[n].FLUSHED: 8 bits, saturating; 10 R310; 0 -/
  flushed : Nat := 0
  /-- SRS_MISC[n].PTR_RESETS: 8 bits, saturating; 10 R310; 0 -/
  ptrResets : Nat := 0
  /-- SRS_AGE[n].AGE: 16 bits, saturating; 10 R310; 0xFFFF -/
  age : Nat := 0xFFFF
  /-- records from RF to W, oldest first: 64 KiB; 10 R300; empty -/
  queue : List QRec := []
  /-- FRAME_NS of the last good activity frame: 64 bits; 10 R288 R291; none -/
  lastNs : Option Nat := none
  /-- latest good activity frame: 10 R302; none -/
  last : Option Activity := none
  /-- stamp of that frame: 64 bits; 10 R301; none -/
  lastStamp : Option Nat := none
  /-- latest good activity frame stamped before lastStamp: 10 R301; none -/
  older : Option Activity := none
  /-- AGE before the frames of tick lastStamp: 16 bits; 10 R301; 0xFFFF -/
  ageBefore : Nat := 0xFFFF
  /-- OPP_EFF before the frames of tick lastStamp: 4 bits; 10 R301; 0 -/
  oppBefore : Nat := 0
  /-- TJ_MAX before the frames of tick lastStamp: 16 bits, signed; 10 R301; 0 -/
  tjBefore : Int := 0
  /-- FSEQ expected next: 16 bits; 10 R304; none -/
  expect : Option (BitVec 16) := none
  /-- frames discarded since the last published one: 10 R304; 0 -/
  discarded : Nat := 0
  /-- the channel has entered S0, so that the next training flushes the queue: 1 bit; 10 R306; 0 -/
  flushDue : Bool := false
  /-- tick of the last good frame of any type: 64 bits; 10 R299; none -/
  lastGood : Option Nat := none
  /-- overflow episode: 1 bit; 10 R304; 0 -/
  ovfEp : Bool := false
  /-- activity frames published since the last seal in ticks before framesTick: 02 R52 FRAMES, 10 R301; 0 -/
  frames : Nat := 0
  /-- tick of the latest of them: 64 bits; 10 R301; 0 -/
  framesTick : Nat := 0
  /-- activity frames stamped framesTick: 10 R301; 0 -/
  framesAt : Nat := 0
  /-- frames discarded since the last seal: 16 bits, saturating; 10 R311; 0 -/
  badFrames : Nat := 0
  /-- trainings failed in a row: 10 R286; 0 -/
  tries : Nat := 0
  /-- tick of the start of training, or of its last failure: 64 bits; 10 R286; 0 -/
  trainTick : Nat := 0
  /-- first FRAME_NS and DS_ERR of the span without error: 10 R299; none -/
  span : Option (Nat × BitVec 16) := none
  /-- DS_LOCK of the first good activity frame since training started: 1 bit; 10 R286; none -/
  firstLock : Option Bool := none
  /-- words that wait for a block boundary, oldest first: class in the order of 10 R296, and the word; none -/
  waiting : List (Nat × List Byte) := []
  /-- downstream block lock by the latest good frame or event: 1 bit; 10 R299; 0 -/
  dsLock : Bool := false
  /-- ENV_SEQ last sent: 16 bits; 10 R295; 0 DESIGN CHOICE (log 1) -/
  envSeq : BitVec 16 := 0
  /-- COMMIT_SEQ last sent: 16 bits; 10 R295; 0 DESIGN CHOICE (log 1) -/
  commitSeq : BitVec 16 := 0
  /-- PARK_SEQ last sent: 16 bits; 10 R295; 0 DESIGN CHOICE (log 1) -/
  parkSeq : BitVec 16 := 0
  /-- park word in force: 1 bit; 10 R298; none before the first -/
  parkOn : Option Bool := none
  /-- OPP of the present COMMIT values: 4 bits; 10 R298; 0 -/
  cOpp : Nat := 0
  /-- duty quota of the present COMMIT values: 1-16; 10 R298; 16 -/
  cQuota : Nat := 16
  /-- 256 FMAX words as last sent, four fmax values each: 10 R295; none -/
  fmaxSent : List Nat := []
  /-- COMMIT words sent and not echoed, newest first: 10 R297 R298; none -/
  commits : List CommitSent := []
  /-- steering loops since the last echo reached the last COMMIT_SEQ: 10 R298; 0 -/
  noEcho : Nat := 0
  /-- PARKED as a good activity frame or PARK_DONE last reported it: 1 bit; 10 R292 R298; none -/
  parkedSeen : Option Bool := none
  /-- log of MEM_ECC reports, newest first: tick, site and count; 10 R292; none -/
  eccLog : List (Nat × Nat × Nat) := []
deriving DecidableEq, Repr

/-- Sorus (10). -/
structure SrsState where
  /-- SRS_CFG: 32 bits; 10 R310; PAUSE 48, RESUME 32, LINK_LOST_MS 10 -/
  cfg : Word := 0x0030200A
  /-- SRS_EQ: 32 bits; 10 R310; TRAIN_PRESET 2, presets 0 to 4 -/
  eq : Word := 0x00243210
  /-- staged SRS_CFG and SRS_EQ: 10 R310, 01 R24; none -/
  staged : Option (Word × Word) := none
  /-- SRS_VER: 32 bits; 10 R310; Firmware, DESIGN CHOICE N = 1, N - 1 = 0 (log 1) -/
  ver : Word := 0x0100
  /-- words are being formed at one instant: 1 bit; 10 R296; 0 -/
  forming : Bool := false
  /-- links 0-7: see LinkState; 10 R310; reset there -/
  link : Vector LinkState 8 := Vector.replicate 8 {}
deriving DecidableEq, Repr

/-- The masks of an accelerator in the layout of DEFECT_FUSE (11 R321). -/
structure Masks where
  die : BitVec 2 := 0
  hbm : BitVec 8 := 0
  cluster : BitVec 64 := 0
  core : BitVec 1024 := 0
  engine : BitVec 16384 := 0
deriving DecidableEq, Repr

/-- A floor-plan record (11 R339). -/
structure FloorPlan where
  status : Nat := 2
  bin : Nat := 0
  binFuse : Nat := 0
  serial : BitVec 64 := 0
  runId : Nat := 0
  testMode : Nat := 0
  mask : Masks := {}
  dimm : BitVec 8 := 0
  xnet : BitVec 4 := 0
  untested : Nat := 0
deriving DecidableEq, Repr

/-- A known-answer run in progress on an accelerator (11 R328 to R330). -/
structure TestRun where
  runId : Nat
  seed : BitVec 64
  fixed : Bool
  /-- 1 or 2 (11 R330). -/
  attempt : Nat
  start : Nat
  /-- the accelerator has shown that the run started. -/
  seen : Bool
  /-- an activity frame of this run has shown TEST_RUNNING 1 (11 R328). -/
  ran : Bool := false
  done : Bool
  resends : Nat
  /-- engines whose checksums were compared, and those that failed with their formats. -/
  got : BitVec 16384
  failed : List (Fin 16384 × Nat)
  /-- results that wait for their references. -/
  waiting : List EngineResult
  /-- control failures: kind 2 core, 3 cluster, 4 die, and the index. -/
  control : List (Nat × Nat)
deriving DecidableEq, Repr

/-- Bring-up of one accelerator (11). -/
structure BupAcc where
  /-- BUP_ACC[n].STAGE: 4 bits; 11 R344; 0 -/
  stage : Nat := 0
  /-- BUP_ACC[n].ATTEMPT: 4 bits; 11 R344; 0 -/
  attempt : Nat := 0
  /-- BUP_ACC[n].TRAIN_MODE: 4 bits; 11 R344; 0 -/
  trainMode : Nat := 0
  /-- BUP_ACC[n].TEST_MODE: 4 bits; 11 R344; 0 -/
  testMode : Nat := 0
  /-- BUP_COUNT[n].UNUSABLE: 16 bits; 11 R344; 0 -/
  unusable : Nat := 0
  /-- BUP_COUNT[n].NEW_FAIL: 16 bits; 11 R344; 0 -/
  newFail : Nat := 0
  /-- tick of entry to S9 or of the boot retry: 64 bits; 11 R315; 0 -/
  bootTick : Nat := 0
  /-- BOOT_COMPLETE has arrived in this S9: 1 bit; 11 R315, 04 R86; 0 -/
  booted : Bool := false
  /-- band at entry to S9: 3 bits; 11 R317; 0 -/
  bootBand : Nat := 0
  /-- tick of entry to S10: 64 bits; 11 R318; 0 -/
  trainTick : Nat := 0
  /-- training under way: 1 bit; 11 R316; 0 -/
  training : Bool := false
  /-- results of the 20 items (ports 0-3, stacks 0-7, channels 0-7); 11 R316; none -/
  items : Vector (Option Nat) 20 := Vector.replicate 20 none
  /-- the settings record found was written to the mailbox: 1 bit; 11 R317; 0 -/
  savedUsed : Bool := false
  /-- known-answer run: 11 R328; none -/
  run : Option TestRun := none
  /-- engines submitted to the reference job, not done yet: 1 bit; 11 R323; 0 -/
  refWait : Bool := false
  /-- place of its first engine in the reference job: 18 bits; 11 R323, 09 R280; 0 -/
  refBase : Nat := 0
  /-- references of the present run computed: 1 bit; 11 R329; 0 -/
  refReady : Bool := false
  /-- standing mask: 11 R322; none -/
  standing : Masks := {}
  /-- closed mask of the latest merge: 11 R333; none -/
  closed : Masks := {}
  /-- merged, waiting for publication: 1 bit; 11 R340; 0 -/
  merged : Bool := false
  /-- run of the latest merge: 32 bits; 11 R339; 0 -/
  mergedRun : Nat := 0
  /-- UNTESTED of the latest merge: 16 bits; 11 R339; 0 -/
  untested : Nat := 0
  /-- declared failed for compute: 1 bit; 11 R338; 0 -/
  failed : Bool := false
  /-- BOOT_FAILED took the channel down, until the partition is powered up again: 1 bit; 11 R315; 0 -/
  bootFailed : Bool := false
  /-- bup.test or a partition power-up in rack state 8 runs: 1 bit; 11 R340 R341; 0 -/
  solo : Bool := false
  /-- run and seed drawn for the next S11: 11 R323 R341; none -/
  drawn : Option (Nat × BitVec 64) := none
  /-- the settings record of this S9 waits for a free main bus: 1 bit; 11 R316, 13 R401; 0 -/
  boxDue : Bool := false
  /-- abandoned under 11 R342, waiting for publication: 1 bit; 11 R342; 0 -/
  dropped : Bool := false
  /-- trial slot whose boot attempts run: 1 bit; 16 R499; none -/
  trialSlot : Option Nat := none
  /-- floor-plan record in force: 2,240 B; 11 R339; STATUS 2, the rest 0, DESIGN CHOICE (log 1) -/
  plan : FloorPlan := {}
deriving DecidableEq, Repr

/-- Bring-up (11). -/
structure BupState where
  /-- BUP_STATUS.JOURNAL_FULL: 1 bit; 11 R344; 0 -/
  journalFull : Bool := false
  /-- BUP_STATUS.BAD_SEEN: 1 bit; 11 R344; 0 -/
  badSeen : Bool := false
  /-- BUP_JOURNAL.BAD: 16 bits, saturating; 11 R344; 0 -/
  bad : Nat := 0
  /-- BUP_CFG: 32 bits; 11 R344; BOOT_MS 200, TEST_MS 20, RESENDS 3, FAST_TRAIN 1 -/
  cfg : Word := 0x0C814301
  /-- BUP_FP_VER: 32 bits; 11 R344; 0 -/
  fpVer : Nat := 0
  /-- READY_TICK: 64 bits; 11 R345; 0 -/
  readyTick : Nat := 0
  /-- RUN_SEED of the present run: 64 bits; 11 R323; 0 DESIGN CHOICE (log 1) -/
  seed : BitVec 64 := 0
  /-- a run has been drawn in the present rack state 6 or 7: 1 bit; 11 R323; 0 -/
  drawn : Bool := false
  /-- RUN_ID of the present tray run: 32 bits; 11 R323; 0 -/
  runId : Nat := 0
  /-- accelerators 0-7: see BupAcc; 11 R344; reset there -/
  acc : Vector BupAcc 8 := Vector.replicate 8 {}
deriving DecidableEq, Repr

/-- A tach input: falling edges, two a revolution (12 R355). -/
structure Tach where
  /-- tick of the latest falling edge, none since the kick began: 64 bits; 12 R359 R363; none -/
  edge : Option Nat := none
  /-- edges since the kick began, up to two: 12 R358; 0 -/
  edges : Nat := 0
  /-- latest tick in which no edge was due, the output below its limit or not running: 64 bits; 12 R359 R363; 0 -/
  idleTick : Nat := 0
  /-- tick since which the rate is below 1,000 rpm: 64 bits; 12 R359; none -/
  slowSince : Option Nat := none
  /-- first of a run of edges with no second without one: 64 bits; 12 R359; none -/
  runSince : Option Nat := none
deriving DecidableEq, Repr

/-- A fan output (12 R355 to R360). -/
structure FanState where
  /-- COOL_FAN[f].STATE: 0 off, 1 kick, 2 running, 3 stalled, 4 tach fault, 5 unused; 12 R380; 0 -/
  state : Nat := 0
  /-- COOL_FAN[f].DUTY in percent: exact; 12 R380; 0 -/
  duty : Rat := 0
  /-- COOL_FAN[f].RPM: 16 bits; 12 R380; 0 -/
  rpm : Nat := 0
  /-- tick at which the last kick began, or the stall was declared: 64 bits; 12 R358 R360; 0 -/
  tick : Nat := 0
  /-- stalled, also while it is kicked again: 1 bit; 12 R359 R360; 0 -/
  stalled : Bool := false
  /-- the tach input: see Tach; 12 R355; reset there -/
  tach : Tach := {}
deriving DecidableEq, Repr

/-- A pump (12 R361 to R363). -/
structure PumpState where
  /-- COOL_PUMP[p].STATE: 0 off, 1 kick, 2 active, 3 standby, 4 failed, 5 loop unused; 12 R380; 0 -/
  state : Nat := 0
  /-- COOL_PUMP[p].DUTY in percent: exact; 12 R380; 0 -/
  duty : Rat := 0
  /-- COOL_PUMP[p].RPM: 16 bits; 12 R380; 0 -/
  rpm : Nat := 0
  /-- tick at which the last kick began: 64 bits; 12 R362; 0 -/
  tick : Nat := 0
  /-- the tach input: see Tach; 12 R355; reset there -/
  tach : Tach := {}
deriving DecidableEq, Repr

/-- A coolant loop (12 R361 to R365). -/
structure LoopState where
  /-- COOL_LOOP[l]: 32 bits; 12 R380; USED from the configuration store, else 0; FLOW_MIN 60, PRESS_LOW 10 -/
  cfg : Word := 0x00003C0A
  /-- tick since which every flow sample is low or out of range: 64 bits; 12 R363; none -/
  lowSince : Option Nat := none
  /-- tick of the latest low flow sample: 64 bits; 12 R363; 0 -/
  lowLast : Nat := 0
  /-- tick since which every flow sample is at least FLOW_MIN: 64 bits; 12 R364 R366; none -/
  okSince : Option Nat := none
  /-- tick of a switch-over whose flow is not restored: 64 bits; 12 R364; none -/
  switched : Option Nat := none
  /-- FLOW_LOST hold: 1 bit; 12 R364; 0 -/
  lost : Bool := false
  /-- tick since which inlet pressure is low: 64 bits; 12 R365; none -/
  pressSince : Option Nat := none
  /-- inlet pressure flagged low: 1 bit; 12 R365; 0 -/
  pressLow : Bool := false
deriving DecidableEq, Repr

/-- A thermistor (12 R347, R373). -/
structure ThmState where
  /-- COOL_THM_MAP[i]: 32 bits; 12 R380; TABLE 1, ROLE 0 (1 for 0, 1, 12), FANS 0xFFFF -/
  map : Word := 0x0004FFFF
  /-- latest sample, 0.1 mV: 12 R347; none until sampled, TEMP reads 0 -/
  v : Option Nat := none
  /-- tick since which every sample is out of range: 64 bits; 12 R373; none -/
  outSince : Option Nat := none
  /-- tick since which every sample is in range: 64 bits; 12 R373; none -/
  inSince : Option Nat := none
  /-- consecutive in-range samples, up to 16: 12 R373; 16 DEDUCED, nothing has been out of range -/
  inRun : Nat := 16
  /-- declared failed: 1 bit; 12 R373; 0 -/
  failed : Bool := false
deriving DecidableEq, Repr

/-- A leak channel (12 R374). -/
structure LeakState where
  /-- COOL_LEAK[c].USED: 1 bit; 12 R380; configuration store, else 1 -/
  used : Bool := true
  /-- COOL_LEAK[c].RES: 12 bits; 12 R380; 0 -/
  res : Nat := 0
  /-- COOL_LEAK[c].WET_LATCH: 1 bit; 12 R380; 0 -/
  latch : Bool := false
  /-- last reading: 0 dry, 1 wet, 2 open; 12 R374; 0 -/
  reading : Nat := 0
  /-- consecutive wet evaluations: 12 R374; 0 -/
  wetRun : Nat := 0
  /-- consecutive open evaluations: 12 R374; 0 -/
  openRun : Nat := 0
  /-- consecutive dry evaluations: 12 R374 R378; 0 -/
  dryRun : Nat := 0
  /-- channel failed: 1 bit; 12 R374; 0 -/
  failed : Bool := false
  /-- LEAK_WET confirmed in the present wet run: 1 bit; 12 R374; 0 -/
  confirmed : Bool := false
deriving DecidableEq, Repr

/-- Temperatures and band of one accelerator (12 R349 to R353). Temperatures in 1/16 degrees C. -/
structure BandState where
  /-- BAND: 3 bits; 12 R349 R350; B2 -/
  band : Nat := 2
  /-- TJ_MAX of the latest good frame: 16 bits, signed; 12 R349; 0 DESIGN CHOICE (log 1) -/
  tjMax : Int := 0
  /-- TJ_DIE0: 16 bits, signed; 12 R349; 0 DESIGN CHOICE (log 1) -/
  tjDie0 : Int := 0
  /-- TJ_DIE1: 16 bits, signed; 12 R349; 0 DESIGN CHOICE (log 1) -/
  tjDie1 : Int := 0
  /-- TJ_HBM: 16 bits, signed; 12 R349; 0 DESIGN CHOICE (log 1) -/
  tjHbm : Int := 0
  /-- a good frame has arrived since the channel left S0: 1 bit; 12 R349 R353; 0 -/
  seen : Bool := false
  /-- tick since which every frame allows a fall of one band: 64 bits; 12 R350; none -/
  fallSince : Option Nat := none
  /-- tick of the last SENSOR_FAULT: 64 bits; 12 R353; none -/
  sensorTick : Option Nat := none
  /-- on-die temperatures failed, as recorded: 1 bit; 12 R353; 0 -/
  failed : Bool := false
  /-- tick since which they count as failed: 64 bits; 12 R353; 0 -/
  failTick : Nat := 0
  /-- table maximum of 12 R353 in force: 1 bit; 0 -/
  tableMax : Bool := false
  /-- REFRESH in force, 0 for 1x, 1 for 2x, 2 for 4x: 12 R352; 0 -/
  refresh : Nat := 0
  /-- tick since which the band is at or below B2, as the latest change to it says: 64 bits; 12 R352; 0 -/
  calmSince : Nat := 0
  /-- tick since which the band is at or below B3, as the latest change to it says: 64 bits; 12 R352; 0 -/
  mildSince : Nat := 0
  /-- first tick at which a refresh write may be tried again after a failure: 64 bits; 12 R352; 0 -/
  retryTick : Nat := 0
  /-- a refresh request was written since the channel left S0: 1 bit; 12 R352; 0 -/
  refreshed : Bool := false
deriving DecidableEq, Repr

/-- Cooling (12). -/
structure CoolState where
  /-- COOL_STATUS.SHDN_SEEN: 1 bit; 12 R380; 0 -/
  shdnSeen : Bool := false
  /-- COOL_STATUS.LEAK_SEEN: 1 bit; 12 R380; 0 -/
  leakSeen : Bool := false
  /-- COOL_STATUS.TABLE_CAUSE: 3 bits; 12 R380; 0 -/
  cause : Nat := 0
  /-- COOL_STATUS.TABLE: 1 bit; 12 R380; 0 -/
  table : Bool := false
  /-- tick at which table mode was entered: 64 bits; 12 R368; 0 -/
  tableTick : Nat := 0
  /-- COOL_STATUS.RACKFLT: 1 bit; 12 R380; 0 -/
  rackflt : Bool := false
  /-- COOL_STATUS.ROR_ALARM: 1 bit; 12 R380; 0 -/
  ror : Bool := false
  /-- COOL_STATUS.EST: 1 bit; 12 R380; 0 -/
  est : Bool := false
  /-- COOL_CFG: 32 bits; 12 R380; HB_S 5, SLEW 5, FAN_MIN 20, HYST 6, GRP_MON 0 -/
  cfg : Word := 0x05051460
  /-- COOL_CFG2: 32 bits; 12 R380; COMP 30, OUT_HI 50 -/
  cfg2 : Word := 0x1E32
  /-- COOL_CURVE[b]: 5 x 32 bits; 12 R380; the table there -/
  curve : Vector Word 5 := #v[0x2819, 0x3223, 0x4132, 0x554B, 0x6464]
  /-- COOL_TABLE[r]: 8 x 32 bits; 12 R380; the table there -/
  rows : Vector Word 8 :=
    #v[0x00281E, 0x1E3228, 0x283C37, 0x324B46, 0x3C5A55, 0x416464, 0x466464, 0x4B6464]
  /-- cooling commands that take effect from the next cooling loop, in order: 15 R462; none -/
  staged : List Cmd := []
  /-- COOL_TABLE row set by cool.set_table waits for the next tick: 12 R380; none -/
  nextRows : Option (Vector Word 8) := none
  /-- COOL_FAN_MAP[f]: 16 x 32 bits; 12 R380; NB0 = NB1 = f, USED 1, ACC 0xFF -/
  fanMap : Vector Word 16 := Vector.ofFn fun f => BitVec.ofNat 32 (f.1 * 0x11000000 + 0x1FF)
  /-- fans 0-15: see FanState; 12 R380; reset there -/
  fan : Vector FanState 16 := Vector.replicate 16 {}
  /-- pumps 0-3: see PumpState; 12 R380; reset there -/
  pump : Vector PumpState 4 := Vector.replicate 4 {}
  /-- loops 0-1: see LoopState; 12 R380; ACC 0x0F and 0xF0 -/
  loop : Vector LoopState 2 := #v[{ cfg := 0x000F3C0A }, { cfg := 0x00F03C0A }]
  /-- thermistors 0-23: see ThmState; 12 R380; ROLE 1 for 0, 1 and 12 -/
  thm : Vector ThmState 24 := Vector.ofFn fun i =>
    if i.1 = 0 ∨ i.1 = 1 ∨ i.1 = 12 then { map := 0x0005FFFF } else {}
  /-- leak channels 0-9: see LeakState; 12 R380; reset there -/
  leak : Vector LeakState 10 := Vector.replicate 10 {}
  /-- accelerators 0-7: see BandState; 12 R349; reset there -/
  acc : Vector BandState 8 := Vector.replicate 8 {}
  /-- flow channels 0-1 and pressure channels 2-5: tick since which out of range; 12 R361; none -/
  chanOut : Vector (Option Nat) 6 := Vector.replicate 6 none
  /-- flow and pressure channels declared failed: 6 bits; 12 R361; 0 -/
  chanFailed : Vector Bool 6 := Vector.replicate 6 false
  /-- T_out of the last 100 cooling loops, newest first, degrees C; 12 R354; none -/
  outHist : List (Option Rat) := []
  /-- tick of the last rise above 2 degrees C: 64 bits; 12 R354; 0 -/
  rorTick : Nat := 0
  /-- duties at the entry to table mode, falling, fans 0-15 then pumps 0-3: percent; 12 R369; 0 -/
  entryDuty : Vector Rat 20 := Vector.replicate 20 0
  /-- table mode asked for with cool.set_mode: 1 bit; 12 R368; 0 -/
  hostTable : Bool := false
  /-- tick of the last accepted command, or of the start of the count: 64 bits; 12 R368; 0 -/
  hbTick : Nat := 0
  /-- the heartbeat has timed out and no command has come since: 1 bit; 12 R368; 0 -/
  hbLost : Bool := false
  /-- a cooling loop has completed since the causes ceased: 1 bit; 12 R370; 0 -/
  loopDone : Bool := false
  /-- tick at which the step of T3 completed: 64 bits; 12 R366; 0 -/
  t3Tick : Nat := 0
  /-- COOL_EST with DETAIL 2 was recorded in this T3: 1 bit; 12 R366; 0 -/
  estLate : Bool := false
  /-- fan groups that have been kicked since FAN12 became stable: 0-4; 12 R358; 0 -/
  kicked : Nat := 0
  /-- tick at which FAN12 counted as stable: 64 bits; 12 R358; none -/
  fanTick : Option Nat := none
  /-- pumps stopped by a tray-level leak, until the fault is cleared: 1 bit; 12 R377; 0 -/
  pumpsOff : Bool := false
  /-- CRIT_TEMP confirmed and not cleared: 1 bit; 12 R371; 0 -/
  crit : Bool := false
  /-- tick of the end of the rack state 13 run-down: 64 bits; 12 R367; none -/
  rundown : Option Nat := none
  /-- fan-group currents read every 10 ms with their ticks, newest first, mA: 4 groups; 12 R359; none -/
  groupCur : Vector (List (Nat × Nat)) 4 := Vector.replicate 4 []
deriving DecidableEq, Repr

/-- One two-wire port with, for ports 0-7, its e-fuse bus beside it (13 R412). -/
structure PortState where
  /-- TWB_PORT[p]: 32 bits; 13 R412; ALERT_EN 1, PEC 1, RATE 2 -/
  cfg : Word := 0x602
  /-- TWB_PSTAT[p].EFB_STATE: 3 bits; 13 R412; 0 -/
  efbState : Nat := 0
  /-- TWB_PSTAT[p].SDA_LOW: 1 bit; 13 R412; board input, DESIGN CHOICE 0 (log 1) -/
  sdaLow : Bool := false
  /-- TWB_PSTAT[p].SCL_LOW: 1 bit; 13 R412; board input, DESIGN CHOICE 0 (log 1) -/
  sclLow : Bool := false
  /-- TWB_PSTAT[p].ALERT_MASKED: 1 bit; 13 R412; 0 -/
  alertMasked : Bool := false
  /-- tick at which the alert input was masked: 64 bits; 13 R398; 0 -/
  maskTick : Nat := 0
  /-- TWB_PSTAT[p].ALERT_LINE, and EFB_ALERT_N for the e-fuse bus: 1 bit; 13 R412; board input, DESIGN CHOICE 0 (log 1) -/
  alertLine : Bool := false
  /-- TWB_PSTAT[p].STATE: 3 bits; 13 R412; 0 -/
  state : Nat := 0
  /-- TWB_ERR[p].NACK: 8 bits, saturating; 13 R412; 0 -/
  nack : Nat := 0
  /-- TWB_ERR[p].PEC_ERR: 8 bits, saturating; 13 R412; 0 -/
  pec : Nat := 0
  /-- TWB_ERR[p].TIMEOUTS: 8 bits, saturating; 13 R412; 0 -/
  timeouts : Nat := 0
  /-- TWB_ERR[p].ARB_LOST: 8 bits, saturating; 13 R412; 0 -/
  arbLost : Nat := 0
  /-- TWB_ARB[p]: 32 bits; 13 R412; 0 -/
  arb : Word := 0
  /-- SEG_FAIL[p], the SEG_STUCK episode: 1 bit; 13 R401 R412; 0 -/
  stuck : Bool := false
  /-- SEG_STUCK was recorded with DETAIL 1: 1 bit; 13 R401; 0 -/
  accSide : Bool := false
  /-- tick of the last recovery attempt: 64 bits; 13 R401; 0 -/
  tryTick : Nat := 0
  /-- EFB_FAIL[n] and the tick of the last attempt on the e-fuse bus: 1 and 64 bits; 13 R401 R412; 0 -/
  efbStuck : Bool := false
  /-- tick of the last recovery attempt on the e-fuse bus: 64 bits; 13 R401; 0 -/
  efbTick : Nat := 0
  /-- the next slot B reads STATUS_WORD after an e-fuse alert: 1 bit; 13 R391; 0 -/
  efbAlert : Bool := false
  /-- STATUS_WORD fault of slot B that awaits its repeat: 16 bits; 13 R388; none -/
  repeatOf : Option (BitVec 16) := none
  /-- alert cycles of the present episode: 13 R397 R398; 0 -/
  cycles : Nat := 0
  /-- the latest alert cycle found the Alert Response Address NACKed: 1 bit; 13 R398; 0 -/
  araNack : Bool := false
  /-- ticks in a row with SDA low and SCL high: 13 R399; 0 -/
  sdaRun : Nat := 0
  /-- ticks in a row with SCL low: 13 R399; 0 -/
  sclRun : Nat := 0
  /-- the same of SDA on the e-fuse bus: 13 R399; 0 -/
  efbSdaRun : Nat := 0
  /-- the same of SCL on the e-fuse bus: 13 R399; 0 -/
  efbSclRun : Nat := 0
  /-- last 100 us frame whose slot A has been read: 13 R390; none -/
  frameA : Option Nat := none
  /-- last 100 us frame whose slot B has been read: 13 R390; none -/
  frameB : Option Nat := none
  /-- last 10 ms frame whose burst has been read: 13 R390; none -/
  burst : Option Nat := none
deriving DecidableEq, Repr

/-- The AVSBus port of an accelerator (13 R404 to R407). -/
structure AvsState where
  /-- TWB_AVS[n]: 32 bits; 13 R412; I_LSB 50, RATE 1 -/
  cfg : Word := 0x00320001
  /-- TWB_AVS_ERR[n].CRC_ERR: 16 bits, saturating; 13 R412; 0 -/
  crcErr : Nat := 0
  /-- TWB_AVS_ERR[n].NO_RESP: 16 bits, saturating; 13 R412; 0 -/
  noResp : Nat := 0
  /-- frames in a row without response on both rails: 13 R407; 0 -/
  noRun : Nat := 0
  /-- AVS_NO_RESP in force: 1 bit; 13 R407 R417; 0 -/
  failed : Bool := false
  /-- set-point of CORE0 and CORE1 last written, mV, with the attempts made while its response is awaited; 13 R405; none -/
  pend : Vector (Option (Nat × Nat)) 2 := Vector.replicate 2 none
  /-- set-point in force of CORE0 and CORE1 with margin, mV: 03 R78; 0 DESIGN CHOICE before the first write (log 1) -/
  mv : Vector Nat 2 := Vector.replicate 2 0
  /-- latest voltage readback of CORE0 and CORE1, mV: 13 R390; none -/
  rb : Vector (Option Nat) 2 := Vector.replicate 2 none
  /-- last 100 us frame that has been read: 13 R390; none -/
  frame : Option Nat := none
deriving DecidableEq, Repr

/-- The two-wire ports (13). -/
structure TwbState where
  /-- ports 0-10: see PortState; 13 R412; RATE 2, ALERT_EN 0 on port 10 -/
  port : Vector PortState 11 := Vector.ofFn fun p => if p.1 = 10 then { cfg := 0x202 } else {}
  /-- AVSBus ports 0-7: see AvsState; 13 R412; reset there -/
  avs : Vector AvsState 8 := Vector.replicate 8 {}
  /-- TWB_TGT.DROPPED: 8 bits, saturating; 13 R412; 0 -/
  dropped : Nat := 0
  /-- TWB_TGT.EID: 8 bits; 13 R412; 0 -/
  eid : Byte := 0
  /-- TWB_TGT.ADDR: 7 bits; 13 R412; 0x1D -/
  addr : Nat := 0x1D
  /-- VOUT_MODE of each rail's regulator as last read: 8 bits; 13 R386; none -/
  voutMode : Vector (Option Byte) 120 := Vector.replicate 120 none
  /-- NACKs in a row from each rail's regulator: 13 R386; 0 -/
  nacks : Vector Nat 120 := Vector.replicate 120 0
  /-- FORMAT_FAULT recorded for a rail's regulator: 120 bits; 13 R387; 0 -/
  formatFault : Vector Bool 120 := Vector.replicate 120 false
  /-- STATUS_WORD faults of the tray segment that await their repeats, with their devices' addresses: 13 R388; none -/
  trayRepeat : List (Nat × BitVec 16) := []
  /-- latest e-fuse READ_VIN of each accelerator, mV: 13 R391; none -/
  vin : Vector (Option Nat) 8 := Vector.replicate 8 none
deriving DecidableEq, Repr

/-- A 64-byte boot record copy of the configuration store (16 R471, R472). -/
structure BootRec where
  /-- 0 slot A, 1 slot B. -/
  active : Nat := 0
  trial : Bool := false
  tried : Bool := false
deriving DecidableEq, Repr

/-- A select record of an accelerator boot flash, when it is valid (16 R497). -/
structure Select where
  active : Nat
  trial : Bool
  seq : Nat
deriving DecidableEq, Repr

/-- The boot flash of an accelerator (16 R497). -/
structure AccFlash where
  /-- the two select records: 64 B each; 16 R497; none valid, DESIGN CHOICE (log 8) -/
  select : Vector (Option Select) 2 := Vector.replicate 2 none
  /-- slots A and B: 32 MiB each; 16 R497; empty, DESIGN CHOICE (log 8) -/
  slot : Vector (List Byte) 2 := Vector.replicate 2 []
deriving DecidableEq, Repr

/-- A defect-journal entry whose CRC is right (11 R335). -/
structure JEntry where
  kind : Nat
  bin : Nat
  formats : Nat
  unit : Nat
  serial : BitVec 64
  runId : Nat
  boot : Nat
  position : Nat
deriving DecidableEq, Repr

/-- A saved training settings record (11 R317): its key, and the read of the mailbox that filled it. -/
structure TrainRec where
  serial : BitVec 64
  position : Nat
  band : Nat
  content : Nat
deriving DecidableEq, Repr

/-- What survives the loss of AUX3V3: fuses, flash and board flash. Values are those of a blank part and empty flash,
which the manual leaves to manufacture and the board (log 8). -/
structure NvState where
  /-- SYS_CAP_UNITS.VARIANT: 2 bits; 00 R2; fuse, DESIGN CHOICE 0 (log 8) -/
  variant : Nat := 0
  /-- SYS_CAP_UNITS.COOL_LIQ: 1 bit; 00 R2; fuse, DESIGN CHOICE 1 (log 8) -/
  coolLiq : Bool := true
  /-- SYS_CAP_UNITS.FROND_ENG: 5 bits; 00 R2; fuse, DESIGN CHOICE 16 (log 8) -/
  frondEng : Nat := 16
  /-- SYS_SERIAL: 64 bits; 01 R33; fuse, DESIGN CHOICE 0 (log 8) -/
  serial : BitVec 64 := 0
  /-- UDS: 256 bits; 16 R467; fuse, DESIGN CHOICE 0 (log 8) -/
  uds : BitVec 256 := 0
  /-- UDS_KILL: 1 bit; 16 R467; 0 -/
  udsKill : Bool := false
  /-- VENDOR_ROOT: 256 bits; 16 R467; fuse, DESIGN CHOICE 0 (log 8) -/
  vendorRoot : BitVec 256 := 0
  /-- OWNER_ROOT: 256 bits; 16 R467; fuse, DESIGN CHOICE 0 (log 8) -/
  ownerRoot : BitVec 256 := 0
  /-- LC as its state 0 BLANK to 4 RETIRED: 3 bits; 16 R483; fuse, DESIGN CHOICE 0 (log 8) -/
  lc : Nat := 0
  /-- SVN_MIN, bits set: 7 bits; 16 R467; fuse, DESIGN CHOICE 0 (log 8) -/
  svnMin : Nat := 0
  /-- fused MAC address base: 48 bits; 18 R543; fuse, DESIGN CHOICE 0 (log 8) -/
  mac : BitVec 48 := 0
  /-- primary manifest: 256 KiB; 16 R468; empty, DESIGN CHOICE (log 8) -/
  manifest : List Byte := []
  /-- pending owner manifest: 256 KiB; 16 R468; empty, DESIGN CHOICE (log 8) -/
  pendManifest : List Byte := []
  /-- controller slots A, B and G: 16 MiB each; 01 R31; empty, DESIGN CHOICE (log 8) -/
  slot : Vector (List Byte) 3 := Vector.replicate 3 []
  /-- accelerator golden images of families 0 and 1: 32 MiB each; 01 R31; empty, DESIGN CHOICE (log 8) -/
  golden : Vector (List Byte) 2 := Vector.replicate 2 []
  /-- last-known-good images of families 0 and 1: 32 MiB each; 01 R31; empty, DESIGN CHOICE (log 8) -/
  lkg : Vector (List Byte) 2 := Vector.replicate 2 []
  /-- Frond model containers: 4 x 32 MiB; 01 R31, 09 R268; none, DESIGN CHOICE (log 8) -/
  frdFlash : Vector (Option (List Byte)) 4 := Vector.replicate 4 none
  /-- minimum model version by MODEL_ID: 09 R268; none, DESIGN CHOICE (log 8) -/
  modelMin : List (Nat × Nat) := []
  /-- active journal bank, oldest first; none is an entry whose CRC fails: 16,382 entries; 11 R335; empty (log 8) -/
  journal : List (Option JEntry) := []
  /-- SEQUENCE of the active journal bank: 32 bits; 11 R335; DESIGN CHOICE 0 (log 8) -/
  journalSeq : Nat := 0
  /-- saved training settings, most recently used first: 128 records of 8 KiB; 11 R317; none (log 8) -/
  settings : List TrainRec := []
  /-- values of the commands marked Store, newest of each register: 1 MiB; 15 R448; none, DESIGN CHOICE (log 8) -/
  store : List Cmd := []
  /-- host, rack and announcement keys; none is the blank key: 3 x 256 bits; 16 R479 R481; none, DESIGN CHOICE (log 8) -/
  keys : Vector (Option (BitVec 256)) 3 := Vector.replicate 3 none
  /-- key records whose tag under the store key fails: 3 x 1 bit; 16 R481; 0, DESIGN CHOICE (log 8) -/
  keyBad : Vector Bool 3 := Vector.replicate 3 false
  /-- counter floors by source and key: 8 x 64 bits; 14 R436; DESIGN CHOICE 0 (log 8) -/
  floor : Vector (BitVec 64) 8 := Vector.replicate 8 0
  /-- BUP_RUN_ID: 32 bits; 11 R344; DESIGN CHOICE 0 (log 8) -/
  runId : Nat := 0
  /-- boot record; none is missing: 2 x 64 B; 16 R471; none, DESIGN CHOICE (log 8) -/
  boot : Option BootRec := none
  /-- committed feature epoch: 16 bits; 16 R503; DESIGN CHOICE 0 (log 8) -/
  epoch : Nat := 0
  /-- SEC_DBG_CNT.UNLOCKS: 16 bits, saturating; 16 R505; DESIGN CHOICE 0 (log 8) -/
  unlocks : Nat := 0
  /-- persistent event log, newest first: 61 MiB, 3,997,696 entries of 16 B; 01 R31; empty, DESIGN CHOICE (log 8) -/
  log : List Ev := []
  /-- certificate chain of the DeviceID key in the flash header: 64 KiB; 16 R468; empty, DESIGN CHOICE (log 8) -/
  chain : List Byte := []
  /-- cold-boot count: 32 bits; 11 R335, 14 R432; DESIGN CHOICE 0 (log 8) -/
  boots : Nat := 0
  /-- boot flashes of accelerators 0-7: 16 R497; empty, DESIGN CHOICE (log 8) -/
  acc : Vector AccFlash 8 := Vector.replicate 8 {}
deriving DecidableEq, Repr

/-- A staging area for an image (16 R492). -/
structure StageState where
  /-- SEC_STAGE[t].VERIFIED: 1 bit; 16 R505; 0 -/
  verified : Bool := false
  /-- TOTAL of the staged image: 32 bits; 16 R492; 0 -/
  total : Nat := 0
  /-- staged bytes: 64 MiB; 16 R492, 01 R29; empty -/
  data : List Byte := []
deriving DecidableEq, Repr

/-- Firmware of one accelerator (16 R505). -/
structure AccFwState where
  /-- SEC_ACCFW[n].STATE: 4 bits; 16 R505; 0 -/
  state : Nat := 0
  /-- image to write to the inactive slot, with the slot, deferred or in progress (WRITE_PEND): 16 R501; none -/
  write : Option (Nat × List Byte) := none
  /-- the write has started: 1 bit; 16 R501; 0 -/
  writing : Bool := false
  /-- the active slot was verified since the last write to the flash: 1 bit; 11 R313; 0 -/
  verified : Bool := false
  /-- SEC_ACC_VER[n]: 32 bits; 16 R505; 0 -/
  version : Nat := 0
  /-- measurement 8 + n: 256 bits; 16 R478; 0 DESIGN CHOICE until verified (log 1) -/
  meas : BitVec 256 := 0
  /-- fixed-seed table of the verified image: 524,296 B; 16 R498; none -/
  table : List Byte := []
deriving DecidableEq, Repr

/-- A controller activation under way (16 R494, R495). -/
structure Activate where
  slot : Nat
  image : List Byte
  golden : Bool
  /-- WP_N fell during the write of slot G (16 R495). -/
  cut : Bool := false
deriving DecidableEq, Repr

/-- An SPDM conversation on one path (16 R477, 18 R541). -/
structure SpdmState where
  /-- GET_VERSION answered: 1 bit; 16 R477; 0 -/
  version : Bool := false
  /-- GET_CAPABILITIES answered: 1 bit; 16 R477; 0 -/
  caps : Bool := false
  /-- algorithms negotiated: 1 bit; 16 R477; 0 -/
  algs : Bool := false
  /-- requests answered so far, which the signatures cover: 16 R477; none -/
  transcript : List Byte := []
  /-- session key of a key exchange, and whether FINISH established the session: 18 R541; none -/
  session : Option (BitVec 256 × Bool) := none
deriving DecidableEq, Repr

/-- Security and firmware (16). -/
structure SecState where
  /-- SEC_STATUS.GOLDEN_BAD: 3 bits; 16 R505; 0 -/
  goldenBad : Vector Bool 3 := Vector.replicate 3 false
  /-- SEC_STATUS.DEBUG: 2 bits; 16 R505; 0 -/
  debug : Nat := 0
  /-- SEC_STATUS.BOOT_SLOT: 2 bits; 16 R505; 0 DESIGN CHOICE until the ROM chooses (log 1) -/
  bootSlot : Nat := 0
  /-- SEC_STATUS.BOOT_SEL: 2 bits; 16 R505; strap, DESIGN CHOICE 0 (log 1) -/
  bootSel : Nat := 0
  /-- SEC_BOOT.G_RESULT: 8 bits; 16 R505; 0 -/
  gResult : Nat := 0
  /-- SEC_BOOT.AB_RESULT: 8 bits; 16 R505; 0 -/
  abResult : Nat := 0
  /-- SEC_BOOT.CAUSE: 4 bits; 16 R505; 0 -/
  cause : Nat := 0
  /-- cause of the warm reset under way: 4 bits; 16 R505; 0 -/
  nextCause : Nat := 0
  /-- running controller image: 16 MiB; 16 R471; empty, DESIGN CHOICE until the ROM chooses (log 1) -/
  image : List Byte := []
  /-- image whose safety-island code runs: 16 R474; empty, DESIGN CHOICE (log 1) -/
  island : List Byte := []
  /-- committed epoch in force for this boot: 16 bits; 16 R503; store -/
  committed : Nat := 0
  /-- SEC_DBG_CNT.FAILS: 16 bits, saturating; 16 R505; 0 -/
  fails : Nat := 0
  /-- consecutive failed unlocks: 16 R486; 0 -/
  failRun : Nat := 0
  /-- tick until which challenges are refused: 64 bits; 16 R486; 0 -/
  refuseUntil : Nat := 0
  /-- NONCE with its expiry tick: 256 and 64 bits; 16 R486; none -/
  nonce : Option (BitVec 256 × Nat) := none
  /-- DBG_HIST: 256 bits; 16 R488; 0 -/
  dbgHist : BitVec 256 := 0
  /-- debug level, lifecycle state and slot at boot, measurement 5: 16 R478; 0 -/
  bootState : Nat × Nat × Nat := (0, 0, 0)
  /-- SHA3-256 of the primary manifest at boot, measurement 4: 256 bits; 16 R478; 0 DESIGN CHOICE until boot (log 1) -/
  bootManifest : BitVec 256 := 0
  /-- CDI: 256 bits; 16 R475; 0 DESIGN CHOICE until derived (log 1) -/
  cdi : BitVec 256 := 0
  /-- Alias certificate: 16 R476; none until signed -/
  aliasCert : List Byte := []
  /-- staging areas of targets 0-2: see StageState; 16 R505; reset there -/
  stage : Vector StageState 3 := Vector.replicate 3 {}
  /-- accelerators 0-7: see AccFwState; 16 R505; reset there -/
  acc : Vector AccFwState 8 := Vector.replicate 8 {}
  /-- controller activation whose slot is being written: 16 R494; none -/
  activate : Option Activate := none
  /-- golden replacement of an accelerator family in progress, its target and image: 16 R495; none -/
  goldenWrite : Option (Nat × List Byte) := none
  /-- boot record written and FW_ACTIVATED recorded, waiting for publication: 1 bit; 16 R494; 0 -/
  activated : Bool := false
  /-- tick of the warm reset of an activation: 64 bits; 16 R494; none -/
  resetTick : Option Nat := none
  /-- lifecycle transition accepted, its new state and signature: 16 R484; none -/
  lifecycle : Option (Nat × List Byte) := none
  /-- keys in force: 3 x 256 bits, none the blank key; 16 R479; store -/
  keys : Vector (Option (BitVec 256)) 3 := Vector.replicate 3 none
  /-- a new key or epoch waits for the store: 1 bit; 16 R481 R504; 0 -/
  storeDue : Bool := false
  /-- SPDM conversations over MCTP and over the CXL mailbox: see SpdmState; 16 R477, 18 R541; reset there -/
  spdm : Vector SpdmState 2 := Vector.replicate 2 {}
deriving DecidableEq, Repr

/-- The safety island (17). -/
structure SafState where
  /-- SAF_STATUS.WDT_COUNT: 4 bits, saturating; 17 R523; 0 -/
  wdtCount : Nat := 0
  /-- SAF_STATUS.CAUSE: 8 bits; 17 R523; 0 -/
  cause : Nat := 0
  /-- SAF_STATUS.BIST_FAIL: 1 bit; 17 R523; 0 -/
  bistFail : Bool := false
  /-- SAF_STATUS.DEGRADED: 1 bit; 17 R523; 0 -/
  degraded : Bool := false
  /-- SAF_STATUS.OVERRIDE: 1 bit; 17 R523; 0 -/
  override : Bool := false
  /-- SAF_STATUS.SAFE: 1 bit; 17 R523; 0 -/
  safe : Bool := false
  /-- SAF_STATUS.WDT_ARMED: 1 bit; 17 R523; 0 -/
  armed : Bool := false
  /-- SAF_WDT.TOKEN: 8 bits; 17 R523; random, a free value -/
  token : Byte := 0
  /-- SAF_WDT.WDT_MS: 16 bits; 17 R523; 100 -/
  wdtMs : Nat := 100
  /-- WDT_MS has been written since the release: 1 bit; 17 R523; 0 -/
  wdtWritten : Bool := false
  /-- tick of the last serve, or of the release: 64 bits; 17 R512; 0 -/
  serveTick : Nat := 0
  /-- a serve has been accepted since cold reset: 1 bit; 12 R368; 0 -/
  served : Bool := false
  /-- ticks of the expiries of the present window, newest first: 17 R513; none -/
  expiries : List Nat := []
  /-- SAF_CAUSE_TICK: 64 bits; 17 R523; 0 -/
  causeTick : Nat := 0
  /-- tick at which the cause was last present: 64 bits; 17 R520; 0 -/
  presentTick : Nat := 0
  /-- rings below their floor at the latest sample with the trim at 0.85 V: 4 bits; 01 R16; 0 -/
  ringNow : BitVec 4 := 0
  /-- rings below their floor at the two latest samples with the trim at 0.85 V: 4 bits; 01 R16; 0 -/
  ringTwice : BitVec 4 := 0
  /-- the ring condition of PACE_LOW is present: 1 bit; 17 R514; 0 -/
  ringLow : Bool := false
  /-- tick since which both converters are in fault: 64 bits; 17 R515; none -/
  bothSince : Option Nat := none
  /-- tick of the release of the application cluster: 64 bits; 16 R472; 0 -/
  releaseTick : Nat := 0
  /-- the island's code runs: 1 bit; 17 R521, 12 R368; 0 -/
  started : Bool := false
deriving DecidableEq, Repr

/-- CXL and its configuration space (18). -/
structure LinkBlock where
  /-- SYS_CXL.DOWN_COUNT: 8 bits, saturating; 18 R542; 0 -/
  downCount : Nat := 0
  /-- SYS_CXL.IDE_ACTIVE: 1 bit; 18 R542; 0 -/
  ide : Bool := false
  /-- SYS_CXL.MEDIA_READY: 1 bit; 18 R542; 0 -/
  mediaReady : Bool := false
  /-- SYS_CXL.FLIT256: 1 bit; 18 R542; 0 -/
  flit256 : Bool := false
  /-- SYS_CXL.WIDTH: 4 bits; 18 R542; 0 -/
  width : Nat := 0
  /-- SYS_CXL.RATE: 4 bits; 18 R542; 0 -/
  rate : Nat := 0
  /-- PERST_N level, 1 high: 1 bit; 18 R540; board input, DESIGN CHOICE 0 (log 1) -/
  perstN : Bool := false
  /-- CXL configuration loaded: 1 bit; 18 R535 R539; 0 -/
  configLoaded : Bool := false
  /-- link training under way: 1 bit; 18 R539; 0 -/
  training : Bool := false
  /-- configuration space as written by the host, by offset: 4 KiB; 18 R539; nothing written, DESIGN CHOICE (log 6) -/
  config : List Host.Cell := []
  /-- IDE keys of the CXL controller: 18 R541; none -/
  ideKeys : List (BitVec 256) := []
  /-- CTRL_HOT recorded on entry: 1 bit; 18 R549; 0 -/
  hot : Bool := false
  /-- consecutive die readings at or above 105 degrees C, and below 100: 18 R549; 0 -/
  hotRun : Nat := 0
  /-- consecutive die readings below 100 degrees C: 18 R549; 0 -/
  coolRun : Nat := 0
  /-- latest die reading of each converter, 1/16 degrees C: 18 R549; none -/
  die : Vector (Option Int) 2 := Vector.replicate 2 none
deriving DecidableEq, Repr

/-- What a seal latches of the blocks (02 R46): every block whose registers a record or a read command shows. -/
structure Snap where
  sys : SysState := {}
  net : NetState := {}
  twb : TwbState := {}
  acc : Vector AccState 8 := Vector.replicate 8 {}
  crz : CrzState := {}
  rack : RackState := {}
  sup : SupState := {}
  str : StrState := {}
  brm : BrmState := {}
  ldg : LdgState := {}
  frd : FrdState := {}
  srs : SrsState := {}
  bup : BupState := {}
  cool : CoolState := {}
  sec : SecState := {}
  saf : SafState := {}
  link : LinkBlock := {}
  nv : NvState := {}
  source : Vector SourceEntry 4 := Vector.replicate 4 {}
deriving DecidableEq, Repr

/-- A State Record (02 R51): header, the latched blocks, and its digest. -/
structure Record where
  gen : Nat
  /-- major version of FORMAT (02 R54). -/
  format : Nat
  sealTick : Nat
  backup : Bool
  late : Bool
  missed : Nat
  snap : Snap
  digest : List Ev
  trunc : Bool
deriving DecidableEq, Repr

/-- A record in an assembly buffer (02 R46, R49). -/
structure Assembly where
  /-- which of the two buffers of 01 R28 it fills. -/
  buffer : Fin 2
  sealTick : Nat
  sealNo : Nat
  snap : Snap
  digest : List Ev
  late : Bool
  complete : Bool
  /-- the buffer holds an uncorrectable error. -/
  eccHit : Bool
  /-- host events that the record shows first. -/
  evt : BitVec 16
deriving DecidableEq, Repr

/-- The event merger, the digest and the State Record (02). -/
structure RecState where
  /-- items that wait for release, in release order: 02 R41; none -/
  merger : List Waiting := []
  /-- the latest tick whose items have been released: 02 R41; none -/
  released : Option Nat := none
  /-- events applied since the seal that the last published generation came from, in release order: 02 R53; none -/
  digest : List Ev := []
  /-- an item was released late since then: 1 bit; 02 R42; 0 -/
  late : Bool := false
  /-- recent event log ring, newest first: 131,072 entries of 16 B; 01 R28, 02 R53; none -/
  log : List Ev := []
  /-- assembly in progress: 64 KiB in one of two buffers; 01 R28, 02 R46; none -/
  asm : Option Assembly := none
  /-- buffer that the next strobe fills, the inactive one: 1 bit; 01 R28, 02 R46; 0 DESIGN CHOICE (log 1) -/
  buffer : Fin 2 := 0
  /-- seals taken: model's own count for the effect generation of 02 R62; 0 -/
  seals : Nat := 0
  /-- SYS_GEN.GEN: 64 bits; 02 R38; 0 -/
  gen : Nat := 0
  /-- MISSED_SEALS: 32 bits, saturating; 02 R49; 0 -/
  missed : Nat := 0
  /-- history ring, newest first: 12,288 records of 64 KiB; 02 R58; none -/
  ring : List Record := []
  /-- status mirror: 32 KiB; 02 R59; none until generation 1, DESIGN CHOICE (log 1) -/
  mirror : Option Record := none
  /-- source table: 4 entries; 02 R52; see SourceEntry -/
  source : Vector SourceEntry 4 := Vector.replicate 4 {}
  /-- replies that wait for their effect generation: 02 R62; none -/
  replies : List Reply := []
  /-- store writes that wait, with the commands that wait for them: 15 R448; none -/
  storeQ : List (Cmd × Reply) := []
deriving DecidableEq, Repr

/-- What the part sends: the model's own log of messages, newest first (log 9). -/
inductive Out where
  /-- a downstream word on Sorus link n (10 R295). -/
  | word (n : Acc) (bytes : List Byte)
  /-- an AVSBus set-point write of a core, mV (13 R405). -/
  | avs (n : Acc) (core : Fin 2) (mv : Nat)
  /-- a VOUT_COMMAND write of a rail, mV (05 R150). -/
  | vout (r : Rail) (mv : Nat)
  /-- CLEAR_FAULTS to a PMBus device on a port (13 R386). -/
  | clearFaults (p : Port) (addr : Nat)
  /-- the training record written to an accelerator's mailbox, by its content (11 R316). -/
  | settings (n : Acc) (content : Option Nat)
  /-- the HBM refresh request of an accelerator (12 R352). -/
  | refresh (n : Acc) (w : Nat)
  /-- a reply on FMP or MCTP (14 R429). -/
  | reply (r : Reply)
  /-- a datagram of a stream lease, record fragment or events, with its tag (14 R429, R431, R435). -/
  | stream (addr : BitVec 128) (udp : BitVec 16) (port : Fin 2) (bytes : List Byte)
  /-- a rack-state announcement (14 R432). -/
  | announce (a : Announce) (seq : Nat)
  /-- an MCTP, SPDM, PLDM or network answer. -/
  | answer (bytes : List Byte)
  /-- a CXL configuration completion; none is Configuration Request Retry Status (18 R539). -/
  | config (value : Option Word)
  /-- an MSI-X message of a vector (14 R427). -/
  | msi (v : Fin 16)
  /-- a pulse on SEQSYNC, us (04 R121). -/
  | pulse (us : Nat)
deriving DecidableEq, Repr

/-- The state of the FM8, and the commands that wait for it, first in, first out. -/
structure State where
  sys : SysState := {}
  rcd : RecState := {}
  mbx : MbxState := {}
  net : NetState := {}
  twb : TwbState := {}
  acc : Vector AccState 8 := Vector.replicate 8 {}
  crz : CrzState := {}
  rack : RackState := {}
  sup : SupState := {}
  str : StrState := {}
  brm : BrmState := {}
  ldg : LdgState := {}
  frd : FrdState := {}
  srs : SrsState := {}
  bup : BupState := {}
  cool : CoolState := {}
  sec : SecState := {}
  saf : SafState := {}
  link : LinkBlock := {}
  nv : NvState := {}
  /-- draws taken from `Config.freeValue` so far: the model's own, not the manual's (log 3). -/
  free : Nat := 0
  out : List Out := []
  pending : List Instr := []
deriving DecidableEq, Repr

/-- The machine right after reset: every field at the value the manual states or notes/assumptions/1.md names. -/
def State.reset : State := {}

end Sys2Proof.Machine
end

