-- ==== Sys2Proof/Machine/Ops.lean ====
section
/-! DEFINITION. The named operations on the state that every meaning uses: register fields, block updates, the event
merger, host events, completions, BAR0 memory, Crozier's rails and graph, and the values that several blocks read. -/

namespace Sys2Proof.Machine

open Sys2Proof

/-- What a step answers. -/
abbrev Out3 := Host.Outcome State Fault Refusal

/-- `n` bits of a register from bit `lo`. -/
def fld (w : Word) (lo n : Nat) : Nat := w.toNat / 2 ^ lo % 2 ^ n

/-- Bit `i` of a register. -/
def fldB (w : Word) (i : Nat) : Bool := w.getLsbD i

/-- A register with `n` bits from bit `lo` replaced. -/
def setFld (w : Word) (lo n x : Nat) : Word :=
  BitVec.ofNat 32 (w.toNat - fld w lo n * 2 ^ lo + x % 2 ^ n * 2 ^ lo)

/-- A register with byte `i` replaced. -/
def setByte (w : Word) (i x : Nat) : Word := setFld w (8 * i) 8 x

/-- A counter that saturates at `cap`, after one more. -/
def satAdd (cap x : Nat) : Nat := min cap (x + 1)

/-- One bit as a number. -/
def bit (b : Bool) (i : Nat) : Nat := if b then 2 ^ i else 0

/-- `n` little-endian bytes of a number. -/
def leBytes (n x : Nat) : List Byte := (List.range n).map fun i => BitVec.ofNat 8 (x / 256 ^ i)

/-- A signed number in `n` bits, two's complement. -/
def twos (n : Nat) (x : Int) : Nat := (x % (2 ^ n : Nat)).toNat

/-- All accelerators, ascending. -/
def accList : List Acc := List.finRange 8

/-- All channels, ascending. -/
def chanList : List Chan := List.finRange 9

/-- The accelerator with a number. -/
def accOf (x : Nat) : Option Acc := if h : x < 8 then some ⟨x, h⟩ else none

/-- The channel of an accelerator (00 R8). -/
def accChan (n : Acc) : Chan := n.castSucc

/-- The tray channel (00 R8). -/
def trayChan : Chan := 8

/-- Rail `i` of accelerator `n` (00 R8). -/
def railOf (n : Acc) (i : Fin 14) : Rail := ⟨14 * n.1 + i.1, by omega⟩

/-- Tray rail 112 + j (00 R8). -/
def trayRail (j : Fin 8) : Rail := ⟨112 + j.1, by omega⟩

/-- The channel of a rail (00 R8). -/
def chanOf (r : Rail) : Chan := if h : r.1 < 112 then ⟨r.1 / 14, by omega⟩ else 8

/-- The accelerator of a rail, none for a tray rail. -/
def accOfRail (r : Rail) : Option Acc := accOf (r.1 / 14)

/-! Updates of one block. -/

def State.setAcc (n : Acc) (f : AccState → AccState) (s : State) : State := { s with acc := s.acc.set n (f s.acc[n]) }
def State.modStr (f : StrState → StrState) (s : State) : State := { s with str := f s.str }
def State.setStr (n : Acc) (f : StrAcc → StrAcc) (s : State) : State :=
  { s with str := { s.str with acc := s.str.acc.set n (f s.str.acc[n]) } }
def State.modBrm (f : BrmState → BrmState) (s : State) : State := { s with brm := f s.brm }
def State.modLdg (f : LdgState → LdgState) (s : State) : State := { s with ldg := f s.ldg }
def State.setLdg (n : Acc) (f : LdgAcc → LdgAcc) (s : State) : State :=
  { s with ldg := { s.ldg with acc := s.ldg.acc.set n (f s.ldg.acc[n]) } }
def State.setSlot (n : Acc) (c : Fin 48) (f : LdgSlot → LdgSlot) (s : State) : State :=
  { s with ldg := { s.ldg with slot := s.ldg.slot.set n (s.ldg.slot[n].set c (f s.ldg.slot[n][c])) } }
def State.modFrd (f : FrdState → FrdState) (s : State) : State := { s with frd := f s.frd }
def State.setFrd (x : Slot) (f : FrdSlot → FrdSlot) (s : State) : State :=
  { s with frd := { s.frd with slot := s.frd.slot.set x (f s.frd.slot[x]) } }
def State.modSrs (f : SrsState → SrsState) (s : State) : State := { s with srs := f s.srs }
def State.setLink (n : Acc) (f : LinkState → LinkState) (s : State) : State :=
  { s with srs := { s.srs with link := s.srs.link.set n (f s.srs.link[n]) } }
def State.modBup (f : BupState → BupState) (s : State) : State := { s with bup := f s.bup }
def State.setBup (n : Acc) (f : BupAcc → BupAcc) (s : State) : State :=
  { s with bup := { s.bup with acc := s.bup.acc.set n (f s.bup.acc[n]) } }
def State.modCool (f : CoolState → CoolState) (s : State) : State := { s with cool := f s.cool }
def State.setBand (n : Acc) (f : BandState → BandState) (s : State) : State :=
  { s with cool := { s.cool with acc := s.cool.acc.set n (f s.cool.acc[n]) } }
def State.setFan (i : Fan) (f : FanState → FanState) (s : State) : State :=
  { s with cool := { s.cool with fan := s.cool.fan.set i (f s.cool.fan[i]) } }
def State.setPump (p : Pump) (f : PumpState → PumpState) (s : State) : State :=
  { s with cool := { s.cool with pump := s.cool.pump.set p (f s.cool.pump[p]) } }
def State.setLoop (l : Loop) (f : LoopState → LoopState) (s : State) : State :=
  { s with cool := { s.cool with loop := s.cool.loop.set l (f s.cool.loop[l]) } }
def State.setThm (i : Fin 24) (f : ThmState → ThmState) (s : State) : State :=
  { s with cool := { s.cool with thm := s.cool.thm.set i (f s.cool.thm[i]) } }
def State.setLeak (c : Fin 10) (f : LeakState → LeakState) (s : State) : State :=
  { s with cool := { s.cool with leak := s.cool.leak.set c (f s.cool.leak[c]) } }
def State.modTwb (f : TwbState → TwbState) (s : State) : State := { s with twb := f s.twb }
def State.setPort (p : Port) (f : PortState → PortState) (s : State) : State :=
  { s with twb := { s.twb with port := s.twb.port.set p (f s.twb.port[p]) } }
def State.setAvs (n : Acc) (f : AvsState → AvsState) (s : State) : State :=
  { s with twb := { s.twb with avs := s.twb.avs.set n (f s.twb.avs[n]) } }
def State.modCrz (f : CrzState → CrzState) (s : State) : State := { s with crz := f s.crz }
def State.setChan (c : Chan) (f : ChanState → ChanState) (s : State) : State :=
  { s with crz := { s.crz with chan := s.crz.chan.set c (f s.crz.chan[c]) } }
def State.setRail (r : Rail) (f : RailState → RailState) (s : State) : State :=
  { s with crz := { s.crz with rail := s.crz.rail.set r (f s.crz.rail[r]) } }
def State.modRack (f : RackState → RackState) (s : State) : State := { s with rack := f s.rack }
def State.modSup (f : SupState → SupState) (s : State) : State := { s with sup := f s.sup }
def State.setEntry (r : Rail) (f : RailEntry → RailEntry) (s : State) : State :=
  { s with sup := { s.sup with entry := s.sup.entry.set r (f s.sup.entry[r]) } }
def State.modSec (f : SecState → SecState) (s : State) : State := { s with sec := f s.sec }
def State.setAccFw (n : Acc) (f : AccFwState → AccFwState) (s : State) : State :=
  { s with sec := { s.sec with acc := s.sec.acc.set n (f s.sec.acc[n]) } }
def State.modSaf (f : SafState → SafState) (s : State) : State := { s with saf := f s.saf }
def State.modNv (f : NvState → NvState) (s : State) : State := { s with nv := f s.nv }
def State.modRcd (f : RecState → RecState) (s : State) : State := { s with rcd := f s.rcd }
def State.modMbx (f : MbxState → MbxState) (s : State) : State := { s with mbx := f s.mbx }
def State.setBox (m : Fin 2) (f : Mailbox → Mailbox) (s : State) : State :=
  { s with mbx := { s.mbx with box := s.mbx.box.set m (f s.mbx.box[m]) } }
def State.modNet (f : NetState → NetState) (s : State) : State := { s with net := f s.net }
def State.modSys (f : SysState → SysState) (s : State) : State := { s with sys := f s.sys }
def State.modLk (f : LinkBlock → LinkBlock) (s : State) : State := { s with link := f s.link }

/-- A message leaves the part (notes/assumptions/9.md). -/
def State.send (m : Out) (s : State) : State := { s with out := m :: s.out }

/-- One random draw: a free value (notes/assumptions/3.md). -/
def State.draw (s : State) : BitVec 256 × State := (Config.freeValue s.free, { s with free := s.free + 1 })

/-- A fold of a step over a list. -/
def forAll {α : Type} (l : List α) (f : α → State → State) (s : State) : State := l.foldl (fun s x => f x s) s

/-! The event merger (02 R39 to R44). -/

/-- `x` is released before `y` (02 R40, R44). -/
def goesBefore (x y : Waiting) : Bool :=
  decide (x.stamp < y.stamp) || (x.stamp == y.stamp && (decide (x.cls < y.cls) || (x.cls == y.cls &&
    (decide (x.unit < y.unit) || (x.unit == y.unit && decide (x.chan < y.chan))))))

/-- Insertion in release order, after every item that is not later: one source keeps its arrival order. -/
def insertWaiting (x : Waiting) : List Waiting → List Waiting
  | [] => [x]
  | y :: l => if goesBefore x y then x :: y :: l else y :: insertWaiting x l

/-- An event is stamped with the present tick and handed to the merger (02 R39). The number of a timer is the code of the
event that its expiry records, and timers of one code go by unit and object (DESIGN CHOICE, notes/assumptions/10.md);
SAFE_ENTER goes before every other event of its tick (17 R516). -/
def emit (s : State) (cls unit obj code detail : Nat) : State :=
  let e : Ev := { stamp := s.sys.tick, cls := cls, unit := unit, object := obj, code := code, detail := detail % 65536 }
  let w : Waiting := { stamp := s.sys.tick, cls := if code = 0x1101 then 0 else cls,
                       unit := if cls = 7 then code else unit, chan := if cls = 7 then 65536 * unit + obj else obj, item := .ev e }
  s.modRcd fun r => { r with merger := insertWaiting w r.merger }

/-- An applied event enters the digest and the recent event log, a ring of 2 MiB (02 R53, 01 R28). -/
def recordApplied (e : Ev) (s : State) : State :=
  s.modRcd fun r => { r with digest := r.digest ++ [e], log := (e :: r.log).take 131072 }

/-- A host event is due at the first publication that shows it (14 R425). -/
def hostEvent (b : Nat) (s : State) : State :=
  s.modMbx fun m => { m with evtDue := m.evtDue ++ [(b, s.sys.tick)] }

/-! Completion of a command (14 R414, R415, R418). -/

/-- The answer of an applied command: its result, what the rejection snapshot adds, and its data. -/
structure Ans where
  res : Res := .ok
  reason : Nat := 0
  object : Nat := 0xFF
  detail : List Byte := []
  data : List Byte := []
deriving DecidableEq, Repr

/-- A STATE_CONFLICT with its REASON and OBJECT (14 R418). -/
def conflict (reason object : Nat) : Ans := { res := .stateConflict, reason := reason, object := object }

/-- A BAD_PARAM answer. -/
def badParam : Ans := { res := .badParam }

/-- Encoding of a result (14 R415). -/
def resCode : Res → Nat
  | .ok => 0 | .busy => 1 | .badParam => 2 | .stateConflict => 3 | .authFail => 4 | .replay => 5 | .clipped => 6
  | .unsupported => 7 | .capUnreachable => 8 | .routeBusy => 9 | .denied => 10 | .unknownCommand => 11
  | .version => 12 | .tooLong => 13 | .arbFail => 14 | .busFault => 15 | .nack => 16 | .pecError => 17 | .aborted => 18

/-- Source number of 02 R52: MB0, MB1, FMP, MCTP. -/
def sourceNo : Source → Fin 4
  | .mb0 => 0 | .mb1 => 1 | .fmp0 => 2 | .fmp1 => 2 | .mctp => 3

/-- A command's result is known: it waits for its effect generation and the source table shows it (02 R62, R63). -/
def complete (q : Reply) (a : Ans) (s : State) : State :=
  let q := { q with result := a.res, reason := a.reason, object := a.object, detail := a.detail, data := a.data,
                    sealNo := s.rcd.seals }
  s.modRcd fun r => { r with
    replies := r.replies ++ [q],
    source := r.source.set (sourceNo q.src) { r.source[sourceNo q.src] with
      lastResult := resCode a.res, lastSeq := q.seq, lastTick := q.stamp } }

/-- A command that was in flight is completed: its result, and the COMMAND event of its end (14 R442). -/
def completeLate (q : Reply) (a : Ans) (s : State) : State :=
  emit (complete q a s) q.cls q.unit q.code 0x0E01 (256 * resCode a.res + (sourceNo q.src).1)

/-! BAR0 memory (01 R33): a canonical list of cells, an unlisted byte reads 0 (notes/assumptions/6.md). -/

/-- A byte of a cell list. -/
def cellRead : List Host.Cell → Nat → Byte
  | [], _ => 0
  | c :: l, a => if c.1 = a then c.2 else cellRead l a

/-- A byte written, keeping addresses rising and no listed 0. -/
def cellWrite (a : Nat) (b : Byte) : List Host.Cell → List Host.Cell
  | [] => if b = 0 then [] else [(a, b)]
  | c :: l =>
    if a < c.1 then (if b = 0 then c :: l else (a, b) :: c :: l)
    else if a = c.1 then (if b = 0 then l else (a, b) :: l)
    else c :: cellWrite a b l

/-- Addresses rise from `lo` on and no byte is 0. -/
def cellsFrom : Nat → List Host.Cell → Bool
  | _, [] => true
  | lo, c :: l => decide (lo ≤ c.1) && c.2 != 0 && cellsFrom (c.1 + 1) l

/-- The canonical form of a memory. -/
def cellsWf (l : List Host.Cell) : Bool := cellsFrom 0 l

/-- Bytes written from an address on. -/
def cellsWrite : Nat → List Byte → List Host.Cell → List Host.Cell
  | _, [], m => m
  | a, b :: l, m => cellsWrite (a + 1) l (cellWrite a b m)

/-- `n` bytes read from an address on. -/
def cellsRead (m : List Host.Cell) (a n : Nat) : List Byte := (List.range n).map fun i => cellRead m (a + i)

/-! Values that several blocks read. -/

/-- State of an accelerator's channel (04 R112). -/
def chState (s : State) (n : Acc) : Nat := s.crz.chan[accChan n].state

/-- FORCEMIN_N[n] is asserted: any level demands it (03 R70, 01 R22). -/
def forced (s : State) (n : Acc) : Bool :=
  let a := s.acc[n]
  a.forceL0 || a.forceCrz || a.forceSaf || a.forceBrim || a.forceLane

/-- The temperature band of an accelerator (12 R349, R350). -/
def bandOf (s : State) (n : Acc) : Nat := s.cool.acc[n].band

/-! What the loop now computing reads; outside a loop the present values (06 R158). -/

/-- The tick of the loop, or the present one. -/
def tickAt (s : State) : Nat := match s.str.now with | some l => l.tick | none => s.sys.tick

/-- The band that a loop reads. -/
def bandAt (s : State) (n : Acc) : Nat := match s.str.now with | some l => l.band[n] | none => bandOf s n

/-- FORCEMIN_N as a loop reads it. -/
def forcedAt (s : State) (n : Acc) : Bool := match s.str.now with | some l => l.forced[n] | none => forced s n

/-- D_n and the wait fraction are frozen while FORCEMIN_N is asserted and for 1 ms after (06 R180). -/
def frozenAt (s : State) (n : Acc) : Bool := match s.str.now with
  | some l => l.frozen[n]
  | none => forced s n || decide (s.sys.tick < s.str.acc[n].frozenUntil)

/-- K_brim as a loop reads it (06 R178). -/
def kBrimAt (s : State) (n : Acc) : Nat := match s.str.now with | some l => l.kBrim[n] | none => s.brm.kBrim[n]

/-! Frames as a consumer at the boundary of the present tick sees them: those stamped before it (10 R301). -/

/-- The latest good activity frame is stamped in the present tick. -/
def frameNew (s : State) (n : Acc) : Bool := s.srs.link[n].lastStamp == some s.sys.tick

/-- The latest good activity frame since the last training (10 R291, R301). -/
def frameSeen (s : State) (n : Acc) : Option Activity :=
  if s.srs.link[n].lastNs.isNone then none else if frameNew s n then s.srs.link[n].older else s.srs.link[n].last

/-- SRS_AGE. -/
def ageSeen (s : State) (n : Acc) : Nat := if frameNew s n then s.srs.link[n].ageBefore else s.srs.link[n].age

/-- OPP_EFF. -/
def oppSeen (s : State) (n : Acc) : Nat := if frameNew s n then s.srs.link[n].oppBefore else s.acc[n].oppEff

/-- Activity frames of a generation stamped before tick `t` (02 R52). -/
def framesOf (l : LinkState) (t : Nat) : Nat := l.frames + (if l.framesTick < t then l.framesAt else 0)

/-- SRS_AGE as a loop reads it (06 R179). -/
def ageAt (s : State) (n : Acc) : Nat := match s.str.now with | some l => l.age[n] | none => ageSeen s n

/-- OPP_EFF as a loop reads it (06 R162). -/
def oppAt (s : State) (n : Acc) : Nat := match s.str.now with | some l => l.opp[n] | none => oppSeen s n

/-- What the strobe of the present tick latches for the steering loop (06 R158). -/
def strobeOf (s : State) : StrLatch :=
  { tick := s.sys.tick, kBrim := s.brm.kBrim, forced := Vector.ofFn fun n => forced s n,
    frozen := Vector.ofFn fun n => forced s n || decide (s.sys.tick < s.str.acc[n].frozenUntil),
    band := Vector.ofFn fun n => bandOf s n, age := Vector.ofFn fun n => ageSeen s n,
    opp := Vector.ofFn fun n => oppSeen s n }

/-- TJ_MAX of the latest good frame, 1/16 degrees C. -/
def tjMax (s : State) (n : Acc) : Int := s.cool.acc[n].tjMax

/-- TJ_MAX of the latest good frame stamped before the present tick (10 R301). -/
def tjSeen (s : State) (n : Acc) : Int := if frameNew s n then s.srs.link[n].tjBefore else tjMax s n

/-- The downstream lane of a link carries control words (10 R299). -/
def laneUp (s : State) (n : Acc) : Bool := !s.srs.link[n].dsLost

/-- The cap in force, W (07 R219). -/
def brmCap (s : State) : Nat := 10 * fld s.brm.set.cap 0 16

/-- Frequency of an operating point, MHz (03 R77); a bin above 2 counts as XA-44. -/
def oppMhz (bin k : Nat) : Nat := 600 + k * (if bin = 0 then 80 else if bin = 1 then 64 else 48)

/-- Base core voltage of an operating point, mV (03 R77). -/
def oppMv (bin k : Nat) : Nat := 560 + k * (if bin = 0 then 12 else if bin = 1 then 10 else 8)

/-- Voltage guard of a band, mV (03 R78). -/
def guardMv (band : Nat) : Nat :=
  if band = 0 then 0 else if band = 1 then 5 else if band = 2 then 10 else if band = 3 then 20 else 30

/-- STR_LEAK of an accelerator's bin and band, W (06 R193). -/
def leakW (s : State) (n : Acc) : Rat :=
  ((s.str.leak.getD (min s.acc[n].bin 2 * 5 + bandAt s n) 0 : Nat) : Rat)

/-- Feedforward can be used: engines fitted and slot 0 ready (00 R4, 06 R164). -/
def ffAvail (s : State) : Bool := s.nv.frondEng != 0 && s.frd.slot[(0 : Fin 4)].state == 2

/-- STAGGER in force, a floating bit taken as 0 (18 R528, R529). -/
def slotNo (s : State) : Nat := (s.sys.strapUp &&& s.sys.strapDown).toNat % 32

/-- The FM8 is strapped as rack leader (04 R121). -/
def isLeader (s : State) : Bool := slotNo s == 0

/-- CRIT_SEL in force (18 R529). -/
def critSel (s : State) : Nat := (s.sys.strapUp &&& s.sys.strapDown).toNat / 32 % 8

/-- Floating strap pins (18 R529). -/
def floating (s : State) : Nat := (s.sys.strapUp ^^^ s.sys.strapDown).toNat

/-- Every accelerator channel in S0 and the tray channel at T1 or below (04 R128). -/
def atRest (s : State) : Bool :=
  (accList.all fun n => chState s n == 0) && decide (s.crz.chan[trayChan].state ≤ 1)

/-- The power state, first matching row (04 R128). Rack state 1 with a channel that the release conditions left out not yet in S0
matches no row: STANDBY, the row of rack state 1 (DESIGN CHOICE, notes/assumptions/52.md). -/
def pstate (s : State) : PState :=
  if s.saf.safe then .safe
  else if s.rack.offLatch then .off
  else if s.rack.state = 15 then s.rack.heldP.getD .standby
  else if 9 ≤ s.rack.state.1 then .drain
  else if s.rack.state.1 = 8 then .run
  else if 2 ≤ s.rack.state.1 then .sequencing
  else if s.rack.state.1 = 0 ∧ !atRest s then .drain
  else .standby

/-- Encoding of SYS_STATUS.PSTATE (01 R35). -/
def pstateCode : PState → Nat
  | .off => 0 | .standby => 1 | .sequencing => 2 | .run => 3 | .drain => 4 | .safe => 5

/-- The rack is in a resting state (04 R118). -/
def resting (s : State) : Bool := s.rack.state == 1 || s.rack.state == 8 || s.rack.state == 15

/-! Crozier's rails and graph (04 R86, R94 to R97). -/

/-- Channel state of each accelerator rail index (04 R86). -/
def accRailState (i : Nat) : Nat :=
  [1, 1, 2, 2, 2, 4, 5, 6, 6, 7, 7, 8, 8, 3].getD i 0

/-- Channel state of each tray rail (04 R94). -/
def trayRailState (j : Nat) : Nat := [2, 3, 3, 1, 1, 3, 0, 0].getD j 0

/-- LOCAL of the default graph (04 R97). -/
def defaultLocal (i : Nat) : Nat :=
  [0x0000, 0x0001, 0x0001, 0x0003, 0x0003, 0x0005, 0x0020, 0x0040, 0x0004, 0x0006, 0x0006, 0x0600, 0x0600,
   0x0007].getD i 0

/-- TRAY of the default graph for tray rails (04 R97). -/
def defaultTray (j : Nat) : Nat := [0, 1, 1, 0, 8, 1, 0, 0].getD j 0

/-- CRZ_DEP[r] of the default graph (04 R96, R97). -/
def defaultDep (r : Nat) : Word :=
  if r < 112 then
    BitVec.ofNat 32 (2 ^ 31 + accRailState (r % 14) * 2 ^ 24 + (if r % 14 = 0 then 0x10000 else 0)
      + defaultLocal (r % 14))
  else
    BitVec.ofNat 32 ((if r < 118 then 2 ^ 31 else 0) + trayRailState (r - 112) * 2 ^ 24
      + defaultTray (r - 112) * 2 ^ 16)

/-- CRZ_DEP[r] in force; no graph set means the default one. -/
def depOf (s : State) (r : Nat) : Word := s.crz.dep.getD r (defaultDep r)

/-- A rail is sequenced and supervised (00 R10, 04 R95, R96). -/
def declared (s : State) (r : Rail) : Bool := fldB (depOf s r) 31

/-- Channel state in which a rail is enabled; 0 for one that is never enabled. -/
def railState (s : State) (r : Rail) : Nat := if declared s r then fld (depOf s r) 24 4 else 0

/-- Prerequisites of a rail as a mask over the 120 rails (04 R96). -/
def prereqMask (s : State) (r : Rail) : Nat :=
  let w := depOf s r
  (if r.1 < 112 then fld w 0 14 * 2 ^ (14 * (r.1 / 14)) else 0) + fld w 16 8 * 2 ^ 112

/-- The rails one of whose prerequisites is in a mask, with the mask itself. -/
def growDeps (s : State) (m : Nat) : Nat :=
  (List.finRange 120).foldl (fun m (r : Rail) => if prereqMask s r &&& m = 0 then m else m ||| 2 ^ r.1) m

/-- Repeated growth; the graph has no cycle, and each round that changes anything adds a rail. -/
def closeDeps (s : State) : Nat → Nat → Nat
  | 0, m => m
  | k + 1, m => let m' := growDeps s m
                if m' = m then m else closeDeps s k m'

/-- The transitive dependants of a rail, as a mask without the rail itself (04 R96). -/
def dependants (s : State) (r : Rail) : Nat :=
  let m := closeDeps s 120 (2 ^ r.1)
  m - 2 ^ r.1

/-- Rails of a channel that are sequenced in state `k` (04 R86, R94, R95). -/
def railsOf (s : State) (c : Chan) (k : Nat) : List Rail :=
  (List.finRange 120).filter fun r => chanOf r == c && k != 0 && railState s r == k &&
    (r.1 != 114 || s.nv.coolLiq)

/-- Target of a channel (04 R112). -/
def setTarget (c : Chan) (t : Nat) (s : State) : State := s.setChan c fun x => { x with target := t }

/-- Target of an accelerator's channel. -/
def setAccTarget (n : Acc) (t : Nat) (s : State) : State := setTarget (accChan n) t s

/-- CRC-8 of a Sorus word: polynomial 0x07, initial value 0 (10 R285). -/
def crc8 (l : List Byte) : Byte :=
  l.foldl (fun c b => (List.range 8).foldl (fun (c : Byte) _ =>
    if c.getLsbD 7 then (c <<< 1) ^^^ 0x07 else c <<< 1) (c ^^^ b)) 0

end Sys2Proof.Machine
end

