-- ==== Sys2Proof/Machine/Codec.lean ====
section
/-! DEFINITION. Command codes, roles and parameter layouts of the catalogue (15_command_catalogue.md R443 to R465):
parameters to bytes and back. Interface version N - 1 has the same layouts: the manual states no other. -/

namespace Sys2Proof.Machine

open Sys2Proof

/-- Command code (15 R450 to R465). -/
def codeOf : Cmd → Nat
  | .sysCapabilities => 0x0101 | .sysHeartbeat => 0x0102 | .sysStatus => 0x0103 | .sysCommitEpoch _ => 0x0104
  | .powerSetCap _ => 0x0701 | .powerSetEnvelope _ _ _ _ _ => 0x0702 | .powerStatus => 0x0703
  | .rackPowerOn => 0x0201 | .rackPowerOff _ _ => 0x0202 | .rackHold => 0x0203 | .rackReset => 0x0204
  | .rackJoin => 0x0205 | .rackDetach => 0x0206 | .trayPowerOn => 0x0210 | .trayPowerOff _ _ => 0x0211
  | .trayFaultClear => 0x0212 | .crzSetDep _ => 0x0220 | .crzSetConfig _ _ => 0x0221 | .crzClearFault _ => 0x0222
  | .crzStatus => 0x0223
  | .partitionPowerOn _ => 0x0301 | .partitionPowerOff _ _ => 0x0302 | .partitionReset _ _ _ => 0x0303
  | .partitionPark _ => 0x0304 | .partitionUnpark _ => 0x0305
  | .supSetWindow _ _ _ => 0x0501 | .supSetFastWindow _ _ => 0x0502 | .supMargin _ _ => 0x0503 | .supStatus => 0x0504
  | .steerSetMode _ => 0x0601 | .steerSetPhasePref _ _ => 0x0602 | .steerSetParkOrder _ => 0x0603
  | .steerSetGroup _ => 0x0604 | .steerSetConfig _ _ _ _ => 0x0605 | .steerStatus => 0x0606
  | .ledgerBindJob _ _ _ => 0x0801 | .ledgerUnbindJob _ => 0x0802 | .ledgerSetCoeff _ _ => 0x0803
  | .ledgerSetConfig _ => 0x0804 | .ledgerStatus => 0x0805
  | .frondStage _ _ _ _ _ => 0x0901 | .frondLoad _ _ _ => 0x0902 | .frondUnload _ _ => 0x0903
  | .frondRun _ _ => 0x0904 | .frondSetSched _ => 0x0905 | .frondStatus => 0x0906
  | .srsSetConfig _ _ => 0x0A01 | .srsStatus => 0x0A02
  | .bupTest _ => 0x0B01 | .bupFloorPlan _ => 0x0B02 | .bupJournalRead _ _ => 0x0B03 | .bupJournalForget _ => 0x0B04
  | .bupSetConfig _ => 0x0B05 | .bupStatus => 0x0B06
  | .coolSetConfig _ _ => 0x0C01 | .coolSetCurve _ => 0x0C02 | .coolSetTable _ => 0x0C03 | .coolSetMap _ _ _ => 0x0C04
  | .coolSetLoop _ => 0x0C05 | .coolSetMode _ => 0x0C06 | .coolClearFault _ => 0x0C07 | .coolClearLeak _ => 0x0C08
  | .coolStatus => 0x0C09
  | .twbSetConfig _ _ _ => 0x0D01 | .twbTransfer _ _ _ _ _ _ _ => 0x0D02 | .twbStatus => 0x0D03
  | .netSetConfig _ _ _ => 0x0E01 | .netSubscribe _ _ _ => 0x0E02
  | .fwStage _ _ _ _ _ => 0x1001 | .fwVerify _ => 0x1002 | .fwActivate _ _ _ => 0x1003 | .fwStatus => 0x1004
  | .secDebugChallenge _ => 0x1005 | .secDebugUnlock _ _ => 0x1006 | .secDebugLock => 0x1007
  | .secSetLifecycle _ _ => 0x1008 | .secSetKey _ _ => 0x1009 | .secStatus => 0x100A

/-- Every command code of the catalogue. -/
def knownCodes : List Nat :=
  [0x0101, 0x0102, 0x0103, 0x0104, 0x0701, 0x0702, 0x0703, 0x0201, 0x0202, 0x0203, 0x0204, 0x0205, 0x0206, 0x0210,
   0x0211, 0x0212, 0x0220, 0x0221, 0x0222, 0x0223, 0x0301, 0x0302, 0x0303, 0x0304, 0x0305, 0x0501, 0x0502, 0x0503,
   0x0504, 0x0601, 0x0602, 0x0603, 0x0604, 0x0605, 0x0606, 0x0801, 0x0802, 0x0803, 0x0804, 0x0805, 0x0901, 0x0902] ++
  [0x0903, 0x0904, 0x0905, 0x0906, 0x0A01, 0x0A02, 0x0B01, 0x0B02, 0x0B03, 0x0B04, 0x0B05, 0x0B06, 0x0C01, 0x0C02,
   0x0C03, 0x0C04, 0x0C05, 0x0C06, 0x0C07, 0x0C08, 0x0C09, 0x0D01, 0x0D02, 0x0D03, 0x0E01, 0x0E02, 0x1001, 0x1002,
   0x1003, 0x1004, 0x1005, 0x1006, 0x1007, 0x1008, 0x1009, 0x100A]

/-- Codes marked Read (15 R445). -/
def readCodes : List Nat :=
  [0x0101, 0x0102, 0x0103, 0x0703, 0x0223, 0x0504, 0x0606, 0x0805, 0x0906, 0x0A02, 0x0B02, 0x0B03, 0x0B06, 0x0C09,
   0x0D03, 0x1004, 0x100A]

/-- The command is marked Read. -/
def isRead (code : Nat) : Bool := readCodes.contains code

/-- Role of a command (14 R438, 15 R458): 0 either, 1 rack manager, 2 host software. The slot of a Frond staging, load or
unload is its first parameter byte. -/
def ownerOf (code : Nat) (p : List Byte) : Nat :=
  if isRead code then 0
  else if code = 0x0503 ∨ code = 0x0222 then 0
  else if code = 0x0901 ∨ code = 0x0902 ∨ code = 0x0903 then (if leAt p 0 1 < 2 then 1 else 0)
  else if (0x0301 ≤ code ∧ code ≤ 0x0305) ∨ (0x0601 ≤ code ∧ code ≤ 0x0604) ∨ code = 0x0801 ∨ code = 0x0802 ∨ code = 0x0904
    ∨ code = 0x0B01 then 2
  else 1

/-! Parameters to bytes. -/

/-- A word list as bytes. -/
def wordsLe (l : List Word) : List Byte := l.flatMap fun w => leBytes 4 w.toNat

/-- An IPv6 address in network order: the first byte is the highest (notes/assumptions/24.md). -/
def addrBytes (a : BitVec 128) : List Byte := (leBytes 16 a.toNat).reverse

/-- Parameters of a command as sent (15 R443). -/
def paramsOf : Cmd → List Byte
  | .sysCommitEpoch e => leBytes 2 e.toNat
  | .powerSetCap w => wordsLe [w]
  | .powerSetEnvelope p a r t b => wordsLe [p, a, r, t, b]
  | .rackPowerOff g f => [g, f]
  | .trayPowerOff g f => [g, f]
  | .crzSetDep d => wordsLe d
  | .crzSetConfig w l => wordsLe (w :: l)
  | .crzClearFault c => [c]
  | .partitionPowerOn a => [a]
  | .partitionPowerOff a m => [a, m]
  | .partitionReset a m f => [a, m, f]
  | .partitionPark a => [a]
  | .partitionUnpark a => [a]
  | .supSetWindow r w d => r :: 0 :: 0 :: 0 :: wordsLe [w, d]
  | .supSetFastWindow k w => k :: 0 :: 0 :: 0 :: wordsLe [w]
  | .supMargin r m => [r, m]
  | .steerSetMode w => wordsLe [w]
  | .steerSetPhasePref a p => a :: (List.replicate 7 0 ++ leBytes 8 p.toNat)
  | .steerSetParkOrder w => wordsLe [w]
  | .steerSetGroup w => wordsLe [w]
  | .steerSetConfig c c2 t l => wordsLe (c :: c2 :: t :: l)
  | .ledgerBindJob x f j => leBytes 2 x.toNat ++ f :: (List.replicate 5 0 ++ leBytes 8 j.toNat)
  | .ledgerUnbindJob x => leBytes 2 x.toNat
  | .ledgerSetCoeff b l => b :: 0 :: 0 :: 0 :: wordsLe l
  | .ledgerSetConfig w => wordsLe [w]
  | .frondStage x f o t d => x :: f :: 0 :: 0 :: (wordsLe [o, t] ++ d)
  | .frondLoad x src f => [x, src, f, 0]
  | .frondUnload x f => [x, f]
  | .frondRun x f => [x, f]
  | .frondSetSched w => wordsLe [w]
  | .srsSetConfig c e => wordsLe [c, e]
  | .bupTest a => [a]
  | .bupFloorPlan a => [a]
  | .bupJournalRead sn f => leBytes 8 sn.toNat ++ leBytes 2 f.toNat
  | .bupJournalForget sn => leBytes 8 sn.toNat
  | .bupSetConfig w => wordsLe [w]
  | .coolSetConfig c c2 => wordsLe [c, c2]
  | .coolSetCurve l => wordsLe l
  | .coolSetTable l => wordsLe l
  | .coolSetMap f t u => wordsLe (f ++ t) ++ (leBytes 2 u.toNat ++ [0, 0])
  | .coolSetLoop l => wordsLe l
  | .coolSetMode m => [m]
  | .coolClearFault p => [p]
  | .coolClearLeak z => [z]
  | .twbSetConfig p a t => wordsLe (p ++ a ++ [t])
  | .twbTransfer p a pr c wl rl wd => p :: a :: pr :: c :: (leBytes 2 wl.toNat ++ (leBytes 2 rl.toNat ++ wd))
  | .netSetConfig u l g => leBytes 2 u.toNat ++ 0 :: 0 :: (l.flatMap addrBytes ++ addrBytes g)
  | .netSubscribe st v d => st :: v :: leBytes 2 d.toNat
  | .fwStage t f o tot d => t :: f :: 0 :: 0 :: (wordsLe [o, tot] ++ d)
  | .fwVerify t => [t]
  | .fwActivate t sl f => [t, sl, f]
  | .secDebugChallenge l => [l]
  | .secDebugUnlock l sig => l :: 0 :: 0 :: 0 :: sig
  | .secSetLifecycle st sig => st :: 0 :: 0 :: 0 :: sig
  | .secSetKey k w => k :: 0 :: 0 :: 0 :: w
  | .sysCapabilities | .sysHeartbeat | .sysStatus | .powerStatus | .rackPowerOn | .rackHold | .rackReset | .rackJoin
  | .rackDetach | .trayPowerOn | .trayFaultClear | .crzStatus | .supStatus | .steerStatus | .ledgerStatus | .frondStatus
  | .srsStatus | .bupStatus | .coolStatus | .twbStatus | .fwStatus | .secDebugLock | .secStatus => []

/-! Bytes to parameters. -/

/-- `n` words from an offset. -/
def wordsAt (p : List Byte) (off n : Nat) : List Word := (List.range n).map fun i => BitVec.ofNat 32 (leAt p (off + 4 * i) 4)

/-- One word. -/
def wordAt (p : List Byte) (off : Nat) : Word := BitVec.ofNat 32 (leAt p off 4)

/-- One byte. -/
def byteAt (p : List Byte) (off : Nat) : Byte := BitVec.ofNat 8 (leAt p off 1)

/-- Reserved bytes are 0 (15 R443). -/
def blankAt (p : List Byte) (off n : Nat) : Bool := (slice p off n).all (· == 0)

/-- An IPv6 address. -/
def addrAt (p : List Byte) (off : Nat) : BitVec 128 := BitVec.ofNat 128 (leNat (slice p off 16).reverse)

/-- A command with no parameters. -/
def bare (p : List Byte) (c : Cmd) : Option Cmd := if p.length = 0 then some c else none

/-- A command whose parameters have a length. -/
def sized (p : List Byte) (n : Nat) (c : Cmd) : Option Cmd := if p.length = n then some c else none

/-- The command that a code and parameter bytes spell; none where LEN or a reserved byte is wrong (15 R443). -/
def parseCmd (code : Nat) (p : List Byte) : Option Cmd :=
  let b := byteAt p
  let w := wordAt p
  match code with
  | 0x0101 => bare p .sysCapabilities
  | 0x0102 => bare p .sysHeartbeat
  | 0x0103 => bare p .sysStatus
  | 0x0104 => sized p 2 (.sysCommitEpoch (BitVec.ofNat 16 (leAt p 0 2)))
  | 0x0701 => sized p 4 (.powerSetCap (w 0))
  | 0x0702 => sized p 20 (.powerSetEnvelope (w 0) (w 4) (w 8) (w 12) (w 16))
  | 0x0703 => bare p .powerStatus
  | 0x0201 => bare p .rackPowerOn
  | 0x0202 => sized p 2 (.rackPowerOff (b 0) (b 1))
  | 0x0203 => bare p .rackHold
  | 0x0204 => bare p .rackReset
  | 0x0205 => bare p .rackJoin
  | 0x0206 => bare p .rackDetach
  | 0x0210 => bare p .trayPowerOn
  | 0x0211 => sized p 2 (.trayPowerOff (b 0) (b 1))
  | 0x0212 => bare p .trayFaultClear
  | 0x0220 => sized p 480 (.crzSetDep (wordsAt p 0 120))
  | 0x0221 => sized p 48 (.crzSetConfig (w 0) (wordsAt p 4 11))
  | 0x0222 => sized p 1 (.crzClearFault (b 0))
  | 0x0223 => bare p .crzStatus
  | 0x0301 => sized p 1 (.partitionPowerOn (b 0))
  | 0x0302 => sized p 2 (.partitionPowerOff (b 0) (b 1))
  | 0x0303 => sized p 3 (.partitionReset (b 0) (b 1) (b 2))
  | 0x0304 => sized p 1 (.partitionPark (b 0))
  | 0x0305 => sized p 1 (.partitionUnpark (b 0))
  | 0x0501 => if blankAt p 1 3 then sized p 12 (.supSetWindow (b 0) (w 4) (w 8)) else none
  | 0x0502 => if blankAt p 1 3 then sized p 8 (.supSetFastWindow (b 0) (w 4)) else none
  | 0x0503 => sized p 2 (.supMargin (b 0) (b 1))
  | 0x0504 => bare p .supStatus
  | 0x0601 => sized p 4 (.steerSetMode (w 0))
  | 0x0602 => if blankAt p 1 7 then sized p 16 (.steerSetPhasePref (b 0) (BitVec.ofNat 64 (leAt p 8 8))) else none
  | 0x0603 => sized p 4 (.steerSetParkOrder (w 0))
  | 0x0604 => sized p 4 (.steerSetGroup (w 0))
  | 0x0605 => sized p 72 (.steerSetConfig (w 0) (w 4) (w 8) (wordsAt p 12 15))
  | 0x0606 => bare p .steerStatus
  | 0x0801 => if blankAt p 3 5 then sized p 16 (.ledgerBindJob (BitVec.ofNat 16 (leAt p 0 2)) (b 2) (BitVec.ofNat 64 (leAt p 8 8)))
              else none
  | 0x0802 => sized p 2 (.ledgerUnbindJob (BitVec.ofNat 16 (leAt p 0 2)))
  | 0x0803 => if blankAt p 1 3 then sized p 3204 (.ledgerSetCoeff (b 0) (wordsAt p 4 800)) else none
  | 0x0804 => sized p 4 (.ledgerSetConfig (w 0))
  | 0x0805 => bare p .ledgerStatus
  | 0x0901 => if blankAt p 2 2 ∧ 13 ≤ p.length ∧ p.length ≤ 4012 then some (.frondStage (b 0) (b 1) (w 4) (w 8) (p.drop 12))
              else none
  | 0x0902 => if blankAt p 3 1 then sized p 4 (.frondLoad (b 0) (b 1) (b 2)) else none
  | 0x0903 => sized p 2 (.frondUnload (b 0) (b 1))
  | 0x0904 => sized p 2 (.frondRun (b 0) (b 1))
  | 0x0905 => sized p 4 (.frondSetSched (w 0))
  | 0x0906 => bare p .frondStatus
  | 0x0A01 => sized p 8 (.srsSetConfig (w 0) (w 4))
  | 0x0A02 => bare p .srsStatus
  | 0x0B01 => sized p 1 (.bupTest (b 0))
  | 0x0B02 => sized p 1 (.bupFloorPlan (b 0))
  | 0x0B03 => sized p 10 (.bupJournalRead (BitVec.ofNat 64 (leAt p 0 8)) (BitVec.ofNat 16 (leAt p 8 2)))
  | 0x0B04 => sized p 8 (.bupJournalForget (BitVec.ofNat 64 (leAt p 0 8)))
  | 0x0B05 => sized p 4 (.bupSetConfig (w 0))
  | 0x0B06 => bare p .bupStatus
  | 0x0C01 => sized p 8 (.coolSetConfig (w 0) (w 4))
  | 0x0C02 => sized p 20 (.coolSetCurve (wordsAt p 0 5))
  | 0x0C03 => sized p 32 (.coolSetTable (wordsAt p 0 8))
  | 0x0C04 => if blankAt p 162 2 then
                sized p 164 (.coolSetMap (wordsAt p 0 16) (wordsAt p 64 24) (BitVec.ofNat 16 (leAt p 160 2)))
              else none
  | 0x0C05 => sized p 8 (.coolSetLoop (wordsAt p 0 2))
  | 0x0C06 => sized p 1 (.coolSetMode (b 0))
  | 0x0C07 => sized p 1 (.coolClearFault (b 0))
  | 0x0C08 => sized p 1 (.coolClearLeak (b 0))
  | 0x0C09 => bare p .coolStatus
  | 0x0D01 => sized p 80 (.twbSetConfig (wordsAt p 0 11) (wordsAt p 44 8) (w 76))
  | 0x0D02 => let wl := leAt p 4 2
              sized p (8 + wl) (.twbTransfer (b 0) (b 1) (b 2) (b 3) (BitVec.ofNat 16 wl) (BitVec.ofNat 16 (leAt p 6 2)) (p.drop 8))
  | 0x0D03 => bare p .twbStatus
  | 0x0E01 => if blankAt p 2 2 then
                sized p 84 (.netSetConfig (BitVec.ofNat 16 (leAt p 0 2)) ((List.range 4).map fun i => addrAt p (4 + 16 * i))
                  (addrAt p 68))
              else none
  | 0x0E02 => sized p 4 (.netSubscribe (b 0) (b 1) (BitVec.ofNat 16 (leAt p 2 2)))
  | 0x1001 => if blankAt p 2 2 ∧ 13 ≤ p.length ∧ p.length ≤ 4012 then some (.fwStage (b 0) (b 1) (w 4) (w 8) (p.drop 12))
              else none
  | 0x1002 => sized p 1 (.fwVerify (b 0))
  | 0x1003 => sized p 3 (.fwActivate (b 0) (b 1) (b 2))
  | 0x1004 => bare p .fwStatus
  | 0x1005 => sized p 1 (.secDebugChallenge (b 0))
  | 0x1006 => if blankAt p 1 3 then sized p 2424 (.secDebugUnlock (b 0) (p.drop 4)) else none
  | 0x1007 => bare p .secDebugLock
  | 0x1008 => if blankAt p 1 3 then sized p 2424 (.secSetLifecycle (b 0) (p.drop 4)) else none
  | 0x1009 => if blankAt p 1 3 then sized p 52 (.secSetKey (b 0) (p.drop 4)) else none
  | 0x100A => bare p .secStatus
  | _ => none

end Sys2Proof.Machine
end

