-- ==== Sys2Proof/Machine/Lane.lean ====
section
/-! DEFINITION. The coding of a Sorus lane (10 R284, R285): blocks, scrambler, block lock, and the checks of a frame. -/

namespace Sys2Proof.Machine

open Sys2Proof

/-- A block before scrambling (10 R284): eight payload bytes, or a control type and seven bytes. -/
inductive Block where
  | data (payload : Vector Byte 8)
  | control (type : Byte) (body : Vector Byte 7)
deriving DecidableEq, Repr

/-- The sync header of a block. -/
def syncOf : Block → BitVec 2
  | .data _ => 0b01
  | .control _ _ => 0b10

/-- A sync header is valid. -/
def syncValid (h : BitVec 2) : Bool := h == 0b01 || h == 0b10

/-- The payload bytes of a block, first sent first. -/
def blockBytes : Block → List Byte
  | .data p => p.toList
  | .control t b => t :: b.toList

/-- IDLE (10 R285). -/
def idleBlock : Block := .control 0x1E (Vector.replicate 7 0)

/-- The scrambler x^58 + x^39 + 1: the bit sent for a bit, from the 58 bits sent before it, the latest in bit 0 (10 R284). -/
def scrambleBit (st : BitVec 58) (b : Bool) : Bool × BitVec 58 :=
  let y := (b ^^ st.getLsbD 38) ^^ st.getLsbD 57
  (y, (st <<< 1) ||| BitVec.ofNat 58 y.toNat)

/-- The receiver's inverse, from the 58 bits received before. -/
def descrambleBit (st : BitVec 58) (y : Bool) : Bool × BitVec 58 :=
  ((y ^^ st.getLsbD 38) ^^ st.getLsbD 57, (st <<< 1) ||| BitVec.ofNat 58 y.toNat)

/-- A run of bits through the scrambler. -/
def scramble : BitVec 58 → List Bool → List Bool × BitVec 58
  | st, [] => ([], st)
  | st, b :: l =>
    let x := scrambleBit st b
    let r := scramble x.2 l
    (x.1 :: r.1, r.2)

/-- A run of bits through the descrambler. -/
def descramble : BitVec 58 → List Bool → List Bool × BitVec 58
  | st, [] => ([], st)
  | st, b :: l =>
    let x := descrambleBit st b
    let r := descramble x.2 l
    (x.1 :: r.1, r.2)

/-- The 64 payload bits of a block, least significant bit of each byte first (notes/assumptions/57.md). -/
def payloadBits (b : Block) : List Bool := (blockBytes b).flatMap fun x => (List.range 8).map x.getLsbD

/-- The 66 bits of a block on the lane and the scrambler after them; the sync header is not scrambled (10 R284). -/
def laneBits (st : BitVec 58) (b : Block) : List Bool × BitVec 58 :=
  let r := scramble st (payloadBits b)
  ((syncOf b).getLsbD 0 :: (syncOf b).getLsbD 1 :: r.1, r.2)

/-- Block lock is gained after 64 consecutive valid sync headers (10 R284). -/
def lockGained (sync : Vector (BitVec 2) 64) : Bool := sync.toList.all syncValid

/-- Block lock is lost at the 16th invalid sync header among 64 blocks (10 R284): the last block of the 64 brings it. -/
def lockFails (sync : Vector (BitVec 2) 64) : Bool :=
  !syncValid sync[63] && decide (16 ≤ (sync.toList.filter fun h => !syncValid h).length)

/-- One byte through a reflected CRC-32 with the Castagnoli polynomial. -/
def crc32cByte (c : Word) (b : Byte) : Word :=
  (List.range 8).foldl (fun c _ => if c.getLsbD 0 then (c >>> 1) ^^^ 0x82F63B78 else c >>> 1) (c ^^^ b.setWidth 32)

/-- CRC-32C (10 R285); the manual names it and gives no polynomial (PRESUMED, notes/assumptions/57.md). -/
def crc32c (l : List Byte) : Word := ~~~ (l.foldl crc32cByte 0xFFFFFFFF)

/-- The CRC-8 of a START block, over its bytes 0-6 (10 R285). -/
def startCrc (h : FrameHdr) : Byte :=
  crc8 ([0xF0, h.ftype] ++ leBytes 2 h.len.toNat ++ [h.ver] ++ leBytes 2 h.fseq.toNat)

/-- A frame with an error of CRC, framing or lock (10 R287, R288): CRC_ERR counts it. -/
def frameBroken (h : FrameHdr) (body : List Byte) : Bool :=
  h.crc8 != startCrc h ||
  match h.ending with
  | .term c => h.blocks != h.len.toNat || c != crc32c body
  | .control _ => true
  | .start => true
  | .lockLost => true

end Sys2Proof.Machine
end

