-- ==== Sys2Proof/Machine/Intake.lean ====
section
/-! DEFINITION. Sorus (10_sorus_telemetry_intake.md): the downstream control words, the state of a link, and the
acceptance of an upstream frame into its intake queue. -/

namespace Sys2Proof.Machine

open Sys2Proof

/-! Downstream words (10 R285, R295 to R298). -/

/-- A control word: type, six bytes, CRC-8 over the seven (10 R295). -/
def wordBytes (ty : Byte) (body : List Byte) : List Byte :=
  let b := ty :: (body ++ List.replicate 6 0).take 6
  b ++ [crc8 b]

/-- The order of the words at a block boundary (10 R296): ENVELOPE, FLOW, PARK, COMMIT, FMAX, TEST_CTL. -/
def wordClass (ty : Byte) : Nat :=
  if ty = 0xA1 then 0 else if ty = 0xA5 then 1 else if ty = 0xA4 then 2 else if ty = 0xA3 then 3 else if ty = 0xA2 then 4 else 5

/-- The word that leaves at a block boundary, and those that still wait (10 R296): the first of the lowest class, a COMMIT only
after every FMAX word that precedes it. -/
def pickWord (l : List (Nat × List Byte)) : Option (List Byte × List (Nat × List Byte)) :=
  let ready (x : (Nat × List Byte) × Nat) : Bool := x.1.1 != 3 || (l.take x.2).all fun w => w.1 != 4
  match l.zipIdx.foldl (fun (o : Option ((Nat × List Byte) × Nat)) x =>
      if !ready x then o else match o with
      | none => some x
      | some y => if x.1.1 < y.1.1 then some x else some y) none with
  | some x => some (x.1.2, l.eraseIdx x.2)
  | none => none

/-- The words of a link leave one a block boundary, with IDLE behind them (10 R296). -/
def drainWords : Nat → Acc → State → State
  | 0, _, s => s
  | k + 1, n, s =>
    match pickWord s.srs.link[n].waiting with
    | some (w, rest) => drainWords k n ((s.setLink n fun l => { l with waiting := rest }).send (.word n w))
    | none => s

/-- What forms several words at one instant: they wait, and leave in the order of the block boundaries that follow (10 R296). -/
def arbitrate (f : State → State) (s : State) : State :=
  if s.srs.forming then f s else
  let s := (f (s.modSrs fun r => { r with forming := true })).modSrs fun r => { r with forming := false }
  forAll accList (fun n s => drainWords s.srs.link[n].waiting.length n s) s

/-- A control word of a link that is up: it waits with those of its instant, or leaves at the next block boundary. -/
def sendWord (n : Acc) (ty : Byte) (body : List Byte) (s : State) : State :=
  if s.srs.link[n].state ≠ 2 then s
  else if s.srs.forming then s.setLink n fun l => { l with waiting := l.waiting ++ [(wordClass ty, wordBytes ty body)] }
  else s.send (.word n (wordBytes ty body))

/-- The throttle of an accelerator: theta in S9-S12 unless parked, 64 elsewhere (07 R209). -/
def envTheta (s : State) (n : Acc) : Nat := if 9 ≤ chState s n ∧ s.str.acc[n].park = .no then s.brm.theta else 64

/-- The ballast word of an accelerator, 0 outside S12 and while it is parked (07 R206, R209). -/
def envBallast (s : State) (n : Acc) : Nat := if chState s n = 12 ∧ s.str.acc[n].park = .no then s.brm.bal[n] else 0

/-- ENVELOPE of one link (10 R295): throttle, ballast word and ENV_SEQ. -/
def sendEnvelope (n : Acc) (s : State) : State :=
  if s.srs.link[n].state = 2 then
    let q := s.srs.link[n].envSeq + 1
    sendWord n 0xA1 (leBytes 1 (envTheta s n) ++ leBytes 2 (envBallast s n) ++ leBytes 2 q.toNat)
      (s.setLink n fun l => { l with envSeq := q })
  else s

/-- FLOW with the present state of PAUSE (10 R295, R303). -/
def sendFlow (n : Acc) (s : State) : State := sendWord n 0xA5 [if s.srs.link[n].paused then 1 else 0] s

/-- The words of a Brim period: ENVELOPE on every link, and FLOW again while PAUSE is in force (10 R298). -/
def sendEnvelopes (s : State) : State :=
  arbitrate (forAll accList fun n s =>
    let s := sendEnvelope n s
    if s.srs.link[n].paused then sendFlow n s else s) s

/-- PARK with the present PARK_SEQ (10 R295). -/
def sendParkWord (n : Acc) (s : State) : State :=
  let l := s.srs.link[n]
  sendWord n 0xA4 ((if l.parkOn == some true then 1 else 0) :: leBytes 2 l.parkSeq.toNat) s

/-- A new PARK or unpark word (10 R295). -/
def sendPark (n : Acc) (on : Bool) (s : State) : State :=
  sendParkWord n (s.setLink n fun l => { l with parkOn := some on, parkSeq := l.parkSeq + 1 })

/-- PARK is repeated until STATUS.PARKED matches it (10 R298). -/
def resendPark (n : Acc) (s : State) : State :=
  match s.srs.link[n].parkOn with
  | none => s
  | some on => if s.srs.link[n].parkedSeen == some on then s else sendParkWord n s

/-- The fmax entries of one band, MHz, in core order (03 R79). -/
def bandFmax (s : State) (n : Acc) (b : Nat) : List Nat := (s.acc[n].fmax.drop (1024 * b)).take 1024

/-- The fmax entries that bound the cores now: the lowest over the bands of a change in progress and over the common
frequencies (03 R80, R81; 06 R191). An entry of 0 is a masked core. -/
def coreFmax (s : State) (n : Acc) : List Nat :=
  let st := s.str.acc[n]
  let b0 := match st.fmaxBands with | [] => bandFmax s n (bandOf s n) | b :: _ => bandFmax s n b
  let l := (st.fmaxBands.drop 1).foldl (fun l b => List.zipWith min l (bandFmax s n b)) b0
  let caps := st.feltCaps.filter (· ≠ 0)
  l.map fun x => caps.foldl min x

/-- The shadow table to be sent, 8 MHz units (10 R295). -/
def fmaxUnits (s : State) (n : Acc) : List Nat := (coreFmax s n).map (· / 8)

/-- The groups of four cores of a table (10 R295), at most `k` of them. -/
def groupsOf : Nat → List Nat → List (List Nat)
  | 0, _ => []
  | k + 1, l => (l.take 4 ++ List.replicate 4 0).take 4 :: groupsOf k (l.drop 4)

/-- FMAX words for the groups that differ from the table last sent, or for all 256 (10 R295, R298). -/
def fmaxWords (whole : Bool) (new old : List Nat) : List (Nat × List Nat) :=
  if !whole && new == old then [] else
  let n := groupsOf 256 new
  let o := groupsOf 256 old
  (n.zipIdx).filterMap fun (g, i) => if whole || o[i]? ≠ some g then some (i, g) else none

/-- FMAX words and the COMMIT behind them, with the present OPP and quota (10 R295 to R298). -/
def sendCommit (n : Acc) (whole : Bool) (s : State) : State :=
  let l := s.srs.link[n]
  if l.state ≠ 2 then s else
  let tab := fmaxUnits s n
  let ws := fmaxWords whole tab l.fmaxSent
  let cnt := ws.length
  let q := l.commitSeq + 1
  let s := forAll ws (fun w s => sendWord n 0xA2 (leBytes 1 w.1 ++ w.2.map fun x => BitVec.ofNat 8 x) s) s
  let s := sendWord n 0xA3 (leBytes 1 (l.cOpp + 16 * (cnt / 256)) ++ leBytes 1 (oppMhz s.acc[n].bin l.cOpp / 8)
    ++ leBytes 1 l.cQuota ++ leBytes 2 q.toNat ++ leBytes 1 cnt) s
  s.setLink n fun l => { l with
    commitSeq := q, fmaxSent := tab, commits := ⟨q, l.cOpp⟩ :: l.commits }

/-- The COMMIT and PARK words of one steering loop; after two loops without an echo of the last COMMIT_SEQ the whole
table goes out (10 R298). -/
def sendQuota (n : Acc) (quota : Nat) (s : State) : State :=
  let l := s.srs.link[n]
  let run := if (l.last.map (·.commitSeq)) == some l.commitSeq then 0 else l.noEcho + 1
  let whole := decide (2 ≤ run)
  let s := s.setLink n fun l => { l with cQuota := quota, noEcho := if whole then 0 else run }
  sendCommit n whole (resendPark n s)

/-- A TEST_CTL word (10 R295, 11 R327). -/
def sendTest (n : Acc) (op : Byte) (body : List Byte) (s : State) : State := sendWord n 0xA6 (op :: body) s

/-- The full downstream state (10 R298). -/
def sendFull (n : Acc) (s : State) : State :=
  arbitrate (fun s => sendCommit n true (sendParkWord n (sendFlow n (sendEnvelope n s)))) s

/-! Links (10 R286, R299, R306). -/

/-- The downstream lane becomes lost or is regained: DS_LOST, and the FORCEMIN_N of 01 R21 (10 R299). -/
def setDsLost (n : Acc) (lost : Bool) (s : State) : State :=
  let s := s.setAcc n fun a => { a with forceLane := lost }
  if s.srs.link[n].dsLost == lost then s else
  let s := emit s 7 n.1 0xFF 0x0A03 (if lost then 1 else 0)
  let s := s.setLink n fun l => { l with dsLost := lost, span := none }
  if lost then s else sendFull n s

/-- Fill of an intake queue, bytes (10 R303). -/
def fillOf (l : LinkState) : Nat := (l.w + 131072 - l.rf) % 131072

/-- RESUME when the fill has fallen to the RESUME level (10 R303). -/
def resumeCheck (n : Acc) (s : State) : State :=
  let l := s.srs.link[n]
  if l.paused ∧ fillOf l ≤ 1024 * fld s.srs.cfg 8 8 then
    sendFlow n (s.setLink n fun l => { l with paused := false })
  else s

/-- The queue of a link is flushed when training starts after S0 (10 R306). PAD descriptors are no published frames. FSEQ starts
anew with the accelerator (notes/assumptions/57.md). -/
def flushQueue (n : Acc) (s : State) : State :=
  let k := (s.srs.link[n].queue.filter fun r => r.ftype ≠ 0).length
  resumeCheck n (s.setLink n fun l => { l with
    queue := [], w := 0, rf := 0, flushed := min 255 (l.flushed + k), flushDue := false, expect := none,
    discarded := 0 })

/-- A good activity frame of the present tick becomes the latest (10 R301). -/
def noteFrame (n : Acc) (a : Activity) (s : State) : State :=
  let again := frameNew s n
  let t := s.sys.tick
  let opp := s.acc[n].oppEff
  let tj := tjMax s n
  s.setLink n fun l => { l with
    older := if again then l.older else if l.lastNs.isSome then l.last else none
    ageBefore := if again then l.ageBefore else l.age, oppBefore := if again then l.oppBefore else opp,
    tjBefore := if again then l.tjBefore else tj
    last := some a, lastStamp := some t, lastNs := some a.frameNs.toNat, age := 0, parkedSeen := some a.parked,
    frames := if l.framesTick < t then l.frames + l.framesAt else l.frames, framesTick := t,
    framesAt := if l.framesTick < t then 1 else l.framesAt + 1 }

/-- Training starts (10 R286, R291, R309): with TRAIN_PRESET, the last FRAME_NS forgotten. -/
def linkStart (n : Acc) (s : State) : State :=
  let s := if s.srs.link[n].flushDue then flushQueue n s else s
  let s := s.modFrd fun f => { f with slot := f.slot.map fun k => { k with prevAct := k.prevAct.set n none } }
  setDsLost n true (s.setLink n fun l => { l with
    state := 1, trainTick := s.sys.tick, preset := fld s.srs.eq 20 3, presetTick := none, lastNs := none,
    span := none, upLock := false, dsLock := false, firstLock := none, waiting := [] })

/-- Training may start: state S2 or above, REFCLK present (10 R286). -/
def linkAllowed (s : State) (n : Acc) : Bool := decide (2 ≤ chState s n) && !s.sys.refclkLost

/-- A link goes down with a cause (10 R286, R311). -/
def linkDown (n : Acc) (cause : Nat) (s : State) : State :=
  if s.srs.link[n].state = 0 then s else
  let s := emit s 7 n.1 0xFF 0x0A02 cause
  setDsLost n true (s.setLink n fun l => { l with state := 0, upLock := false, tries := 0, waiting := [] })

/-- The preset that SRS_EQ assigns to the accelerator's band is applied to a link that is up, at once: the IDLE block that it waits for
is less than a tick away (10 R309). -/
def applyPreset (n : Acc) (s : State) : State :=
  let p := fld s.srs.eq (4 * bandOf s n) 3
  if s.srs.link[n].state ≠ 2 ∨ s.srs.link[n].preset = p then s
  else s.setLink n fun l => { l with preset := p, presetTick := some s.sys.tick }

/-! The intake (10 R287 to R307). -/

/-- Size of a record: descriptor and body, padded to 16 bytes (10 R300). -/
def recSize (len : Nat) : Nat := (16 + 8 * len + 15) / 16 * 16

/-- The bytes of a record: descriptor and padded body (10 R300). -/
def recBytes (r : QRec) : List Byte :=
  leBytes 1 r.ftype ++ [r.ver] ++ leBytes 2 r.len ++ leBytes 2 r.fseq.toNat ++ leBytes 2 r.flags ++ leBytes 8 r.stamp
    ++ r.body ++ List.replicate (recSize r.len - 16 - r.body.length) 0

/-- VER of N or N - 1 (10 R294). -/
def verOk (s : State) (v : Byte) : Bool := fld s.srs.ver 8 8 == v.toNat || fld s.srs.ver 0 8 == v.toNat

/-- The one BAD_FRAMES entry of a generation carries the new count (10 R311). -/
def badCount (n : Acc) (k : Nat) (s : State) : State :=
  let fix (e : Ev) : Ev :=
    if e.code = 0x0A06 ∧ e.unit = n.1 ∧ e.stamp / 100 = s.sys.tick / 100 then { e with detail := k } else e
  s.modRcd fun r => { r with
    merger := r.merger.map fun w => match w.item with | .ev e => { w with item := .ev (fix e) } | _ => w
    digest := r.digest.map fix, log := r.log.map fix }

/-- A frame is rewound for what is wrong with it (10 R288, R289, R311). -/
def discard (n : Acc) (crc : Bool) (s : State) : State :=
  let k := satAdd 0xFFFF s.srs.link[n].badFrames
  let s := s.setLink n fun l => { l with
    crcErr := if crc then satAdd 0xFFFF l.crcErr else l.crcErr,
    fmtErr := if crc then l.fmtErr else satAdd 0xFFFF l.fmtErr,
    discarded := l.discarded + 1, badFrames := k }
  if k = 1 then emit s 7 n.1 0xFF 0x0A06 1 else badCount n k s

/-- A frame that would overfill the queue is rewound (10 R304). -/
def overflowFrame (n : Acc) (fseq : BitVec 16) (s : State) : State :=
  let s := if s.srs.link[n].ovfEp then s else emit s 7 n.1 0xFF 0x0A04 fseq.toNat
  s.setLink n fun l => { l with overflow := satAdd 0xFFFF l.overflow, discarded := l.discarded + 1, ovfEp := true }

/-- A record is written and published (10 R300, R301, R304). -/
def publishFrame (n : Acc) (h : FrameHdr) (ftype len pad : Nat) (body : List Byte) (s : State) : State :=
  let l := s.srs.link[n]
  let missing := match l.expect with | none => 0 | some e => (h.fseq - e).toNat - l.discarded
  let padRec : List QRec := if pad = 0 then [] else
    [{ pos := l.w, ftype := 0, ver := 0, len := (pad - 16) / 8, fseq := 0, flags := 0, stamp := s.sys.tick, body := [] }]
  let pos := (l.w + pad) % 131072
  let r : QRec := { pos := pos, ftype := ftype, ver := h.ver, len := len, fseq := h.fseq,
                    flags := if missing = 0 then 0 else 1, stamp := s.sys.tick, body := body }
  let s := if l.verSeen && l.ver != h.ver then emit s 7 n.1 0xFF 0x0A07 h.ver.toNat else s
  let s := s.setLink n fun l => { l with
    queue := l.queue ++ padRec ++ [r], w := (pos + recSize len) % 131072, seqGap := min 0xFFFF (l.seqGap + missing),
    expect := some (h.fseq + 1), discarded := 0, ovfEp := false, lastGood := some s.sys.tick,
    ver := h.ver, verSeen := true, upLock := true }
  let l := s.srs.link[n]
  if !l.paused && decide (1024 * fld s.srs.cfg 16 8 ≤ fillOf l) then
    sendFlow n (s.setLink n fun l => { l with paused := true })
  else s

/-- The intake takes a frame of type `ftype` whose contents require `len` blocks: the state after it, and whether the frame was
published. `bad` is a format error of the contents (10 R288). A link that is not training or up receives nothing (10 R286, R306). -/
def takeFrame (n : Acc) (h : FrameHdr) (ftype len : Nat) (bad : Bool) (body : List Byte) (s : State) : Bool × State :=
  let l := s.srs.link[n]
  if l.state ≠ 1 ∧ l.state ≠ 2 then (false, s)
  else if frameBroken h body then (false, discard n true s)
  else if h.ftype.toNat ≠ ftype ∨ h.len.toNat ≠ len ∨ bad ∨ !verOk s h.ver then (false, discard n false s)
  else
    let off := l.w % 65536
    let pad := if 65536 < off + recSize len then 65536 - off else 0
    if 65536 < fillOf l + pad + recSize len then (false, overflowFrame n h.fseq s)
    else (true, publishFrame n h ftype len pad body s)

/-! Frame bodies (10 R290, R292, R293). -/

/-- A context entry (10 R290). -/
def ctxBytes (c : CtxFrame) : List Byte :=
  leBytes 1 c.phase.toNat ++ [c.epoch] ++ leBytes 4 c.runNs.toNat ++ leBytes 4 c.collWaitNs.toNat
    ++ c.counters.toList.flatMap fun x => leBytes 6 x.toNat

/-- The body of an activity frame (10 R290). -/
def activityBytes (a : Activity) : List Byte :=
  leBytes 8 a.frameNs.toNat ++ leBytes 6 a.avail.toNat ++ leBytes 2 (twos 16 a.tjMax) ++ leBytes 2 (twos 16 a.tjDie0)
    ++ leBytes 2 (twos 16 a.tjDie1) ++ leBytes 2 (twos 16 a.tjHbm) ++ leBytes 1 a.oppApplied.1
    ++ leBytes 1 a.throttleApplied ++ leBytes 1 a.quotaApplied
    ++ leBytes 1 (bit a.booted 0 + bit a.parked 1 + bit a.dsLock 2 + bit a.forceSeen 3 + bit a.testRunning 4)
    ++ leBytes 2 a.ballastApplied ++ leBytes 2 a.dsErr.toNat ++ leBytes 2 a.envSeq.toNat ++ leBytes 2 a.commitSeq.toNat
    ++ leBytes 2 a.parkSeq.toNat ++ List.replicate 28 0 ++ a.ctx.flatMap ctxBytes

/-- The body of an event frame (10 R292). -/
def eventBody (l : List EventEntry) : List Byte :=
  leBytes 8 l.length ++ l.flatMap fun e =>
    leBytes 8 e.ns.toNat ++ leBytes 2 e.code.toNat ++ leBytes 2 e.arg.toNat ++ leBytes 4 e.data.toNat

/-- The body of a test-result frame (10 R293). -/
def testBytes (n : Acc) (b : TestFrame) : List Byte :=
  let first := match b.results with | [] => 0 | r :: _ => n.1 * 16384 + r.engine.1
  leBytes 4 b.runId.toNat ++ leBytes 4 first ++ leBytes 2 b.results.length ++ leBytes 2 (if b.fixedSeed then 1 else 0)
    ++ List.replicate 4 0 ++ b.results.flatMap fun r => r.sums.toList.flatMap fun x => leBytes 8 x.toNat

/-- The entries of a test-result frame are of consecutive engines, 1 to 64 of them (10 R293). -/
def testWf (b : TestFrame) : Bool :=
  decide (1 ≤ b.results.length) && decide (b.results.length ≤ 64) &&
    (b.results.zip (b.results.drop 1)).all fun (x, y) => y.engine.1 == x.engine.1 + 1

/-- OPP_EFF after a good activity frame: the OPP of the last COMMIT echoed; before any COMMIT was sent, the OPP that
the frame reports (chapter 10, introduction; R297). -/
def takeEcho (n : Acc) (a : Activity) (s : State) : State :=
  let l := s.srs.link[n]
  if l.commits.isEmpty then s.setAcc n fun x => { x with oppEff := a.oppApplied.1 } else
  match l.commits.find? fun c => c.seq == a.commitSeq with
  | none => s
  | some c =>
    (s.setLink n fun l => { l with commits := l.commits.takeWhile (fun d => d.seq != a.commitSeq) ++ [c] }).setAcc n
      fun x => { x with oppEff := c.opp }

/-- The downstream lane as a good activity frame reports it (10 R299): lost with DS_LOCK 0, regained once frames that
span 1 ms report DS_LOCK 1 and one DS_ERR. -/
def takeLane (n : Acc) (a : Activity) (s : State) : State :=
  let l := s.srs.link[n]
  let s := s.setLink n fun l => { l with dsLock := a.dsLock, firstLock := l.firstLock.or (some a.dsLock) }
  if !a.dsLock then setDsLost n true (s.setLink n fun l => { l with span := none })
  else if !l.dsLost then s
  else match l.span with
    | some (ns, e) =>
      if e = a.dsErr then
        if l.state = 2 ∧ ns + 1000000 ≤ a.frameNs.toNat then setDsLost n false s else s
      else s.setLink n fun l => { l with span := some (a.frameNs.toNat, a.dsErr) }
    | none => s.setLink n fun l => { l with span := some (a.frameNs.toNat, a.dsErr) }

end Sys2Proof.Machine
end

