-- ==== Sys2Proof/Machine/Setpoint.lean ====
section
/-! DEFINITION. Core voltages and clocks: the set-points with margin (03 R78, 05 R150), the writes over AVSBus with the
widened windows (05 R137), the ordered changes of 03 R81, and the end of a drain that cannot go on (15 R454). -/

namespace Sys2Proof.Machine

open Sys2Proof

/-- The global rail of a core of an accelerator (03 R67). -/
def coreRail (n : Acc) (k : Fin 2) : Rail := railOf n ⟨11 + k.1, by omega⟩

/-- The fast comparator of a core rail (05 R140). -/
def coreFast (n : Acc) (k : Fin 2) : Fin 16 := ⟨2 * n.1 + k.1, by omega⟩

/-- A base set-point with a margin, to the nearest mV, halves away from the base (05 R150). -/
def margined (base : Nat) (steps : Int) : Nat :=
  let off := (base * steps.natAbs + 200) / 400
  if steps < 0 then base - off else base + off

/-- The set-point that a core is to have now (03 R78). -/
def coreTarget (s : State) (n : Acc) (k : Fin 2) : Nat := margined s.acc[n].setMv s.sup.marginNow[coreRail n k]

/-- A set-point write to one core (13 R405), which widens its windows (05 R137). -/
def avsWrite (n : Acc) (k : Fin 2) (s : State) : State :=
  let mv := coreTarget s n k
  let old := s.twb.avs[n].mv[k]
  let s := (s.send (.avs n k mv)).setAvs n fun a => { a with mv := a.mv.set k mv, pend := a.pend.set k (some (mv, 1)) }
  if old = mv then s else
  (s.setEntry (coreRail n k) fun e => { e with written := true }).modSup fun u => { u with widened := u.widened.set (coreFast n k) (match u.widened[coreFast n k] with
    | none => some (min old mv, max old mv)
    | some (lo, hi) => some (min lo mv, max hi mv)) }

/-- Both cores written (03 R78). -/
def avsWrites (n : Acc) (s : State) : State := avsWrite n 1 (avsWrite n 0 s)

/-- A readback taken since the set-point in force was written lies within 5 mV of it (03 R81, 05 R137). -/
def coreNear (s : State) (n : Acc) (k : Fin 2) : Bool :=
  match s.twb.avs[n].rb[k] with
  | none => false
  | some v => !s.sup.entry[coreRail n k].written && decide (v ≤ s.twb.avs[n].mv[k] + 5) && decide (s.twb.avs[n].mv[k] ≤ v + 5)

/-- The windows of a core rail narrow at the first readback within 5 mV (05 R137). -/
def narrow (n : Acc) (k : Fin 2) (s : State) : State :=
  if coreNear s n k then s.modSup fun u => { u with widened := u.widened.set (coreFast n k) none } else s

/-- A new set-point with the OPP, band and common frequency that apply once it is reached (03 R81). -/
def startSet (n : Acc) (mv opp felt : Nat) (s : State) : State :=
  let c : SetChange := { mv := mv, oldMv := s.acc[n].setMv, opp := opp, band := bandAt s n, felt := felt,
                         start := s.sys.tick }
  avsWrites n (s.setAcc n fun a => { a with setMv := mv, change := some c })

/-- A list with an element added unless it is there. -/
def addTo (l : List Nat) (x : Nat) : List Nat := if l.contains x then l else l ++ [x]

/-- Step 1 of 03 R81: every frequency decrease towards OPP `k`, the present band and a common frequency. -/
def lowerClocks (n : Acc) (k felt : Nat) (s : State) : State :=
  let b := bandAt s n
  let st := s.str.acc[n]
  let l := s.srs.link[n]
  if k < l.cOpp ∨ !st.fmaxBands.contains b ∨ !st.feltCaps.contains felt then
    sendCommit n false ((s.setStr n fun st => { st with
      fmaxBands := addTo st.fmaxBands b, feltCaps := addTo st.feltCaps felt }).setLink n
        fun l => { l with cOpp := min l.cOpp k })
  else s

/-- Step 4 of 03 R81: the clocks of an OPP, a band and a common frequency, with nothing else bounding them. -/
def raiseClocks (n : Acc) (k band felt : Nat) (s : State) : State :=
  let st := s.str.acc[n]
  if s.srs.link[n].cOpp = k ∧ st.fmaxBands = [band] ∧ st.feltCaps = [felt] then s else
  sendCommit n false ((s.setStr n fun st => { st with fmaxBands := [band], feltCaps := [felt] }).setLink n
    fun l => { l with cOpp := k })

/-- A request of a steering loop, carried out in the order of 03 R81; one already under way goes on, and is written
again after its 1 ms limit. -/
def applyOpp (n : Acc) (k felt : Nat) (s : State) : State :=
  let mv := oppMv s.acc[n].bin k + guardMv (bandAt s n)
  let s := lowerClocks n k felt s
  match s.acc[n].change with
  | some c =>
    if c.mv = mv ∧ c.opp = k ∧ c.band = bandAt s n ∧ c.felt = felt then
      (if c.start + 100 ≤ s.sys.tick then startSet n mv k felt s else s)
    else startSet n mv k felt s
  | none =>
    if s.acc[n].setMv = mv ∧ s.srs.link[n].cOpp = k ∧ s.str.acc[n].fmaxBands = [bandAt s n]
        ∧ s.str.acc[n].feltCaps = [felt] then s
    else startSet n mv k felt s

/-- The margin of a rail takes a new value: MARGIN_SET, and the set-point written over AVSBus or PMBus (05 R150,
R151). A regulator with a format other than linear is not written (13 R387). -/
def setMargin (r : Rail) (m : Int) (s : State) : State :=
  match accOfRail r with
  | none => s
  | some n =>
    let s := s.modSup fun u => { u with marginNow := u.marginNow.set r m, marginTick := u.marginTick.set r s.sys.tick }
    let s := emit s 7 n.1 r.1 0x0505 (twos 16 m)
    if r.1 % 14 = 11 then avsWrite n 0 s else if r.1 % 14 = 12 then avsWrite n 1 s
    else if s.twb.formatFault[r] then s
    else (s.setEntry r fun e => { e with written := true }).send (.vout r (margined s.sup.baseMv[r] m))

/-- A rail goes down with a margin: it is 0 at once, and the base is written back (05 R152). A core rail that is off is
not written. -/
def dropMargin (r : Rail) (s : State) : State :=
  if s.sup.marginNow[r] = 0 ∧ s.sup.marginTgt[r] = 0 then s else
  let s := s.modSup fun u => { u with marginTgt := u.marginTgt.set r 0 }
  if s.sup.marginNow[r] = 0 then s else
  match accOfRail r with
  | none => s
  | some n =>
    let s := s.modSup fun u => { u with marginNow := u.marginNow.set r 0, marginTick := u.marginTick.set r s.sys.tick }
    let s := emit s 7 n.1 r.1 0x0505 0
    if r.1 % 14 = 11 then s.setAvs n fun a => { a with mv := a.mv.set (0 : Fin 2) s.acc[n].setMv }
    else if r.1 % 14 = 12 then s.setAvs n fun a => { a with mv := a.mv.set (1 : Fin 2) s.acc[n].setMv }
    else if s.twb.formatFault[r] then s else s.send (.vout r s.sup.baseMv[r])

/-- Every margined rail of an accelerator walks back to 0 (05 R152). -/
def marginsHome (n : Acc) (s : State) : State :=
  s.modSup fun u => { u with marginTgt := Vector.ofFn fun (r : Rail) =>
    if r.1 / 14 = n.1 then 0 else u.marginTgt[r] }

/-- No rail of an accelerator has a margin, or a target that would give it one (05 R152). -/
def marginsZero (s : State) (n : Acc) : Bool :=
  (List.finRange 14).all fun i => s.sup.marginNow[railOf n i] == 0 && s.sup.marginTgt[railOf n i] == 0

/-- A park ends as its channel leaves S12 (06 R186): a host park is taken up again on the return, a cap park decided anew, and no
PARK word stays in force. -/
def endPark (n : Acc) (s : State) : State :=
  if s.str.acc[n].park == .no then s else
  let s := (s.setStr n fun a => { a with park := .no, parkReason := 0 }).modStr fun r =>
    { r with capParked := r.capParked.filter (· ≠ n) }
  s.setLink n fun l => { l with parkOn := none, parkedSeen := none }

/-- A fault during a drain ends its command; XNET_DRAIN stays asserted (15 R454). -/
def dropDrain (n : Acc) (s : State) : State :=
  match s.acc[n].drain with
  | none => s
  | some d => completeLate d.reply (conflict 0x0201 n.1) (s.setAcc n fun a => { a with drain := none })

end Sys2Proof.Machine
end

