-- ==== Sys2Proof/Machine/TestArith.lean ====
section
/-! DEFINITION. The arithmetic of the known-answer test (11_bringup_and_floor_plan.md R324 to R326): seeds, the operand
stream, the products of the four formats and their checksums; and the derivation of masks (R333). -/

namespace Sys2Proof.Machine

open Sys2Proof

/-- GOLD of 11 R324. -/
def gold : BitVec 64 := 0x9E3779B97F4A7C15

/-- mix of 11 R324. -/
def mix64 (z : BitVec 64) : BitVec 64 :=
  let z := (z ^^^ (z >>> 30)) * 0xBF58476D1CE4E5B9
  let z := (z ^^^ (z >>> 27)) * 0x94D049BB133111EB
  z ^^^ (z >>> 31)

/-- engine_seed of 11 R324; `e` is the 17-bit engine address, with acc field 0 in a fixed-seed run. -/
def engineSeed (seed : BitVec 64) (e : Nat) : BitVec 64 := mix64 (seed ^^^ (BitVec.ofNat 64 e * gold))

/-- `k` words of the operand stream, 8 bytes each, least significant first (11 R324). -/
def streamBytes : Nat → BitVec 64 → List Byte
  | 0, _ => []
  | k + 1, x =>
    let x := x + gold
    let w := mix64 x
    ((List.range 8).map fun i => BitVec.ofNat 8 (w.toNat / 256 ^ i)) ++ streamBytes k x

/-- Bytes of one format's operands, A then B (11 R325): formats 0 FP4, 1 FP8, 2 INT8, 3 BF16. -/
def fmtBytes (f : Nat) : Nat := if f = 0 then 2176 else if f = 3 then 8704 else 4352

/-- Where a format's operands begin in the stream (11 R325). -/
def fmtStart (f : Nat) : Nat := ((List.range f).map fmtBytes).sum

/-- Element `i` of a format's operands: A is 0 to 255, row by row, B is 256 on (11 R325). -/
def operand (b : List Byte) (f i : Nat) : Rat :=
  let at_ (j : Nat) : Nat := (b.getD (fmtStart f + j) 0).toNat
  if f = 0 then (weightVal 2 (at_ (i / 2) / 16 ^ (i % 2) % 16)).getD 0
  else if f = 1 then
    let x := at_ i
    (weightVal 3 (if x % 128 = 0x7F then x - 1 else x)).getD 0
  else if f = 2 then (weightVal 1 (at_ i)).getD 0
  else
    let r := at_ (2 * i) + 256 * at_ (2 * i + 1)
    let c := (r &&& 0x807F) ||| ((119 + (r / 128) % 16) * 128)
    (weightVal 4 c).getD 0

/-- C[m][n] of a format (11 R326): INT8 under 09 R249, the others as one chunk of 09 R250. -/
def product (b : List Byte) (f m n : Nat) : Rat :=
  let terms := (List.range 16).map fun k => (operand b f (16 * m + k), operand b f (256 + 256 * k + n))
  if f = 2 then (satI32 ((terms.map fun (p : Rat × Rat) => p.1 * p.2).sum.floor) : Int)
  else accF32 2 0 terms

/-- The bits of an accumulator, zero-extended (11 R326). -/
def accBits (f : Nat) (q : Rat) : BitVec 64 :=
  if f = 2 then BitVec.ofNat 64 ((q.floor % (2 ^ 32 : Int)).toNat) else (f32Code q).zeroExtend 64

/-- checksum of 11 R326 over the 4,096 accumulators in row order. -/
def checksum (seedE : BitVec 64) (f : Nat) (acc : List (BitVec 64)) : BitVec 64 :=
  let h := (acc.zipIdx).foldl (fun (h : BitVec 64) (p : BitVec 64 × Nat) =>
    ((h ^^^ ((BitVec.ofNat 64 p.2 <<< 32) ||| p.1)).rotateLeft 23) * gold) (seedE ^^^ BitVec.ofNat 64 f)
  let c := mix64 h
  if c = 0xFFFFFFFFFFFFFFFF then 0xFFFFFFFFFFFFFFFE else c

/-- The reference checksum of an engine in one format (11 R324 to R326). -/
def refSum (seed : BitVec 64) (e f : Nat) : BitVec 64 :=
  let se := engineSeed seed e
  let b := streamBytes 2448 se
  checksum se f ((List.range 4096).map fun i => accBits f (product b f (i / 256) (i % 256)))

/-- The set bits of `x` below `n`. -/
def popc (n x : Nat) : Nat := ((List.range n).filter fun i => x.testBit i).length

/-- A mask from a test of each unit. -/
def maskOf (n : Nat) (f : Nat → Bool) : BitVec n :=
  BitVec.ofNat n ((List.range n).foldl (fun a i => if f i then a ||| 2 ^ i else a) 0)

end Sys2Proof.Machine
end

