-- ==== Sys2Proof/Machine/Bringup.lean ====
section
/-! DEFINITION. Bring-up (11_bringup_and_floor_plan.md): masks, the defect journal, the known-answer run, the merge and
the floor plan, and what entering S9 to S12 or leaving them does. -/

namespace Sys2Proof.Machine

open Sys2Proof

/-! Masks (11 R321, R322, R333). -/

/-- The union of two sets of masks. -/
def maskUnion (a b : Masks) : Masks :=
  { die := a.die ||| b.die, hbm := a.hbm ||| b.hbm, cluster := a.cluster ||| b.cluster, core := a.core ||| b.core,
    engine := a.engine ||| b.engine }

/-- Masked units among `k` from unit `lo` on. -/
def maskCount {w : Nat} (m : BitVec w) (lo k : Nat) : Nat := popc k (m.toNat / 2 ^ lo)

/-- The derivation rules once: upwards from engines to dies, then downwards (11 R333). -/
def closeOnce (m : Masks) : Masks :=
  let core := m.core ||| maskOf 1024 fun c => decide (3 ≤ maskCount m.engine (16 * c) 16)
  let cluster := m.cluster ||| maskOf 64 fun k => decide (8 ≤ maskCount core (16 * k) 16)
  let die := m.die ||| maskOf 2 fun d => decide (16 ≤ maskCount cluster (32 * d) 32)
  let cluster := cluster ||| maskOf 64 fun k => die.getLsbD (k / 32)
  let core := core ||| maskOf 1024 fun c => cluster.getLsbD (c / 16)
  { m with die := die, cluster := cluster, core := core,
           engine := m.engine ||| maskOf 16384 fun e => core.getLsbD (e / 16) }

/-- The closure: the derivation repeated until nothing changes (11 R333). What the downward half masks lies under a
cluster or die that is masked already, so a second round changes nothing. -/
def closeMasks (m : Masks) : Masks := closeOnce (closeOnce m)

/-! The defect journal (11 R335 to R337). -/

/-- Entries in force, oldest first: not void under a KIND 9 entry, and no KIND 9 entry (11 R337). -/
def liveEntries (l : List (Option JEntry)) : List JEntry :=
  l.foldl (fun acc o => match o with
    | none => acc
    | some e => if e.kind = 9 then acc.filter fun x => x.serial ≠ e.serial else acc ++ [e]) []

/-- Entries of a serial in force. -/
def serialEntries (s : State) (serial : BitVec 64) : List JEntry :=
  (liveEntries s.nv.journal).filter fun e => e.serial == serial

/-- A unit masked by another entry of the same serial: its core, cluster or die (11 R336). -/
def redundant (l : List JEntry) (e : JEntry) : Bool :=
  l.any fun x => x.serial == e.serial &&
    ((e.kind == 1 && ((x.kind == 2 && x.unit == e.unit / 16) || (x.kind == 3 && x.unit == e.unit / 256)
        || (x.kind == 4 && x.unit == e.unit / 8192))) ||
     (e.kind == 2 && ((x.kind == 3 && x.unit == e.unit / 16) || (x.kind == 4 && x.unit == e.unit / 512))) ||
     (e.kind == 3 && x.kind == 4 && x.unit == e.unit / 32))

/-- A bank compacted (11 R336). -/
def compacted (l : List (Option JEntry)) : List (Option JEntry) :=
  let live := liveEntries l
  (live.filter fun e => !redundant live e).map some

/-- One entry is appended; a full bank is compacted first, and one that still cannot take it is reported (11 R336). -/
def appendEntry (e : JEntry) (s : State) : State :=
  if s.nv.journal.length < 16382 then s.modNv fun v => { v with journal := v.journal ++ [some e] } else
  let l := compacted s.nv.journal
  let s := s.modNv fun v => { v with journal := l, journalSeq := v.journalSeq + 1 }
  if l.length < 16382 then s.modNv fun v => { v with journal := v.journal ++ [some e] }
  else
    emit (s.modBup fun b => { b with journalFull := true }) 7 (if e.kind = 9 then 8 else e.position) 0xFF 0x0B08 (liveEntries l).length

/-- An entry of an accelerator's serial, written now (11 R335). -/
def entryOf (s : State) (n : Acc) (kind bin formats unit runId : Nat) : JEntry :=
  { kind := kind, bin := bin, formats := formats, unit := unit,
    serial := (s.acc[n].ident.map (·.serial)).getD 0, runId := runId, boot := s.nv.boots, position := n.1 }

/-- The masks that journal entries name (11 R322). -/
def journalMasks (l : List JEntry) : Masks :=
  let at_ (k : Nat) (i : Nat) : Bool := l.any fun e => e.kind == k && e.unit == i
  { die := maskOf 2 (at_ 4), cluster := maskOf 64 (at_ 3), core := maskOf 1024 (at_ 2), engine := maskOf 16384 (at_ 1) }

/-- The standing mask of an accelerator with an identity block (11 R322). -/
def standingOf (s : State) (id : Identity) : Masks :=
  closeMasks (maskUnion
    { die := id.dieMask, hbm := id.hbmMask, cluster := id.clusterMask, core := id.coreMask, engine := id.engineMask }
    (journalMasks (serialEntries s id.serial)))

/-- fmax entries with the masked cores at 0 and no entry above `top` (03 R66, R79). -/
def limitFmax (m : Masks) (top : Nat) (l : List Nat) : List Nat :=
  (l.zipIdx).map fun (x, i) => if m.core.getLsbD (i % 1024) then 0 else min x top

/-- An identity block that can be used is taken: bin, fmax, standing mask, demotion (03 R65, R66, R79; 11 R322). -/
def loadIdentity (n : Acc) (id : Identity) (s : State) : State :=
  let m := standingOf s id
  let bin := ((serialEntries s id.serial).filter fun e => e.kind == 7).foldl (fun b e => max b e.bin) id.binFuse.toNat
  let fm := id.fmax.map fun x => x.toNat / 8 * 8
  (s.setAcc n fun a => { a with ident := some id, bin := bin, fmax := limitFmax m (oppMhz bin 15) fm }).setBup n fun b =>
    { b with standing := m, closed := m, failed := false, unusable := maskCount m.engine 0 16384 }

/-! Runs (11 R323, R328 to R331). -/

/-- Tests use the fixed-seed tables (11 R331). -/
def fixedSeed (s : State) : Bool := s.nv.frondEng == 0

/-- A core of an accelerator takes part in the test: it has an fmax entry other than 0 (11 R328). -/
def coreRuns (s : State) (n : Acc) (c : Nat) : Bool :=
  (List.range 5).any fun b => s.acc[n].fmax.getD (1024 * b + c) 0 ≠ 0

/-- A run is drawn: RUN_SEED, a free value (notes/assumptions/3.md), and the next BUP_RUN_ID (11 R323); with fixed seeds
the seed of the accelerator's table (11 R331). -/
def drawRun (n : Acc) (s : State) : (Nat × BitVec 64) × State :=
  let (x, s) := s.draw
  let id := (s.nv.runId + 1) % 2 ^ 32
  let seed := if fixedSeed s then BitVec.ofNat 64 (leAt s.sec.acc[n].table 0 8) else BitVec.ofNat 64 x.toNat
  ((id, seed), s.modNv fun v => { v with runId := id })

/-- An accelerator's engines are submitted to the reference job (11 R323, 09 R279); fixed-seed references are at hand
(11 R331). -/
def startRefs (n : Acc) (r : Nat × BitVec 64) (s : State) : State :=
  let base := if s.frd.refBusy then s.frd.refTotal else 0
  let s := s.setBup n fun b => { b with drawn := some r, refWait := !fixedSeed s, refReady := fixedSeed s, refBase := base }
  if fixedSeed s then s else
  let k := 16 * ((List.range 1024).filter (coreRuns s n)).length
  s.modFrd fun f => { f with
    refBusy := true, refTotal := (if f.refBusy then f.refTotal else 0) + k,
    refDone := if f.refBusy then f.refDone else 0, refAgain := f.refBusy && f.refAgain }

/-- The words that start a run (11 R327, R328). -/
def sendStart (n : Acc) (r : TestRun) (s : State) : State :=
  let s := sendTest n 0x01 (leBytes 1 0 ++ leBytes 4 (r.seed.toNat % 2 ^ 32)) s
  let s := sendTest n 0x01 (leBytes 1 1 ++ leBytes 4 (r.seed.toNat / 2 ^ 32)) s
  sendTest n 0x02 (leBytes 4 r.runId ++ [if r.fixed then 1 else 0]) s

/-- A run starts (11 R328). -/
def startRun (n : Acc) (attempt : Nat) (d : Nat × BitVec 64) (s : State) : State :=
  let r : TestRun := { runId := d.1, seed := d.2, fixed := fixedSeed s, attempt := attempt, start := s.sys.tick,
                       seen := false, done := false, resends := 0, got := 0, failed := [], waiting := [], control := [] }
  sendStart n r (s.setBup n fun b => { b with
    run := some r, attempt := attempt, stage := 4, testMode := if fixedSeed s then 2 else 1, drawn := none })

/-- The four references of an engine of a run (11 R326, R331). -/
def refSums (s : State) (n : Acc) (r : TestRun) (e : Nat) : List (BitVec 64) :=
  (List.range 4).map fun f =>
    if r.fixed then BitVec.ofNat 64 (leAt s.sec.acc[n].table (8 + 32 * e + 8 * f) 8)
    else refSum r.seed (16384 * n.1 + e) f

/-- Formats whose checksum differs from the reference, as a mask (11 R329). -/
def badFormats (ref : List (BitVec 64)) (x : EngineResult) : Nat :=
  ((ref.zip x.sums.toList).zipIdx).foldl (fun m (p, f) => if p.1 = p.2 then m else m + 2 ^ f) 0

/-- An engine that was not run carries all ones (10 R293). -/
def notRun (x : EngineResult) : Bool := x.sums.toList.all fun v => v == 0xFFFFFFFFFFFFFFFF

/-- Place of an engine in the reference job: ascending addresses, cores with fmax 0 left out (11 R323). -/
def refPlace (s : State) (n : Acc) (e : Nat) : Nat :=
  s.bup.acc[n].refBase + 16 * ((List.range (e / 16)).filter (coreRuns s n)).length + e % 16

/-- The reference of an engine is present: all are, or the job has passed it (11 R329). -/
def refHere (s : State) (n : Acc) (e : Nat) : Bool :=
  s.bup.acc[n].refReady || (s.bup.acc[n].refWait && decide (refPlace s n e < s.frd.refDone))

/-- One result joins its run: compared where the references are present, kept waiting where they are not (11 R329). -/
def addResult (s : State) (n : Acc) (r : TestRun) (x : EngineResult) : TestRun :=
  if !coreRuns s n (x.engine.1 / 16) || notRun x || r.got.getLsbD x.engine.1 then r
  else if refHere s n x.engine.1 then
    let f := badFormats (refSums s n r x.engine.1) x
    { r with got := r.got ||| (1 <<< x.engine.1), failed := if f = 0 then r.failed else r.failed ++ [(x.engine, f)] }
  else if r.waiting.any fun y => y.engine == x.engine then r
  else { r with waiting := r.waiting ++ [x] }

/-- Engines of unmasked cores without a result (11 R330). -/
def missingEngines (s : State) (n : Acc) (r : TestRun) : List Nat :=
  (List.range 1024).flatMap fun c =>
    if coreRuns s n c then
      ((List.range 16).map (16 * c + ·)).filter fun e =>
        !r.got.getLsbD e && !(r.waiting.any fun y => y.engine.1 == e)
    else []

/-- Ascending numbers as ranges: first and count. -/
def rangesOf : List Nat → List (Nat × Nat)
  | [] => []
  | x :: l => match rangesOf l with
    | (y, k) :: rest => if y = x + 1 then (x, k + 1) :: rest else (x, 1) :: (y, k) :: rest
    | [] => [(x, 1)]

/-! The merge and the floor plan (11 R332 to R340). -/

/-- Allowance of unusable engines of a bin (11 R338). -/
def allowance (bin : Nat) : Nat := if bin = 0 then 256 else if bin = 1 then 768 else 1536

/-- The bin that an unusable count leaves an accelerator of a bin in; none is no bin (11 R338). -/
def binFor (bin unusable : Nat) : Option Nat := (List.range 3).find? fun b => decide (bin ≤ b) && decide (unusable ≤ allowance b)

/-- An accelerator is declared failed for compute (11 R338). -/
def declareFailed (n : Acc) (detail : Nat) (s : State) : State :=
  let s := if detail = 3 then s else appendEntry (entryOf s n 8 0 0 0 s.bup.acc[n].mergedRun) s
  hostEvent 6 (emit ((s.setAcc n fun a => { a with bin := 0xFF }).setBup n fun b => { b with failed := true })
    7 n.1 0xFF 0x0B06 detail)

/-- An accelerator is demoted to a lower bin (03 R66, 11 R338). -/
def demote (n : Acc) (bin : Nat) (s : State) : State :=
  let s := appendEntry (entryOf s n 7 bin 0 0 s.bup.acc[n].mergedRun) s
  emit (s.setAcc n fun a => { a with bin := bin, fmax := a.fmax.map fun x => min x (oppMhz bin 15) }) 7 n.1 0xFF 0x0B05 bin

/-- What the merge decides about the bin (11 R338). -/
def judgeBin (n : Acc) (s : State) : State :=
  let serial := (s.acc[n].ident.map (·.serial)).getD 0
  let b := s.bup.acc[n]
  if (serialEntries s serial).any fun e => e.kind == 8 then declareFailed n 3 s
  else if b.closed.die ≠ 0 then declareFailed n 1 s
  else match binFor s.acc[n].bin b.unusable with
    | none => declareFailed n 2 s
    | some k => if k = s.acc[n].bin then s else demote n k s

/-- The results of a run merge with the standing mask, the entries journaled since among it (11 R332, R333, R338); `untested`
engines are masked for this boot, and no result removes a mask. -/
def mergeRun (n : Acc) (r : TestRun) (untested : List Nat) (s : State) : State :=
  let s := sendTest n 0x05 (leBytes 4 r.runId) s
  let st := maskUnion s.bup.acc[n].standing (journalMasks (serialEntries s ((s.acc[n].ident.map (·.serial)).getD 0)))
  let newEng := r.failed.filter fun p => !st.engine.getLsbD p.1.1
  let newCtl := r.control.filter fun p =>
    !(if p.1 = 2 then st.core.getLsbD p.2 else if p.1 = 3 then st.cluster.getLsbD p.2 else st.die.getLsbD p.2)
  let s := forAll newEng (fun p s => appendEntry (entryOf s n 1 0 p.2 p.1.1 r.runId) s) s
  let s := forAll newCtl (fun p s => appendEntry (entryOf s n p.1 0 0 p.2 r.runId) s) s
  let fresh : Masks :=
    { die := maskOf 2 fun i => newCtl.any fun p => p.1 == 4 && p.2 == i
      cluster := maskOf 64 fun i => newCtl.any fun p => p.1 == 3 && p.2 == i
      core := maskOf 1024 fun i => newCtl.any fun p => p.1 == 2 && p.2 == i
      engine := maskOf 16384 fun i => (newEng.any fun p => p.1.1 == i) || untested.contains i }
  let m := closeMasks (maskUnion (maskUnion s.bup.acc[n].closed st) fresh)
  let s := s.setBup n fun b => { b with
    run := none, stage := 5, closed := m, merged := true, mergedRun := r.runId, untested := untested.length,
    newFail := newEng.length, unusable := maskCount m.engine 0 16384, refWait := false }
  let s := s.setAcc n fun a => { a with fmax := limitFmax m 65535 a.fmax }
  judgeBin n (emit s 7 n.1 0xFF 0x0B03 (min 0xFFFF newEng.length))

/-- A run that is done with every result compared is merged (11 R330). -/
def finishRun (n : Acc) (s : State) : State :=
  match s.bup.acc[n].run with
  | none => s
  | some r => if r.done && r.waiting.isEmpty && (missingEngines s n r).isEmpty then mergeRun n r [] s else s

/-- Results still missing after the RESENDs or at the end of the run's time: a second run, and after it UNTESTED
engines (11 R330). -/
def giveUp (n : Acc) (s : State) : State :=
  match s.bup.acc[n].run with
  | none => s
  | some r =>
    if !r.waiting.isEmpty then s
    else if r.attempt = 1 then
      let s := sendTest n 0x04 (leBytes 4 r.runId) s
      let (d, s) := drawRun n s
      startRun n 2 d (startRefs n d (emit s 7 n.1 0xFF 0x0B04 2))
    else mergeRun n r (missingEngines s n r) s

/-- Bring-up's part of a steering loop: SEED and START repeated, RESEND, the second run (11 R328, R330). -/
def bupLoopOf (n : Acc) (s : State) : State :=
  match s.bup.acc[n].run with
  | none => s
  | some r =>
    if !r.seen then sendStart n r s
    else if !r.done then s
    else
      let miss := missingEngines s n r
      if miss.isEmpty then finishRun n s
      else if r.resends < fld s.bup.cfg 8 4 then
        let s := forAll (rangesOf miss) (fun p s => sendTest n 0x03 (leBytes 2 p.1 ++ leBytes 2 p.2) s) s
        emit (s.setBup n fun b => { b with run := some { r with resends := r.resends + 1 } }) 7 n.1 0xFF 0x0B04 1
      else giveUp n s

/-- Bring-up's part of a steering loop for every accelerator. -/
def bupLoop (s : State) : State := forAll accList (fun n s => if chState s n = 11 then bupLoopOf n s else s) s

/-- The waiting results whose references are present are compared (11 R329). -/
def compareWaiting (n : Acc) (s : State) : State :=
  match s.bup.acc[n].run with
  | none => s
  | some r =>
    let r' := r.waiting.foldl (fun r x => addResult s n r x) { r with waiting := [] }
    finishRun n (s.setBup n fun b => { b with run := some r' })

/-- The reference job has gone on for an accelerator that waits for it. -/
def refsProgress (n : Acc) (s : State) : State := if s.bup.acc[n].refWait then compareWaiting n s else s

/-- All references of an accelerator are present. -/
def refsArrive (n : Acc) (s : State) : State :=
  if !s.bup.acc[n].refWait then s else
  compareWaiting n (s.setBup n fun b => { b with refWait := false, refReady := true })

/-- A training item failed or was not reported as passed (11 R318, R319). -/
def itemFailed (o : Option Nat) : Bool := o == none || o == some 2

/-- A mask over the training items from item `lo` on (11 R319). -/
def itemMask (w : Nat) (b : BupAcc) (lo : Nat) : BitVec w :=
  maskOf w fun i => if h : lo + i < 20 then itemFailed b.items[lo + i] else false

/-- The floor-plan record of a merged accelerator (11 R339). -/
def planOf (s : State) (n : Acc) : FloorPlan :=
  let b := s.bup.acc[n]
  let a := s.acc[n]
  { status := if b.failed then 1 else 0, bin := a.bin, binFuse := (a.ident.map (·.binFuse.toNat)).getD 0,
    serial := (a.ident.map (·.serial)).getD 0, runId := b.mergedRun, testMode := b.testMode,
    mask := { b.closed with hbm := b.closed.hbm ||| itemMask 8 b 4 },
    dimm := itemMask 8 b 12, xnet := itemMask 4 b 0, untested := b.untested }

/-- Every accelerator in S11 has its merge (11 R340), and there is something to publish. -/
def planDue (s : State) : Bool :=
  (accList.all fun n => !(s.bup.acc[n].run.isSome || (s.bup.acc[n].drawn.isSome && chState s n == 11))) &&
  (accList.any fun n => s.bup.acc[n].merged || s.bup.acc[n].dropped)

/-- The floor plan is published, and after it the targets are set (11 R340, R342). -/
def publishPlan (s : State) : State :=
  let v := (s.bup.fpVer + 1) % 2 ^ 32
  let plans := Vector.ofFn fun (n : Acc) =>
    let b := s.bup.acc[n]
    if b.merged then planOf s n else if b.dropped then { b.plan with status := 2 } else b.plan
  let s := s.modBup fun b => { b with
    fpVer := v, drawn := if s.rack.state = 7 then false else b.drawn,
    acc := Vector.ofFn fun (n : Acc) => { b.acc[n] with plan := plans[n] } }
  let s := hostEvent 3 (emit s 7 8 0xFF 0x0B07 (v % 65536))
  forAll accList (fun n s =>
    let b := s.bup.acc[n]
    let s := if b.merged then
        let s := s.setChan (accChan n) fun c => { c with stepDone := true }
        if b.failed then (setAccTarget n 3 s).setBup n fun b => { b with stage := 8 }
        else if b.solo then setAccTarget n 12 s else s
      else s
    s.setBup n fun b => { b with merged := false, dropped := false }) s

/-! Entering and leaving S9 to S12. -/

/-- The settings record of the key of an accelerator (11 R317). -/
def settingsKey (s : State) (n : Acc) (t : TrainRec) : Bool :=
  some t.serial == (s.acc[n].ident.map (·.serial)) && t.position == n.1 && t.band == s.bup.acc[n].bootBand

/-- The selected settings record, or an empty one, is written to the training mailbox (11 R316, R317); on a stuck main
bus it waits (13 R401). A record used moves to the front. -/
def writeSettings (n : Acc) (s : State) : State :=
  if s.twb.port[(⟨n.1, by omega⟩ : Port)].stuck then s.setBup n fun b => { b with boxDue := true } else
  let found := if fldB s.bup.cfg 0 then s.nv.settings.find? (settingsKey s n) else none
  let s := s.setBup n fun b => { b with boxDue := false, savedUsed := found.isSome }
  match found with
  | none => s.send (.settings n none)
  | some t => (s.send (.settings n (some t.content))).modNv fun v => { v with
      settings := t :: v.settings.filter fun u => u ≠ t }

/-- Entry to S9: ACC_RST_N and Crozier's FORCEMIN_N demand released, the boot timer started (04 R86, 11 R315). -/
def enterS9 (n : Acc) (s : State) : State :=
  let s := s.setAcc n fun a => { a with rst := false, forceCrz := false }
  writeSettings n (s.setBup n fun b => { b with
    stage := 2, attempt := 1, bootTick := s.sys.tick, booted := false, bootBand := bandOf s n, training := false,
    items := Vector.replicate 20 none, trainMode := 0, run := none, drawn := none, merged := false, refWait := false,
    refReady := false })

/-- Entry to S10: training starts; in rack state 6, or in 7 before the floor plan, the engines are submitted (11 R316,
R323). -/
def enterS10 (n : Acc) (s : State) : State :=
  let s := s.setBup n fun b => { b with stage := 3, training := true, trainTick := s.sys.tick }
  if s.rack.state = 6 ∨ (s.rack.state = 7 ∧ s.bup.drawn) then
    if s.bup.drawn then startRefs n (s.bup.runId, if fixedSeed s then BitVec.ofNat 64 (leAt s.sec.acc[n].table 0 8)
      else s.bup.seed) s
    else
      let (d, s) := drawRun n s
      startRefs n d (s.modBup fun b => { b with drawn := true, runId := d.1, seed := d.2 })
  else s

/-- Entry to S11: the run starts; without a wanted test the step is over at once (11 R328, 15 R454). -/
def enterS11 (n : Acc) (s : State) : State :=
  if !s.acc[n].testWanted then s.setChan (accChan n) fun c => { c with stepDone := true } else
  match s.bup.acc[n].drawn with
  | some d => startRun n 1 d s
  | none =>
    let (d, s) := drawRun n s
    startRun n 1 d (startRefs n d s)

/-- Entry to S12: ready (11 R343). -/
def enterS12 (n : Acc) (s : State) : State :=
  (s.setBup n fun b => { b with stage := 6, solo := false, drawn := none }).setAcc n fun a => { a with testWanted := true }

/-- A run or training is abandoned: no END, nothing merged, STATUS 2 with the next floor plan (11 R342). -/
def abandonRun (n : Acc) (s : State) : State :=
  let b := s.bup.acc[n]
  let inRun := b.training || b.run.isSome || b.merged || (b.drawn.isSome && chState s n ≠ 12)
  s.setBup n fun b => { b with
    run := none, drawn := none, merged := false, training := false, refWait := false, refReady := false, solo := false,
    dropped := b.dropped || inRun, stage := if b.stage = 7 ∨ b.stage = 8 then b.stage else 0, booted := false }

end Sys2Proof.Machine
end

