-- ==== Sys2Proof/Machine/Crozier.lean ====
section
/-! DEFINITION. Crozier (04_power_sequencing.md): rails, steps up and down, fault and emergency shutdowns. -/

namespace Sys2Proof.Machine

open Sys2Proof

/-! Rails. -/

/-- Crozier drives the enable of a rail: every one but AUX3V3 (04 R94). -/
def driven (r : Rail) : Bool := r.1 != 115

/-- A mask of the rails with a property. -/
def railMask (f : Rail → Bool) : Nat := (List.finRange 120).foldl (fun m (r : Rail) => if f r then m ||| 2 ^ r.1 else m) 0

/-- Every rail of a mask counts as stable. -/
def allStable (s : State) (m : Nat) : Bool := m &&& railMask (fun r => !s.crz.rail[r].stable) == 0

/-- A rail is enabled (04 R88, R99); its current reads 0 until a readback (05 R147). -/
def enableRail (r : Rail) (s : State) : State :=
  (s.setRail r fun q => { q with
    en := true, stable := false, off := false, trans := [], enTick := s.sys.tick, removing := false, collapsed := false,
    offLate := false }).setEntry r fun e => { e with i := 0, offRun := 0, outRun := 0 }

/-- A rail is disabled: its margin is dropped (05 R152) and the inputs of its accelerator are disarmed (03 R72). -/
def disableRail (r : Rail) (s : State) : State :=
  if !s.crz.rail[r].en then s else
  let s := s.setRail r fun q => { q with en := false, stable := false, disTick := s.sys.tick }
  let s := dropMargin r s
  match accOfRail r with
  | none => s
  | some n =>
    if r.1 % 14 = 0 then s.setAcc n fun a => { a with thermArmed := false }
    else if r.1 % 14 = 11 ∨ r.1 % 14 = 12 then
      s.setAcc n fun a => { a with
        vrArmed := a.vrArmed && (s.crz.rail[coreRail n 0].stable || s.crz.rail[coreRail n 1].stable) }
    else s

/-- Step window of a channel state, ticks (04 R112). -/
def windowTicks (s : State) (c : Chan) (k : Nat) : Nat :=
  10 * s.crz.stepwin.getD (if c = 8 then 7 + k else k - 1) 20

/-! Entering and leaving states. -/

/-- Channel `c` is in state `k` from this tick on; below T4 cooling is not established (12 R366). -/
def putState (c : Chan) (k : Nat) (s : State) : State :=
  let s := if c = 8 ∧ k < 4 then s.modCool fun q => { q with est := false } else s
  s.setChan c fun x => { x with state := k, chTick := s.sys.tick }

/-- ACC_RST_N and Crozier's FORCEMIN_N demand asserted (03 R70). -/
def holdReset (n : Acc) (s : State) : State :=
  s.setAcc n fun a => { a with rst := true, rstTick := if a.rst then a.rstTick else s.sys.tick, forceCrz := true }

/-- What leaving S9 to S12 downward ends: the run, and a set-point change (11 R342). -/
def leaveTop (n : Acc) (s : State) : State :=
  (abandonRun n (endPark n s)).setAcc n fun a => { a with change := none }

/-- A rail with a margin walks back to 0 while its channel goes down (05 R152). -/
def marginsBack (c : Chan) (s : State) : State :=
  match accOf c.1 with | some n => if marginsZero s n then s else marginsHome n s | none => s

/-- First tick of a power-down from S9 or higher (04 R91). -/
def leaveDown (n : Acc) (s : State) : State :=
  (putState (accChan n) 8 (holdReset n (leaveTop n (marginsBack (accChan n) s)))).setChan (accChan n) fun c =>
    { c with dir := if c.dir = 3 then 3 else 2, stepDone := true, waiting := false }

/-- A channel enters S0: every output of the accelerator is low, the enables of rails that a fault left on among them (03
R71, 04 R91, 10 R306, 12 R349, 13 R385; notes/assumptions/13.md). A drain under way ends with its command. -/
def enterS0 (n : Acc) (s : State) : State :=
  let s := forAll (List.finRange 14) (fun i s => disableRail (railOf n i) s) s
  let s := holdReset n s
  let s := linkDown n 4 (dropDrain n s)
  let s := s.setLink n fun l => { l with flushDue := true, parkOn := none, parkedSeen := none, commits := [], fmaxSent := [] }
  let s := s.setAcc n fun a => { a with
    efuseOn := false, isoEn := false, xnetDrain := false, forceL0 := false, holdUntil := none,
    vrArmed := false, thermArmed := false, change := none, decision := none, setMv := 0 }
  let s := s.setChan (accChan n) fun c => { c with efuseGood := false, efuseClose := none }
  let s := s.setAvs n fun a => { a with pend := Vector.replicate 2 none, rb := Vector.replicate 2 none,
                                        mv := Vector.replicate 2 0 }
  let s := s.setStr n fun a => { a with fmaxBands := [], feltCaps := [] }
  (s.setBup n fun b => { b with failed := false }).setBand n fun x => { failed := x.failed }

/-- What entering an accelerator state does before its rails are enabled (04 R86). Leaving S0, a low VRALERT_N is recorded as an
assertion before arming (03 R71, R72, R552). -/
def enterAcc (n : Acc) (k : Nat) (s : State) : State :=
  if k = 1 then
    let s := s.setAcc n fun a => { a with ident := none }
    if s.acc[n].vrAlertN then s else emit s 3 n.1 0xFF 0x0301 3
  else if k = 2 then (if linkAllowed s n then linkStart n s else s)
  else if k = 8 then startSet n (oppMv s.acc[n].bin 0 + guardMv (bandOf s n)) 0 0 s
  else if k = 9 then enterS9 n s
  else if k = 10 then enterS10 n s
  else if k = 11 then enterS11 n s
  else if k = 12 then (enterS12 n s).setChan (accChan n) fun c => { c with stepDone := true }
  else s

/-- What entering a state does before its rails are enabled. -/
def enterHook (c : Chan) (k : Nat) (s : State) : State := match accOf c.1 with | some n => enterAcc n k s | none => s

/-- The rails of an unfinished upward step that are ready are enabled (04 R88); none that has not counted as off (04 R93),
unless its time for that has passed (04 R108). -/
def enableReady (c : Chan) (s : State) : State :=
  let ready := (railsOf s c s.crz.chan[c].state).filter fun r =>
    driven r && !s.crz.rail[r].en && (s.crz.rail[r].off || s.crz.rail[r].offLate) && allStable s (prereqMask s r)
  if ready.isEmpty then s else
  (forAll ready enableRail s).setChan c fun x => { x with stepStart := x.stepStart.or (some s.sys.tick) }

/-- An upward step to state `k` starts (04 R88). -/
def startStep (c : Chan) (k : Nat) (s : State) : State :=
  let s := (putState c k s).setChan c fun x => { x with stepDone := false, stepStart := none, dir := 1, waiting := false }
  enableReady c (enterHook c k s)

/-- The converter of a channel is not in fault (05 R133). -/
def convOk (s : State) (c : Chan) : Bool :=
  if c = 8 then !s.sup.scFault[(0 : Fin 2)] && !s.sup.scFault[(1 : Fin 2)]
  else if c.1 < 4 then !s.sup.scFault[(0 : Fin 2)] else !s.sup.scFault[(1 : Fin 2)]

/-- Tray prerequisites of the rails of a step count as stable (04 R88). -/
def trayReady (s : State) (c : Chan) (k : Nat) : Bool :=
  (railsOf s c k).all fun r => allStable s (fld (depOf s r) 16 8 * 2 ^ 112)

/-- What CRZ_CH_STATUS.WAITING reports of a step that could otherwise start: stagger, cooling, rack state, a tray
prerequisite, an AVSBus port, a boot-flash write or verification (04 R112). -/
def heldBy (s : State) (c : Chan) (k : Nat) : Bool :=
  s.rack.state == 15 ||
  (match accOf c.1 with
   | none => false
   | some n =>
     !trayReady s c k ||
     (k == 8 && (s.crz.chan[c].stagger.isSome || s.crz.chan[trayChan].state != 4 || s.twb.avs[n].failed)) ||
     (k == 9 && (!s.sec.acc[n].verified || s.sec.acc[n].write.isSome)))

/-- Reasons that hold a step without WAITING: the reference clock (01 R17), a converter (05 R133), a failed start-up
test or too little memory (17 R521, 01 R29), the 1 ms of ACC_RST_N (11 R315), margins (05 R152), SAFE. -/
def barred (s : State) (c : Chan) (k : Nat) : Bool :=
  !s.sys.refclkSettled || !convOk s c || s.saf.safe ||
  ((s.saf.bistFail || s.sys.memShort) && (c != 8 || decide (2 ≤ k))) ||
  (match accOf c.1 with
   | none => k == 4
   | some n => (k == 9 && decide (s.sys.tick < s.acc[n].rstTick + 100)) || (k == 12 && !marginsZero s n))

/-- The upward step to state `k` starts, or waits; leaving S0 the e-fuse is closed first (04 R87, R88, R112). -/
def tryStep (c : Chan) (k : Nat) (s : State) : State :=
  if heldBy s c k then s.setChan c fun x => { x with waiting := true } else
  let s := s.setChan c fun x => { x with waiting := false }
  match accOf c.1 with
  | none => if barred s c k then s else startStep c k s
  | some n =>
    if barred s c k then (if k = 12 then marginsHome n s else s)
    else if k = 1 ∧ !s.crz.chan[c].efuseGood then
      if s.crz.chan[c].efuseClose.isSome then s else
      (s.setAcc n fun a => { a with efuseOn := true }).setChan c fun x => { x with
        efuseClose := some s.sys.tick, efuseOpenTick := none, dir := 1, waiting := false }
    else startStep c k s

/-- An e-fuse that was closed for a power-up that is not wanted any more opens (03 R71). -/
def efuseBack (c : Chan) (s : State) : State :=
  match accOf c.1 with
  | none => s
  | some n =>
    if s.crz.chan[c].state = 0 ∧ s.acc[n].efuseOn then
      (s.setAcc n fun a => { a with efuseOn := false }).setChan c fun x => { x with efuseGood := false, efuseClose := none }
    else s

/-- The next upward step of a channel, when its last is complete and its target is higher (04 R86 to R89, R107). Cooling
established takes the tray channel to T4 (12 R366). -/
def crzUp (c : Chan) (s : State) : State :=
  let ch := s.crz.chan[c]
  if ch.dir = 3 ∨ !ch.stepDone then s
  else if ch.target ≤ ch.state then
    (efuseBack c s).setChan c fun x => { x with
      waiting := false, dir := (if ch.target = ch.state then 0 else x.dir),
      limit := (if ch.target = ch.state then none else x.limit) }
  else if ch.fault then s
  else if (match ch.limit with | some l => decide (l < ch.state) | none => false) then s
  else if ch.limit = some ch.state then
    s.setChan c fun x => { x with target := x.state, dir := 0, limit := none, waiting := false }
  else tryStep c (ch.state + 1) s

/-- The further condition of a state's step (04 R86). -/
def stepCondition (s : State) (c : Chan) (k : Nat) : Bool :=
  match accOf c.1 with
  | none => true
  | some n =>
    if k = 1 then s.acc[n].ident.isSome
    else if k = 8 then s.acc[n].change.isNone
    else decide (k < 9)

/-- An upward step is complete: the next may start (04 R88). -/
def stepOver (c : Chan) (s : State) : State :=
  let s := s.setChan c fun x => { x with stepDone := true }
  let s := if c = 8 ∧ s.crz.chan[c].state = 3 then
      s.modCool fun k => { k with t3Tick := s.sys.tick, estLate := false } else s
  crzUp c s

/-- The step of a channel is checked for completion (04 R88). -/
def settle (c : Chan) (s : State) : State :=
  let ch := s.crz.chan[c]
  if ch.stepDone ∨ ch.dir ≠ 1 then s
  else if (railsOf s c ch.state).all (fun r => s.crz.rail[r].stable) && stepCondition s c ch.state then stepOver c s
  else s

/-- Core rails wait for their stagger time in rack state 11 (04 R127). -/
def staggered (s : State) (c : Chan) : Bool :=
  s.rack.state == 11 && s.crz.chan[c].stagger.isSome && !s.rack.fastDown && !s.saf.safe

/-- In HOLD no new step starts (04 R122); SAFE and RACKFLT_N go on. -/
def rackHolds (s : State) : Bool := s.rack.state == 15 && !s.saf.safe && !s.rack.fastDown

/-- A rail of a power-down is on, or falls in its time (04 R91, R108). -/
def railLives (s : State) (r : Rail) : Bool :=
  driven r && (s.crz.rail[r].en || (!s.crz.rail[r].off && !s.crz.rail[r].offLate))

/-- The highest state above the present one with a rail that a fault shutdown left on, or that falls (04 R91, R103, R105);
0 for none. -/
def upperState (s : State) (c : Chan) : Nat :=
  ((List.range 9).filter fun k => decide (s.crz.chan[c].state < k) &&
    (railsOf s c k).any (railLives s)).foldl max 0

/-- The state whose rails stay in a power-down: the target, S3 for an emergency shutdown (04 R91, R106), and after an early
collapse no state above its limit (04 R107). -/
def downGoal (s : State) (c : Chan) : Nat :=
  let ch := s.crz.chan[c]
  let t := match ch.limit with | some l => min l ch.target | none => ch.target
  if ch.emergency then max 3 t else t

/-- Power-down steps, from the highest state with a rail on: the rails of a state are disabled, none before its dependants
count as off (04 R109), and when they all count as off the next lower state follows (04 R91, R93). -/
def crzDown : Nat → Chan → State → State
  | 0, _, s => s
  | fuel + 1, c, s =>
    let ch := s.crz.chan[c]
    let goal := downGoal s c
    let up := upperState s c
    let high := decide (goal < up)
    let k := if high then up else ch.state
    if ch.stepDone ∧ !high ∧ ch.state ≤ goal then
      s.setChan c fun x => { x with
        dir := (if x.dir = 3 ∨ x.state = x.target then 0 else if x.state < x.target then 1 else x.dir),
        limit := (if x.state = x.target then none else x.limit), emergency := false, waiting := false }
    else if ch.stepDone ∧ ch.dir ≠ 3 ∧ rackHolds s then s.setChan c fun x => { x with waiting := true }
    else if k = 8 ∧ c ≠ 8 ∧ ch.dir ≠ 3 ∧ (railsOf s c 8).any (fun r => s.crz.rail[r].en) ∧ staggered s c then
      s.setChan c fun x => { x with waiting := true, dir := 2 }
    else
      let rails := railsOf s c k
      let alive := railMask fun r => !s.crz.rail[r].off
      let s := forAll rails (fun r s =>
        if driven r && (dependants s r &&& alive == 0) then disableRail r s else s) s
      let s := (marginsBack c s).setChan c fun x => { x with
        stepDone := x.stepDone && high, waiting := false, dir := if x.dir = 3 then 3 else 2 }
      if rails.all fun r => !railLives s r then
        if high then crzDown fuel c s else
        let s := (putState c (k - 1) s).setChan c fun x => { x with stepDone := true }
        let s := match accOf c.1 with
          | some n => if k = 1 then enterS0 n s else s
          | none => s
        crzDown fuel c s
      else s

/-- A new target; leaving S9 or higher begins in this tick (04 R91). -/
def aim (c : Chan) (t : Nat) (s : State) : State :=
  let s := setTarget c t s
  match accOf c.1 with
  | some n =>
    if 9 ≤ s.crz.chan[c].state ∧ t < 9 ∧ (s.rack.state ≠ 15 ∨ s.saf.safe ∨ s.rack.fastDown) then leaveDown n s else s
  | none => s

/-- A target of an accelerator's channel. -/
def aimAcc (n : Acc) (t : Nat) (s : State) : State := aim (accChan n) t s

/-! Fault shutdown (04 R103 to R105). -/

/-- Class of a fault code (04 R111). -/
def faultClass (code : Nat) : Nat := if code = 5 ∨ code = 6 ∨ code = 11 ∨ code = 12 then 1 else 2

/-- CRZ_FAULT and CRZ_FAULT_TICK; of one tick the first fault in the order of 02 R40 stays (04 R104). Host event CHANNEL
(14 R425). -/
def noteFault (c : Chan) (code rail trans : Nat) (s : State) : State :=
  let t := s.sys.tick % 2 ^ 32
  hostEvent 6 <| s.setChan c fun x =>
    if x.fCode ≠ 0 ∧ x.fTick = t ∧ (faultClass x.fCode < faultClass code ∨
        (faultClass x.fCode = faultClass code ∧ x.fRail ≤ rail)) then x
    else { x with fCode := code, fRail := rail, fTrans := min 255 trans, fState := x.state, fTick := t }

/-- A channel is faulted: its sequence stops, an accelerator is held in reset, and a drain of it ends (04 R103, 15
R454). -/
def stopChan (c : Chan) (s : State) : State :=
  let s := s.setChan c fun x => { x with fault := true, dir := 3, waiting := false }
  match accOf c.1 with
  | none => s
  | some n =>
    let s := marginsBack c (dropDrain n s)
    if 9 ≤ s.crz.chan[c].state then leaveDown n s else holdReset n s

/-- A rail of a removal is disabled once each of its dependants counts as off (04 R103). -/
def removeGo (s : State) : State :=
  let alive := railMask fun r => !s.crz.rail[r].off
  let ready := (List.finRange 120).filter fun (r : Rail) =>
    s.crz.rail[r].removing && s.crz.rail[r].en && (dependants s r &&& alive == 0)
  forAll ready disableRail s

/-- PG_TIMEOUT, PG_CHATTER, PG_LOST or WINDOW on a rail (04 R103, R104). -/
def confirmFault (r : Rail) (code detail trans : Nat) (s : State) : State :=
  let c := chanOf r
  let s := emit s 2 c.1 r.1 (0x200 + code) detail
  let deps := dependants s r
  let lost := (List.finRange 120).filter fun (q : Rail) => deps.testBit q.1 && s.crz.rail[q].en
  let on := s.crz.rail[r].en
  let s := stopChan c (noteFault c code r.1 trans s)
  let s := (disableRail r s).setRail r fun q => { q with removing := on && driven r, stable := false }
  let s := forAll lost (fun q s => s.setRail q fun x => { x with removing := true }) s
  let s := forAll chanList (fun d s =>
    if d ≠ c ∧ lost.any (fun q => chanOf q == d) then stopChan d (noteFault d code r.1 trans s) else s) s
  removeGo s

/-- The highest state below which every rail counts as stable (04 R105). -/
def stableState (s : State) (c : Chan) : Nat :=
  let top := if c = 8 then 3 else 8
  let ok (k : Nat) : Bool := (railsOf s c k).all fun r => s.crz.rail[r].stable
  let k := (((List.range top).map (· + 1)).takeWhile ok).length
  if k = top then max k s.crz.chan[c].state else k

/-- The state that a fault shutdown leaves (04 R105). -/
def endFault (c : Chan) (s : State) : State :=
  let was := s.crz.chan[c].state
  let k := min was (stableState s c)
  let s := if k = was then s else putState c k s
  let s := s.setChan c fun x => { x with dir := 0, stepDone := true, target := min x.target k, limit := none }
  match accOf c.1 with
  | some n => if k = 0 then enterS0 n s else s
  | none => s

/-- Rails of an accelerator that stay up when no state is left to it are removed too, in the same order, since S0 drives every
output low (03 R71; 04 R105, R109; notes/assumptions/13.md). -/
def emptyS0 (c : Chan) (s : State) : State :=
  let left := (List.finRange 120).filter fun (r : Rail) => c != 8 && chanOf r == c && s.crz.rail[r].en
  if stableState s c ≠ 0 ∨ left.isEmpty then endFault c s
  else removeGo (forAll left (fun r s => s.setRail r fun x => { x with removing := true }) s)

/-- A fault shutdown that has removed everything ends (04 R105); an emergency shutdown goes down to S3 first (04 R106). -/
def finishFault (c : Chan) (s : State) : State :=
  let ch := s.crz.chan[c]
  if ch.dir ≠ 3 ∨ (List.finRange 120).any (fun (r : Rail) => chanOf r == c && s.crz.rail[r].removing) then s
  else if ch.emergency then
    let s := crzDown 20 c s
    if s.crz.chan[c].emergency then s else emptyS0 c s
  else emptyS0 c s

/-- A channel stops where it is with a fault that takes no rail down (03 R64, R65; 04 R87): an unfinished step stays so, and is
taken up again once the fault is cleared and the target raised. -/
def faultInPlace (c : Chan) (code : Nat) (s : State) : State :=
  let s := emit s (faultClass code) c.1 0xFF (0x200 + code) s.crz.chan[c].state
  (noteFault c code 0x7F 0 s).setChan c fun x => { x with
    fault := true, target := x.state, dir := 0, waiting := false }

/-- Emergency shutdown of an accelerator: core rails off, then to S3 with XNET held (04 R106). -/
def emergencyStop (n : Acc) (code rail : Nat) (s : State) : State :=
  let c := accChan n
  let ch := s.crz.chan[c]
  let s := emit s 1 n.1 (if rail = 0x7F then 0xFF else rail) (0x200 + code) ch.state
  let s := stopChan c (noteFault c code rail 0 s)
  let s := disableRail (coreRail n 1) (disableRail (coreRail n 0) s)
  let t := min ch.target (min 3 (if ch.stepDone then ch.state else ch.state - 1))
  s.setChan c fun x => { x with emergency := true, target := t, stagger := none }

/-- A rail still enabled in a power-down counts as off (04 R107). -/
def collapse (r : Rail) (s : State) : State :=
  let c := chanOf r
  let s := emit s 2 c.1 r.1 0x207 s.crz.chan[c].state
  let s := noteFault c 7 r.1 0 s
  let deps := dependants s r
  let lost := (List.finRange 120).filter fun (q : Rail) => deps.testBit q.1 && s.crz.rail[q].en
  let s := (disableRail r s).setRail r fun q => { q with off := true, collapsed := true, removing := false }
  let s := forAll lost (fun q s => s.setRail q fun x => { x with removing := true }) s
  let l := railState s r - 1
  removeGo (s.setChan c fun x => { x with limit := some (match x.limit with | none => l | some m => min m l) })

/-- Rails held up through BULK48 (04 R110). -/
def underBulk (s : State) (r : Rail) : Bool := r.1 == 112 || (dependants s 112).testBit r.1

/-- A reset ordered in HOLD is made when HOLD is over (04 R122, 15 R454). -/
def resetLater (c : Chan) (s : State) : State :=
  if s.crz.chan[c].resetDue && !rackHolds s then
    let s := s.setChan c fun x => { x with resetDue := false }
    match accOf c.1 with
    | some n => if 9 ≤ s.crz.chan[c].state ∧ s.crz.chan[c].dir ≠ 3 then leaveDown n s else s
    | none => s
  else s

/-- An unfinished step that a fault stopped goes on once the fault is cleared and the target is above it (03 R64, 04 R105). -/
def resumeStep (c : Chan) (s : State) : State :=
  s.setChan c fun x => if x.dir = 0 ∧ !x.stepDone ∧ x.state < x.target ∧ !x.fault ∧ x.state < 9 then { x with dir := 1 } else x

/-- One tick of a channel (04 R88 to R93, R103 to R106). -/
def crzTick (c : Chan) (s : State) : State :=
  let s := resumeStep c (resetLater c s)
  let ch := s.crz.chan[c]
  if ch.dir = 3 then finishFault c (removeGo s)
  else if ch.dir = 2 ∧ !ch.stepDone then crzDown 20 c s
  else if downGoal s c < ch.state then
    if rackHolds s then s.setChan c fun x => { x with waiting := true }
    else match accOf c.1 with
    | some n =>
      if 9 ≤ ch.target ∧ ch.limit = none then
        let s := (putState c ch.target s).setChan c fun x => { x with stepDone := false, dir := 0 }
        enterAcc n ch.target s
      else if 9 ≤ ch.state then leaveDown n s
      else crzDown 20 c s
    | none => crzDown 20 c s
  else if !ch.stepDone then settle c (enableReady c s)
  else crzUp c s

/-- Crozier's part of an event tick. -/
def crzTicks (s : State) : State := forAll chanList crzTick s

/-- A rail counts as off: removals and the lower steps go on (04 R92, R103, R107). -/
def railGone (r : Rail) (s : State) : State :=
  let q := s.crz.rail[r]
  let c := chanOf r
  let ch := s.crz.chan[c]
  if q.off then s
  else if q.en then
    if ch.dir = 2 ∨ (ch.dir = 3 ∧ ch.emergency) then collapse r s else s
  else
    let s := s.setRail r fun x => { x with off := true, removing := false }
    let s := if (List.finRange 120).all (fun (x : Rail) => chanOf x != c || s.crz.rail[x].off) then
        s.setChan c fun x => { x with efuseOpenTick := none }
      else s
    let s := forAll chanList (fun d s => if s.crz.chan[d].dir = 3 then finishFault d s else s) (removeGo s)
    let ch := s.crz.chan[c]
    if ch.dir = 2 ∧ (!ch.stepDone ∨ ch.target < ch.state) then crzDown 20 c s else s

end Sys2Proof.Machine
end

