-- ==== Sys2Proof/Machine/Images.lean ====
section
/-! DEFINITION. Key manifests, images and keys (16_security_and_firmware.md R467 to R482, R491, R497): parsing and the
checks that every block asks for. -/

namespace Sys2Proof.Machine

open Sys2Proof

/-! The key manifest (16 R468, R469). -/

/-- Number of keys of a manifest. -/
def keyCount (m : List Byte) : Nat := leAt m 6 2

/-- The root public key of a manifest. -/
def rootPub (m : List Byte) : List Byte := slice m 0x30 1312

/-- Byte length of a manifest up to its signature. -/
def manifestLen (m : List Byte) : Nat := 0x550 + 0x540 * keyCount m

/-- A manifest is well formed, signed by its root, and the root is the one of a fuse (16 R468, R469). -/
def manifestBy (m : List Byte) (root : BitVec 256) (signer : Nat) : Bool :=
  leAt m 0 4 == 0x31484D46 && leAt m 4 2 == 1 && decide (1 ≤ keyCount m) && decide (keyCount m ≤ 16) &&
  leAt m 0xC 1 == signer && Config.sha3 (rootPub m) == root &&
  Config.mldsaVerify (rootPub m) (m.take (manifestLen m)) "" (slice m (manifestLen m) 2420)

/-- The primary manifest is valid in the present lifecycle state (16 R469). -/
def manifestOk (s : State) : Bool :=
  let v := manifestBy s.nv.manifest s.nv.vendorRoot 0
  let o := manifestBy s.nv.manifest s.nv.ownerRoot 1
  if s.nv.lc = 0 ∨ s.nv.lc = 4 then v else if s.nv.lc = 3 then v || o else o

/-- The keys of a manifest with a use bit, with their hashes as KEY_ID. -/
def keysWith (m : List Byte) (use : Nat) : List (List Byte) :=
  ((List.range (keyCount m)).filter fun i => (leAt m (0x550 + 0x540 * i + 1312) 4).testBit use).map fun i =>
    slice m (0x550 + 0x540 * i) 1312

/-- Keys of the valid primary manifest with a use. -/
def keysFor (s : State) (use : Nat) : List (List Byte) := if manifestOk s then keysWith s.nv.manifest use else []

/-- The key of a KEY_ID with a use (16 R468). -/
def keyById (s : State) (id : BitVec 256) (use : Nat) : Option (List Byte) :=
  (keysFor s use).find? fun p => Config.sha3 p == id

/-! Images (16 R491, R493). -/

def imgTarget (b : List Byte) : Nat := leAt b 4 1
def imgSvn (b : List Byte) : Nat := leAt b 5 1
def imgFlags (b : List Byte) : Nat := leAt b 6 2
def imgVersion (b : List Byte) : Nat := leAt b 8 4
def imgBodyLen (b : List Byte) : Nat := leAt b 0xC 4
def imgIfver (b : List Byte) : Nat := leAt b 0x10 1
def imgSrs (b : List Byte) : Nat := leAt b 0x11 1
def imgEpochMin (b : List Byte) : Nat := leAt b 0x12 2
def imgEpochMax (b : List Byte) : Nat := leAt b 0x14 2
def imgHash (b : List Byte) : BitVec 256 := BitVec.ofNat 256 (leAt b 0x20 32)
def imgKey (b : List Byte) : BitVec 256 := BitVec.ofNat 256 (leAt b 0x40 32)
def imgBody (b : List Byte) : List Byte := slice b 256 (imgBodyLen b)

/-- The safety-island code, or the fixed-seed table, of an image (16 R491). -/
def imgAux (b : List Byte) : List Byte := slice (imgBody b) (leAt b 0x60 4) (leAt b 0x64 4)

/-- Largest image of a target, bytes (16 R491). -/
def imgLimit (t : Nat) : Nat := if t = 0 then 16 * 1048576 else 32 * 1048576

/-- MAGIC and the lengths of an image (16 R493 step 1). -/
def imgFormOk (t : Nat) (b : List Byte) : Bool :=
  leAt b 0 4 == 0x31495746 && b.length == 256 + imgBodyLen b + 2420 && decide (b.length ≤ imgLimit t) &&
    decide (leAt b 0x60 4 + leAt b 0x64 4 ≤ imgBodyLen b)

/-- Verification result of an image for a target: 1 passed, 2 header, 3 key, 4 signature, 5 hash, 6 SVN, 7 manifest
(16 R493 steps 1 to 5, R505). -/
def verifyImage (s : State) (t : Nat) (b : List Byte) : Nat :=
  if !manifestOk s then 7
  else if !imgFormOk t b ∨ imgTarget b ≠ t then 2
  else match keyById s (imgKey b) (if t = 0 then 0 else 1) with
    | none => 3
    | some p =>
      if !Config.mldsaVerify p (b.take (256 + imgBodyLen b)) "FM8 image" (b.drop (256 + imgBodyLen b)) then 4
      else if Config.sha3 (imgBody b) ≠ imgHash b then 5
      else if t = 0 ∧ imgSvn b < s.nv.svnMin then 6
      else 1

/-- EPOCH_MAX of the running image (16 R503). -/
def epochMax (s : State) : Nat := imgEpochMax s.sec.image

/-- The epoch in force (16 R503). -/
def epochInForce (s : State) : Nat := min s.sec.committed (epochMax s)

/-- The select record of an accelerator's boot flash that counts: ACTIVE and TRIAL (16 R497). -/
def selectOf (s : State) (n : Acc) : Select :=
  match s.nv.acc[n].select[(0 : Fin 2)], s.nv.acc[n].select[(1 : Fin 2)] with
  | none, none => { active := 0, trial := false, seq := 0 }
  | some a, none => a
  | none, some b => b
  | some a, some b => if a.seq < b.seq then b else a

/-- The losing copy of the select record (16 R497). -/
def losingCopy (s : State) (n : Acc) : Fin 2 :=
  match s.nv.acc[n].select[(0 : Fin 2)], s.nv.acc[n].select[(1 : Fin 2)] with
  | none, _ => 0
  | some _, none => 1
  | some a, some b => if a.seq < b.seq then 0 else 1

/-- Slot A or B as an index. -/
def slotIx (k : Nat) : Fin 2 := if k = 0 then 0 else 1

/-- A select record is written over the losing copy, SEQ one above the winner's (16 R497); the flash has then been written since its
verification (11 R313). -/
def writeSelect (n : Acc) (active : Nat) (trial : Bool) (s : State) : State :=
  let r : Select := { active := active, trial := trial, seq := ((selectOf s n).seq + 1) % 2 ^ 32 }
  (s.modNv fun v => { v with acc := v.acc.set n { v.acc[n] with
    select := v.acc[n].select.set (losingCopy s n) (some r) } }).setAccFw n fun a => { a with verified := false }

/-- Slot of an accelerator's boot flash. -/
def accSlot (s : State) (n : Acc) (k : Nat) : List Byte := s.nv.acc[n].slot[if k = 0 then (0 : Fin 2) else 1]

/-- A slot of an accelerator's boot flash is written; the verification of the active slot is due again (16 R498). -/
def putAccSlot (n : Acc) (k : Nat) (b : List Byte) (s : State) : State :=
  (s.modNv fun v => { v with acc := v.acc.set n { v.acc[n] with slot := v.acc[n].slot.set (slotIx k) b } }).setAccFw n fun a => { a with verified := false }

/-- FW_FAMILY of an accelerator's identity block (03 R64). -/
def familyOf (s : State) (n : Acc) : Nat := ((s.acc[n].ident.map (·.fwFamily.toNat)).getD 0) % 2

/-- The golden copy, and the last-known-good copy, of an accelerator family (01 R31, 16 R500). -/
def goldenOf (s : State) (f : Nat) : List Byte := s.nv.golden[if f = 0 then (0 : Fin 2) else 1]
def lkgOf (s : State) (f : Nat) : List Byte := s.nv.lkg[if f = 0 then (0 : Fin 2) else 1]

/-- An image verifies for an accelerator: as its family's, or, without an identity block, as either family's (16 R498). -/
def verifyAcc (s : State) (n : Acc) (b : List Byte) : Nat :=
  if s.acc[n].ident.isSome ∧ imgTarget b ≠ 1 + familyOf s n ∧ imgFormOk 1 b then 8
  else verifyImage s (if imgTarget b = 2 then 2 else 1) b

/-! Models (09 R266, R268). -/

/-- The lifecycle state and the debug level admit a Frond model load (16 R489). -/
def modelLoadAllowed (s : State) : Bool := s.nv.lc != 4 && s.sec.debug != 2

/-- The public key of a model's KEY_ID, with use bit 2 (09 R266). -/
def modelKey (s : State) (id : BitVec 256) : Option (List Byte) := keyById s id 2

/-- The stored minimum version of a model (09 R268). -/
def modelFloor (s : State) (id : Nat) : Nat := ((s.nv.modelMin.find? fun p => p.1 == id).map (·.2)).getD 0

/-! Command keys (16 R479 to R482). -/

/-- SYS_SERIAL as bytes. -/
def serialBytes (s : State) : List Byte := leBytes 8 s.nv.serial.toNat

/-- The blank key (16 R479). -/
def blankKey (s : State) : BitVec 256 := Config.kmac 0 (serialBytes s) 256 "FM8 blank"

/-- The key in force: 0 host, 1 rack, 2 announcement (16 R479). -/
def keyOf (s : State) (k : Fin 3) : BitVec 256 :=
  if s.nv.lc = 1 ∨ s.nv.lc = 2 then s.sec.keys[k].getD (blankKey s) else blankKey s

/-- The rack and announcement keys are sealed (16 R482). -/
def sealed (s : State) : Bool := s.sec.debug == 2

/-- Text in ASCII. -/
def asciiBytes (t : String) : List Byte := t.toList.map fun c => BitVec.ofNat 8 c.toNat

/-- A 256-bit value as 32 bytes, first byte lowest. -/
def bytes32 (x : BitVec 256) : List Byte := leBytes 32 x.toNat

end Sys2Proof.Machine
end

