-- ==== Sys2Proof/Machine/Rack.lean ====
section
/-! DEFINITION. Rack states (04 R117 to R128): their actions and release conditions, HOLD, the drain of 14 R441, the
power removals without sequencing, and the SAFE latch (17 R516). -/

namespace Sys2Proof.Machine

open Sys2Proof

/-- The application cluster runs (18 R537). -/
def running (s : State) : Bool := s.sys.boot == .running

/-- Header and body of an announcement, the input of its tag (14 R429, R432, R435). -/
def announceInput (a : Announce) : List Byte :=
  [0x46, 0x4D, 0, 5] ++ leBytes 2 a.seq.toNat ++ [0, 0] ++ leBytes 8 a.device.toNat ++ leBytes 8 a.ctr.toNat
    ++ leBytes 2 16 ++ [0, 3, 0, 0, 0, 0]
    ++ [BitVec.ofNat 8 a.slot.1, BitVec.ofNat 8 a.rackState.1,
        BitVec.ofNat 8 (bit a.detached 0 + bit a.armed 1 + bit a.leader 2), 0]
    ++ leBytes 4 a.boot.toNat ++ leBytes 8 a.tick.toNat

/-- Tag of an announcement under the announcement key (14 R435). -/
def announceTag (s : State) (a : Announce) : BitVec 128 := Config.kmac (keyOf s 2) (announceInput a) 128 "FMP ann"

/-- The announcement of the present rack state leaves (04 R123, 14 R432); a stopped cluster sends none, nor does an FM8
whose announcement key is sealed (16 R482). Its SEQ is a free value (notes/assumptions/28.md). -/
def announce (s : State) : State :=
  if !running s || s.sec.debug == 2 then s else
  let (x, s) := s.draw
  let q := (s.net.annSeq + 1) % 2 ^ 32
  let a : Announce :=
    { device := s.nv.serial, seq := x.setWidth 16, slot := ⟨slotNo s % 32, by omega⟩, rackState := s.rack.state,
      detached := s.rack.detached, armed := s.rack.armed, leader := isLeader s, boot := BitVec.ofNat 32 s.nv.boots,
      tick := BitVec.ofNat 64 s.sys.tick, ctr := BitVec.ofNat 64 (s.nv.boots * 2 ^ 32 + q), tag := 0 }
  (s.send (.announce { a with tag := announceTag s a } q)).modNet fun n => { n with annSeq := q }

/-- The channel of an accelerator is left out of the release conditions (04 R118). -/
def excluded (s : State) (n : Acc) : Bool :=
  s.crz.chan[accChan n].fault || s.bup.acc[n].failed || s.crz.chan[accChan n].setOff || s.bup.acc[n].bootFailed

/-- A coolant loop of an accelerator has lost its flow (12 R364). -/
def flowLostFor (s : State) (n : Acc) : Bool :=
  (List.finRange 2).any fun l => s.cool.loop[l].lost && (fld s.cool.loop[l].cfg 16 8).testBit n.1

/-- The zone of an accelerator has its wet latch set (12 R376). -/
def zoneWet (s : State) (n : Acc) : Bool := s.cool.leak[(⟨n.1, by omega⟩ : Fin 10)].latch

/-- A rack state may raise an accelerator's channel. -/
def canRaise (s : State) (n : Acc) : Bool := !excluded s n && !flowLostFor s n && !zoneWet s n

/-- The targets of the channels that take part are raised (04 R118). -/
def raiseAll (t : Nat) (s : State) : State :=
  forAll accList (fun n s => if canRaise s n && decide (s.crz.chan[accChan n].target < t) then setAccTarget n t s else s) s

/-- The targets of all channels are lowered (04 R118). -/
def lowerAll (t : Nat) (s : State) : State :=
  forAll accList (fun n s => if t < s.crz.chan[accChan n].target then aimAcc n t s else s) s

/-- Start time of a channel's heavy load (04 R127); a detached tray has no slot delay (R124). -/
def staggerStart (s : State) (n : Acc) : Nat :=
  s.sys.tick + 10000 + (if s.rack.detached then 0 else slotNo s * fld s.crz.seqCfg 0 10 * 100)
    + n.1 * fld s.crz.seqCfg 10 7 * 100

/-- The stagger times of a rack state count from now (04 R127). -/
def armStagger (s : State) : State :=
  forAll accList (fun n s => s.setChan (accChan n) fun c => { c with stagger := some (staggerStart s n) }) s

/-- No stagger time is in force. -/
def clearStagger (s : State) : State := forAll accList (fun n s => s.setChan (accChan n) fun c => { c with stagger := none }) s

/-- A ledger slot of an accelerator in S9 to S12 is bound (14 R441). -/
def slotsBound (s : State) : Bool :=
  accList.any fun n => decide (9 ≤ chState s n) && s.ldg.slot[n].toList.any fun x => x.job != 0 && !x.closing

/-- The drain ends with an outcome (14 R441, R442). -/
def endDrain (outcome : Nat) (s : State) : State :=
  emit (s.modRack fun r => { r with deadline := 0, drained := true }) 7 8 0xFF 0x0E02 outcome

/-- A drain under way ends once no slot is bound (14 R441). -/
def drainCheck (s : State) : State :=
  if s.rack.state = 9 ∧ !s.rack.drained ∧ !slotsBound s then endDrain 2 s else s

/-- The drain starts (14 R441). -/
def startDrain (s : State) : State :=
  let s := s.modRack fun r => { r with deadline := s.sys.tick + 100000 * r.grace, drained := false }
  let s := hostEvent 5 (emit s 7 8 0xFF 0x0E02 1)
  if s.rack.immediate then endDrain 4 s else if !slotsBound s then endDrain 2 s else s

/-- The channel targets of QUIESCE, set once ballast is clear (07 R217). -/
def quiesceTargets (s : State) : State := (lowerAll 8 s).modRack fun r => { r with quiesced := true }

/-- Start of a recovery hold (06 R190). -/
def startRecovery (s : State) : State :=
  s.modStr fun r => { r with recoveryEnd := s.sys.tick + 100 * fld r.cfg2 0 16 }

/-- The actions of a rack state on entry (04 R118). -/
def rackActions (k : Nat) (s : State) : State :=
  match k with
  | 0 => aim 8 1 (lowerAll 0 (clearStagger s))
  | 1 => aim 8 1 s
  | 2 => aim 8 2 s
  | 3 => aim 8 4 s
  | 4 => armStagger (raiseAll 8 s)
  | 5 => raiseAll 9 s
  | 6 => raiseAll 10 (s.modBup fun b => { b with drawn := false })
  | 7 => raiseAll 11 s
  | 8 => startRecovery ((raiseAll 12 (clearStagger s)).modBup fun b => { b with readyTick := s.sys.tick })
  | 9 => startDrain s
  | 10 =>
    if s.rack.immediate then
      quiesceTargets (s.modBrm fun b => { b with bal := Vector.replicate 8 0 })
    else s.modRack fun r => { r with quiesced := false }
  | 11 => armStagger (lowerAll 3 s)
  | 12 => lowerAll 0 (clearStagger s)
  | 13 => s.modCool fun c => { c with rundown := some (s.sys.tick + 100000 * fld s.crz.seqCfg 17 10) }
  | 14 => aim 8 1 s
  | _ => s

/-- A rack state is a transit state (04 R118). -/
def transit (k : Fin 16) : Bool := k != 1 && k != 8 && k != 15

/-- A rack state is entered: its actions, its announcement, and SEQSYNC held low in transit (04 R118, R119, R123). -/
def enterRack (k : Fin 16) (s : State) : State :=
  let low := transit k && !s.rack.detached
  let s := s.modRack fun r => { r with
    state := k, stateTick := s.sys.tick, armed := if transit k then false else r.armed, driving := low,
    line := r.line && !low, differs := none, heldP := none, pulse := none }
  announce (rackActions k.1 s)

/-- HOLD is entered, with the power state it had (04 R122). -/
def enterHold (s : State) : State :=
  if s.rack.state = 15 then s else
  let p := pstate s
  announce (hostEvent 15 (s.modRack fun r => { r with
    state := 15, stateTick := s.sys.tick, heldP := some p, driving := false, armed := false, differs := none, pulse := none }))

/-- Every channel that takes part meets a condition (04 R118). -/
def allIn (s : State) (f : Acc → Bool) : Bool := accList.all fun n => excluded s n || f n

/-- The tray channel rests at state `k` (04 R94). -/
def trayAt (s : State) (k : Nat) : Bool := s.crz.chan[trayChan].state == k && s.crz.chan[trayChan].stepDone

/-- The step of a channel's state is complete. -/
def stepDoneAt (s : State) (n : Acc) : Bool := s.crz.chan[accChan n].stepDone

/-- The work of rack state 7 is done: the floor plan is published (04 R118). -/
def planReady (s : State) : Bool := allIn s fun n => chState s n == 12 || (chState s n == 11 && stepDoneAt s n)

/-- Power state SEQUENCING is left once no channel outside S11 has a margin (05 R152). -/
def leaveReady (s : State) : Bool := accList.all fun n => chState s n == 11 || marginsZero s n

/-- The margins of the channels outside S11 walk back before rack state 7 is left (05 R152). -/
def leaveMargins (s : State) : State :=
  if s.rack.state = 7 ∧ !leaveReady s ∧ planReady s then
    forAll accList (fun n s => if chState s n = 11 then s else marginsHome n s) s
  else s

/-- The release condition of the present transit state (04 R118). The 5 s of state 0 count from cold reset (11 R314). -/
def releaseReady (s : State) : Bool :=
  let st := chState s
  let trayLow (k : Nat) : Bool := decide (s.crz.chan[trayChan].state ≤ k) && s.crz.chan[trayChan].stepDone
  match s.rack.state.1 with
  | 0 => allIn s (fun n => st n == 0) && trayLow 1 && decide (500000 ≤ s.sys.tick)
  | 2 => trayAt s 2
  | 3 => s.crz.chan[trayChan].state == 4
  | 4 => allIn s fun n => decide (9 ≤ st n) || (st n == 8 && stepDoneAt s n)
  | 5 => allIn s fun n => decide (10 ≤ st n) || (st n == 9 && stepDoneAt s n)
  | 6 => allIn s fun n => decide (11 ≤ st n) || (st n == 10 && stepDoneAt s n)
  | 7 => planReady s && leaveReady s
  | 9 => s.rack.drained
  | 10 => s.rack.quiesced && allIn s fun n => decide (st n ≤ 8)
  | 11 => allIn s fun n => decide (st n ≤ 3)
  | 12 => allIn s fun n => st n == 0
  | 13 => trayLow 2
  | 14 => trayLow 1
  | _ => false

/-- The rack state that follows a transit state (04 R118). -/
def nextRack (k : Fin 16) : Fin 16 := if k = 14 then 1 else k + 1

/-- A detached tray goes through the actions of the rack states locally (04 R124); its state 0 stays until the tray is
powered on or rejoins. -/
def rackLocal (s : State) : State :=
  let s := leaveMargins s
  if s.rack.detached && !s.saf.safe && transit s.rack.state && s.rack.state != 0 && releaseReady s then
    let s := if s.rack.state = 14 then s.modRack fun r => { r with fastDown := false } else s
    enterRack (nextRack s.rack.state) s
  else s

/-- The leader pulls SEQSYNC low for a pulse, ticks (04 R121, R126). -/
def drivePulse (ticks : Nat) (s : State) : State :=
  (s.send (.pulse (10 * ticks))).modRack fun r => { r with
    driving := true, line := false, pulse := some (s.sys.tick + ticks) }

/-- The pulse of the leader ends in a resting state (04 R121). -/
def pulseEnds (s : State) : State :=
  match s.rack.pulse with
  | some t => if s.sys.tick < t then s else s.modRack fun r => { r with driving := false }
  | none => s

/-- SEQSYNC is left alone (04 R124). -/
def detach (s : State) : State :=
  s.modRack fun r => { r with detached := true, driving := false, armed := false, pulse := none }

/-- TRAYFLT_N: every enable but NET's goes at once (04 R114). The channels are then in S0 and the tray channel no higher
than T1 (notes/assumptions/14.md). CRZ_CH_STATUS[8].FAULT stays as it was: the rules say that TRAYFLT is recorded on channel 8, and
no more (DESIGN CHOICE, notes/assumptions/35.md). -/
def trayOff (s : State) : State :=
  let s := emit s 1 8 0xFF 0x20B s.crz.chan[trayChan].state
  let s := noteFault trayChan 11 0x7F 0 s
  let s := forAll (List.finRange 120) (fun r s => if r.1 = 116 then s else
    (disableRail r s).setRail r fun q => { q with removing := false }) s
  let s := forAll accList (fun n s =>
    let c := accChan n
    let s := if 9 ≤ s.crz.chan[c].state then leaveTop n s else s
    let s := dropDrain n s
    let was := s.crz.chan[c].state
    let s := s.setChan c fun x => { x with
      target := 0, state := 0, dir := 0, stepDone := true, waiting := false, emergency := false, stagger := none,
      limit := none, efuseGood := false, efuseClose := none, chTick := if x.state = 0 then x.chTick else s.sys.tick }
    let s := s.setAcc n fun a => { a with efuseOn := false }
    if was = 0 then holdReset n s else enterS0 n s) s
  let s := s.setChan trayChan fun x => { x with
    target := min x.target 1, state := min x.state 1, dir := 0, stepDone := true, waiting := false,
    chTick := if x.state ≤ 1 then x.chTick else s.sys.tick }
  s.modRack fun r => { r with offLatch := true }

/-- The actions of RACKFLT_N, and of 12 R377: the tray goes down through rack states 11 to 14 without stagger, grace or SEQSYNC,
detached, in power state OFF (04 R116). CRZ_CH_STATUS[8].FAULT stays as it was: the rules say that RACKFLT is recorded on channel
8, and no more (DESIGN CHOICE, notes/assumptions/35.md). -/
def rackOff (s : State) : State :=
  let s := emit s 1 8 0xFF 0x20C s.crz.chan[trayChan].state
  let s := hostEvent 8 (noteFault trayChan 12 0x7F 0 s)
  let s := (detach s).modRack fun r => { r with faultDetached := true, offLatch := true, fastDown := true }
  enterRack 11 s

/-- The SAFE latch (17 R516, R518). -/
def enterSafe (cause : Nat) (s : State) : State :=
  if s.saf.safe then s else
  let s := emit s 1 9 0xFF 0x1101 cause
  let s := s.modSaf fun f => { f with
    safe := true, cause := cause, causeTick := s.sys.tick, presentTick := s.sys.tick,
    override := decide (cause = 1 ∨ cause = 2) }
  let s := forAll accList (fun n s => s.setAcc n fun a => { a with forceSaf := true }) s
  let s := forAll accList (fun n s => aimAcc n 0 s) (detach s)
  let s := s.setChan trayChan fun c => { c with
    target := if 3 ≤ c.state then c.state else min c.target c.state }
  announce s

end Sys2Proof.Machine
end

