-- ==== Sys2Proof/Machine/Partition.lean ====
section
/-! DEFINITION. The drain handshake and what follows it: partition reset and power-off, force and abort (03 R74 to R76,
15 R453, R454). -/

namespace Sys2Proof.Machine

open Sys2Proof

/-- A drain starts for a command that waits on it (03 R74). -/
def beginDrain (n : Acc) (g : DrainFor) (q : Reply) (s : State) : State :=
  s.setAcc n fun a => { a with
    xnetDrain := true, drain := some { start := s.sys.tick, goal := g, reply := q, idle := false } }

/-- XNET_IDLE as a tick samples it at its start, from 10 us after XNET_DRAIN and so not in the tick after it; the first sample that finds it high counts (03 R74). -/
def sampleIdle (bits : BitVec 8) (s : State) : State :=
  forAll accList (fun n s => match s.acc[n].drain with
    | none => s
    | some d =>
      if d.start + 2 ≤ s.sys.tick ∧ s.sys.tick ≤ d.start + 5000 then
        s.setAcc n fun a => { a with drain := some { d with idle := d.idle || bits.getLsbD n.1 } }
      else s) s

/-- The action of a drained, or forced, reset or power-off (15 R453, R454; 04 R91). In HOLD no step starts (04 R122). -/
def carryOut (n : Acc) (g : DrainFor) (s : State) : State :=
  match g with
  | .reset test =>
    let s := s.setAcc n fun a => { a with testWanted := test }
    let s := if chState s n < 9 then s
      else if rackHolds s then s.setChan (accChan n) fun c => { c with resetDue := true }
      else leaveDown n s
    setAccTarget n 12 s
  | .powerOff full =>
    (aimAcc n (min s.crz.chan[accChan n].target (if full then 0 else 3)) s).setChan (accChan n) fun c => { c with setOff := true }

/-- DRAIN_SUCCESS (03 R74): a sample has found XNET_IDLE high. -/
def execDrainSuccess (n : Acc) (s : State) : Out3 :=
  match s.acc[n].drain with
  | none => .next s
  | some d =>
    if !d.idle then .next s else
    .next (completeLate d.reply {} (carryOut n d.goal (s.setAcc n fun a => { a with drain := none })))

/-- DRAIN_TIMEOUT (03 R74, R75): 5,000 ticks without success; the decision is the host's for 10 s. -/
def execDrainTimeout (n : Acc) (s : State) : Out3 :=
  match s.acc[n].drain with
  | none => .next s
  | some d =>
    if d.idle ∨ s.sys.tick < d.start + 5000 then .next s else
    .next (hostEvent 9 (completeLate d.reply { res := .routeBusy } (s.setAcc n fun a => { a with
      drain := none, decision := some (d.goal, s.sys.tick + 1000000) })))

/-- Abort: XNET_DRAIN deasserted, the pending command dropped (03 R75). -/
def abortDrain (n : Acc) (s : State) : State := s.setAcc n fun a => { a with xnetDrain := false, decision := none }

/-- ROUTE_ABORT (03 R75): no decision within 10 s. -/
def execRouteAbort (n : Acc) (s : State) : Out3 :=
  match s.acc[n].decision with
  | none => .next s
  | some (_, t) =>
    if s.sys.tick < t then .next s else .next (emit (abortDrain n s) 7 n.1 0xFF 0x0303 0)

end Sys2Proof.Machine
end

