-- ==== Sys2Proof/Machine/Supervision.lean ====
section
/-! DEFINITION. Supervision (05_rail_supervision_and_margining.md): scanned samples, windows, converter self-check,
readback and its cross-check, margin steps, and the set-point changes they confirm (03 R81). -/

namespace Sys2Proof.Machine

open Sys2Proof

/-! Readings. -/

/-- A quantity in the unit it is reported in; one that is no whole number is rounded in a way the manual leaves open
(notes/assumptions/4.md). -/
def toReport (q : Rat) : Int := if q.den = 1 then q.num else Config.roundReport q

/-- A Linear11 word (13 R386). -/
def linear11 (w : BitVec 16) : Rat := (signed 11 (w.toNat % 2048) : Rat) * pow2 (signed 5 (w.toNat / 2048))

/-- A Linear16 word in V with the exponent of VOUT_MODE (13 R386). -/
def linear16 (mode : Byte) (w : BitVec 16) : Rat := (w.toNat : Rat) * pow2 (signed 5 (mode.toNat % 32))

/-! The scan (05 R129 to R131). -/

/-- The rail of a converter channel (05 R130). -/
def railOfScan (c k : Nat) : Option Rail :=
  let j := k % 13
  let r := if k < 52 then 14 * (4 * c + k / 13) + (if j < 8 then j else j + 1) else 112 + 4 * c + (k - 52)
  if k < 56 then (if h : r < 120 then some ⟨r, h⟩ else none) else none

/-- DIV of a tray rail, 1 for an accelerator rail (05 R154). -/
def divOf (s : State) (r : Rail) : Nat :=
  if h : 112 ≤ r.1 then fld s.sup.trayDiv[(⟨r.1 - 112, by omega⟩ : Fin 8)] 16 8 else 1

/-- NOM of a tray rail, 10 mV units (05 R154). -/
def nomOf (s : State) (r : Rail) : Nat :=
  if h : 112 ≤ r.1 then fld s.sup.trayDiv[(⟨r.1 - 112, by omega⟩ : Fin 8)] 0 16 else 0

/-- Nominal voltage of an accelerator rail, mV (03 R67). -/
def nominalMv (i : Nat) : Nat := [850, 850, 1200, 900, 750, 1800, 1050, 700, 0, 750, 750, 720, 720, 750].getD i 0

/-- The reference of a rail as a span, 0.1 mV (05 R134, R137): low and high are one value but for a widened core rail. -/
def refSpan (s : State) (r : Rail) : Nat × Nat :=
  match accOfRail r with
  | none => (100 * nomOf s r, 100 * nomOf s r)
  | some n =>
    let core (k : Fin 2) : Nat × Nat := match s.sup.widened[coreFast n k] with
      | some (lo, hi) => (10 * lo, 10 * hi)
      | none => (10 * s.twb.avs[n].mv[k], 10 * s.twb.avs[n].mv[k])
    if r.1 % 14 = 11 then core 0 else if r.1 % 14 = 12 then core 1
    else (10 * nominalMv (r.1 % 14), 10 * nominalMv (r.1 % 14))

/-- V_REF of a rail, 0.1 mV (05 R147): the set-point in force. -/
def refOf (s : State) (r : Rail) : Nat :=
  match accOfRail r with
  | none => 100 * nomOf s r
  | some n => if r.1 % 14 = 11 then 10 * s.twb.avs[n].mv[(0 : Fin 2)] else if r.1 % 14 = 12 then 10 * s.twb.avs[n].mv[(1 : Fin 2)]
    else 10 * nominalMv (r.1 % 14)

/-- Thresholds of a rail, 0.1 mV, rounded toward the reference (05 R134). -/
def windowOf (s : State) (r : Rail) : Nat × Nat :=
  let (lo, hi) := refSpan s r
  let w := s.sup.win[r]
  ((lo * (400 - fld w 0 8) + 399) / 400, hi * (400 + fld w 8 8) / 400)

/-- The converter of a rail (05 R130). -/
def convOf (r : Rail) : Fin 2 := if r.1 < 56 ∨ (112 ≤ r.1 ∧ r.1 < 116) then 0 else 1

/-- A rail has a window check: declared, with a channel and a reference, its converter not in fault (05 R133, R154,
R155). -/
def windowed (s : State) (r : Rail) : Bool :=
  declared s r && (match accOfRail r with
    | some _ => r.1 % 14 != 8
    | none => nomOf s r != 0) &&
  !s.sup.scFault[convOf r]

/-- A sample is below the window while the undervoltage check applies (05 R135). -/
def isBelow (s : State) (r : Rail) (v : Nat) : Bool :=
  windowed s r && s.crz.rail[r].en && s.crz.rail[r].stable && decide (v < (windowOf s r).1)

/-- A sample is above the window while the overvoltage check applies (05 R135). -/
def isAbove (s : State) (r : Rail) (v : Nat) : Bool :=
  windowed s r && !s.crz.rail[r].off && decide ((windowOf s r).2 < v)

/-- A sample is below the off threshold of its rail, 0.1 mV: 10 % of nominal, 72 mV for a core (04 R92; 05 R155). -/
def belowOff (s : State) (r : Rail) (v : Nat) : Bool :=
  match accOfRail r with
  | some _ => decide (v < nominalMv (r.1 % 14))
  | none => decide (v < 10 * nomOf s r)

/-- A sample, 0.1 mV at the converter's input, lies outside the window in force (05 R135). -/
def isOutside (s : State) (r : Rail) (v : Nat) : Bool := isBelow s r (v * divOf s r) || isAbove s r (v * divOf s r)

/-- A rail sample joins its entry (05 R135, R147) in 0.1 mV, or in 1 mV on a tray rail (notes/assumptions/4.md). -/
def takeRail (r : Rail) (v : Nat) (s : State) : State :=
  let x := v * divOf s r
  let y := if 112 ≤ r.1 then (toReport ((x : Rat) / 10)).toNat else x
  let lo := isBelow s r x
  let hi := isAbove s r x
  s.setEntry r fun e => { e with
    v := y, vMin := if e.sampled then min e.vMin y else y, vMax := if e.sampled then max e.vMax y else y,
    sampled := true, below := e.below || lo, above := e.above || hi, raw := v,
    offRun := if belowOff s r x then e.offRun + 1 else 0, outRun := if lo || hi then e.outRun + 1 else 0 }

/-- A sample of a converter in fault counts for nothing (05 R133). -/
def skipRail (r : Rail) (s : State) : State := s.setEntry r fun e => { e with offRun := 0, outRun := 0 }

/-- The self-check of a scan (05 R133): a reference more than 4 mV from its value; the ground comes last. -/
def takeCheck (c : Fin 2) (k v : Nat) (s : State) : State :=
  let want := if k = 56 then 5000 else if k = 57 then 15000 else 0
  let bad := decide (want + 40 < v) || decide (v + 40 < want) || s.sup.scBad[c]
  if k = 58 then
    let counts := if s.sup.scFault[c] then !bad else bad
    s.modSup fun u => { u with
      scBad := u.scBad.set c false, scRun := u.scRun.set c (if counts then u.scRun[c] + 1 else 0) }
  else s.modSup fun u => { u with scBad := u.scBad.set c bad }

/-! Converter faults (05 R133, 17 R515). -/

/-- Both converters in fault at once with a channel above S0: since when (17 R515). -/
def bothFaulty (s : State) : State :=
  let both := s.sup.scFault[(0 : Fin 2)] && s.sup.scFault[(1 : Fin 2)] && accList.any fun n => chState s n != 0
  s.modSaf fun f => { f with bothSince := if both then f.bothSince.or (some s.sys.tick) else none }

/-- DEGRADED as SAF_STATUS shows it follows the converters (17 R515). -/
def degrade (s : State) : State :=
  let now := s.sup.scFault[(0 : Fin 2)] || s.sup.scFault[(1 : Fin 2)]
  bothFaulty (if s.saf.degraded == now then s else
    emit (s.modSaf fun f => { f with degraded := now }) 2 9 0xFF 0x1105 (if now then 1 else 0))

/-- CONV_FAULT (05 R133): two failing scans. -/
def execConvFault (c : Fin 2) (s : State) : Out3 :=
  if s.sup.scFault[c] || decide (s.sup.scRun[c] < 2) then .next s else
  .next (degrade (emit (s.modSup fun u => { u with
    scFault := u.scFault.set c true, scSeen := u.scSeen.set c true, scRun := u.scRun.set c 0 }) 2 9 c.1 0x0501 1))

/-- CONV_FAULT_CLEAR (05 R133): 16 passing scans. -/
def execConvFaultClear (c : Fin 2) (s : State) : Out3 :=
  if !s.sup.scFault[c] || decide (s.sup.scRun[c] < 16) then .next s else
  .next (degrade (emit (s.modSup fun u => { u with
    scFault := u.scFault.set c false, scRun := u.scRun.set c 0 }) 2 9 c.1 0x0501 0))

/-- WINDOW (05 R135): two consecutive samples outside the window, each judged at its own instant. -/
def execWindow (r : Rail) (s : State) : Out3 :=
  if s.sup.entry[r].outRun < 2 then .next s else
  .next (confirmFault r 4 s.crz.chan[chanOf r].state 0 (s.setEntry r fun e => { e with outRun := 0 }))

/-- Thresholds of a fast comparator, 0.1 mV (05 R137, R140). -/
def fastWindow (s : State) (k : Fin 16) : Int × Int :=
  let (lo, hi) := refSpan s (coreRail ⟨k.1 / 2, by omega⟩ ⟨k.1 % 2, by omega⟩)
  let w := s.sup.fwc[k]
  ((lo : Int) - 20 * fld w 0 8, (hi : Int) + 20 * fld w 8 8)

/-- CORE_WINDOW (05 R140, R142, R147; 04 R106): the output of core `k` has been at `level`, 0.1 mV, for `ns`. -/
def execCoreWindow (k : Fin 16) (level ns : Nat) (s : State) : Out3 :=
  let n : Acc := ⟨k.1 / 2, by omega⟩
  let r := coreRail n ⟨k.1 % 2, by omega⟩
  let (lo, hi) := fastWindow s k
  let outside := decide ((level : Int) < lo) || decide (hi < level)
  if !(s.crz.rail[r].en && s.crz.rail[r].stable && outside) then .next s else
  let s := s.setEntry r fun e => { e with fastOut := true }
  .next (if 200 * fld s.sup.fwc[k] 16 4 ≤ ns then emergencyStop n 5 r.1 s else s)

/-! Readback (05 R143 to R146). -/

/-- A readback of a rail has missed three of its periods: 100 us on AVSBus, 10 ms on PMBus (05 R146). -/
def overdue (s : State) (r : Rail) : Bool :=
  let late := if r.1 % 14 = 11 ∨ r.1 % 14 = 12 then 30 else 3000
  decide (s.sup.entry[r].readTick + late < s.sys.tick) || decide (s.sup.entry[r].curTick + late < s.sys.tick)

/-- The stale flag clears at a good readback, once none is overdue (05 R146). -/
def freshen (r : Rail) (s : State) : State := if overdue s r then s else s.setEntry r fun e => { e with stale := false }

/-- A readback of a rail's current, mA, has completed (05 R143). -/
def takeCurrent (r : Rail) (ma : Nat) (s : State) : State :=
  freshen r (s.setEntry r fun e => { e with i := ma, curTick := s.sys.tick })

/-- A readback of a rail in 0.1 mV has completed: the cross-check with the scanned voltage (05 R144). While the converter is in
CONV_FAULT it compares with the last voltage published before (DESIGN CHOICE, notes/assumptions/53.md). -/
def takeReadback (r : Rail) (x : Nat) (s : State) : State :=
  let e := s.sup.entry[r]
  let diff : Int := (x : Int) - e.v
  let far := decide (refOf s r * 2 + 4000 < 100 * diff.natAbs)
  let dis := if far then e.disagree + 1 else 0
  let agr := if far then 0 else e.agree + 1
  let s := freshen r (s.setEntry r fun e => { e with
    rb := some x, written := false, readTick := s.sys.tick, disagree := dis, agree := agr,
    mismatch := if 3 ≤ dis then true else if 3 ≤ agr then false else e.mismatch })
  if dis = 3 then emit s 3 (r.1 / 14) r.1 0x0502 (twos 16 diff) else s

/-- Fault bits of a STATUS_WORD (notes/assumptions/17.md): all but BUSY, OFF and the power-good bit. -/
def statusFault (w : BitVec 16) : Bool := (w &&& 0xF73F) != 0

/-- VR_STATUS, and CLEAR_FAULTS to the device (05 R145, 13 R386). -/
def vrStatus (unit obj : Nat) (p : Port) (addr : Nat) (w : BitVec 16) (s : State) : State :=
  (emit s 3 unit obj 0x0503 w.toNat).send (.clearFaults p addr)

/-- READBACK_STALE (05 R146), recorded once. -/
def staleOne (r : Rail) (s : State) : State :=
  let core := r.1 % 14 = 11 ∨ r.1 % 14 = 12
  if r.1 % 14 = 8 ∨ s.sup.entry[r].stale ∨ !overdue s r then s
  else emit (s.setEntry r fun e => { e with stale := true }) 3 (r.1 / 14) r.1 0x0504 (if core then 0 else 1)

/-- READBACK_STALE (05 R146), for every accelerator rail that is due. -/
def execReadbackStale (s : State) : Out3 :=
  .next (forAll (List.finRange 112) (fun r s => staleOne (r.castLE (by omega)) s) s)

/-! Core set-points (03 R81, 05 R137). -/

/-- Both cores within 5 mV of the set-point (03 R81). -/
def coresNear (s : State) (n : Acc) : Bool := coreNear s n 0 && coreNear s n 1

/-- SETPOINT_REACHED (03 R81 step 4, 05 R137, 06 R185). -/
def execSetpointReached (n : Acc) (s : State) : Out3 :=
  match s.acc[n].change with
  | none => .next s
  | some c =>
    if !coresNear s n then .next s else
    let s := narrow n 1 (narrow n 0 (s.setAcc n fun a => { a with change := none }))
    let s := if s.str.acc[n].park == .parked then s else raiseClocks n c.opp c.band c.felt s
    let s := if s.str.acc[n].park == .unparking then
        sendPark n false (s.setStr n fun a => { a with park := .no }) else s
    .next (settle (accChan n) s)

/-- One core rail that misses the 1 ms limit (03 R81); with no readback at all DETAIL is minus the set-point (DESIGN CHOICE,
notes/assumptions/53.md). -/
def missCore (n : Acc) (k : Fin 2) (s : State) : State :=
  if coreNear s n k then s else
  let d : Int := match s.twb.avs[n].rb[k] with
    | some v => (v : Int) - s.twb.avs[n].mv[k]
    | none => -(s.twb.avs[n].mv[k] : Int)
  emit s 3 n.1 (coreRail n k).1 0x0506 (twos 16 d)

/-- SETPOINT_TIMEOUT (03 R81): 1 ms without the readback; the frequencies stay low. -/
def execSetpointTimeout (n : Acc) (s : State) : Out3 :=
  match s.acc[n].change with
  | none => .next s
  | some c =>
    if coresNear s n ∨ s.sys.tick < c.start + 100 then .next s
    else .next (missCore n 1 (missCore n 0 s))

/-- A rail's readback, taken since its set-point was written, lies within 5 mV of it (05 R151; notes/assumptions/53.md). -/
def marginSettled (s : State) (r : Rail) : Bool :=
  match accOfRail r with
  | none => false
  | some n =>
    if r.1 % 14 = 11 then coreNear s n 0 else if r.1 % 14 = 12 then coreNear s n 1
    else match s.sup.entry[r].rb with
      | none => false
      | some x =>
        let m := 10 * margined s.sup.baseMv[r] s.sup.marginNow[r]
        !s.sup.entry[r].written && decide (x ≤ m + 50) && decide (m ≤ x + 50)

/-- MARGIN_STEP (05 R151): one step towards the target. -/
def execMarginStep (r : Rail) (s : State) : Out3 :=
  let now := s.sup.marginNow[r]
  let tgt := s.sup.marginTgt[r]
  if now = tgt ∨ s.sys.tick < s.sup.marginTick[r] + 100 ∨ !marginSettled s r ∨ s.sup.entry[r].stale then .next s
  else .next (setMargin r (if now < tgt then now + 1 else now - 1) s)

/-! AVSBus (13 R404 to R407). -/

/-- One core rail of a scheduled AVSBus read. -/
def takeAvs (n : Acc) (k : Fin 2) (a : AvsRead) (s : State) : State :=
  if !a.answered then s
  else if !a.crcOk then s.setAvs n fun v => { v with crcErr := satAdd 0xFFFF v.crcErr }
  else
    let r := coreRail n k
    let s := s.setAvs n fun v => { v with rb := v.rb.set k (some a.mv) }
    let s := takeReadback r (10 * a.mv) (takeCurrent r (a.current.toNat * fld s.twb.avs[n].cfg 16 16) s)
    let s := narrow n k s
    if a.alert then emit s 3 n.1 r.1 0x0503 a.status.toNat else s

/-- A read of a core rail that completed. -/
def avsGood (a : AvsRead) : Bool := a.answered && a.crcOk

/-- A scheduled read is due: the present frame of `period` ticks has not had it (13 R390; notes/assumptions/16.md). -/
def frameDue (last : Option Nat) (period : Nat) (s : State) : Bool := last != some (s.sys.tick / period)

/-- AVSBUS_READ (13 R390, R404, R406, R407; 07 R198). -/
def execAvsbusRead (n : Acc) (a0 a1 : AvsRead) (s : State) : Out3 :=
  if !frameDue s.twb.avs[n].frame 10 s then .next s else
  let s := s.setAvs n fun v => { v with frame := some (s.sys.tick / 10) }
  let silent := !a0.answered && !a1.answered
  let s := takeAvs n 1 a1 (takeAvs n 0 a0 s)
  let s := s.setAvs n fun v => { v with
    noResp := if silent then satAdd 0xFFFF v.noResp else v.noResp, noRun := if silent then v.noRun + 1 else 0,
    failed := v.failed && silent }
  if avsGood a0 && avsGood a1 then
    let lsb := fld s.twb.avs[n].cfg 16 16
    let p := toReport (((a0.mv * a0.current.toNat + a1.mv * a1.current.toNat) * lsb : Nat) / 1000 : Rat)
    .next (s.modBrm fun b => { b with pCore := b.pCore.set n p, gotA := b.gotA.set n true })
  else .next s

/-- AVS_NO_RESP (13 R407): three frames without response on both rails. -/
def execAvsNoResp (n : Acc) (s : State) : Out3 :=
  if s.twb.avs[n].failed ∨ s.twb.avs[n].noRun < 3 then .next s else
  .next (emit (s.setAvs n fun v => { v with failed := true, rb := Vector.replicate 2 none }) 3 n.1 (coreRail n 0).1
    0x0D07 2)

/-- AVS_WRITE_RESPONSE (13 R405, R406). -/
def execAvsWriteResponse (n : Acc) (core : Fin 2) (r : AvsWrite) (s : State) : Out3 :=
  match s.twb.avs[n].pend[core] with
  | none => .next s
  | some (mv, tries) =>
    let s := if r.crcOk then s else s.setAvs n fun v => { v with crcErr := satAdd 0xFFFF v.crcErr }
    let s := if r.crcOk && r.alert then emit s 3 n.1 (coreRail n core).1 0x0503 r.status.toNat else s
    if r.crcOk && r.accepted then .next (s.setAvs n fun v => { v with pend := v.pend.set core none })
    else if tries < 3 then
      .next ((s.setAvs n fun v => { v with pend := v.pend.set core (some (mv, tries + 1)) }).send (.avs n core mv))
    else .next (emit (s.setAvs n fun v => { v with pend := v.pend.set core none }) 3 n.1 (coreRail n core).1 0x0D07 1)

/-! Staged window sets (01 R24, 05 R139, R154). -/

/-- A legal window word. -/
def winLegal (w : Word) : Bool :=
  decide (w.toNat < 2 ^ 16) && decide (24 ≤ fld w 0 8) && decide (fld w 0 8 ≤ 60) && decide (24 ≤ fld w 8 8) &&
    decide (fld w 8 8 ≤ 60)

/-- A legal divider word. -/
def divLegal (w : Word) : Bool := decide (w.toNat < 2 ^ 24) && decide (1 ≤ fld w 16 8) && decide (fld w 16 8 ≤ 64)

/-- A legal fast-window word. -/
def fwcLegal (w : Word) : Bool :=
  decide (w.toNat < 2 ^ 20) && decide (1 ≤ fld w 16 4) && decide (fld w 16 4 ≤ 10) && decide (10 ≤ fld w 0 8) &&
    decide (fld w 0 8 ≤ 50) && decide (10 ≤ fld w 8 8) && decide (fld w 8 8 ≤ 50)

/-- A legal staged change. -/
def supLegal : SupSet → Bool
  | .window r w d => winLegal w && (decide (r.1 < 112) || divLegal d)
  | .fast _ w => fwcLegal w

/-- A sample outside the old window counts on only if it is outside the new one (05 R138). -/
def rejudge (r : Rail) (s : State) : State :=
  if isOutside s r s.sup.entry[r].raw then s else s.setEntry r fun e => { e with outRun := 0 }

/-- One staged change put into force. -/
def supPut (x : SupSet) (s : State) : State :=
  match x with
  | .window r w d =>
    let s := s.modSup fun u => { u with win := u.win.set r w }
    rejudge r (if h : 112 ≤ r.1 then
      s.modSup fun u => { u with trayDiv := u.trayDiv.set (⟨r.1 - 112, by omega⟩ : Fin 8) d } else s)
  | .fast k w => s.modSup fun u => { u with fwc := u.fwc.set k w }

/-- The staged supervision set is applied whole or rejected whole (01 R24). -/
def applySup (s : State) : State :=
  let l := s.sup.staged
  let s := s.modSup fun u => { u with staged := [] }
  if l.all supLegal then forAll l supPut s else s

end Sys2Proof.Machine
end

