-- ==== Sys2Proof/Machine/Cooling.lean ====
section
/-! DEFINITION. The cooling unit (12_cooling_and_thermal.md): thermistors and bands, fans, pumps, flow and pressure, the
autonomous table, the critical shutdown and the leak ropes. -/

namespace Sys2Proof.Machine

open Sys2Proof

/-! Temperatures (12 R347, R348). -/

/-- ln x for x between 1/2 and 2, scaled by 2^48: twice artanh of (x - 1) / (x + 1). -/
def lnNear (x : Rat) : Int :=
  let z : Int := ((x - 1) / (x + 1) * 281474976710656).floor
  let zz : Int := z * z / 281474976710656
  let f : Int × Int := (List.range 16).foldl (fun (acc, p) i =>
    (acc + p / ((2 * i + 1 : Nat) : Int), p * zz / 281474976710656)) (0, z)
  2 * f.1

/-- ln x, scaled by 2^48, to about 2^-40 (notes/assumptions/18.md). -/
def lnFix (x : Rat) : Int :=
  let e := expo x
  lnNear (x / pow2 e) + e * 195103586505167

/-- Temperature of a thermistor sample in degrees C; none outside -40 to 150 (12 R347). -/
def thermOf (v : Nat) : Option Rat :=
  if v = 0 ∨ 18000 ≤ v then none else
  let x : Rat := (v : Rat) / ((18000 - v : Nat) : Rat)
  let y : Rat := 20 / 5963 + (lnFix x : Rat) / 281474976710656 / 3435
  if y ≤ 0 then none else
  let t : Rat := 1 / y - 5463 / 20
  if -40 ≤ t ∧ t ≤ 150 then some t else none

/-- ROLE of a thermistor; 0, 1 and 12 read 1 (12 R380). -/
def roleOf (s : State) (i : Fin 24) : Nat := fld s.cool.thm[i].map 16 2

/-- A thermistor whose latest sample may be used: checked, in range, not declared failed (12 R371, R373). -/
def thmValid (s : State) (i : Fin 24) : Bool :=
  roleOf s i != 0 && !s.cool.thm[i].failed && (match s.cool.thm[i].v with | some v => (thermOf v).isSome | none => false)

/-- Temperature of a thermistor, degrees C. -/
def thmTemp (s : State) (i : Fin 24) : Rat :=
  match s.cool.thm[i].v with
  | some v => (thermOf v).getD 0
  | none => 0

/-- The critical set (12 R348). -/
def critSet : List (Fin 24) := [0, 1, 12]

/-- A member of the critical set counts in the vote (12 R371, R373); one that has not been sampled has not been out of
range. -/
def critValid (s : State) (i : Fin 24) : Bool :=
  let t := s.cool.thm[i]
  !t.failed && decide (t.inRun = 16) && (match t.v with | some v => (thermOf v).isSome | none => true)

/-- Valid members of the critical set. -/
def critMembers (s : State) : List (Fin 24) := critSet.filter (critValid s)

/-- T_out, degrees C (12 R348). -/
def tOut (s : State) : Option Rat :=
  let l := ((critMembers s).filter (thmValid s)).map (thmTemp s)
  match l with
  | [] => none
  | [a] => some a
  | [a, b] => some (max a b)
  | a :: b :: c :: _ => some (max (min a b) (min (max a b) c))

/-- Temperature of a thermistor by number, for Frond (09, input sources). -/
def thermC (s : State) (i : Nat) : Rat := if h : i < 24 then thmTemp s ⟨i, h⟩ else 0

/-- Duty of a fan by number, percent, for Frond (09, input sources). -/
def fanDuty (s : State) (i : Nat) : Rat := if h : i < 16 then s.cool.fan[(⟨i, h⟩ : Fan)].duty else 0

/-- A slow-slot reading: converter and sub-input (05 R131). -/
def slowOf (s : State) (c sub : Nat) : Nat := if h : 16 * c + sub < 32 then s.sup.slow[(⟨16 * c + sub, h⟩ : Fin 32)] else 0

/-- Flow of a loop from a sample in 0.1 mV, l/min (12 R361). -/
def flowOf (v : Nat) : Rat := ((v : Rat) - 2000) / 400

/-- Pressure from a sample in 0.1 mV, kPa (12 R361). -/
def pressOf (v : Nat) : Rat := ((v : Rat) - 2500) / 25

/-- Flow of a loop by number, l/min, for Frond (09, input sources). -/
def flowLpm (s : State) (l : Nat) : Rat :=
  if s.nv.coolLiq then max 0 (flowOf (slowOf s l 12)) else 0

/-! Samples (12 R361, R373). -/

/-- A thermistor sample, in 0.1 mV; one of a converter in fault is out of range (05 R133). -/
def takeThm (i : Fin 24) (v : Nat) (ok : Bool) (s : State) : State :=
  let good := ok && (thermOf v).isSome
  s.setThm i fun t => { t with
    v := some v, outSince := if good || roleOf s i == 0 then none else t.outSince.or (some s.sys.tick),
    inSince := if good then t.inSince.or (some s.sys.tick) else none, inRun := if good then min 16 (t.inRun + 1) else 0 }

/-- A loop is used (12 R361). -/
def loopUsed (s : State) (l : Loop) : Bool := s.nv.coolLiq && fldB s.cool.loop[l].cfg 31

/-- The active pump of a loop, and its secondary (12 R361). -/
def activePump (s : State) (l : Loop) : Pump := ⟨2 * l.1 + fld s.cool.loop[l].cfg 30 1, by
  have h : fld s.cool.loop[l].cfg 30 1 < 2 := Nat.mod_lt _ (by decide)
  omega⟩
def otherPump (s : State) (l : Loop) : Pump := ⟨2 * l.1 + (1 - fld s.cool.loop[l].cfg 30 1), by omega⟩

/-- A flow sample is at least FLOW_MIN (12 R361, R363). -/
def flowGood (s : State) (l : Loop) (v : Nat) : Bool :=
  decide (2000 ≤ v) && decide (v ≤ 18000) && decide (40 * fld s.cool.loop[l].cfg 8 8 ≤ v - 2000)

/-- A flow sample. -/
def takeFlow (l : Loop) (v : Nat) (ok : Bool) (s : State) : State :=
  let range := ok && decide (2000 ≤ v) && decide (v ≤ 18000)
  let good := ok && flowGood s l v
  let now := some s.sys.tick
  let ch : Fin 6 := ⟨l.1, by omega⟩
  let s := s.modCool fun c => { c with
    chanOut := c.chanOut.set ch (if range then none else c.chanOut[ch].or now),
    chanFailed := if range then c.chanFailed.set ch false else c.chanFailed }
  s.setLoop l fun p => { p with
    lowSince := if good then none else p.lowSince.or now, lowLast := if good then p.lowLast else s.sys.tick, okSince := if good then p.okSince.or now else none,
    switched := if good then none else p.switched }

/-- A pump is driven (12 R363, R365). -/
def pumpRuns (s : State) (p : Pump) : Bool := s.cool.pump[p].state == 1 || s.cool.pump[p].state == 2

/-- A pressure sample of channel 0-3 (12 R361, R365); one out of range counts neither way. -/
def takePress (ch : Fin 4) (v : Nat) (ok : Bool) (s : State) : State :=
  let range := ok && decide (2500 ≤ v) && decide (v ≤ 17500)
  let j : Fin 6 := ⟨2 + ch.1, by omega⟩
  let s := s.modCool fun c => { c with
    chanOut := c.chanOut.set j (if range then none else c.chanOut[j].or (some s.sys.tick)),
    chanFailed := if range then c.chanFailed.set j false else c.chanFailed }
  if ch.1 % 2 = 1 ∨ !range then s else
  let l : Loop := ⟨ch.1 / 2, by omega⟩
  let low := pumpRuns s (activePump s l) && loopUsed s l && decide (v - 2500 < 125 * fld s.cool.loop[l].cfg 0 8)
  s.setLoop l fun p => { p with
    pressSince := if low then p.pressSince.or (some s.sys.tick) else none, pressLow := p.pressLow && low }

/-! Bands (12 R349 to R353). -/

/-- The band that contains a temperature in 1/16 degrees C (12 R350). -/
def bandFor (t : Int) : Nat := if t ≤ 880 then 0 else if t ≤ 1120 then 1 else if t ≤ 1360 then 2 else if t ≤ 1520 then 3 else 4

/-- Lower boundary of a band, 1/16 degrees C. -/
def bandLow (b : Nat) : Int := if b = 1 then 880 else if b = 2 then 1120 else if b = 3 then 1360 else 1520

/-- Refresh request of a band: 0, 1, 2 for 1x, 2x, 4x (12 R351). -/
def refreshFor (b : Nat) : Nat := if b ≤ 2 then 0 else if b = 3 then 1 else 2

/-- A band change (12 R350 to R352, 10 R309). -/
def setBandTo (n : Acc) (b : Nat) (s : State) : State :=
  let old := s.cool.acc[n].band
  if b = old then s else
  let s := s.setBand n fun x => { x with
    band := b, fallSince := none, calmSince := if b ≤ 2 ∧ 2 < old then s.sys.tick else x.calmSince,
    mildSince := if b ≤ 3 ∧ 3 < old then s.sys.tick else x.mildSince }
  applyPreset n (emit s 4 n.1 0xFF 0x0C01 b)

/-- The band after a good activity frame (12 R350); held while the on-die temperatures are failed (R353). -/
def takeBand (n : Acc) (tj : Int) (s : State) : State :=
  let x := s.cool.acc[n]
  if x.failed then s else
  let b := bandFor tj
  if x.band < b then setBandTo n b s
  else if x.band ≠ 0 ∧ tj ≤ bandLow x.band - 8 * fld s.cool.cfg 4 4 then
    match x.fallSince with
    | none => s.setBand n fun x => { x with fallSince := some s.sys.tick }
    | some t =>
      if t + 10000 ≤ s.sys.tick then
        let b := x.band - 1
        (setBandTo n b s).setBand n fun x => { x with
          fallSince := if b ≠ 0 ∧ tj ≤ bandLow b - 8 * fld s.cool.cfg 4 4 then some s.sys.tick else none }
      else s
  else s.setBand n fun x => { x with fallSince := none }

/-- The on-die temperatures count as failed (12 R353). -/
def onDieFailed (s : State) (n : Acc) : Bool :=
  let x := s.cool.acc[n]
  decide (2 ≤ chState s n) && (s.str.acc[n].stale || x.sensorTick.isSome || !x.seen)

/-- Entry to and exit from on-die failure (12 R353); a stale link starts the second of good frames again. -/
def onDieCheck (n : Acc) (s : State) : State :=
  let now := onDieFailed s n
  let s := if s.str.acc[n].stale then s.setBand n fun x => { x with sensorTick := x.sensorTick.map fun _ => s.sys.tick } else s
  if now == s.cool.acc[n].failed then s else
  let s := hostEvent 7 (emit s 4 n.1 0xFF 0x0C0F (if now then 1 else 0))
  s.setBand n fun x => { x with failed := now, failTick := s.sys.tick, tableMax := false, fallSince := none }

/-- The temperatures of a good activity frame (12 R349, R353): the first after S0 ends the failure and sets the band. -/
def takeTemps (n : Acc) (a : Activity) (s : State) : State :=
  takeBand n a.tjMax (onDieCheck n (s.setBand n fun x => { x with
    tjMax := a.tjMax, tjDie0 := a.tjDie0, tjDie1 := a.tjDie1, tjHbm := a.tjHbm,
    seen := true,
    sensorTick := match x.sensorTick with
      | some t => if t + 100000 ≤ s.sys.tick then none else some t
      | none => none }))

/-- ON_DIE_FAULT (12 R353): 100 ms of failure. -/
def execOnDieFault (n : Acc) (s : State) : Out3 :=
  let x := s.cool.acc[n]
  if x.failed ∧ !x.tableMax ∧ x.failTick + 10000 ≤ s.sys.tick then .next (s.setBand n fun x => { x with tableMax := true })
  else .next s

/-- The refresh request to be in force (12 R352): a higher one at once, a lower one after 1 s at or below its band. -/
def refreshWant (s : State) (n : Acc) : Nat :=
  let x := s.cool.acc[n]
  let w := refreshFor x.band
  if !x.refreshed || x.refresh < w then w
  else if w = 0 ∧ x.calmSince + 100000 ≤ s.sys.tick then 0
  else if w ≤ 1 ∧ x.mildSince + 100000 ≤ s.sys.tick then min x.refresh 1
  else x.refresh

/-- REFRESH_REQUEST (12 R352): a write that is due is made over the accelerator's main bus, and 10 ms after a failure again. -/
def execRefreshRequest (n : Acc) (ok : Bool) (s : State) : Out3 :=
  let x := s.cool.acc[n]
  let w := refreshWant s n
  if (!x.refreshed || w != x.refresh) && decide (x.retryTick ≤ s.sys.tick) && s.acc[n].isoEn && decide (1 ≤ chState s n)
      && !s.twb.port[(⟨n.1, by omega⟩ : Port)].stuck then
    if ok then .next ((s.setBand n fun x => { x with refresh := w, refreshed := true }).send (.refresh n w))
    else .next (s.setBand n fun x => { x with retryTick := s.sys.tick + 1000 })
  else .next s

/-! Demands (12 R356 to R362, R375). -/

/-- A run of the thermal predictor is fresh (12 R357). -/
def predFresh (s : State) (t : Nat) : Bool :=
  let k := s.frd.slot[(1 : Fin 4)]
  match k.model with
  | some b => k.state == 2 && !k.staleIn && decide (s.sys.tick ≤ t + 2 * (frcHeader b).period)
  | none => false

/-- b_eff of an accelerator (12 R357). -/
def bandEff (s : State) (n : Acc) : Nat :=
  match s.frd.tjPred[n] with
  | some (t, x) => if predFresh s t then max (bandOf s n) (bandFor (16 * x).ceil) else bandOf s n
  | none => bandOf s n

/-- Curve duties (12 R380). -/
def curveFan (s : State) (b : Nat) : Nat := if h : b < 5 then fld s.cool.curve[(⟨b, h⟩ : Fin 5)] 0 8 else 100
def curvePump (s : State) (b : Nat) : Nat := if h : b < 5 then fld s.cool.curve[(⟨b, h⟩ : Fin 5)] 8 8 else 100

/-- Accelerators of a mask in S2 to S12; none in the run-down of rack state 13 (12 R356, R367). -/
def cooled (s : State) (m : Nat) : List Acc :=
  accList.filter fun n => m.testBit n.1 && decide (2 ≤ chState s n) && s.rack.state != 13

/-- The map of a fan (12 R380). -/
def fanMapOf (s : State) (f : Fan) : Word := s.cool.fanMap[f]
def fanUsed (s : State) (f : Fan) : Bool := fldB (fanMapOf s f) 8

/-- The curve demand of a fan, 0 with no accelerator to cool (12 R356). -/
def fanCurve (s : State) (f : Fan) : Nat :=
  ((cooled s (fld (fanMapOf s f) 0 8)).map fun n => curveFan s (bandEff s n)).foldl max 0

/-- A used, stalled fan names this fan as a neighbour (12 R360). -/
def compensates (s : State) (f : Fan) : Bool :=
  (List.finRange 16).any fun (g : Fan) => g != f && fanUsed s g && s.cool.fan[g].stalled &&
    (fld (fanMapOf s g) 24 4 == f.1 || fld (fanMapOf s g) 28 4 == f.1)

/-- Failed zone leak channel of an accelerator (12 R375). -/
def zoneFailed (s : State) (n : Acc) : Bool := s.cool.leak[(⟨n.1, by omega⟩ : Fin 10)].failed

/-- Table maximum applies to a fan (12 R353, R375). -/
def fanMaxed (s : State) (f : Fan) : Bool :=
  let m := fld (fanMapOf s f) 0 8
  (accList.any fun n => m.testBit n.1 && (s.cool.acc[n].tableMax || zoneFailed s n)) ||
  (List.finRange 24).any fun (i : Fin 24) => s.cool.thm[i].failed && (fld s.cool.thm[i].map 0 16).testBit f.1

/-- Row 7 of COOL_TABLE (12 R353). -/
def maxFan (s : State) : Nat := fld s.cool.rows[(7 : Fin 8)] 0 8
def maxPump (s : State) : Nat := fld s.cool.rows[(7 : Fin 8)] 8 8

/-- A duty with the neighbour compensation, capped at 100 % (12 R360); a stalled fan has the duty it would have if running. -/
def withComp (s : State) (f : Fan) (d : Rat) : Rat :=
  if compensates s f then min 100 (d + (fld s.cool.cfg2 8 8 : Nat)) else d

/-- Firmware demand of a fan: FAN_MIN, the curve demand, and the compensation, which adds to the curve demand (12 R356, R360). -/
def fanDemand (s : State) (f : Fan) : Rat :=
  if fanMaxed s f then (maxFan s : Rat) else max ((fld s.cool.cfg 8 8 : Nat) : Rat) (withComp s f (fanCurve s f : Rat))

/-- Table maximum applies to the pumps of a loop (12 R353, R375). -/
def pumpMaxed (s : State) (l : Loop) : Bool :=
  let m := fld s.cool.loop[l].cfg 16 8
  (accList.any fun n => m.testBit n.1 && (s.cool.acc[n].tableMax || zoneFailed s n)) ||
  s.cool.leak[(8 : Fin 10)].failed || s.cool.leak[(9 : Fin 10)].failed ||
  (List.finRange 24).any fun (i : Fin 24) => s.cool.thm[i].failed && (roleOf s i == 1 || roleOf s i == 2)

/-- The outlet, or its prediction, calls for every pump at 100 % (12 R348, R354, R357). -/
def pumpsFull (s : State) : Bool :=
  let hi : Rat := (fld s.cool.cfg2 0 8 : Nat)
  s.cool.ror || (match tOut s with | none => true | some t => decide (hi ≤ t)) ||
  (match s.frd.coolPred with | some (t, x) => predFresh s t && decide (hi ≤ x) | none => false)

/-- Firmware demand of the active pump of a loop (12 R362). -/
def pumpDemand (s : State) (l : Loop) : Rat :=
  if pumpMaxed s l then (maxPump s : Rat) else if pumpsFull s then 100 else
  match cooled s (fld s.cool.loop[l].cfg 16 8) with
  | [] => (curvePump s 0 : Rat)
  | ns => ((ns.map fun n => curvePump s (bandEff s n)).foldl max 0 : Nat)

/-- The row that table mode selects (12 R369). -/
def tableRow (s : State) : Word :=
  let ts := ((List.finRange 24).filter fun i => thmValid s i && fldB s.cool.thm[i].map 18).map (thmTemp s)
  match ts with
  | [] => s.cool.rows[(0 : Fin 8)]
  | t :: l =>
    let m := l.foldl max t
    (s.cool.rows.toList.filter fun w => decide (((fld w 16 8 : Nat) : Rat) ≤ m)).getLastD s.cool.rows[(0 : Fin 8)]

/-- SAFE with causes 1 and 2 overrides the outputs (17 R517). -/
def overridden (s : State) : Bool := s.saf.override || s.sys.boot == .noSlot

/-- Duty that a running fan is to have: override, table or firmware (12 R356, R369; 17 R517). -/
def fanWant (s : State) (f : Fan) : Rat :=
  if overridden s then 100
  else if s.cool.table then
    if fanMaxed s f then (maxFan s : Rat)
    else withComp s f (max ((fld (tableRow s) 0 8 : Nat) : Rat) (s.cool.entryDuty[(⟨f.1, by omega⟩ : Fin 20)]))
  else fanDemand s f

/-- Duty that the active pump of a loop is to have. -/
def pumpWant (s : State) (l : Loop) : Rat :=
  if overridden s then 100
  else if s.cool.table then
    if pumpMaxed s l then (maxPump s : Rat)
    else max ((fld (tableRow s) 8 8 : Nat) : Rat) (s.cool.entryDuty[(⟨16 + (activePump s l).1, by
      have := (activePump s l).2; omega⟩ : Fin 20)])
  else pumpDemand s l

/-- A duty moves to its demand: up at once, down by at most `fall` under firmware (12 R356); the table and the override
state the duty itself (12 R369, 17 R517). -/
def slew (s : State) (now want fall : Rat) : Rat :=
  if now ≤ want || s.cool.table || overridden s then want else max want (now - fall)

/-- Fall of one cooling loop, percentage points (12 R356). -/
def fallStep (s : State) : Rat := (fld s.cool.cfg 16 8 : Nat) / 100

/-- Every fan and pump is driven at its duty; `fall` bounds what it may lose now. -/
def driveAll (fall : Rat) (s : State) : State :=
  let s := forAll (List.finRange 16) (fun (f : Fan) s =>
    let x := s.cool.fan[f]
    if x.state = 2 ∨ x.state = 4 ∨ x.state = 3 then s.setFan f fun x => { x with duty := slew s x.duty (fanWant s f) fall } else s) s
  forAll (List.finRange 2) (fun (l : Loop) s =>
    let p := activePump s l
    if s.cool.pump[p].state = 2 then s.setPump p fun x => { x with duty := slew s x.duty (pumpWant s l) fall } else s) s

/-! Table mode (12 R368 to R370). -/

/-- The lowest-numbered cause of table mode that is present (12 R368). -/
def tableCause (s : State) : Option Nat :=
  if s.cool.hbLost then some 1
  else if !running s || !s.saf.served then some 2
  else if s.saf.safe && decide (3 ≤ s.saf.cause) then some 3
  else if s.cool.hostTable then some 4
  else none

/-- Table mode is entered when a cause starts (12 R368, R369); of several in one tick the lowest-numbered is reported. The safety
island must run. -/
def tableCheck (s : State) : State :=
  if !s.saf.started then s else
  match tableCause s with
  | none => s
  | some c =>
    if s.cool.table then
      (if s.cool.tableTick = s.sys.tick ∧ c < s.cool.cause then s.modCool fun k => { k with cause := c } else s) else
    let s := s.modCool fun k => { k with
      table := true, tableTick := s.sys.tick, cause := c, loopDone := false,
      entryDuty := Vector.ofFn fun (i : Fin 20) =>
        if h : i.1 < 16 then k.fan[(⟨i.1, h⟩ : Fan)].duty else k.pump[(⟨i.1 - 16, by omega⟩ : Pump)].duty }
    driveAll 0 (hostEvent 7 (emit s 4 8 0xFF 0x0C0C c))

/-- TABLE_MODE_EXIT (12 R370). -/
def execTableModeExit (s : State) : Out3 :=
  if s.cool.table && (tableCause s).isNone && s.sys.fwRunning && s.cool.loopDone then
    .next (emit (s.modCool fun k => { k with table := false, cause := 0 }) 4 8 0xFF 0x0C0C 0)
  else .next s

/-- HEARTBEAT_TIMEOUT (12 R368). A command stamped in the tick of the expiry is in time, so none may wait. -/
def execHeartbeatTimeout (s : State) : Out3 :=
  let waits := s.rcd.merger.any fun w => match w.item with | .req _ => true | _ => false
  if waits || s.cool.hbLost || decide (s.sys.tick < s.cool.hbTick + 100000 * fld s.cool.cfg 24 8) then .next s
  else .next (tableCheck (s.modCool fun k => { k with hbLost := true }))

/-! The cooling loop (12 R354, R356, R362). -/

/-- COOLANT_ROR (12 R354): T_out against T_out 1 s earlier. -/
def rorLoop (s : State) : State :=
  let t := tOut s
  let old := (s.cool.outHist[99]?).join
  let s := s.modCool fun k => { k with outHist := (t :: k.outHist).take 100 }
  match t, old with
  | some t, some o =>
    if o + 2 < t then
      let s := s.modCool fun k => { k with ror := true, rorTick := s.sys.tick }
      hostEvent 7 (emit s 4 8 0xFF 0x0C0B (toReport (16 * (t - o))).toNat)
    else if s.cool.ror ∧ s.cool.rorTick + 1000000 ≤ s.sys.tick then s.modCool fun k => { k with ror := false } else s
  | _, _ => if s.cool.ror ∧ s.cool.rorTick + 1000000 ≤ s.sys.tick then s.modCool fun k => { k with ror := false } else s

/-! Fans (12 R358 to R360). -/

/-- A tach input in a tick: an edge counts towards a kick and gives the rate; without one the rate is no higher than the time since
the latest allows (12 R355, R359). `due`: edges are due of the output. -/
def tachStep (now : Nat) (edge due : Bool) (rpm : Nat) (t : Tach) : Nat × Tach :=
  let rate (e : Nat) : Nat := min 65535 (3000000 / max 1 (now - e))
  let quiet := match t.edge with | some e => decide (e + 100000 < now) | none => true
  let r := match t.edge with | none => if edge then 0 else rpm | some e => if edge then rate e else min rpm (rate e)
  (r, { edge := if edge then some now else t.edge, edges := if edge then min 2 (t.edges + 1) else t.edges,
        idleTick := if due then t.idleTick else now,
        slowSince := if due && decide (r < 1000) then t.slowSince.or (some now) else none,
        runSince := if quiet then (if edge then some now else none) else t.runSince.or (if edge then some now else none) })

/-- The tach input of a fan (12 R355, R359): an unused one is ignored. -/
def fanTach (edge : Bool) (f : Fan) (s : State) : State :=
  if !fanUsed s f then s else
  s.setFan f fun x =>
    let y := tachStep s.sys.tick edge (x.state == 2 && decide (20 ≤ x.duty)) x.rpm x.tach
    { x with rpm := y.1, tach := y.2 }

/-- The tach input of a pump (12 R355, R363). -/
def pumpTach (edge : Bool) (p : Pump) (s : State) : State :=
  s.setPump p fun x =>
    let y := tachStep s.sys.tick edge (x.state == 2 && decide (0 < x.duty)) x.rpm x.tach
    { x with rpm := y.1, tach := y.2 }

/-- No edge for 1 s while edges were due (12 R359, R363). -/
def tachLost (now : Nat) (t : Tach) : Bool := decide (max (t.edge.getD 0) t.idleTick + 100000 ≤ now)

/-- A fan is kicked (12 R358). -/
def kickFan (f : Fan) (s : State) : State :=
  s.setFan f fun x => { x with state := 1, duty := 100, tick := s.sys.tick, tach := {} }

/-- FAN_GROUP_KICK (12 R358). -/
def execFanGroupKick (g : Fin 5) (s : State) : Out3 :=
  match s.cool.fanTick with
  | none => .next s
  | some t =>
    if s.cool.kicked ≠ g.1 ∨ 4 ≤ g.1 ∨ s.sys.tick < t + 10000 * g.1 then .next s else
    let s := s.modCool fun k => { k with kicked := g.1 + 1 }
    .next (forAll ((List.finRange 16).filter fun f => f.1 / 4 == g.1) (fun f s =>
      if fanUsed s f then kickFan f s else s.setFan f fun _ => { state := 5 }) s)

/-- A fan is declared stalled (12 R358, R359). -/
def stallFan (f : Fan) (d : Nat) (s : State) : State :=
  let s := s.setFan f fun x => { x with state := 3, stalled := true, tick := s.sys.tick }
  driveAll 0 (emit s 4 8 f.1 0x0C02 d)

/-- FAN_KICK_DONE (12 R358, R360): the tach input has shown two edges. -/
def execFanKickDone (f : Fan) (s : State) : Out3 :=
  let x := s.cool.fan[f]
  if x.state ≠ 1 ∨ x.tach.edges < 2 then .next s else
  let s := if x.stalled then emit s 4 8 f.1 0x0C03 x.rpm else s
  let s := s.setFan f fun x => { x with state := 2, stalled := false }
  .next (s.setFan f fun x => { x with duty := fanWant s f })

/-- FAN_KICK_TIMEOUT (12 R358): 5 s without two edges. A fan that was stalled already stays so. -/
def execFanKickTimeout (f : Fan) (s : State) : Out3 :=
  let x := s.cool.fan[f]
  if x.state ≠ 1 ∨ 2 ≤ x.tach.edges ∨ s.sys.tick < x.tick + 500000 then .next s
  else if x.stalled then .next (s.setFan f fun x => { x with state := 3, duty := fanWant s f })
  else .next (stallFan f 1 s)

/-- The current of a fan group 1 s before a tick, the oldest kept where none is older (12 R359). -/
def groupBefore (h : List (Nat × Nat)) (t : Nat) : Nat :=
  (((h.find? fun x => decide (x.1 + 100000 ≤ t)).or h.getLast?).map (·.2)).getD 0

/-- Fans of a group that run, a tach fault counted as running (12 R359). -/
def groupRunning (s : State) (g : Fin 4) : Nat :=
  ((List.finRange 16).filter fun (y : Fan) => y.1 / 4 == g.1 && (s.cool.fan[y].state == 2 || s.cool.fan[y].state == 4)).length

/-- The group current has fallen by half a fan's share or more since 1 s before the loss, the latest edge (12 R359). -/
def currentFell (s : State) (f : Fan) : Bool :=
  let g : Fin 4 := ⟨f.1 / 4, by omega⟩
  let h := s.cool.groupCur[g]
  let old := groupBefore h (s.cool.fan[f].tach.edge.getD 0)
  decide (old ≤ 2 * groupRunning s g * (old - ((h.head?).map (·.2)).getD 0))

/-- FAN_TACH_LOSS (12 R359): no edge for 1 s. The current of the fan group decides where it is monitored. -/
def execFanTachLoss (f : Fan) (s : State) : Out3 :=
  let x := s.cool.fan[f]
  if x.state ≠ 2 ∨ x.duty < 20 ∨ !tachLost s.sys.tick x.tach then .next s
  else if fldB s.cool.cfg 0 && !s.twb.port[(8 : Fin 11)].stuck && !currentFell s f then
    .next (emit (s.setFan f fun x => { x with state := 4 }) 4 8 f.1 0x0C04 1)
  else .next (stallFan f 2 s)

/-- FAN_SLOW (12 R359): below 1,000 rpm for 3 s. -/
def execFanSlow (f : Fan) (s : State) : Out3 :=
  let x := s.cool.fan[f]
  let slow := match x.tach.slowSince with | some t => decide (t + 300000 ≤ s.sys.tick) | none => false
  if x.state ≠ 2 ∨ x.duty < 20 ∨ 1000 ≤ x.rpm ∨ !slow then .next s else .next (stallFan f 3 s)

/-- TACH_FAULT_CLEAR (12 R359): 10 s of edges, no second without one. -/
def execTachFaultClear (f : Fan) (s : State) : Out3 :=
  let ran := match s.cool.fan[f].tach.runSince with | some t => decide (t + 1000000 ≤ s.sys.tick) | none => false
  if s.cool.fan[f].state ≠ 4 ∨ !ran then .next s
  else .next (emit (s.setFan f fun x => { x with state := 2 }) 4 8 f.1 0x0C04 0)

/-- FAN_REKICK (12 R360): every 30 s. -/
def execFanRekick (f : Fan) (s : State) : Out3 :=
  let x := s.cool.fan[f]
  if x.state ≠ 3 ∨ s.sys.tick < x.tick + 3000000 then .next s else .next (kickFan f s)

/-! Pumps (12 R362 to R365). -/

/-- A pump is kicked (12 R362). -/
def kickPump (p : Pump) (s : State) : State := s.setPump p fun x => { x with state := 1, duty := 100, tick := s.sys.tick, tach := {} }

/-- The pumps start as PUMP12 counts as stable (12 R362). -/
def startPumps (s : State) : State :=
  forAll (List.finRange 2) (fun (l : Loop) s =>
    let a := activePump s l
    let o := otherPump s l
    if loopUsed s l then
      let s := if s.cool.pump[a].state = 4 then s else kickPump a s
      let s := if s.cool.pump[o].state = 4 then s else s.setPump o fun x => { x with state := 3, duty := 0 }
      s.setLoop l fun p => { p with lowSince := none }
    else (s.setPump a fun _ => { state := 5 }).setPump o fun _ => { state := 5 }) s

/-! The settings and the loop (12 R355 to R362, R380; 15 R462). -/

/-- The maps of fans, thermistors and leak channels (12 R355, R373, R374, R380): ROLE of thermistors 0, 1 and 12 reads
1; what is no longer checked or excited is not failed. -/
def putMaps (fm tm : List Word) (used : BitVec 16) (s : State) : State :=
  s.modCool fun k => { k with
    fanMap := Vector.ofFn fun (f : Fan) => fm.getD f.1 0
    thm := Vector.ofFn fun (i : Fin 24) =>
      let w := tm.getD i.1 0
      let w := if i.1 = 0 ∨ i.1 = 1 ∨ i.1 = 12 then setFld w 16 2 1 else w
      if fld w 16 2 = 0 then { k.thm[i] with map := w, outSince := none, failed := false } else { k.thm[i] with map := w }
    leak := Vector.ofFn fun (c : Fin 10) =>
      let x := k.leak[c]
      if used.getLsbD c.1 then { x with used := true }
      else { x with
        used := false, reading := 0, wetRun := 0, openRun := 0, dryRun := 0, failed := false, confirmed := false } }

/-- cool.set_map in force: a fan newly unused stops, one newly used is kicked once FAN12 is up (12 R355, R358). -/
def newMaps (fm tm : List Word) (used : BitVec 16) (s : State) : State :=
  let old := s.cool.fanMap
  let s := putMaps fm tm used s
  forAll (List.finRange 16) (fun (f : Fan) s =>
    let now := fldB s.cool.fanMap[f] 8
    if now == fldB old[f] 8 then s
    else if !now then s.setFan f fun _ => { state := 5 }
    else if s.cool.fanTick.isSome && decide (f.1 / 4 < s.cool.kicked) then kickFan f s
    else s.setFan f fun _ => {}) s

/-- The register image of a loop with its ACTIVE bit kept (12 R380). -/
def loopWord (old w : Word) : Word := setFld w 30 1 (fld old 30 1)

/-- A pump stops in a state; a failed one stays failed (12 R363). -/
def stopPump (p : Pump) (k : Nat) (s : State) : State :=
  if s.cool.pump[p].state = 4 then s.setPump p fun x => { x with duty := 0 } else s.setPump p fun _ => { state := k }

/-- cool.set_loop in force: pumps of a loop newly unused stop, those of one newly used start (12 R361, R362). -/
def newLoops (l : List Word) (s : State) : State :=
  forAll (List.finRange 2) (fun (i : Loop) s =>
    let old := s.cool.loop[i].cfg
    let s := s.setLoop i fun p => { p with cfg := loopWord old (l.getD i.1 0) }
    let a := activePump s i
    let o := otherPump s i
    if fldB old 31 == fldB s.cool.loop[i].cfg 31 then s
    else if !loopUsed s i then stopPump o 5 (stopPump a 5 s)
    else if !s.crz.rail[trayRail 2].stable then stopPump o 0 (stopPump a 0 s)
    else if s.cool.pump[a].state = 4 then stopPump o 3 s
    else kickPump a (stopPump o 3 s)) s

/-- A cooling command takes effect (15 R462). -/
def newCooling (c : Cmd) (s : State) : State :=
  match c with
  | .coolSetConfig a b => s.modCool fun k => { k with cfg := a, cfg2 := b }
  | .coolSetCurve l => s.modCool fun k => { k with curve := Vector.ofFn fun (i : Fin 5) => l.getD i.1 0 }
  | .coolSetMap f t u => newMaps f t u s
  | .coolSetLoop l => newLoops l s
  | _ => s

/-- The cooling commands accepted since the last cooling loop take effect in order (15 R462). -/
def takeStaged (s : State) : State := forAll s.cool.staged newCooling (s.modCool fun k => { k with staged := [] })

/-- COOLING_LOOP (12 R354, R356, R362, R369): firmware's settings and demands, and the table's while it is in force. -/
def execCoolingLoop (s : State) : Out3 :=
  if s.sys.tick % 1000 ≠ 0 then .next s else
  let s := if running s then (rorLoop (takeStaged s)).modCool fun k => { k with loopDone := (tableCause s).isNone } else s
  let fall := fallStep s
  let s := s.modCool fun k => { k with entryDuty := k.entryDuty.map fun d => max 0 (d - fall) }
  if running s || s.cool.table || overridden s then .next (driveAll fall s) else .next s

/-- PUMP_KICK_DONE (12 R362): two edges. The low run of R363 counts from here. -/
def execPumpKickDone (p : Pump) (s : State) : Out3 :=
  if s.cool.pump[p].state ≠ 1 ∨ s.cool.pump[p].tach.edges < 2 then .next s else
  let l : Loop := ⟨p.1 / 2, by omega⟩
  let s := (s.setPump p fun x => { x with state := 2 }).setLoop l fun q => { q with
    lowSince := if q.switched.isSome then q.lowSince else none }
  .next (s.setPump p fun x => { x with duty := pumpWant s l })

/-- The switch to the secondary pump (12 R363). A loop whose secondary has failed does not switch. -/
def switchPump (l : Loop) (d : Nat) (s : State) : State :=
  let a := activePump s l
  let o := otherPump s l
  if s.cool.pump[o].state = 4 then
    (if s.cool.pump[a].state = 1 then s.setPump a fun x => { x with state := 4, duty := 0 } else s)
  else
    let s := s.setPump a fun x => { x with state := 4, duty := 0 }
    let s := kickPump o s
    let s := s.setLoop l fun p => { p with
      cfg := setFld p.cfg 30 1 (1 - fld p.cfg 30 1), switched := some s.sys.tick, okSince := none }
    emit s 4 8 a.1 0x0C05 d

/-- Every flow sample for 200 ms is low (12 R363, R364): a run of low samples whose last comes 200 ms or more after its first. -/
def flowLow (s : State) (l : Loop) : Bool :=
  match s.cool.loop[l].lowSince with | some t => decide (t + 20000 ≤ s.cool.loop[l].lowLast) | none => false

/-- FLOW_LOW (12 R363). -/
def execFlowLow (l : Loop) (s : State) : Out3 :=
  if loopUsed s l && flowLow s l && s.cool.pump[activePump s l].state == 2 && s.cool.loop[l].switched.isNone
  then .next (switchPump l 1 s) else .next s

/-- PUMP_TACH_LOSS (12 R363): no edge for 1 s, or a kick of 5 s. -/
def execPumpTachLoss (l : Loop) (s : State) : Out3 :=
  let x := s.cool.pump[activePump s l]
  if loopUsed s l && ((x.state == 2 && decide (0 < x.duty) && tachLost s.sys.tick x.tach)
      || (x.state == 1 && decide (x.tach.edges < 2) && decide (x.tick + 500000 ≤ s.sys.tick)))
  then .next (switchPump l 2 s) else .next s

/-- The safety island's FORCEMIN_N demands from what holds them: SAFE, lost flow, a wet zone (12 R364, R376; 17 R516). -/
def islandForce (s : State) : State :=
  forAll accList (fun n s => s.setAcc n fun a => { a with forceSaf := s.saf.safe || flowLostFor s n || zoneWet s n }) s

/-- FLOW_LOST (12 R364). -/
def execFlowLost (l : Loop) (s : State) : Out3 :=
  let p := s.cool.loop[l]
  let noPump := s.cool.pump[otherPump s l].state == 4 || s.cool.pump[activePump s l].state == 4
  let due := (match p.switched with | some t => decide (t + 200000 ≤ s.sys.tick) | none => false) ||
    (noPump && flowLow s l)
  if !loopUsed s l || p.lost || !due then .next s else
  let s := islandForce (s.setLoop l fun p => { p with lost := true })
  let s := hostEvent 7 (emit s 4 8 l.1 0x0C06 l.1)
  .next (forAll accList (fun n s =>
    if (fld s.cool.loop[l].cfg 16 8).testBit n.1 ∧ 3 < s.crz.chan[accChan n].target then aimAcc n 3 s else s) s)

/-- FLOW_HOLD_END (12 R364): 10 s of flow. -/
def execFlowHoldEnd (l : Loop) (s : State) : Out3 :=
  match s.cool.loop[l].okSince with
  | some t =>
    if s.cool.loop[l].lost ∧ t + 1000000 ≤ s.sys.tick then .next (islandForce (s.setLoop l fun p => { p with lost := false }))
    else .next s
  | none => .next s

/-- PRESS_LOW (12 R365). -/
def execPressLow (l : Loop) (s : State) : Out3 :=
  match s.cool.loop[l].pressSince with
  | some t =>
    if s.cool.loop[l].pressLow ∨ s.sys.tick < t + 100000 then .next s else
    let kpa := toReport (pressOf (slowOf s l.1 13))
    .next (hostEvent 7 (emit (s.setLoop l fun p => { p with pressLow := true }) 4 8 l.1 0x0C0E kpa.toNat))
  | none => .next s

/-- FLOW_PRESSURE_FAILED (12 R361): 50 ms out of range. -/
def execFlowPressureFailed (ch : Fin 6) (s : State) : Out3 :=
  match s.cool.chanOut[ch] with
  | some t =>
    if t + 5000 ≤ s.sys.tick then .next (s.modCool fun c => { c with chanFailed := c.chanFailed.set ch true }) else .next s
  | none => .next s

/-! Cooling established (12 R366, R367). -/

/-- The conditions of 12 R366. -/
def coolReady (s : State) : Bool :=
  ((List.finRange 16).all fun f => !fanUsed s f || (2 ≤ s.cool.fan[f].state && s.cool.fan[f].state != 5)) &&
  ((List.range 4).all fun g => decide (((List.finRange 16).filter fun (f : Fan) =>
    f.1 / 4 == g && fanUsed s f && s.cool.fan[f].stalled).length < 2)) &&
  ((List.finRange 2).all fun l => !loopUsed s l ||
    (match s.cool.loop[l].okSince with | some t => decide (t + 100000 ≤ s.sys.tick) | none => false)) &&
  decide (2 ≤ (critMembers s).length)

/-- The tray channel waits in T3 for cooling (12 R366). -/
def inT3 (s : State) : Bool :=
  s.crz.chan[trayChan].state == 3 && s.crz.chan[trayChan].stepDone && decide (4 ≤ s.crz.chan[trayChan].target) &&
    !s.crz.chan[trayChan].fault && !s.saf.safe

/-- COOL_EST (12 R366): T4 is a power-up step of the tray channel, so it waits for REFCLK (01 R17) and starts in no HOLD (04
R122). -/
def execCoolEst (s : State) : Out3 :=
  if inT3 s && coolReady s && s.sys.refclkSettled && !rackHolds s then
    let s := emit (s.modCool fun k => { k with est := true }) 4 8 0xFF 0x0C0D 1
    .next ((putState trayChan 4 s).setChan trayChan fun c => { c with dir := 0, waiting := false })
  else .next s

/-- COOL_EST_TIMEOUT (12 R366). -/
def execCoolEstTimeout (s : State) : Out3 :=
  if inT3 s && !s.cool.estLate && decide (s.cool.t3Tick + 3000000 ≤ s.sys.tick) then
    .next (emit (s.modCool fun k => { k with estLate := true }) 4 8 0xFF 0x0C0D 2)
  else .next s

/-- COOL_RUNDOWN (12 R367); after a `tray.fault_clear` the tray channel goes on to T1 (15 R451). -/
def execCoolRundown (s : State) : Out3 :=
  match s.cool.rundown with
  | some t => if s.sys.tick < t then .next s else .next (aim trayChan (if s.rack.state = 0 then 1 else 2) (s.modCool fun c => { c with rundown := none }))
  | none => .next s

/-! Failed sensors and the critical shutdown (12 R371 to R373). -/

/-- THM_FAULT (12 R373). -/
def execThmFault (i : Fin 24) (s : State) : Out3 :=
  match s.cool.thm[i].outSince with
  | some t =>
    if roleOf s i = 0 ∨ s.cool.thm[i].failed ∨ s.sys.tick < t + 5000 then .next s
    else .next (emit (s.setThm i fun t => { t with failed := true }) 4 8 i.1 0x0C07 1)
  | none => .next s

/-- THM_RECOVER (12 R373). -/
def execThmRecover (i : Fin 24) (s : State) : Out3 :=
  match s.cool.thm[i].inSince with
  | some t =>
    if s.cool.thm[i].failed ∧ t + 1000000 ≤ s.sys.tick then
      .next (emit (s.setThm i fun t => { t with failed := false }) 4 8 i.1 0x0C07 0)
    else .next s
  | none => .next s

/-- The critical temperature, degrees C (12 R371). -/
def critTemp (s : State) : Rat := (55 + 5 * critSel s : Nat)

/-- The vote of 12 R371: 0 none, 1 temperature, 2 lost sensors. -/
def critVote (s : State) : Nat :=
  let m := critMembers s
  let hot := (m.filter fun i => s.cool.thm[i].v.isSome && decide (critTemp s ≤ thmTemp s i)).length
  if m.length ≤ 1 then 2
  else if m.length = 2 then (if 1 ≤ hot then 1 else 0)
  else if 2 ≤ hot then 1 else 0

/-- CRIT_TEMP (12 R371, R372). -/
def execCritTemp (s : State) : Out3 :=
  let v := critVote s
  if v = 0 ∨ s.cool.crit ∨ !s.saf.started then .next s else
  let s := s.modCool fun k => { k with crit := true, shdnSeen := true }
  let s := s.modRack fun r => { r with shdn := true, trayfltDrive := true }
  .next (trayOff (hostEvent 8 (emit s 1 8 0xFF 0x0C0A v)))

/-! Leaks (12 R374 to R378). -/

/-- A leak channel is used: COOL_LIQ is 1 and LEAK_USED names it (00 R6, 12 R374). -/
def leakUsed (s : State) (c : Fin 10) : Bool := s.nv.coolLiq && s.cool.leak[c].used

/-- LEAK_EVALUATION of one channel (12 R374). -/
def takeLeak (c : Fin 10) (ohms : Nat) (s : State) : State :=
  if !leakUsed s c then s else
  let r := if ohms < 5000 then 1 else if 20000 < ohms then 2 else 0
  s.setLeak c fun x => { x with
    res := min 0xFFF (ohms / 100), reading := r, wetRun := if r = 1 then x.wetRun + 1 else 0,
    openRun := if r = 2 then x.openRun + 1 else 0, dryRun := if r = 0 then x.dryRun + 1 else 0,
    confirmed := x.confirmed && r == 1 }

/-- LEAK_EVALUATION (12 R374), every 5,000 ticks. -/
def execLeakEvaluation (ohms : Vector Nat 10) (s : State) : Out3 :=
  if s.sys.tick % 5000 ≠ 0 then .next s else
  .next (forAll (List.finRange 10) (fun c s => takeLeak c ohms[c] s) s)

/-- The tray-level leak (12 R377): RACKFLT_N, the pumps off, and the actions of 04 R116. -/
def trayLeak (s : State) : State :=
  let s := s.modRack fun r => { r with rackfltDrive := true }
  let s := s.modCool fun k => { k with
    rackflt := true, pumpsOff := true,
    pump := k.pump.map fun p => { p with duty := 0, state := if p.state = 4 ∨ p.state = 5 then p.state else 0 } }
  rackOff (disableRail (trayRail 2) s)

/-- LEAK_WET (12 R374, R376, R377). -/
def execLeakWet (c : Fin 10) (s : State) : Out3 :=
  let x := s.cool.leak[c]
  if !leakUsed s c ∨ x.confirmed ∨ x.wetRun < 4 then .next s else
  let s := emit s 1 8 c.1 0x0C09 x.res
  let s := hostEvent 8 ((s.modCool fun k => { k with leakSeen := true }).setLeak c fun x => { x with confirmed := true })
  match accOf c.1 with
  | some n =>
    let second := accList.any fun m => m != n && zoneWet s m
    let s := aimAcc n 0 (islandForce (s.setLeak c fun x => { x with latch := true }))
    .next (if second then trayLeak s else s)
  | none => .next (trayLeak s)

/-- LEAK_SENSOR (12 R374): open for 1.5 s. -/
def execLeakSensor (c : Fin 10) (s : State) : Out3 :=
  let x := s.cool.leak[c]
  if !leakUsed s c ∨ x.failed ∨ x.openRun < 31 then .next s
  else .next (emit (s.setLeak c fun x => { x with failed := true }) 4 8 c.1 0x0C08 1)

/-- LEAK_SENSOR_RECOVER (12 R374): dry for 10 s. -/
def execLeakSensorRecover (c : Fin 10) (s : State) : Out3 :=
  let x := s.cool.leak[c]
  if !leakUsed s c ∨ !x.failed ∨ x.dryRun < 201 then .next s
  else .next (emit (s.setLeak c fun x => { x with failed := false }) 4 8 c.1 0x0C08 0)

end Sys2Proof.Machine
end

