-- ==== Sys2Proof/Machine/Brim.lean ====
section
/-! DEFINITION. Brim, the envelope shaper (07_brim_envelope.md): one evaluation a period, the staged envelope set, and
the forced minimum of lost readings. Powers are in mW; a setting in units of 10 W is scaled by 10,000. -/

namespace Sys2Proof.Machine

open Sys2Proof

/-- Brim is active (07 R196): tray channel in T2 or above, power state neither OFF nor SAFE. -/
def brimActive (s : State) : Bool :=
  decide (2 ≤ s.crz.chan[8].state) && pstate s != .off && pstate s != .safe

/-- Values in force, mW (07 R219). -/
def peakMw (s : State) : Int := 10000 * (fld s.brm.set.peak 0 16 : Nat)
def avgMw (s : State) : Int := 10000 * (fld s.brm.set.avg 0 16 : Nat)
def capMw (s : State) : Int := 10000 * (fld s.brm.set.cap 0 16 : Nat)
def tolMw (s : State) : Int := 10000 * (fld s.brm.set.tol 0 16 : Nat)
def guardMw (s : State) : Int := 10000 * (fld s.brm.set.tol 16 16 : Nat)
/-- Line step per period, mW: the register's own number (07 R219). -/
def rampUp (s : State) : Int := (fld s.brm.set.ramp 0 16 : Nat)
def rampDown (s : State) : Int := (fld s.brm.set.ramp 16 16 : Nat)

/-- Total ballast in force, mW. -/
def ballastMw (s : State) : Int := 1000 * ((s.brm.bal.toList.sum : Nat) : Int)

/-- Legality of a whole envelope set: the ranges of 07 R219 and the relations of 07 R218. -/
def brimLegal (e : BrimSet) : Bool :=
  let inR (w : Word) (lo n a b : Nat) : Bool := decide (a ≤ fld w lo n) && decide (fld w lo n ≤ b)
  inR e.cap 0 16 100 4000 && decide (e.cap.toNat < 2 ^ 16) &&
  inR e.peak 0 16 100 4000 && decide (e.peak.toNat < 2 ^ 16) &&
  inR e.avg 0 16 100 4000 && decide (e.avg.toNat < 2 ^ 16) &&
  inR e.ramp 0 16 5 2000 && inR e.ramp 16 16 5 2000 &&
  inR e.tol 0 16 5 200 && inR e.tol 16 16 0 500 &&
  decide (e.balMax.toNat ≤ 60) &&
  decide (fld e.avg 0 16 ≤ fld e.peak 0 16) &&
  decide (fld e.tol 0 16 + fld e.tol 16 16 < fld e.avg 0 16)

/-- STAGED_SET_APPLY, the envelope part: applied whole or rejected whole (01 R24, 07 R221). -/
def applyEnvelope (s : State) : State :=
  match s.brm.staged with
  | none => s
  | some e =>
    if brimLegal e then
      emit (hostEvent 4 (s.modBrm fun b => { b with set := e, staged := none })) 5 8 0xFF 0x0706 0
    else emit (s.modBrm fun b => { b with staged := none }) 5 8 0xFF 0x0706 1

/-- Ballast eligibility (07 R206). -/
def ballastOk (s : State) (n : Acc) : Bool :=
  chState s n == 12 && (s.str.acc[n].park == .no) && !forced s n && laneUp s n

/-- TDP of a bin, W (00, accelerator bins). -/
def binWatts (bin : Nat) : Nat := if bin = 0 then 2400 else if bin = 1 then 2050 else 1700

/-- cap_n, W rounded down (07 R206): frequency times voltage squared over that of OP15. -/
def ballastCap (s : State) (n : Acc) : Nat :=
  let bin := s.acc[n].bin
  let k := s.acc[n].oppEff
  if ballastOk s n then
    (s.brm.set.balMax.toNat % 128 * binWatts bin * (oppMhz bin k * oppMv bin k ^ 2))
      / (100 * (oppMhz bin 15 * oppMv bin 15 ^ 2))
  else 0

/-- Equal shares in mW cut to the capacities, the excess spread over the others (07 R207); `k` bounds the rounds. -/
def shares : Nat → Int → List (Acc × Nat) → List (Acc × Int)
  | 0, _, l => l.map fun (n, _) => (n, 0)
  | k + 1, b, l =>
    if l.isEmpty then [] else
    let share := b / (l.length : Int)
    let full := l.filter fun (_, c) => decide (1000 * (c : Int) < share)
    if full.isEmpty then l.map fun (n, _) => (n, share)
    else (full.map fun (n, c) => (n, 1000 * (c : Int))) ++
      shares k (b - 1000 * (((full.map (·.2)).sum : Nat) : Int))
        (l.filter fun (_, c) => decide (share ≤ 1000 * (c : Int)))

/-- The ballast words that realise a total, each rounded down to 1 W (07 R207). -/
def ballastWords (s : State) (b : Int) : Vector Nat 8 :=
  let el := (accList.filter (ballastOk s)).map fun n => (n, ballastCap s n)
  let sh := shares 9 b el
  Vector.ofFn fun n => ((sh.find? fun p => p.1 = n).map fun p => (p.2 / 1000).toNat).getD 0

/-- Freshness counters after one period (07 R198, R199). -/
def brimAge (s : State) : State :=
  s.modBrm fun b => { b with
    staleP := Vector.ofFn fun n => if b.gotP[n] then 0 else b.staleP[n] + 1
    staleA := Vector.ofFn fun n => if b.gotA[n] then 0 else b.staleA[n] + 1
    staleT := if b.gotT then 0 else b.staleT + 1 }

/-- P_n of the period and whether it could be formed (07 R198). -/
def accPower (s : State) (n : Acc) : Option Int :=
  let b := s.brm
  if b.staleP[n] < 2 then some b.pMeas[n]
  else if b.staleA[n] < 2 then some (b.pCore[n] + b.delta[n])
  else none

/-- P of the period (07 R199, R200). -/
def trayPower (s : State) : Option Int :=
  let b := s.brm
  if b.staleT < 2 then some b.bulk
  else if accList.all fun n => (accPower s n).isSome then
    some ((accList.map fun n => (accPower s n).getD 0).sum + b.deltaT)
  else none

/-- The tray power reading is being substituted (07 R199). -/
def traySubst (s : State) : Bool := decide (2 ≤ s.brm.staleT)

/-- READING_SUBST on entry to and exit from substitution (07 R198, R199). -/
def brimSubst (s : State) : State :=
  let one (u : Fin 9) (now : Bool) (s : State) : State :=
    if s.brm.subst[u] == now then s else
    emit (s.modBrm fun b => { b with subst := b.subst.set u now }) 3 u.1 0xFF 0x0705 (if now then 1 else 0)
  let s := accList.foldl (fun s n => one n.castSucc (decide (2 ≤ s.brm.staleP[n])) s) s
  one 8 (traySubst s) s

/-- The differences kept for the substitutes, formed while Brim is active, and the flags of new readings taken (07 R198, R199). -/
def brimDeltas (s : State) : State :=
  let b := s.brm
  let sum := (accList.map fun n => b.pMeas[n]).sum
  let all := b.active && b.gotT && accList.all fun n => b.gotP[n]
  s.modBrm fun b => { b with
    delta := Vector.ofFn fun n => if b.active && b.gotP[n] && b.gotA[n] then b.pMeas[n] - b.pCore[n] else b.delta[n]
    deltaT := if all then b.bulk - sum else b.deltaT
    gotP := Vector.replicate 8 false, gotA := Vector.replicate 8 false, gotT := false }

/-- The overhead of a period joins those of the last 10 ms, whether or not Brim is active (06 R166). -/
def brimOverhead (s : State) : State :=
  let oh := s.brm.trayP - (accList.map fun n => s.brm.pMeas[n]).sum
  s.modBrm fun b => { b with ohHist := (oh :: b.ohHist).take 100 }

/-- One sample into the windows: W2, A100 and TRAY_P (07 R201, R202). -/
def brimSample (p : Int) (s : State) : State :=
  let l := if s.brm.samples.isEmpty then List.replicate 1000 p else (p :: s.brm.samples).take 1000
  let w2 : Rat := ((l.take 20).sum : Rat) / 20
  let x := min (20 * peakMw s - (l.take 19).sum) (1000 * avgMw s - (l.take 999).sum)
  s.modBrm fun b => { b with
    samples := l, trayP := p, w2Peak := max b.w2Peak w2, a100 := (l.sum : Rat) / 1000, x := x }

/-- The line after one period, before 07 R208 (07 R203). -/
def nextLine (s : State) (p x : Int) : Int :=
  let lt := min (p - ballastMw s) (min (capMw s) (avgMw s))
  let l1 := max (s.brm.line - rampDown s) (min (s.brm.line + rampUp s) lt)
  min l1 (x - guardMw s - tolMw s)

/-- The total ballast wanted after the line update, mW (07 R205). -/
def nextBallast (s : State) (p l bcap : Int) : Int :=
  let b := ballastMw s
  if p < l - tolMw s ∧ s.brm.theta = 64 then min bcap (b + (l - tolMw s - p) / 2)
  else if l < p then max 0 (b - (p - l))
  else b

/-- P_thr, mW, at least 1 W (07 R209). -/
def throttlable (s : State) : Int :=
  max 1000 ((accList.filter fun n => 9 ≤ chState s n && (s.str.acc[n].park == .no) && !forced s n).map
    fun n => (accPower s n).getD (s.brm.pCore[n] + s.brm.delta[n]) - 1000 * (s.brm.bal[n] : Int)).sum

/-- The throttle after the ballast change (07 R209). -/
def nextTheta (s : State) (p u before after : Int) : Nat :=
  let x := p - u - (before - after)
  let t := s.brm.theta
  if 0 < x then (max 1 ((t : Int) - (64 * x + throttlable s - 1) / throttlable s)).toNat
  else if p ≤ u - tolMw s ∧ t < 64 then t + 1
  else t

/-- The throttle episode and the ceilings K_brim (07 R210). -/
def brimEpisode (s : State) : State :=
  let th := s.brm.theta
  let start := decide (th < 64) && !s.brm.episode
  let run := if th = 64 then s.brm.fullRun + 1 else 0
  let stop := s.brm.episode && decide (100 ≤ run)
  let ep := (s.brm.episode || start) && !stop
  let kRef := if start then Vector.ofFn fun n => s.acc[n].oppEff else s.brm.kRef
  let now (n : Acc) : Nat :=
    if ep then
      let bin := s.acc[n].bin
      ((List.range 16).filter fun k => oppMhz bin k * 64 ≤ oppMhz bin kRef[n] * th).foldl max 0
    else 15
  let hist := Vector.ofFn fun n => (now n :: s.brm.kHist[n]).take 100
  let s1 := s.modBrm fun b => { b with
    episode := ep, fullRun := run, kRef := kRef, kHist := hist,
    kBrim := Vector.ofFn fun n => hist[n].foldl min 15, thetaGen := b.thetaGen || decide (th < 64) }
  if start then emit s1 3 8 0xFF 0x0701 1 else if stop then emit s1 3 8 0xFF 0x0701 0 else s1

/-- The forced minimum of 07 R211. -/
def brimForce (p xPrev u : Int) (s : State) : State :=
  let hit := decide (xPrev - guardMw s < p)
  let run := if p ≤ u - tolMw s then s.brm.calmRun + 1 else 0
  let s := s.modBrm fun b => { b with calmRun := run }
  if hit then
    let s := accList.foldl (fun s n => if 8 ≤ chState s n then s.setAcc n fun a => { a with forceBrim := true } else s) s
    if s.brm.forced then s else
      emit (s.modBrm fun b => { b with forced := true, forceSeen := true }) 3 8 0xFF 0x0702 1
  else if s.brm.forced ∧ 10 ≤ run then
    let s := s.modBrm fun b => { b with forced := false }
    let s := if s.brm.blind then s else
      accList.foldl (fun s n => s.setAcc n fun a => { a with forceBrim := false }) s
    emit s 3 8 0xFF 0x0702 0
  else s

/-- The part of an evaluation that a formed P drives (07 R203 to R211). -/
def brimDecide (p xPrev : Int) (s : State) : State :=
  let x := s.brm.x
  let before := ballastMw s
  let caps := Vector.ofFn fun n => ballastCap s n
  let bcap := 1000 * ((caps.toList.sum : Nat) : Int)
  let l0 := nextLine s p x
  let fall := decide (before = bcap) && decide (p < l0 - tolMw s)
  let l := if fall then p + tolMw s else l0
  let u := l + tolMw s
  let words := ballastWords s (nextBallast s p l bcap)
  let after := 1000 * ((words.toList.sum : Nat) : Int)
  let th := nextTheta s p u before after
  let s1 := if fall && !s.brm.shortEp then
      emit s 3 8 0xFF 0x0703 (min 0xFFFF ((l0 - l) / 10000).toNat) else s
  let s2 := s1.modBrm fun b => { b with
    line := l, upper := u, bal := words, balCap := caps, theta := th, short := fall, shortEp := fall,
    shortSeen := b.shortSeen || fall, shortGen := b.shortGen || fall,
    shortW := if fall then max b.shortW (l0 - l) else b.shortW }
  brimForce p xPrev u (brimEpisode s2)

/-- Brim's outputs of its own evaluation removed (07 R196). -/
def brimOff (s : State) : State :=
  (accList.foldl (fun s n => s.setAcc n fun a => { a with forceBrim := false }) s).modBrm fun b => { b with
    active := false, blind := false, forced := false, short := false, shortEp := false, theta := 64,
    bal := Vector.replicate 8 0, balCap := Vector.replicate 8 0, samples := [], episode := false, fullRun := 0,
    kHist := Vector.replicate 8 [], kBrim := Vector.replicate 8 15, blindRun := 0, formedRun := 0, calmRun := 0,
    delta := Vector.replicate 8 0, deltaT := 0 }

/-- A period without P (07 R200): L, B and theta stay; an accelerator that is no longer eligible gives its ballast to the others (07
R207); the periods at theta 64 and of K_brim go on (07 R210), those of calm end (07 R211). -/
def brimUnformed (s : State) : State :=
  let s := if s.brm.samples.isEmpty then s else brimSample s.brm.trayP s
  let left := accList.any fun n => s.brm.bal[n] != 0 && !ballastOk s n
  let words := if left then ballastWords s (ballastMw s) else s.brm.bal
  let caps := Vector.ofFn fun n => ballastCap s n
  brimEpisode (s.modBrm fun b => { b with
    active := true, formedRun := 0, blindRun := b.blindRun + 1, calmRun := 0, bal := words, balCap := caps, short := false,
    shortEp := false })

/-- The consecutive periods of rack state 10 without ballast (07 R217). -/
def countZero (s : State) : State :=
  let zero := ballastMw s == 0 && s.rack.state == 10
  s.modBrm fun b => { b with zeroRun := if zero then b.zeroRun + 1 else 0 }

/-- One period of an active Brim (07 R196 to R211): `first` until a first sample exists. -/
def brimPeriod (s : State) : State :=
    match trayPower s with
    | some p =>
      let first := s.brm.samples.isEmpty
      let xPrev := s.brm.x
      let run := s.brm.formedRun + 1
      let back := s.brm.blind && decide (10 ≤ run)
      let s := brimSample p s
      let s := s.modBrm fun b => { b with
        active := true, line := if first || back then p else b.line, theta := if first then 64 else b.theta,
        formedRun := run, blindRun := 0 }
      let s := if back then
          let s := s.modBrm fun b => { b with blind := false }
          let s := if s.brm.forced then s else
            accList.foldl (fun s n => s.setAcc n fun a => { a with forceBrim := false }) s
          emit s 3 8 0xFF 0x0704 0
        else s
      brimDecide p (if first then s.brm.x else xPrev) s
    | none => brimUnformed s

/-- BRIM_EVALUATION (07 R203), at every tick that is a multiple of 10. TRAY_P goes on following P while Brim is inactive
(07 R199, R201). -/
def execBrimEvaluation (s : State) : Out3 :=
  if s.sys.tick % 10 ≠ 0 then .next s else
  let s := brimAge s
  let s := if brimActive s then brimPeriod (brimSubst s) else
    (brimOff s).modBrm fun b => { b with trayP := (trayPower s).getD b.trayP }
  .next (sendEnvelopes (brimDeltas (countZero (brimOverhead s))))

/-- BRIM_BLIND (07 R200): P not formed for 10 consecutive periods. -/
def execBrimBlind (s : State) : Out3 :=
  if s.brm.blindRun < 10 ∨ s.brm.blind ∨ !s.brm.active then .next s else
  let s := accList.foldl (fun s n => s.setAcc n fun a => { a with forceBrim := true }) s
  .next (emit (s.modBrm fun b => { b with blind := true, blindSeen := true }) 3 8 0xFF 0x0704 1)

/-- QUIESCE_BALLAST_CLEAR (07 R217): ballast 0 for 10 periods in rack state 10, the targets go to S8. -/
def execQuiesceBallastClear (s : State) : Out3 :=
  if s.rack.state ≠ 10 ∨ s.rack.quiesced ∨ s.brm.zeroRun < 10 then .next s
  else .next (quiesceTargets s)

end Sys2Proof.Machine
end

