-- ==== Sys2Proof/Machine/Legal.lean ====
section
/-! DEFINITION. Steps 7 and 8 of the order of checks (14 R414) and the power-state tables (14 R416, 16 R489): which
commands exist in a variant, which parameters are in range, and where a command is legal. -/

namespace Sys2Proof.Machine

open Sys2Proof

/-- Bits `lo` to `lo + n - 1` are 0: a reserved field of a register image (15 R443, R444). -/
def zeroed (w : Word) (lo n : Nat) : Bool := fld w lo n == 0

/-- A field within its legal range. -/
def inRange (w : Word) (lo n a b : Nat) : Bool := decide (a ≤ fld w lo n) && decide (fld w lo n ≤ b)

/-- A list that does not fall. -/
def rising : List Nat → Bool
  | a :: b :: l => decide (a ≤ b) && rising (b :: l)
  | _ => true

/-! Crozier's graph (04 R96, R98). -/

/-- A submitted graph with the read-only fields of rails 0-117 as they stand (04 R96). -/
def graphOf (dep : List Word) : List Word :=
  (List.range 120).map fun r =>
    let w := dep.getD r 0
    if r < 118 then (defaultDep r &&& 0x8F000000) ||| (w &&& 0x00FF3FFF) else w

/-- Prerequisites of a rail in a graph, as rail numbers. -/
def graphPre (g : List Word) (r : Nat) : List Nat :=
  let w := g.getD r 0
  (if r < 112 then ((List.range 14).filter fun i => w.getLsbD i).map (14 * (r / 14) + ·) else []) ++
    ((List.range 8).filter fun j => w.getLsbD (16 + j)).map (112 + ·)

/-- The rails left when those with no prerequisite among them are taken away, round by round. -/
def graphCore (g : List Word) : Nat → List Nat → List Nat
  | 0, l => l
  | k + 1, l => graphCore g k (l.filter fun r => (graphPre g r).any fun p => l.contains p)

/-- A graph passes the checks of 04 R98. -/
def graphOk (dep : List Word) : Bool :=
  let g := graphOf dep
  let st (r : Nat) : Nat := fld (g.getD r 0) 24 4
  let same (r p : Nat) : Bool := (r / 112 == p / 112) && (decide (112 ≤ r) || r / 14 == p / 14)
  (dep.all fun w => zeroed w 28 3 && zeroed w 14 2) &&
  ((List.range 2).all fun j => let w := g.getD (118 + j) 0
    if fldB w 31 then decide (1 ≤ fld w 24 4) && decide (fld w 24 4 ≤ 3) else true) &&
  ((List.range 8).all fun j => zeroed (dep.getD (112 + j) 0) 0 14) &&
  ((List.range 8).all fun n => zeroed (g.getD (14 * n + 13) 0) 3 11) &&
  ((List.range 120).all fun r => (graphPre g r).all fun p => !same r p || decide (st p ≤ st r)) &&
  ((List.range 120).all fun r => !fldB (g.getD r 0) 31 || (graphPre g r).all fun p => fldB (g.getD p 0) 31) &&
  (graphCore g 120 (List.range 120)).isEmpty

/-! Ranges of register images. -/

/-- CRZ_SEQ_CFG (04 R112). -/
def seqCfgOk (w : Word) : Bool :=
  zeroed w 27 5 && inRange w 17 10 0 600 && inRange w 10 7 0 100 && inRange w 0 10 0 1000

/-- CRZ_STEPWIN (04 R112). -/
def stepwinOk (w : Word) : Bool := zeroed w 16 16 && inRange w 0 16 5 20000

/-- STR_CTRL (06 R193). -/
def strCtrlOk (w : Word) : Bool :=
  zeroed w 9 7 && zeroed w 1 7 &&
    (fld w 16 16 == 0 || (inRange w 16 16 600 1800 && fld w 16 16 % 8 == 0))

/-- STR_PARK_ORDER: no accelerator twice before the list ends (06 R193). -/
def parkOrderOk (w : Word) : Bool :=
  (((List.range 8).map fun i => fld w (4 * i) 4).takeWhile (· < 8)).Nodup

/-- STR_CFG (06 R193). -/
def strCfgOk (w : Word) : Bool := inRange w 20 4 1 15 && inRange w 12 4 0 10 && inRange w 0 12 20 1000

/-- STR_THERM_CEIL (06 R193): no higher ceiling in a higher band. -/
def thermCeilOk (w : Word) : Bool := zeroed w 20 12 && rising ((List.range 5).map fun b => fld w (4 * (4 - b)) 4)

/-- LDG_CFG (08 R243). -/
def ldgCfgOk (w : Word) : Bool := zeroed w 24 8 && inRange w 16 8 1 100 &&
  inRange w 8 8 20 80 && inRange w 0 8 6 30 && decide (fld w 0 8 < fld w 8 8)

/-- SRS_CFG and SRS_EQ (10 R310). -/
def srsCfgOk (w : Word) : Bool :=
  zeroed w 24 8 && inRange w 16 8 16 56 && inRange w 8 8 8 (fld w 16 8 - 8) && inRange w 0 8 2 100
def srsEqOk (w : Word) : Bool := zeroed w 23 9 && (List.range 5).all fun b => zeroed w (4 * b + 3) 1

/-- BUP_CFG (11 R344). -/
def bupCfgOk (w : Word) : Bool := inRange w 20 12 50 1000 && inRange w 12 8 5 100 && inRange w 8 4 0 8 && zeroed w 1 7

/-- COOL_CFG and COOL_CFG2 (12 R380). -/
def coolCfgOk (w : Word) : Bool :=
  inRange w 24 8 1 60 && inRange w 16 8 1 50 && inRange w 8 8 10 100 && inRange w 4 4 2 10 && zeroed w 1 3
def coolCfg2Ok (w : Word) : Bool := zeroed w 16 16 && inRange w 8 8 0 70 && inRange w 0 8 30 90

/-- FAN_MIN once the waiting settings are in force (15 R462). -/
def nextFanMin (s : State) : Nat :=
  s.cool.staged.foldl (fun x c => match c with | .coolSetConfig w _ => fld w 8 8 | _ => x) (fld s.cool.cfg 8 8)

/-- COOL_CURVE (12 R380): no fall from one band to the next. -/
def curveOk (s : State) (l : List Word) : Bool :=
  decide (l.length = 5) && (l.all fun w => zeroed w 16 16 && inRange w 8 8 10 100 && inRange w 0 8 (nextFanMin s) 100)
    && rising (l.map fun w => fld w 8 8) && rising (l.map fun w => fld w 0 8)

/-- COOL_TABLE (12 R380): no fall from one row to the next, row 7 at 100 %. -/
def tableOk (l : List Word) : Bool :=
  decide (l.length = 8) && (l.all fun w => zeroed w 24 8 && inRange w 16 8 0 120 && inRange w 8 8 0 100 && inRange w 0 8 0 100)
    && rising (l.map fun w => fld w 16 8) && rising (l.map fun w => fld w 8 8) && rising (l.map fun w => fld w 0 8)
    && fld (l.getD 7 0) 0 16 == 0x6464

/-- COOL_LOOP (12 R380). -/
def loopOk (w : Word) : Bool := zeroed w 24 6 && inRange w 8 8 10 200 && inRange w 0 8 0 100

/-- TWB_PORT (13 R412). -/
def portOk (p : Nat) (w : Word) : Bool :=
  zeroed w 12 20 && zeroed w 2 7 &&
    (if p < 8 then inRange w 0 2 1 2 else if p = 8 then inRange w 0 2 2 2 else inRange w 0 2 0 2)

/-- TWB_AVS (13 R412); RATE 3 is ignored where it is applied. -/
def avsOk (w : Word) : Bool := inRange w 16 16 1 1000 && zeroed w 2 14

/-- TWB_TGT (13 R412): the addresses that SMBus reserves in the range are 0x28, 0x37 and 0x61
(notes/assumptions/19.md). -/
def tgtOk (w : Word) : Bool :=
  let a := fld w 8 7
  zeroed w 15 1 && zeroed w 0 8 && decide (0x10 ≤ a) && decide (a ≤ 0x77) && !(decide (0x40 ≤ a) && decide (a ≤ 0x53)) &&
    a != 0x28 && a != 0x37 && a != 0x61

/-- A chunk of a staging command (15 R458, R459, 16 R492), given what is staged. -/
def chunkOk (have_ total0 limit : Nat) (flags : Byte) (offset total : Word) (data : List Byte) : Bool :=
  let first := flags.getLsbD 0
  decide (flags.toNat ≤ 1) && decide (1 ≤ data.length) && decide (data.length ≤ 4000) && decide (total.toNat ≤ limit) &&
    (if first then offset == 0 else offset.toNat == have_ && total.toNat == total0) &&
    decide ((if first then 0 else have_) + data.length ≤ total.toNat)

/-- PROTO, WLEN and RLEN of `twb.transfer` agree (15 R463). -/
def protoOk (proto wlen rlen : Nat) : Bool :=
  match proto with
  | 0 => wlen == 0 && rlen == 0
  | 1 => wlen == 0 && rlen == 1
  | 2 => wlen == 1 && rlen == 0
  | 3 => wlen == 2 && rlen == 0
  | 4 => wlen == 0 && rlen == 1
  | 5 => wlen == 0 && rlen == 2
  | 6 => decide (1 ≤ wlen) && decide (wlen ≤ 255) && rlen == 0
  | 7 => wlen == 0 && decide (1 ≤ rlen) && decide (rlen ≤ 255)
  | _ => false

/-- Addresses that `twb.transfer` may not reach (15 R463). -/
def reservedAddr (port addr : Nat) : Bool :=
  addr == 0x0C || (decide (port ≤ 8) && ((decide (0x40 ≤ addr) && decide (addr ≤ 0x53)) ||
    (decide (0x62 ≤ addr) && decide (addr ≤ 0x6F))))

/-- The slot of a Frond command. -/
def slotOf (x : Byte) : Option Slot := if h : x.toNat < 4 then some ⟨x.toNat, h⟩ else none

/-- A staging target (16 R492). -/
def targetOf (x : Byte) : Option (Fin 3) := if h : x.toNat < 3 then some ⟨x.toNat, h⟩ else none

/-- Interface version N of the running firmware (14 R414, 16 R491). -/
def ifverN (s : State) : Nat := imgIfver s.sec.image

/-- Step 8: the parameters are in range (00 R9, 15 R443, R444). -/
def paramsOk (s : State) (c : Cmd) : Bool :=
  let acc (x : Byte) : Bool := decide (x.toNat < 8)
  match c with
  | .powerSetCap w => brimLegal { (s.brm.staged.getD s.brm.set) with cap := w }
  | .powerSetEnvelope p a r t b =>
    brimLegal { (s.brm.staged.getD s.brm.set) with peak := p, avg := a, ramp := r, tol := t, balMax := b }
  | .rackPowerOff g f => decide (g.toNat ≤ 60) && decide (f.toNat ≤ 1)
  | .trayPowerOff g f => decide (g.toNat ≤ 60) && decide (f.toNat ≤ 1)
  | .crzSetDep d => decide (d.length = 120) && graphOk d
  | .crzSetConfig w l => seqCfgOk w && decide (l.length = 11) && l.all stepwinOk
  | .crzClearFault c => decide (c.toNat ≤ 8)
  | .partitionPowerOn a => acc a
  | .partitionPowerOff a m => acc a && decide (m.toNat ≤ 1)
  | .partitionReset a m f => acc a && decide (m.toNat ≤ 2) && decide (f.toNat ≤ 1)
  | .partitionPark a => acc a
  | .partitionUnpark a => acc a
  | .supSetWindow r w d => decide (r.toNat < 120) && winLegal w && (decide (r.toNat < 112) || divLegal d)
  | .supSetFastWindow k w => decide (k.toNat < 16) && fwcLegal w
  | .supMargin r m => decide (r.toNat < 112) && r.toNat % 14 != 8 && decide (m.toInt.natAbs ≤ 20)
  | .steerSetMode w => strCtrlOk w
  | .steerSetPhasePref a _ => acc a
  | .steerSetParkOrder w => parkOrderOk w
  | .steerSetGroup w => (List.range 8).all fun n => zeroed w (4 * n + 3) 1
  | .steerSetConfig c c2 t l => strCfgOk c && zeroed c2 16 16 && inRange c2 0 16 0 10000 && thermCeilOk t &&
      decide (l.length = 15) && l.all fun w => zeroed w 16 16 && inRange w 0 16 1 2000
  | .ledgerBindJob x f j => decide (x.toNat < 384) && decide (f.toNat ≤ 1) && j != 0
  | .ledgerUnbindJob x => decide (x.toNat < 384)
  | .ledgerSetCoeff b l => decide (b.toNat < 3) && decide (l.length = 800)
  | .ledgerSetConfig w => ldgCfgOk w
  | .frondStage x f o t d => match slotOf x with
    | none => false
    | some k => chunkOk s.frd.slot[k].staged.length s.frd.slot[k].total (32 * 1048576) f o t d
  | .frondLoad x src f => (slotOf x).isSome && decide (src.toNat ≤ 1) && decide (f.toNat ≤ 3) &&
      !(src == 1 && f.getLsbD 1)
  | .frondUnload x f => (slotOf x).isSome && decide (f.toNat ≤ 1)
  | .frondRun x f => (x == 2 || x == 3) && decide (f.toNat ≤ 3)
  | .frondSetSched w => (List.range 4).all fun i => inRange w (8 * i) 8 0 99
  | .srsSetConfig c e => srsCfgOk c && srsEqOk e
  | .bupTest a => acc a
  | .bupFloorPlan a => acc a
  | .bupSetConfig w => bupCfgOk w
  | .coolSetConfig c c2 => coolCfgOk c && coolCfg2Ok c2
  | .coolSetCurve l => curveOk s l
  | .coolSetTable l => tableOk l
  | .coolSetMap f t u => decide (f.length = 16) && (f.all fun w => zeroed w 9 15) && decide (t.length = 24) &&
      (t.all fun w => zeroed w 19 13) && decide (u.toNat < 1024)
  | .coolSetLoop l => decide (l.length = 2) && l.all loopOk
  | .coolSetMode m => decide (m.toNat ≤ 1)
  | .coolClearFault p => decide (p.toNat < 16)
  | .coolClearLeak z => decide (z.toNat < 8)
  | .twbSetConfig p a t => decide (p.length = 11) && decide (a.length = 8) && tgtOk t && a.all avsOk &&
      (p.zipIdx).all fun (w, i) => portOk i w
  | .twbTransfer p a pr _ wl rl wd => decide (p.toNat ≤ 9) && decide (a.toNat < 128) && protoOk pr.toNat wl.toNat rl.toNat &&
      decide (wd.length = wl.toNat) && !reservedAddr p.toNat a.toNat
  | .netSetConfig _ l _ => decide (l.length = 4)
  | .netSubscribe st v d => decide (st.toNat ≤ 3) && inRange (BitVec.ofNat 32 d.toNat) 0 16 1 1000 &&
      (v.toNat == ifverN s || v.toNat + 1 == ifverN s)
  | .fwStage t f o tot d => match targetOf t with
    | none => false
    | some k => chunkOk s.sec.stage[k].data.length s.sec.stage[k].total (imgLimit k.1) f o tot d
  | .fwVerify t => (targetOf t).isSome
  | .fwActivate t sl f => (targetOf t).isSome && decide (sl.toNat ≤ 1) && decide (f.toNat ≤ 1)
  | .secDebugChallenge l => l == 1 || l == 2
  | .secDebugUnlock l sig => (l == 1 || l == 2) && decide (sig.length = 2420)
  | .secSetLifecycle st sig => decide (st.toNat ≤ 4) && decide (sig.length = 2420)
  | .secSetKey k w => decide (1 ≤ k.toNat) && decide (k.toNat ≤ 3) && decide (w.length = 48)
  | .sysCapabilities => true | .sysHeartbeat => true | .sysStatus => true | .sysCommitEpoch _ => true
  | .powerStatus => true | .rackPowerOn => true | .rackHold => true | .rackReset => true | .rackJoin => true
  | .rackDetach => true | .trayPowerOn => true | .trayFaultClear => true | .crzStatus => true | .supStatus => true
  | .steerStatus => true | .ledgerStatus => true | .frondStatus => true | .srsStatus => true
  | .bupJournalRead _ _ => true | .bupJournalForget _ => true | .bupStatus => true | .coolStatus => true
  | .twbStatus => true | .fwStatus => true | .secDebugLock => true | .secStatus => true

/-- Step 7: the addressed unit is present in the variant (00 R4, R6; 15 R458, R464). -/
def present (s : State) (c : Cmd) : Bool :=
  match c with
  | .frondStage _ _ _ _ _ | .frondLoad _ _ _ | .frondUnload _ _ | .frondRun _ _ | .frondSetSched _ | .frondStatus =>
    s.nv.frondEng != 0
  | .coolSetLoop _ | .coolClearFault _ | .coolClearLeak _ => s.nv.coolLiq
  | .coolSetMap _ _ u => s.nv.coolLiq || u == 0
  | _ => true

/-- The power states of a row of the tables of 14 R416 and 16 R489, in the order OFF, STANDBY, SEQUENCING, RUN, DRAIN,
SAFE. -/
def powerRow : Cmd → List Nat
  | .sysCapabilities | .sysHeartbeat | .sysStatus | .powerStatus | .crzStatus | .supStatus | .steerStatus | .ledgerStatus
  | .frondStatus | .srsStatus | .bupStatus | .coolStatus | .twbStatus | .fwStatus | .secStatus | .bupFloorPlan _
  | .bupJournalRead _ _ => [0, 1, 2, 3, 4, 5]
  | .powerSetCap _ | .powerSetEnvelope _ _ _ _ _ | .ledgerSetCoeff _ _ | .ledgerSetConfig _ | .supSetWindow _ _ _
  | .supSetFastWindow _ _ | .ledgerUnbindJob _ | .coolClearLeak _ | .netSubscribe _ _ _ => [0, 1, 2, 3, 4, 5]
  | .rackPowerOn | .trayPowerOn => [1]
  | .rackPowerOff _ _ | .trayPowerOff _ _ => [3]
  | .rackHold | .rackReset | .rackJoin | .rackDetach | .crzClearFault _ | .coolClearFault _ => [0, 1, 2, 3, 4]
  | .crzSetDep _ | .crzSetConfig _ _ | .bupJournalForget _ => [0, 1]
  | .trayFaultClear => [0, 5]
  | .partitionPowerOn _ | .partitionPowerOff _ _ | .partitionReset _ _ _ | .partitionPark _ | .partitionUnpark _
  | .ledgerBindJob _ _ _ | .bupTest _ => [3]
  | .supMargin _ _ => [2, 3]
  | .steerSetMode _ | .steerSetPhasePref _ _ | .steerSetParkOrder _ | .steerSetGroup _ | .steerSetConfig _ _ _ _
  | .coolSetConfig _ _ | .coolSetCurve _ | .coolSetTable _ | .coolSetMap _ _ _ | .coolSetLoop _ | .coolSetMode _
  | .srsSetConfig _ _ | .twbSetConfig _ _ _ | .bupSetConfig _ | .frondSetSched _ | .netSetConfig _ _ _ => [0, 1, 2, 3, 4]
  | .frondStage _ _ _ _ _ | .frondLoad _ _ _ | .frondUnload _ _ | .frondRun _ _ => [1, 2, 3, 4]
  | .fwStage _ _ _ _ _ | .fwVerify _ | .secDebugChallenge _ | .secDebugLock | .secSetKey _ _
  | .twbTransfer _ _ _ _ _ _ _ => [0, 1, 2, 3, 4]
  | .fwActivate t _ f => if f.getLsbD 0 then [0, 1] else if t = 0 then [0, 1, 3] else [0, 1, 2, 3]
  | .secDebugUnlock l _ => if l = 2 then [0, 1] else [0, 1, 2, 3, 4]
  | .secSetLifecycle _ _ => [0, 1]
  | .sysCommitEpoch _ => [1, 3]

/-- The command stands in the firmware matrix, so that its power state refusal carries 0x1003 (16 R490). -/
def matrixCmd : Cmd → Bool
  | .fwStage _ _ _ _ _ | .fwVerify _ | .secDebugChallenge _ | .secDebugLock | .secSetKey _ _ | .twbTransfer _ _ _ _ _ _ _
  | .fwActivate _ _ _ | .secDebugUnlock _ _ | .secSetLifecycle _ _ | .sysCommitEpoch _ => true
  | _ => false

/-- A cell of the lifecycle table of 16 R489, as the states whose cells admit the debug level: 0 admitted, else the REASON.
`cells` lists, for BLANK to RETIRED, the debug levels that the cell admits. -/
def matrixCell (s : State) (cells : List (List Nat)) : Nat :=
  match cells.getD s.nv.lc [] with
  | [] => 0x1001
  | l => if l.contains s.sec.debug then 0 else 0x1002

/-- The lifecycle and debug matrix of a command: 0 permitted, else the REASON (16 R489, R490). -/
def matrixReason (s : State) (c : Cmd) : Nat :=
  let lv := [0, 1]
  match c with
  | .supMargin _ m =>
    let dep := if m.toInt.natAbs ≤ 10 then [0, 1] else [1]
    if matrixCell s [lv, lv, dep, lv, []] = 0 then 0 else 0x0503
  | .fwActivate _ _ f =>
    if f.getLsbD 0 then matrixCell s [lv, lv, [], lv, []] else matrixCell s [lv, lv, lv, lv, []]
  | .fwStage _ _ _ _ _ | .fwVerify _ | .secSetKey _ _ | .sysCommitEpoch _ => matrixCell s [lv, lv, lv, lv, []]
  | .twbTransfer _ _ _ _ _ _ _ => matrixCell s [lv, lv, [1], lv, []]
  | .secDebugUnlock l _ => if l = 2 then matrixCell s [lv, lv, [], lv, []] else matrixCell s [lv, lv, lv, lv, []]
  | .secDebugChallenge l => if l = 2 then matrixCell s [lv, lv, [], lv, []] else matrixCell s [lv, lv, lv, lv, []]
  | .coolSetTable _ => if matrixCell s [lv, lv, [], lv, []] = 0 then 0 else 0x0C06
  | _ => 0

/-- Step 9, the tables: none is legal; else the REASON (14 R416, 16 R490). -/
def powerReason (s : State) (c : Cmd) : Option Nat :=
  if !(powerRow c).contains (pstateCode (pstate s)) then some (if matrixCmd c then 0x1003 else 0)
  else if matrixReason s c ≠ 0 then some (matrixReason s c) else none

/-- The tables for a firmware update over PLDM (16 R489, R490): the power rows are those of the commands it stands for, the
lifecycle row is its own. -/
def pldmReason (s : State) (c : Cmd) : Option Nat :=
  let lvf := [0, 1, 2]
  if !(powerRow c).contains (pstateCode (pstate s)) then some 0x1003
  else if matrixCell s [lvf, lvf, [0, 1], lvf, []] ≠ 0 then some (matrixCell s [lvf, lvf, [0, 1], lvf, []]) else none

end Sys2Proof.Machine
end

