-- ==== Sys2Proof/Machine/Steering.lean ====
section
/-! DEFINITION. The steering engine (06_power_steering.md): the 1 ms loop, the cap budget, shifting, felting, the
below-OP0 escalation, and the frames' rate-of-rise check. -/

namespace Sys2Proof.Machine

open Sys2Proof

/-- Accelerator `n` is steered: S12, not parked, not declared failed (06 R166). -/
def inA (s : State) (n : Acc) : Bool :=
  chState s n == 12 && (s.str.acc[n].park == .no) && s.acc[n].bin != 0xFF

/-- The set A. -/
def setA (s : State) : List Acc := accList.filter (inA s)

/-- IDLE_n(k), W (06 R162). -/
def idleW (s : State) (n : Acc) (k : Nat) : Rat :=
  let bin := s.acc[n].bin
  leakW s n * ((oppMv bin k : Rat) / oppMv bin 15) ^ 2

/-- r_n(k) up to a constant factor that cancels in 06 R162. -/
def rateTerm (bin k : Nat) : Rat := (oppMhz bin k : Rat) * (oppMv bin k : Rat) ^ 2

/-- The quota in force at an accelerator: the tray-wide one in A, 16 outside (06 R182). -/
def quotaOf (s : State) (n : Acc) : Nat := if inA s n then s.str.quota else 16

/-- P_n(k, q), W (06 R162); q_n is the quota last sent. -/
def modelW (s : State) (n : Acc) (k q : Nat) : Rat :=
  let bin := s.acc[n].bin
  idleW s n k + s.str.acc[n].dyn * (rateTerm bin k / rateTerm bin (oppAt s n)) * ((q : Rat) / s.srs.link[n].cQuota)

/-- The parked power of an accelerator, W (06 R185). -/
def parkedW (s : State) (n : Acc) : Rat :=
  leakW s n * (500 / (oppMv s.acc[n].bin 15 : Rat)) ^ 2

/-- Mean of a list, 0 of none. -/
def meanR (l : List Rat) : Rat := if l.isEmpty then 0 else l.sum / l.length

/-- The sum of a quantity over accelerators. -/
def sumAcc (l : List Acc) (f : Acc → Rat) : Rat := (l.map f).sum

/-- The entries of a history of loops that are newer than `t`. -/
def since (t : Nat) (l : List (Nat × Rat)) : List Rat := (l.filter fun x => decide (t < x.1)).map (·.2)

/-- R_n of an accelerator outside A, W (06 R166). One that is being unparked, its set-point written and its clocks not restarted,
is no parked one any more: its P_work (DESIGN CHOICE, notes/assumptions/54.md). -/
def reserveW (s : State) (n : Acc) : Rat :=
  if s.str.acc[n].park == .parked then parkedW s n
  else if 9 ≤ chState s n && chState s n ≤ 11 then (s.str.acc[n].workHist.map (·.2)).foldl max 0
  else s.str.acc[n].pWork

/-- C, W (07 R219). -/
def capW (s : State) : Rat := ((brmCap s : Nat) : Rat)

/-- H, W (06 R166). -/
def headroomW (s : State) : Rat := capW s * (fld s.str.cfg 12 4 : Nat) / 100

/-- P_oh, W (06 R166): the mean of the overhead over the last 100 Brim periods, taken as 0 if negative. -/
def overheadW (s : State) : Rat := max 0 (meanR (s.brm.ohHist.map fun (x : Int) => (x : Rat)) / 1000)

/-- B, W (06 R166). -/
def budgetW (s : State) : Rat :=
  capW s - overheadW s - headroomW s - s.str.calib
    - sumAcc (accList.filter fun n => !inA s n) (reserveW s)

/-- P_work of the loop at `t`, W: the mean over the readings of the last 1 ms, those taken before the strobe (06 R158, R161). With no
reading the manual states no mean: a free value. -/
def workW (s : State) (n : Acc) (t : Nat) : Rat :=
  let l := s.brm.workHist[n].filter fun x => decide (t ≤ x.1 + 100) && decide (x.1 < t)
  max 0 (if l.isEmpty then Config.noReading n.1 t else meanR (l.map fun x => (x.2 : Rat)) / 1000)

/-- Step 1 of the loop: P_work, feedforward and D_n (06 R161 to R165, R180). -/
def strModel (n : Acc) (s : State) : State :=
  let a := s.str.acc[n]
  let t := tickAt s
  let pw := workW s n t
  let due := a.preds.filter fun p => p.1 ≤ t
  let err := due.foldl (fun e p => e + ((if pw = 0 then Config.overZero (abs p.2) else abs (p.2 - pw) / pw) - e) / 100) a.ffErr
  let good := if err < 5 / 100 then a.ffGood + 1 else 0
  let out := if a.ffOut then !decide (1000 ≤ good) else decide (10 / 100 < err)
  let s1 := if out && !a.ffOut then emit s 7 n.1 0xFF 0x0608 0
    else if !out && a.ffOut then emit s 7 n.1 0xFF 0x0608 1 else s
  let fresh? := s.frd.pPred[n]
  let useFf := ffAvail s && fldB s.str.ctrl 8 && !a.stale && !forcedAt s n && !out
  let newPred := match fresh? with
    | some p => if p.tick + 200 ≥ t then some p else none
    | none => none
  let pp : Rat := match newPred with | some p => p.watts | none => 0
  let inUse := useFf && newPred.isSome
  let g : Rat := if inUse then ((fld s.str.cfg 28 4 : Nat) : Rat) / 16 else 0
  let est := pw + g * max (-(pw / 5)) (min (pw / 5) (pp - pw))
  let frozen := frozenAt s n
  let preds := (a.preds.filter fun p => t < p.1) ++
    (match fresh? with
      | some p => if (a.preds.all fun q => q.1 ≠ p.tick + p.horizon) && t < p.tick + p.horizon
          then [(p.tick + p.horizon, p.watts)] else []
      | none => [])
  s1.setStr n fun a => { a with
    pWork := pw, ffErr := err, ffGood := good, ffOut := out, ffUse := inUse,
    pPred := if inUse then pp else 0, preds := preds,
    dyn := if frozen then a.dyn else max 0 (est - idleW s n (oppAt s n)),
    workHist := (t, pw) :: a.workHist.filter fun x => decide (t < x.1 + 10000) }

/-- The stale condition at the start of a loop (06 R179). -/
def strStale (n : Acc) (s : State) : State :=
  let a := s.str.acc[n]
  let old := decide (fld s.str.cfg 0 12 < ageAt s n)
  if old then
    let s := if a.stale then s else emit s 7 n.1 0xFF 0x0606 1
    s.setStr n fun a => { a with stale := true, staleTick := if a.stale then a.staleTick else tickAt s, freshRun := 0 }
  else if a.stale && 2 ≤ a.freshRun then
    (emit s 7 n.1 0xFF 0x0606 0).setStr n fun a => { a with stale := false, freshRun := 0 }
  else s.setStr n fun a => { a with freshRun := if a.stale then a.freshRun + 1 else 0 }

/-- The activity and wait fractions of the contexts over the frames since the last loop (06 R169, R194). With no frame since then no
context is active, and K_pref is IDLE_OPP (DESIGN CHOICE, notes/assumptions/54.md). -/
def strContexts (n : Acc) (s : State) : State :=
  let a := s.str.acc[n]
  let dt : Rat := (a.dT : Rat)
  let prefOf (c : CtxState) : Nat := (a.pref.toNat >>> (4 * c.phase)) % 16
  let ctx1 := a.ctx.map fun c =>
    if a.dT = 0 then { c with active := false, setsK := false }
    else { c with
      active := decide (c.phase ≠ 0) && decide (dt * 5 ≤ (c.dRun : Rat) * 100),
      runFrac := (c.dRun : Rat) / dt, waitFrac := (c.dColl : Rat) / dt }
  let act := ctx1.toList.filter (·.active)
  let kp := if act.isEmpty then fld s.str.cfg 24 4 else (act.map prefOf).foldl max 0
  let w := meanR (act.map (·.waitFrac))
  let takes := !act.isEmpty && !a.stale && !frozenAt s n
  s.setStr n fun a => { a with
    kPref := kp, dT := 0,
    wFilt := if takes then some (match a.wFilt with | none => w | some f => f + (w - f) / 4) else a.wFilt,
    ctx := ctx1.map fun c => { c with setsK := c.active && prefOf c == kp, dRun := 0, dColl := 0 } }

/-- An accelerator takes part in shifting (06 R169, R180). -/
def takesPart (s : State) (n : Acc) : Bool :=
  let a := s.str.acc[n]
  a.ctx.toList.any (·.active) && !a.stale && !frozenAt s n

/-- The thermal ceiling and the life of the rate-of-rise limit (06 R175, R176). A ROR_STEP stamped after the start of the loop counts
from the next one (06 R157). -/
def strTherm (n : Acc) (s : State) : State :=
  let a := s.str.acc[n]
  let t := tickAt s
  let ceil := fld s.str.thermCeil (4 * bandAt s n) 4
  let raised := decide (a.rorLast + 1000 ≤ t) && decide (a.rorRaise + 1000 ≤ t)
  let ror := match a.ror with
    | none => none
    | some l => if raised then (if ceil < l + 1 then none else some (l + 1)) else some l
  let k := kBrimAt s n
  s.setStr n fun a => { a with
    ror := ror, rorRaise := if a.ror.isSome && raised then t else a.rorRaise,
    kTherm := match (if t < a.rorLast then a.rorPrev else ror) with | none => ceil | some l => min ceil l,
    kBrim := k }

/-- The group of an accelerator (06 R193). -/
def groupOf (s : State) (n : Acc) : Nat := fld s.str.group (4 * n.1) 3

/-- Equal share of B (06 R167). -/
def shareW (s : State) (b : Rat) : Rat := b / (setA s).length

/-- Removal of donor candidates that cannot give (06 R171 step 2). -/
def donorsOf (s : State) (share sigma : Rat) : Nat → List Acc → List Acc
  | 0, l => l
  | k + 1, l =>
    let keep := l.filter fun n =>
      decide (modelW s n 0 16 ≤ share + s.str.acc[n].shift - sigma / l.length)
    if keep.length = l.length then l else donorsOf s share sigma k keep

/-- The member of a list with the lowest filtered wait fraction, the lowest number on ties. -/
def criticalOf (s : State) : List Acc → Option Acc
  | [] => none
  | n :: l => match criticalOf s l with
    | none => some n
    | some m => if (s.str.acc[n].wFilt.getD 0) ≤ (s.str.acc[m].wFilt.getD 0) then some n else some m

/-- Shifting in one group for one loop (06 R170 to R172). A decayed shift below 1 W is set to 0 by itself, as R172 says; the shifts of
the group then need not sum to 0 as R167 and R179 say (DESIGN CHOICE, notes/assumptions/54.md). -/
def strShift (share : Rat) (g : Fin 8) (s : State) : State :=
  let mem := (setA s).filter fun n => groupOf s n == g.1
  let part := mem.filter (takesPart s)
  let sigma := capW s / 100
  let decay (s : State) : State :=
    let run := s.str.noDonor[g] + 1
    let s := s.modStr fun r => { r with noDonor := r.noDonor.set g run }
    if run < 16 then s else
      mem.foldl (fun s n => s.setStr n fun a =>
        let x := a.shift * 7 / 8
        { a with shift := if abs x < 1 then 0 else x }) s
  if g.1 = 7 ∨ part.length < 2 then decay s else
    match criticalOf s part with
    | none => decay s
    | some c =>
      let wc := s.str.acc[c].wFilt.getD 0
      let gap : Rat := ((fld s.str.cfg 20 4 : Nat) : Rat) / 100
      let cand := part.filter fun n => n ≠ c && decide (wc + gap ≤ s.str.acc[n].wFilt.getD 0)
      let don := donorsOf s share sigma 8 cand
      if don.isEmpty then decay s else
        let s := s.modStr fun r => { r with noDonor := r.noDonor.set g 0 }
        let a := s.str.acc[c]
        let lim : Rat := ((fld s.str.cfg 16 4 : Nat) : Rat) * capW s / 100
        if a.kCap < min a.kPref (min a.kTherm a.kBrim) ∧ a.shift + sigma ≤ lim then
          don.foldl (fun s n => s.setStr n fun a => { a with shift := a.shift - sigma / don.length })
            (s.setStr c fun a => { a with shift := a.shift + sigma })
        else s

/-- The highest OPP that an allocation pays for (06 R168). -/
def capOpp (s : State) (n : Acc) (al : Rat) : Nat :=
  let ok (k : Nat) : Bool :=
    let p := modelW s n k s.srs.link[n].cQuota
    if s.str.acc[n].kCap < k then decide (p ≤ al * 99 / 100) else decide (p ≤ al)
  ((List.range 16).filter ok).foldl max 0

/-- The retention voltage of a parked accelerator, with the guard of its band (06 R185, R177). -/
def retainMv (s : State) (n : Acc) : Nat := 500 + guardMv (bandAt s n)

/-- CORE0 and CORE1 of a parked accelerator at the retention voltage (06 R185). -/
def retain (n : Acc) (s : State) : State := startSet n (retainMv s n) 0 0 s

/-- The set-point at which an accelerator leaves its park (06 R185). -/
def wakeMv (s : State) (n : Acc) : Nat := oppMv s.acc[n].bin 0 + guardMv (bandAt s n)

/-- The set-point of a parked accelerator, or of one being unparked, follows the guard of its band; one not confirmed within 1 ms is
written again (06 R177, R185; 03 R81). -/
def strGuard (n : Acc) (s : State) : State :=
  let mv := if s.str.acc[n].park == .parked then retainMv s n else wakeMv s n
  let again := match s.acc[n].change with
    | some c => c.mv != mv || decide (c.start + 100 ≤ s.sys.tick)
    | none => s.acc[n].setMv != mv
  if s.str.acc[n].park != .no && again then startSet n mv 0 0 s else s

/-- Parking of an accelerator (06 R185). -/
def parkAcc (n : Acc) (reason : Nat) (s : State) : State :=
  let s := emit s 7 n.1 0xFF 0x0603 reason
  let s := sendPark n true s
  let s := retain n s
  hostEvent 2 (s.setStr n fun a => { a with park := .parked, parkReason := reason })

/-- Unparking of an accelerator: V(OP0) + guard first; the clocks restart at SETPOINT_REACHED (06 R185). -/
def unparkAcc (n : Acc) (s : State) : State :=
  let s := emit s 7 n.1 0xFF 0x0604 s.str.acc[n].parkReason
  let s := startSet n (wakeMv s n) 0 0 s
  hostEvent 2 (s.setStr n fun a => { a with park := .unparking, parkReason := 0 })

/-- Entry `i` of the park order, or none past its end (06 R193). -/
def parkEntries (s : State) : List Acc :=
  let e := (List.range 8).map fun i => fld s.str.parkOrder (4 * i) 4
  (e.takeWhile (· < 8)).filterMap fun x => accOf x

/-- The tray-wide mode at a loop start (06 R190, R192). -/
def strMode (s : State) : State :=
  let cause := if 5 ≤ s.rack.state.1 ∧ s.rack.state.1 ≤ 7 then 1
    else if fldB s.str.ctrl 0 then 2
    else if tickAt s < s.str.recoveryEnd then 3 else 0
  let felt := decide (cause ≠ 0)
  let s1 := if felt == s.str.felting then s
    else accList.foldl (fun s n => s.setStr n fun a => { a with shift := 0, wFilt := if felt then a.wFilt else none })
      (emit s 7 8 0xFF 0x0601 ((if felt then 1 else 0) + 2 * cause))
  s1.modStr fun r => { r with felting := felt, feltCause := cause }

/-- Changes of the set A: shifts of the groups touched, E and the filtered waits (06 R166, R172). -/
def strMembers (s : State) : State :=
  let a := setA s
  let gone := s.str.setA.filter fun n => !a.contains n
  let come := a.filter fun n => !s.str.setA.contains n
  let cap := brmCap s
  let s1 := accList.foldl (fun t n =>
    let t := if gone.any fun g => groupOf s g == groupOf s n then t.setStr n fun x => { x with shift := 0 } else t
    if come.contains n then t.setStr n fun x => { x with shift := 0, wFilt := none } else t) s
  let reset := !gone.isEmpty || !come.isEmpty || cap != s.str.lastCap
  s1.modStr fun r => { r with setA := a, lastCap := cap, calib := if reset then 0 else r.calib }

/-- The modelled powers that the loops of the last 10 ms chose for an accelerator (06 R166). -/
def chosen (s : State) (n : Acc) : List Rat := since (tickAt s - 1001) s.str.acc[n].modHist

/-- The calibration term (06 R166). A loop in which the cap or A has changed resets E and then updates it; one for which a member has
no modelled power of the last 10 ms leaves it (DESIGN CHOICE, notes/assumptions/54.md). -/
def strCalib (s : State) : State :=
  let a := setA s
  let d := sumAcc a fun n => meanR (since (tickAt s - 1000) s.str.acc[n].workHist)
  let m := sumAcc a fun n => meanR (chosen s n)
  if a.any fun n => (chosen s n).isEmpty then s else
  s.modStr fun r => { r with
    calib := max (-(capW s / 20)) (min (capW s / 10) (r.calib + (d - m) / 4)) }

/-- The escalation below OP0 and its undoing (06 R182 to R187). `b` is B. -/
def strEscalate (b : Rat) (s : State) : State :=
  let a := setA s
  let q := s.str.quota
  let need (q : Nat) : Rat := sumAcc a fun n => modelW s n 0 q
  let short := decide (b < need q)
  let left := (parkEntries s).filter fun n => a.contains n
  let s := s.modStr fun r => { r with shortfall := short, sincePark := min 10 (r.sincePark + 1) }
  let setQ (q : Nat) (s : State) : State :=
    emit (s.modStr fun r => { r with quota := q, raiseRun := 0 }) 7 8 0xFF 0x0602 q
  if short then
    let s := s.modStr fun r => { r with unparkRun := 0, raiseRun := 0, clearRun := 0 }
    if 1 < q then setQ (q - 1) s
    else if s.str.unreach then s
    else match left with
      | n :: _ =>
        if 10 ≤ s.str.sincePark then
          (parkAcc n 2 s).modStr fun r => { r with capParked := n :: r.capParked, sincePark := 0, unreachRun := 0 }
        else s
      | [] =>
        let run := s.str.unreachRun + 1
        let s := s.modStr fun r => { r with unreachRun := run }
        if 10 ≤ run then
          hostEvent 4 ((emit s 7 8 0xFF 0x0605 1).modStr fun r => { r with unreach := true })
        else s
  else
    let clear := s.str.clearRun + 1
    let s := s.modStr fun r => { r with unreachRun := 0, clearRun := clear }
    let s := if s.str.unreach && 100 ≤ clear then
        hostEvent 4 ((emit s 7 8 0xFF 0x0605 0).modStr fun r => { r with unreach := false }) else s
    match s.str.capParked.filter (fun n => !s.str.acc[n].hostPark) with
    | n :: _ =>
      let rest := s.str.capParked.filter (· ≠ n)
      let dynScale : Rat := modelW s n 0 1
      let ok := decide (need 1 + dynScale ≤ b + parkedW s n - capW s / 20)
      let run := if ok then s.str.unparkRun + 1 else 0
      let s := s.modStr fun r => { r with unparkRun := run, raiseRun := 0 }
      if 100 ≤ run ∧ !s.str.unreach then
        let s := (unparkAcc n s).modStr fun r => { r with capParked := rest, unparkRun := 0 }
        if rest.isEmpty then startRecovery s else s
      else s
    | [] =>
      if q = 16 ∨ s.str.capParked ≠ [] then s.modStr fun r => { r with raiseRun := 0 } else
      let ok := decide (need (q + 1) ≤ b - capW s / 100)
      let run := if ok then s.str.raiseRun + 1 else 0
      let s := s.modStr fun r => { r with raiseRun := run }
      if 10 ≤ run ∧ !s.str.unreach then setQ (q + 1) s else s

/-- Member of the felting set (06 R189). -/
def inFelt (s : State) (n : Acc) : Bool :=
  let c := chState s n
  let free := (s.str.acc[n].park == .no) && !forcedAt s n && !s.str.acc[n].stale
  free && ((9 ≤ c && c ≤ 11) || (s.str.felting && inA s n))

/-- F_n, or none where no unmasked core has an entry in the band (06 R191). -/
def lowestFmax (s : State) (n : Acc) : Option Nat :=
  let l := ((s.acc[n].fmax.drop (1024 * bandAt s n)).take 1024).filter (· ≠ 0)
  l.foldl (fun o x => match o with | none => some x | some m => some (min m x)) none

/-- The ceiling of a felting member (06 R191). -/
def feltK (s : State) (n : Acc) : Nat :=
  let a := s.str.acc[n]
  min (if inA s n then a.kCap else 15) (min a.kTherm a.kBrim)

/-- f_felt of a set (06 R191). -/
def feltMhz (s : State) (f : List Acc) : Nat :=
  let one (n : Acc) : Nat :=
    let m := oppMhz s.acc[n].bin (feltK s n)
    match lowestFmax s n with | none => m | some x => min m x
  let l := (f.map one) ++ (if fld s.str.ctrl 16 16 = 0 then [] else [fld s.str.ctrl 16 16])
  match l with
  | [] => 0
  | x :: l => l.foldl min x

/-- The lowest OPP that carries a frequency, OP0 if none (06 R191). -/
def feltOpp (bin mhz : Nat) : Nat :=
  ((List.range 16).find? fun k => mhz ≤ oppMhz bin k).getD 0

/-- The request of one accelerator, its REASON and its common frequency (06 R160, R179, R180, R191). -/
def strRequest (s : State) (felt : Nat) (n : Acc) : Option (Nat × Nat × Nat) :=
  let a := s.str.acc[n]
  let c := chState s n
  let low := fun (k : Nat) =>
    let k := if s.acc[n].bin = 0xFF then 0 else k
    if s.twb.avs[n].failed then min k (oppAt s n) else k
  if c < 9 ∨ a.park ≠ .no then none
  else if inFelt s n then some (low (feltOpp s.acc[n].bin felt), 5, felt)
  else if a.stale then
    some (low (if a.staleTick + 100000 ≤ tickAt s then 0 else min (a.oppFresh - 1) (min a.kTherm a.kBrim)), 4, 0)
  else if inA s n then
    let k := min (min a.kPref a.kCap) (min a.kTherm a.kBrim)
    let why := if a.kBrim = k then 3 else if a.kTherm = k then 2
      else if a.kCap = k then (if s.str.shortfall || s.str.quota < 16 then 6 else 1) else 0
    some (low k, why, 0)
  else none

/-- Step 4 of the loop for one accelerator: the request, its voltage and its words (03 R81, 06 R159). -/
def strWrite (felt : Nat) (n : Acc) (s : State) : State :=
  match strRequest s felt n with
  | none =>
    (strGuard n s).setStr n fun a => { a with
      mode := if a.park == .no then (if chState s n < 9 then 3 else a.mode) else 2, feltMhz := 0, modHist := [] }
  | some (k, why, f) =>
    let s1 := s.setAcc n fun a => { a with oppReq := k }
    let s1 := s1.setStr n fun a => { a with
      mode := if why = 5 then 1 else 0, reason := why, feltMhz := f,
      oppFresh := if a.stale then a.oppFresh else k,
      modHist := if inA s n then (tickAt s, modelW s n k (quotaOf s n)) :: a.modHist.take 9 else [] }
    applyOpp n k f s1

/-- The level-0 release request of a loop (01 R26, 06 R181). -/
def strRelease (n : Acc) (s : State) : State :=
  let a := s.acc[n]
  if !a.forceL0 || !a.vrAlertN then s
  else match a.holdUntil with
    | some u =>
      if s.sys.tick < u then
        let r := satAdd 0xFFFF a.relRefused
        emit (s.setAcc n fun a => { a with relRefused := r }) 7 n.1 0xFF 0x060A r
      else s.setAcc n fun a => { a with forceL0 := false, holdUntil := none }
    | none => s.setAcc n fun a => { a with forceL0 := false }

/-- A host park held while the accelerator was down takes effect as its channel enters S12 (06 R186); a cap park ends
when the channel leaves S12. -/
def strParks (n : Acc) (s : State) : State :=
  let a := s.str.acc[n]
  if chState s n = 12 ∧ a.hostPark ∧ a.park = .no then parkAcc n 1 s
  else if chState s n < 12 then endPark n s
  else s

/-- The per-context part of a good activity frame (03 R82, R83). `dt` is the time since the last good frame, ns; 0 for
a frame that starts a new difference. -/
def ctxFrame (n : Acc) (a : Activity) (dt : Nat) (s : State) : State :=
  s.setStr n fun st => { st with
    dT := st.dT + dt
    ctx := st.ctx.mapFinIdx fun i c _ =>
      match a.ctx[i]? with
      | none => c
      | some f =>
        let same := decide (c.epoch = f.epoch.toNat)
        let inc (new old : Nat) : Nat := if dt = 0 then 0 else if same then (new + 2 ^ 32 - old) % 2 ^ 32 else new
        { c with
          phase := f.phase.toNat, epoch := f.epoch.toNat,
          runNs := f.runNs.toNat, collNs := f.collWaitNs.toNat,
          dRun := c.dRun + inc f.runNs.toNat c.runNs, dColl := c.dColl + inc f.collWaitNs.toNat c.collNs } }

/-- The activity frames stamped before tick `t` enter the contexts of their accelerator (06 R157, 10 R301). -/
def takeFrames (t : Nat) (n : Acc) (s : State) : State :=
  let (due, rest) := s.str.acc[n].frames.partition fun f => decide (f.1 < t)
  forAll due (fun f s => ctxFrame n f.2.2 f.2.1 s) (s.setStr n fun a => { a with frames := rest })

/-- An activity frame waits for the loop that uses it; what every loop to come uses is taken at once. -/
def queueFrame (n : Acc) (a : Activity) (dt : Nat) (s : State) : State :=
  (takeFrames (s.sys.tick / 100 * 100) n s).setStr n fun x => { x with frames := x.frames ++ [(s.sys.tick, dt, a)] }

/-- What the loop at `t` reads of the hardware: what the strobe of `t` latched, and before that strobe the present values (06 R158). -/
def latchFor (t : Nat) (s : State) : StrLatch :=
  match s.str.latch with
  | some l => if l.tick = t then l else { strobeOf s with tick := t }
  | none => { strobeOf s with tick := t }

/-- The loop that starts at `t` may still compute: none has done so, and its 90 ticks are not over (06 R159). -/
def loopDue (t : Nat) (s : State) : Bool :=
  s.sys.boot == .running && decide (s.str.lastLoop < t) && decide (t ≤ s.sys.tick) && decide (s.sys.tick < t + 90)

/-- The loop that starts at tick `t` (06 R157 to R192). -/
def loopBody (t : Nat) (s : State) : State :=
  let s := s.modStr fun r => { r with now := some (latchFor t s) }
  let s := forAll accList (takeFrames t) s
  let s := strMode s
  let s := accList.foldl (fun s n => strParks n s) s
  let s := strMembers s
  let s := accList.foldl (fun s n => strModel n (strStale n s)) s
  let s := accList.foldl (fun s n => strTherm n (strContexts n s)) s
  let s := strCalib s
  let b := budgetW s
  let share := shareW s b
  let s := if s.str.felting then s else (List.finRange 8).foldl (fun s g => strShift share g s) s
  let caps := accList.map fun n =>
    let al := share + s.str.acc[n].shift
    (n, al, capOpp s n al)
  let s := strEscalate b s
  let hold := s.str.shortfall || s.str.quota < 16
  let s := caps.foldl (fun s (n, al, k) =>
    if inA s n then s.setStr n fun a => { a with alloc := al, kCap := if hold then 0 else k }
    else s.setStr n fun a => { a with alloc := 0 }) s
  let felt := feltMhz s (accList.filter (inFelt s))
  let s := accList.foldl (fun s n => strWrite felt n s) s
  let s := accList.foldl (fun s n => sendQuota n (quotaOf s n) s) s
  let s := accList.foldl (fun s n => strRelease n s) s
  let s := bupLoop s
  s.modStr fun r => { r with lastLoop := t, now := none }

/-- A steering loop, its words arbitrated (06 R157, 10 R296). -/
def steeringLoop (t : Nat) (s : State) : State := arbitrate (loopBody t) s

/-- The start of the present loop. -/
def loopTick (s : State) : Nat := s.sys.tick / 100 * 100

/-- A command stamped no later than tick `t` still waits for its release. -/
def reqWaits (t : Nat) (s : State) : Bool :=
  s.rcd.merger.any fun w => decide (w.stamp ≤ t) && (match w.item with | .req _ => true | _ => false)

/-- The start of the loop waits in the merger, behind everything stamped with its tick in classes 1 to 7 (06 R157; 02 R41). -/
def awaitLoop (t : Nat) (s : State) : State :=
  let w : Waiting := { stamp := t, cls := 7, unit := 65536, chan := 0, item := .loop }
  if s.rcd.merger.contains w then s else s.modRcd fun r => { r with merger := insertWaiting w r.merger }

/-- STEERING_LOOP (06 R157): the loop computes from the state that every event stamped up to its tick has left; while a command of those
waits in the merger, so does the loop. -/
def execSteeringLoop (s : State) : Out3 :=
  let t := loopTick s
  .next (if !loopDue t s then s else if reqWaits t s then awaitLoop t s else steeringLoop t s)

/-- LOOP_OVERRUN (06 R159): no loop has completed its writes by T + 90. -/
def execLoopOverrun (s : State) : Out3 :=
  let t := s.sys.tick - 90
  if s.sys.tick % 100 ≠ 90 ∨ t ≤ s.str.lastLoop ∨ s.sys.boot ≠ .running then .next s else
  .next (emit (s.modStr fun r => { r with overruns := satAdd 255 r.overruns }) 7 8 0xFF 0x0609 (t % 65536))

/-- The rate-of-rise check on a good activity frame (06 R176). -/
def rorCheck (n : Acc) (tj : Int) (s : State) : State :=
  let a := s.str.acc[n]
  let t := s.sys.tick
  let recent := a.tj.filter fun p => t ≤ p.1 + 1000
  let s1 := s.setStr n fun a => { a with tj := (t, tj) :: recent }
  if recent.any fun p => p.2 + 64 < tj then
    let lower := a.ror.isNone || decide (a.rorLow + 1000 ≤ t)
    let l := match a.ror with
      | none => s.acc[n].oppEff - 1
      | some x => if lower then x - 1 else x
    (emit s1 4 n.1 0xFF 0x0607 l).setStr n fun a => { a with
      ror := some l, rorPrev := if a.rorLast = t then a.rorPrev else a.ror, rorLast := t, rorLow := if lower then t else a.rorLow }
  else s1

end Sys2Proof.Machine
end

