-- ==== Sys2Proof/Machine/CmdTray.lean ====
section
/-! DEFINITION. What the envelope, rack, tray, Crozier and partition commands do once they are judged: step 10 of 14
R414 with the rules of the owning chapter (15 R450 to R456). An answer of none leaves the command in flight. -/

namespace Sys2Proof.Machine

open Sys2Proof

/-- The command ends with OK and nothing to add. -/
def done (s : State) : State × Option Ans := (s, some {})

/-- The command ends with OK and data. -/
def doneWith (data : List Byte) (s : State) : State × Option Ans := (s, some { data := data })

/-- The command ends with STATE_CONFLICT (14 R418, 15 R466). -/
def refuse (reason object : Nat) (s : State) : State × Option Ans := (s, some (conflict reason object))

/-! Envelope (15 R450). -/

/-- The settings that the next envelope command builds on (07 R218). -/
def envelopeNow (s : State) : BrimSet := s.brm.staged.getD s.brm.set

/-- power.set_cap: staged, and CAP_UNREACHABLE under 06 R188. -/
def applySetCap (w : Word) (s : State) : State × Option Ans :=
  let c : Rat := ((10 * fld w 0 16 : Nat) : Rat)
  let h := c * ((fld s.str.cfg 12 4 : Nat) : Rat) / 100
  let floor := overheadW s + h + sumAcc (accList.filter fun n => decide (9 ≤ chState s n)) (parkedW s)
  let e := { envelopeNow s with cap := w }
  (s.modBrm fun b => { b with staged := some e },
   some { res := if c < floor then .capUnreachable else .ok })

/-- power.set_envelope: staged. -/
def applySetEnvelope (peak avg ramp tol balMax : Word) (s : State) : State × Option Ans :=
  done (s.modBrm fun b => { b with
    staged := some { envelopeNow s with peak := peak, avg := avg, ramp := ramp, tol := tol, balMax := balMax } })

/-! Rack and tray (15 R450 to R452). -/

/-- SEQSYNC has been high for 1 ms (04 R121). -/
def lineHigh (s : State) : Bool := s.rack.line && decide (s.rack.highTick + 100 ≤ s.sys.tick)

/-- The leader pulses, a follower is armed (04 R121). -/
def startOrArm (s : State) : State :=
  let s := s.modRack fun r => { r with armed := true }
  if isLeader s then drivePulse 40 s else s

/-- rack.power_on. -/
def applyRackOn (s : State) : State × Option Ans :=
  if s.rack.detached then refuse 0x020E 0xFF s
  else if s.rack.state ≠ 1 then refuse 0x0203 0xFF s
  else if isLeader s && !lineHigh s then refuse 0x0204 0xFF s
  else done (startOrArm s)

/-- rack.power_off, with the drain grace and the immediate flag (14 R441). -/
def applyRackOff (grace flags : Byte) (s : State) : State × Option Ans :=
  if s.rack.detached then refuse 0x020E 0xFF s
  else if s.rack.state ≠ 8 then refuse 0x0203 0xFF s
  else if isLeader s && !lineHigh s then refuse 0x0204 0xFF s
  else done (startOrArm (s.modRack fun r => { r with grace := grace.toNat, immediate := flags.getLsbD 0 }))

/-- rack.reset: the leader's reset pulse (04 R121). -/
def applyRackReset (s : State) : State × Option Ans :=
  if s.rack.detached then refuse 0x020E 0xFF s
  else if !isLeader s then refuse 0x0206 0xFF s
  else if !resting s then refuse 0x0203 0xFF s
  else if !lineHigh s then refuse 0x0204 0xFF s
  else done (drivePulse 200 s)

/-- The rack state that the leader announces: the FM8's own where it is the leader, else the latest announcement of slot
0 within the last second (04 R123). -/
def leaderState (s : State) : Option (Fin 16) :=
  if isLeader s then some s.rack.state else
  match s.rack.heard[(0 : Fin 32)] with
  | some (a, t) => if s.sys.tick ≤ t + 100000 then some a.rackState else none
  | none => none

/-- The local state for the comparison of 04 R124: a complete state 0 counts as 1, and HOLD as the resting state whose
power state it keeps. -/
def localState (s : State) : Fin 16 :=
  if s.rack.state = 0 ∧ atRest s then 1
  else if s.rack.state = 15 then (if s.rack.heldP = some .run then 8 else if s.rack.heldP = some .standby then 1 else 15)
  else s.rack.state

/-- A resting state is taken up again, attached, its actions done already (04 R122, R124; 06 R190). -/
def rejoin (k : Fin 16) (s : State) : State :=
  let held := s.rack.state == 15
  let s := s.modRack fun r => { r with
    state := k, stateTick := if r.state = k then r.stateTick else s.sys.tick, detached := false, faultDetached := false,
    heldP := none, differs := none, driving := false, armed := false, listened := true }
  announce (if held && k == 8 then startRecovery s else s)

/-- HOLD is left for a resting state that the leader announces and the tray is not in: its actions run, and for state 1 every
channel goes to S0 first (04 R122; notes/assumptions/52.md). -/
def leaveHold (k : Fin 16) (s : State) : State := enterRack k (if k = 1 then lowerAll 0 (clearStagger s) else s)

/-- rack.join (04 R122, R124; 18 R529): an FM8 in HOLD joins any resting state of the leader, a detached one only its own. -/
def applyRackJoin (s : State) : State × Option Ans :=
  if s.rack.strapDetached then refuse 0x020D 0xFF s
  else if !s.rack.detached && s.rack.state ≠ 15 then done s
  else match leaderState s with
    | none => refuse 0x0208 0xFF s
    | some k =>
      if k ≠ 1 ∧ k ≠ 8 then refuse 0x0208 0xFF s
      else if localState s = k then done (rejoin k s)
      else if s.rack.detached then refuse 0x0208 0xFF s
      else done (leaveHold k s)

/-- tray.power_on (04 R124; 05 R133). In HOLD, detached, no rule gives it a result: STATE_CONFLICT with REASON 0x0203, since no step may start
there (R122), and so for tray.power_off (DESIGN CHOICE, notes/assumptions/52.md). -/
def applyTrayOn (s : State) : State × Option Ans :=
  if !s.rack.detached then refuse 0x0207 0xFF s
  else if s.rack.state = 15 then refuse 0x0203 0xFF s
  else if !convOk s trayChan then refuse 0x0507 0xFF s
  else done (enterRack 2 s)

/-- tray.power_off: the drain of 14 R441, then rack states 10 to 14 (04 R124). -/
def applyTrayOff (grace flags : Byte) (s : State) : State × Option Ans :=
  if !s.rack.detached then refuse 0x0207 0xFF s
  else if s.rack.state = 15 then refuse 0x0203 0xFF s
  else done (enterRack 9 (s.modRack fun r => { r with grace := grace.toNat, immediate := flags.getLsbD 0 }))

/-- 12 R372 refuses a clear: fewer than two valid members of the critical set, or one within 5 degrees C. -/
def critRefuses (s : State) : Bool :=
  decide ((critMembers s).length < 2) || (critMembers s).any fun i => decide (critTemp s - 5 < thmTemp s i)

/-- 12 R377 refuses a clear: a used leak channel reads wet. -/
def leakRefuses (s : State) : Bool :=
  s.nv.coolLiq && (List.finRange 10).any fun (c : Fin 10) => s.cool.leak[c].used && s.cool.leak[c].reading == 1

/-- 17 R520 refuses a clear of SAFE: none, or the REASON. -/
def safeRefuses (s : State) : Option Nat :=
  if !s.saf.safe then none
  else if s.saf.cause ≤ 2 then some 0x1102
  else if (accList.all fun n => chState s n == 0) && decide (s.saf.presentTick + 100000 ≤ s.sys.tick) then none
  else some 0x1101

/-- The latches of a tray fault go (15 R451). -/
def releaseFaults (s : State) : State :=
  let s := s.modRack fun r => { r with
    trayfltDrive := false, rackfltDrive := false, shdn := false, offLatch := false, fastDown := false }
  let s := s.modCool fun k => { k with
    rackflt := false, pumpsOff := false, crit := false,
    leak := k.leak.map fun x => { x with latch := false, confirmed := false } }
  if s.saf.safe then
    emit (s.modSaf fun f => { f with safe := false, cause := 0, override := false }) 6 9 0xFF 0x1102 s.saf.cause
  else s

/-- tray.fault_clear (15 R451, 12 R372 and R377, 17 R520): rack state 0, detached where 04 R116 detached it, else
listening again (04 R125). A run-down under way goes on before T1 (12 R367). -/
def applyFaultClear (s : State) : State × Option Ans :=
  match safeRefuses s with
  | some r => refuse r 0xFF s
  | none =>
    if critRefuses s then refuse 0x0C03 0xFF s
    else if leakRefuses s then refuse 0x0C04 0xFF s
    else
      let s := islandForce (releaseFaults s)
      let s := forAll accList (fun n s => aimAcc n 0 s) s
      let s := if s.cool.rundown.isSome then s else aim trayChan 1 s
      done (announce (s.modRack fun r => { r with
        state := 0, stateTick := s.sys.tick, detached := r.faultDetached || r.strapDetached, driving := false, armed := false,
        listened := r.faultDetached || r.strapDetached, heardOther := false, heldP := none, differs := none }))

/-! Crozier (15 R450, 04 R98, R113). -/

/-- A spare rail follows a new graph (00 R10; 04 R95; notes/assumptions/52.md): one that is no longer sequenced in the present tray
state goes off, and one that now is makes the step of that state unfinished. -/
def followGraph (r : Rail) (s : State) : State :=
  let k := s.crz.chan[trayChan].state
  let wanted := declared s r && railState s r != 0 && decide (railState s r ≤ k)
  if s.crz.rail[r].en && !wanted then disableRail r s
  else if wanted && !s.crz.rail[r].en && !s.crz.chan[trayChan].fault then
    s.setChan trayChan fun c => { c with stepDone := false, stepStart := none, dir := 1 }
  else s

/-- crz.set_dep: only with every channel in S0 and the tray at T1 or below (04 R98). -/
def applySetDep (dep : List Word) (s : State) : State × Option Ans :=
  if !atRest s then refuse 0x0202 0xFF s
  else done (followGraph 119 (followGraph 118 (s.modCrz fun c => { c with dep := graphOf dep })))

/-- crz.set_config: only in a resting state (04 R113). -/
def applyCrzConfig (w : Word) (l : List Word) (s : State) : State × Option Ans :=
  if !resting s then refuse 0x0203 0xFF s
  else done (s.modCrz fun c => { c with seqCfg := w, stepwin := l.map BitVec.toNat })

/-- crz.clear_fault (15 R450). -/
def applyClearFault (c : Chan) (s : State) : State × Option Ans :=
  if s.crz.chan[c].dir = 3 then refuse 0x020B c.1 s
  else done (s.setChan c fun x => { x with fault := false, efuseOpen := false })

/-! Partitions (15 R453 to R456). -/

/-- Why a channel's target may not be raised: a fault, a converter, the zone latch, the flow hold (04 R105, 05 R133, 12
R364 and R376); 0 for none. -/
def raiseReason (s : State) (n : Acc) : Nat :=
  if s.crz.chan[accChan n].fault then 0x0201
  else if !convOk s (accChan n) then 0x0507
  else if zoneWet s n then 0x0C01
  else if flowLostFor s n then 0x0C02
  else 0

/-- partition.power_on (15 R453). -/
def applyPowerOn (n : Acc) (s : State) : State × Option Ans :=
  let c := s.crz.chan[accChan n]
  if s.acc[n].decision.isSome then refuse 0x020A n.1 s
  else if c.state = 12 ∧ c.target = 12 then done s
  else if s.crz.chan[accChan n].fault then refuse 0x0201 n.1 s
  else if s.bup.acc[n].failed then refuse 0x020C n.1 s
  else if raiseReason s n ≠ 0 then refuse (raiseReason s n) n.1 s
  else if s.twb.avs[n].failed then refuse 0x0D01 n.1 s
  else
    let s := s.setChan (accChan n) fun c => { c with setOff := false }
    let s := s.setBup n fun b => { b with bootFailed := false, solo := true }
    let s := s.setAcc n fun a => { a with testWanted := a.testWanted || decide (c.target ≠ 12) }
    done (setAccTarget n 12 s)

/-- A drain, or its outcome at once where XNET is not up (03 R74). A second command on a draining accelerator has no
place in the manual and is refused (notes/assumptions/21.md). -/
def drainFor (n : Acc) (g : DrainFor) (q : Reply) (s : State) : State × Option Ans :=
  if s.acc[n].drain.isSome then refuse 0 n.1 s
  else if chState s n < 3 then done (carryOut n g s)
  else (beginDrain n g q s, none)

/-- partition.power_off (15 R453). -/
def applyPartOff (n : Acc) (full : Bool) (q : Reply) (s : State) : State × Option Ans :=
  if s.acc[n].decision.isSome then refuse 0x020A n.1 s else drainFor n (.powerOff full) q s

/-- Why a reset of an accelerator, which raises its target, is refused (04 R105; 15 R454); 0 for none. -/
def resetReason (s : State) (n : Acc) : Nat :=
  if s.crz.chan[accChan n].fault then 0x0201
  else if s.crz.chan[accChan n].target < 12 ∧ raiseReason s n ≠ 0 then raiseReason s n
  else if s.crz.chan[accChan n].target < 12 ∧ s.bup.acc[n].failed then 0x020C
  else 0

/-- partition.reset with MODE 0 (15 R454). -/
def applyReset (n : Acc) (test : Bool) (q : Reply) (s : State) : State × Option Ans :=
  if s.acc[n].decision.isSome then refuse 0x020A n.1 s
  else if resetReason s n ≠ 0 then refuse (resetReason s n) n.1 s
  else drainFor n (.reset test) q s

/-- partition.reset with MODE 1: the pending action without a drain (03 R75, 15 R454). A reset on a channel that has faulted since is
refused, and its decision stays (04 R105). -/
def applyResetForce (n : Acc) (test : Bool) (s : State) : State × Option Ans :=
  match s.acc[n].decision with
  | none => refuse 0x0209 n.1 s
  | some (.reset _, _) =>
    if resetReason s n ≠ 0 then refuse (resetReason s n) n.1 s
    else done (carryOut n (.reset test) (s.setAcc n fun a => { a with decision := none }))
  | some (.powerOff f, _) => done (carryOut n (.powerOff f) (s.setAcc n fun a => { a with decision := none }))

/-- partition.reset with MODE 2 (03 R75). -/
def applyResetAbort (n : Acc) (s : State) : State × Option Ans :=
  if s.acc[n].decision.isNone then refuse 0x0209 n.1 s else done (abortDrain n s)

/-- partition.park (15 R456, 06 R186). -/
def applyPark (n : Acc) (s : State) : State × Option Ans :=
  if s.acc[n].decision.isSome then refuse 0x020A n.1 s
  else if s.crz.chan[accChan n].fault then refuse 0x0201 n.1 s
  else
    let s := s.setStr n fun a => { a with hostPark := true }
    if s.str.capParked.contains n ∨ s.str.acc[n].park = .parked then
      done (s.setStr n fun a => { a with parkReason := 1 })
    else if chState s n = 12 then done (parkAcc n 1 s)
    else done s

/-- partition.unpark (15 R456, 06 R186). -/
def applyUnpark (n : Acc) (s : State) : State × Option Ans :=
  if s.acc[n].decision.isSome then refuse 0x020A n.1 s
  else if s.twb.avs[n].failed then refuse 0x0D01 n.1 s
  else
    let s := s.setStr n fun a => { a with hostPark := false }
    if s.str.capParked.contains n then
      (s.setStr n fun a => { a with parkReason := 2 }, some { res := .clipped, data := [1] })
    else if s.str.acc[n].park = .parked then done (unparkAcc n s)
    else done s

end Sys2Proof.Machine
end

