-- ==== Sys2Proof/Machine/Ledger.lean ====
section
/-! DEFINITION. The Ledger (08_energy_ledger.md): frame increments, the energy model of a step, binding changes and
the posting of an interval. Modelled energies are exact rationals in fJ, postings whole microjoules. -/

namespace Sys2Proof.Machine

open Sys2Proof

/-- The interval that contains a step at tick `u` (08 R222). -/
def intervalOf (u : Nat) : Nat := u / 1000 + 1

/-- The first step after tick `t` (08 R238). -/
def stepAfter (t : Nat) : Nat := (t / 10 + 1) * 10

/-- The increments of a good activity frame over the one before it (08 R224, R226). -/
def frameInc (old : Option Activity) (a : Activity) (stamp : Nat) : FrameInc :=
  match old with
  | none => { stamp := stamp, dtNs := 0, avail := 0, counters := [], epochs := [], discard := true }
  | some o =>
    let dt := (a.frameNs.toNat + 2 ^ 64 - o.frameNs.toNat) % 2 ^ 64
    let inc (new old : Nat) (same : Bool) : Nat := if same then (new + 2 ^ 48 - old) % 2 ^ 48 else new
    { stamp := stamp, dtNs := dt, avail := inc a.avail.toNat o.avail.toNat true,
      counters := (List.zip a.ctx o.ctx).map fun (x, y) =>
        (List.zip x.counters.toList y.counters.toList).map fun (p, q) => inc p.toNat q.toNat (x.epoch == y.epoch),
      epochs := (List.zip a.ctx o.ctx).map fun (x, y) => x.epoch != y.epoch,
      discard := decide (100000000 < dt) }

/-- The first good activity frame after a training is a base only; the time since the good frame before the training is a
gap (08 R226, 10 R291). DT_NS 1 stands for a gap above 100 ms. -/
def frameBase (last : Option Activity) (age : Nat) (a : Activity) (stamp : Nat) : FrameInc :=
  { stamp := stamp, dtNs := if last.isSome && decide (10000 < age) then 1 else 0, avail := 0, counters := [], discard := true,
    epochs := match last with
      | none => []
      | some o => (List.zip a.ctx o.ctx).map fun (x, y) => x.epoch != y.epoch }

/-- A good activity frame reaches the Ledger (08 R223). `old` is the base it is read against. -/
def ledgerFrame (n : Acc) (old : Option Activity) (a : Activity) (s : State) : State :=
  let k := s.srs.link[n]
  let f := if old.isNone then frameBase k.last k.age a s.sys.tick else frameInc old a s.sys.tick
  s.setLdg n fun l => { l with pend := l.pend ++ [f] }

/-- LDG_COEF[b][k][m][i] (08 R243). -/
def coefOf (s : State) (b k m i : Nat) : Nat :=
  if h : b < 3 then
    match s.ldg.coef[b] with
    | none => 0
    | some l => (l.getD (((k * 5) + m) * 10 + i) 0).toNat
  else 0

/-- The bin of a fitted accelerator has no coefficient table (08 R229). -/
def coefMissing (s : State) (n : Acc) : Bool :=
  match s.acc[n].ident with
  | none => false
  | some _ => if h : s.acc[n].bin < 3 then s.ldg.coef[s.acc[n].bin].isNone else false

/-- HELD of a context's increments (counter 4 of the frame's nine; 10 R290). -/
def heldOf (c : List Nat) : Nat := c.getD 4 0

/-- The idle-held count of a context and whether it was negative, from its HELD scaled (08 R225). -/
def idleOf (scale : Rat) (c : List Nat) : Rat × Bool :=
  let used : Nat := c.getD 0 0 + c.getD 1 0 + c.getD 2 0 + c.getD 3 0
  let x : Rat := (heldOf c : Rat) * scale - used
  (max 0 x, decide (x < 0))

/-- Energy of a context's dynamic terms, fJ (08 R227). -/
def dynFj (s : State) (b k m : Nat) (scale : Rat) (c : List Nat) : Rat :=
  ((List.range 9).map fun i =>
    (if i = 4 then (idleOf scale c).1 else ((c.getD i 0 : Nat) : Rat)) * (coefOf s b k m i : Nat)).sum

/-- Interval `j` of an accelerator gets NO_ACTIVITY, whether or not it has been posted (08 R226). -/
def noActivity (n : Acc) (j : Nat) (s : State) : State :=
  let mark (x : IntervalAcc) : IntervalAcc := { x with flags := x.flags ||| 0x10 }
  if j = intervalOf s.sys.tick then s.setLdg n fun l => { l with flags := l.flags ||| 0x10 }
  else s.modLdg fun g => { g with
    ring := g.ring.map fun r => if r.number = j then { r with accs := r.accs.modify n.1 mark } else r }

/-- A gap above 100 ms touches the interval of the frame before it, whose later intervals have no frame (08 R226). -/
def gapStart (n : Acc) (f : FrameInc) (s : State) : State :=
  match s.ldg.acc[n].lastStep with
  | some u => if f.dtNs = 0 then s else noActivity n (intervalOf u) s
  | none => s

/-- The increments that a step takes: of frames stamped before it (08 R223, 10 R301). -/
def dueFrames (s : State) (n : Acc) : List FrameInc := s.ldg.acc[n].pend.filter fun f => decide (f.stamp < s.sys.tick)

/-- One frame attributed (08 R225, R227). -/
def stepFrame (n : Acc) (f : FrameInc) (s : State) : State :=
  let b := s.acc[n].bin
  let k := oppSeen s n
  let m := bandOf s n
  if f.discard then
    (gapStart n f s).setLdg n fun l => { l with
      flags := l.flags ||| (if f.dtNs = 0 then 0 else 0x10) ||| (if f.epochs.any id then 0x20 else 0) }
  else
    let heldSum := (f.counters.map heldOf).sum
    let above := decide (f.avail < heldSum)
    let scale : Rat := if above then (f.avail : Rat) / heldSum else 1
    let bad := (f.counters.findIdx? fun c => (idleOf scale c).2).getD 48
    let wrong := above || f.counters.any fun c => (idleOf scale c).2
    let static : Rat := (coefOf s b k m 9 : Rat) * f.dtNs * 1000
    let share (c : Nat) : Rat :=
      if f.avail = 0 then 0 else (heldOf (f.counters.getD c []) : Rat) * scale / f.avail
    let all : Rat := if f.avail = 0 then 0 else (heldSum : Rat) * scale / f.avail
    let fresh := wrong && !(s.ldg.acc[n].flags.getLsbD 8)
    let s1 := if fresh then emit s 7 n.1 0xFF 0x0805 bad else s
    let s1 := if wrong then s1.modLdg fun l => { l with inconsistent := true } else s1
    s1.setLdg n fun l => { l with
      flags := l.flags ||| (if wrong then 0x100 else 0) ||| (if f.epochs.any id then 0x20 else 0),
      avail := l.avail + f.avail,
      unheld := l.unheld + static * max 0 (1 - all),
      eCtx := Vector.ofFn fun c => l.eCtx[c] + dynFj s b k m scale (f.counters.getD c.1 []) + static * share c.1,
      held := Vector.ofFn fun c => l.held[c] + (heldOf (f.counters.getD c.1 []) : Rat) * scale }

/-- The running energy of a context is set apart (08 R238). -/
def splitCtx (n : Acc) (c : Fin 48) (closed : Option Nat) (s : State) : State :=
  let sl := s.ldg.slot[n][c]
  let c' : Fin 49 := c.castSucc
  s.setLdg n fun l => { l with
    segs := l.segs ++ [{ ctx := c', job := if sl.inForce then sl.job else 0, fJ := l.eCtx[c'], held := l.held[c'],
                         closed := closed }],
    eCtx := l.eCtx.set c' 0, held := l.held.set c' 0 }

/-- One binding change takes effect at its step (08 R238). -/
def takeChange (x : LdgChange) (s : State) : State :=
  let u := s.sys.tick
  if x.bind then
    (splitCtx x.acc x.ctx none s).setSlot x.acc x.ctx fun l => { l with inForce := true, bindTick := u }
  else
    (splitCtx x.acc x.ctx (some (intervalOf u)) s).setSlot x.acc x.ctx fun l => { l with inForce := false }

/-- Closings by EPOCH_CLOSE at this step (08 R239); an epoch change at the binding's own first step closes nothing. -/
def epochCloses (n : Acc) (s : State) : State :=
  let f := dueFrames s n
  (List.finRange 48).foldl (fun s c =>
    let sl := s.ldg.slot[n][c]
    if sl.inForce && sl.epochClose && sl.bindTick != s.sys.tick && (f.any fun x => x.epochs.getD c.1 false) then
      let j := intervalOf s.sys.tick
      emit ((splitCtx n c (some j) s).setSlot n c fun l => { l with inForce := false, closing := true, change := some j })
        6 n.1 (n.1 * 48 + c.1) 0x0803 2
    else s) s

/-- LEDGER_STEP for one accelerator (08 R223, R227, R228, R230). -/
def ledgerAcc (n : Acc) (s : State) : State :=
  let s := epochCloses n s
  let f := dueFrames s n
  let s := f.foldl (fun s x => stepFrame n x s) s
  let p := (accPower s n).getD (s.brm.pCore[n] + s.brm.delta[n])
  let t := s.sys.tick
  let subst := decide (2 ≤ s.brm.staleP[n])
  let fl : BitVec 10 := (if subst then 0x8 else 0) ||| (if forced s n then 0x40 else 0) |||
    (if s.brm.bal[n] ≠ 0 then 0x200 else 0)
  s.setLdg n fun l => { l with
    pend := l.pend.filter fun x => decide (t ≤ x.stamp), steps := if f.isEmpty then l.steps else l.steps + 1,
    lastStep := if f.isEmpty then l.lastStep else some t,
    flags := l.flags ||| fl, meas := l.meas + p, opp := oppSeen s n, band := bandOf s n }

/-- Thresholds of LDG_CFG as fractions, and HOLD (08 R243). -/
def uncalPct (s : State) : Rat := ((fld s.ldg.cfg 0 8 : Nat) : Rat) / 100
def faultPct (s : State) : Rat := ((fld s.ldg.cfg 8 8 : Nat) : Rat) / 100
def ldgHold (s : State) : Nat := fld s.ldg.cfg 16 8

/-- The state rules on an evaluated interval with disagreement `d` (08 R232). -/
def ldgRuns (s : State) (d : Rat) (l : LdgAcc) : LdgAcc :=
  let inc (c : Bool) (r : Nat) : Nat := if c then r + 1 else 0
  let st := l.state
  let u := inc (st == 0 && decide (uncalPct s < d)) l.runUncal
  let f := inc (st != 2 && decide (faultPct s < d)) l.runFault
  let b := inc (st == 2 && decide (d ≤ faultPct s)) l.runBack
  let c := inc (st == 1 && decide (d ≤ uncalPct s - 5 / 100)) l.runCal
  let h := ldgHold s
  let st' := if h ≤ f then 2 else if h ≤ u then 1 else if h ≤ b then 1 else if h ≤ c then 0 else st
  { l with state := st', runUncal := if st' = 0 then u else 0, runFault := if st' = 2 then 0 else f,
           runBack := if st' = 2 then b else 0, runCal := if st' = 1 && st == 1 then c else 0 }

/-- Where a context's energy of the interval goes: the segments set apart and the running one (08 R238). -/
def parts (s : State) (n : Acc) : List LdgSeg :=
  let l := s.ldg.acc[n]
  l.segs ++ (List.finRange 49).map fun c =>
    let job : BitVec 64 := if h : c.1 < 48 then
        let sl := s.ldg.slot[n][c.1]'h
        if sl.inForce then sl.job else 0
      else 0
    { ctx := c, job := job, fJ := l.eCtx[c], held := l.held[c], closed := none }

/-- What one accelerator posts for an interval: each part with its microjoules, and the interval entry. -/
structure Posting where
  parts : List (LdgSeg × Nat)
  entry : IntervalAcc
deriving DecidableEq, Repr

/-- The whole of a list of parts under a test. -/
def partSum (l : List (LdgSeg × Nat)) (p : LdgSeg → Bool) : Nat := ((l.filter fun x => p x.1).map (·.2)).sum

/-- The posting of one accelerator (08 R230 to R235). -/
def postingOf (s : State) (n : Acc) : Posting × LdgAcc :=
  let l := s.ldg.acc[n]
  let eMeas : Int := l.meas / 10
  let ps := parts s n
  let eModFj : Rat := (ps.map (·.fJ)).sum + l.unheld
  let eMod : Rat := eModFj / 1000000000
  let live := decide (9 ≤ chState s n) && decide (0 < l.steps)
  let fl : BitVec 10 := l.flags ||| (if live then 0 else 0x10)
  let noAct := fl.getLsbD 4
  let eval := decide (1000000 ≤ eMeas) && !noAct
  let d : Rat := if eMeas = 0 then 0 else abs ((eMeas : Rat) - eMod) / eMeas
  let l1 := if eval then ldgRuns s d l else l
  let st := if coefMissing s n then 2 else l1.state
  let k : Rat := if eMod ≤ 0 then 1 else min 1 ((eMeas : Rat) / eMod)
  let amount (p : LdgSeg) : Nat :=
    if !live then 0
    else if st = 2 then (((eMeas : Rat) * (if l.avail = 0 then 0 else p.held / l.avail)).floor).toNat
    else ((k * p.fJ / 1000000000).floor).toNat
  let out := ps.map fun p => (p, amount p)
  let bal := partSum out fun p => p.ctx == 48
  let unb := partSum out fun p => p.ctx != 48 && p.job == 0
  let job := partSum out fun p => p.ctx != 48 && p.job != 0
  let fl := fl ||| (if eval && decide (uncalPct s < d) then 0x1 else 0)
    ||| (if eval && decide (faultPct s < d) then 0x2 else 0)
    ||| (if live && st == 2 then 0x4 else 0) ||| (if live && st != 2 && decide (k < 1) then 0x80 else 0)
  let e : IntervalAcc := {
    eMeas := eMeas, eMod := eMod, eBal := bal, eOvh := eMeas - (bal + unb + job : Nat), eUnbound := unb,
    k := k, d := if eval then some d else none, state := st, flags := fl, opp := l.opp, band := l.band,
    steps := l.steps }
  (⟨out, e⟩, { l1 with
    eCtx := Vector.replicate 49 0, held := Vector.replicate 49 0, avail := 0, unheld := 0, steps := 0,
    flags := 0, meas := l.meas - 10 * eMeas, segs := [], state := st })

/-- The slot and account entries of one accelerator's posting (08 R233, R234, R240). -/
def postAcc (n : Acc) (p : Posting) (s : State) : State :=
  let fl := p.entry.flags.toNat
  let add (i : Fin 25) (x : Int) (s : State) : State := s.modLdg fun l => { l with
    account := l.account.set i (l.account[i] + x), accountFlags := l.accountFlags.set i (l.accountFlags[i] ||| fl) }
  let s := add ⟨n.1, by omega⟩ p.entry.eOvh s
  let s := add ⟨8 + n.1, by omega⟩ p.entry.eBal s
  let s := add ⟨16 + n.1, by omega⟩ p.entry.eUnbound s
  (List.finRange 48).foldl (fun s c =>
    let e := partSum p.parts fun x => x.ctx == c.castSucc && x.job != 0
    let sl := s.ldg.slot[n][c]
    if sl.job = 0 then s else
    let s := s.setSlot n c fun l => { l with
      energy := l.energy + e, flags := if l.inForce || l.closing then l.flags ||| fl else l.flags }
    let sl := s.ldg.slot[n][c]
    if sl.closing && !sl.inForce then
      let m := s.ldg.cjLast + 1
      let r : ClosedJob := {
        number := m, job := sl.job, energy := sl.energy, bindTick := sl.bindTick,
        closeInterval := s.sys.tick / 1000, slot := n.1 * 48 + c.1, flags := sl.flags, first := sl.first }
      (s.modLdg fun l => { l with cjLast := m, closed := (r :: l.closed).take 1048576 }).setSlot n c fun l =>
        { l with job := 0, closing := false, epochClose := false, bindTick := 0, first := 0, energy := 0, flags := 0 }
    else s) s

/-- Interval j is posted, once, at tick 1,000 j (08 R222, R242). -/
def postDue (s : State) : State :=
  let t := s.sys.tick
  let j := t / 1000
  if t % 1000 ≠ 0 ∨ s.ldg.last = j then s else
  let post : List (Acc × Posting × LdgAcc) := accList.map fun n => (n, postingOf s n)
  let eTray : Int := s.ldg.trayMeas / 10
  let ovh : Int := eTray - (post.map fun x => x.2.1.entry.eMeas).sum
  let rec_ : IntervalRec := {
    number := j, trayE := eTray, trayOvh := ovh, tflags := s.ldg.tflags,
    accs := post.map fun x => x.2.1.entry,
    slotUj := post.flatMap fun x => (List.finRange 48).map fun c =>
      partSum x.2.1.parts fun p => p.ctx == c.castSucc && p.job != 0,
    share := post.flatMap fun x => (List.finRange 48).map fun c =>
      let l := s.ldg.acc[x.1]
      if l.avail = 0 then 0 else ((x.2.1.parts.filter fun p => p.1.ctx == c.castSucc).map fun p => p.1.held).sum / l.avail }
  let s := post.foldl (fun s x =>
    let e := x.2.1.entry
    let old := s.ldg.acc[x.1].state
    let s := s.setLdg x.1 fun _ => x.2.2
    let s := if (e.state == old) = true then s else hostEvent 10 (emit s 7 x.1.1 0xFF 0x0801 e.state)
    postAcc x.1 x.2.1 s) s
  s.modLdg fun l => { l with
    ring := (rec_ :: l.ring).take 16384, last := j, posted := l.slot, trayMeas := l.trayMeas - 10 * eTray,
    account := l.account.set 24 (l.account[(24 : Fin 25)] + ovh),
    cfg := l.nextCfg.getD l.cfg, nextCfg := none,
    coef := Vector.ofFn fun b => l.nextCoef[b].orElse fun _ => l.coef[b],
    tflags := if l.nextCoef.toList.any (·.isSome) then 2 else 0, nextCoef := Vector.replicate 3 none }

/-- LEDGER_POSTING (08 R242), at every tick that is a multiple of 1,000. -/
def execLedgerPosting (s : State) : Out3 := .next (postDue s)

/-- LEDGER_STEP (08 R227), at every tick that is a multiple of 10; the step of tick 1,000 j belongs to interval j + 1, so
interval j is posted before it (08 R222). -/
def execLedgerStep (s : State) : Out3 :=
  if s.sys.tick % 10 ≠ 0 then .next s else
  let s := postDue s
  let due := s.ldg.changes.filter fun x => x.at_ ≤ s.sys.tick
  let s := due.foldl (fun s x => takeChange x s) s
  let s := s.modLdg fun l => { l with changes := l.changes.filter fun x => s.sys.tick < x.at_ }
  let s := accList.foldl (fun s n => ledgerAcc n s) s
  .next (s.modLdg fun l => { l with
    trayMeas := l.trayMeas + s.brm.trayP, tflags := l.tflags ||| (if traySubst s then 1 else 0) })

/-- A slot counts as bound (08 R237). -/
def slotBound (s : State) (n : Acc) (c : Fin 48) : Bool :=
  s.ldg.slot[n][c].job != 0 && !s.ldg.slot[n][c].closing

/-- Some slot of an accelerator in S9-S12 is bound (14 R441). -/
def anyBound (s : State) : Bool :=
  accList.any fun n => decide (9 ≤ chState s n) && (List.finRange 48).any fun c => slotBound s n c

end Sys2Proof.Machine
end

