-- ==== Sys2Proof/Machine/CmdTune.lean ====
section
/-! DEFINITION. What the supervision, steering, Ledger, Sorus and bring-up commands do once they are judged (15 R457,
R462). -/

namespace Sys2Proof.Machine

open Sys2Proof

/-! Supervision (05 R139, R149; 15 R457). -/

/-- A margin with 1 % of headroom lies within a window, on the side toward which it moves the rail (05 R139, R149). -/
def marginFits (w : Word) (m : Int) : Bool :=
  if m = 0 then true else decide (m.natAbs + 4 ≤ (if m < 0 then fld w 0 8 else fld w 8 8))

/-- sup.set_window: staged (05 R139, 00 R10). -/
def applySetWindow (r : Rail) (w d : Word) (s : State) : State × Option Ans :=
  if 118 ≤ r.1 ∧ !declared s r then refuse 0x0205 r.1 s
  else if r.1 < 112 ∧ r.1 % 14 ≠ 11 ∧ r.1 % 14 ≠ 12 ∧ !marginFits w s.sup.marginNow[r] then refuse 0x0505 r.1 s
  else done (s.modSup fun u => { u with staged := u.staged ++ [.window r w d] })

/-- sup.set_fast_window: staged. -/
def applySetFast (k : Fin 16) (w : Word) (s : State) : State × Option Ans :=
  done (s.modSup fun u => { u with staged := u.staged ++ [.fast k w] })

/-- Why a margin target is refused (05 R149, R153; 13 R387; 14 R417); 0 for none. -/
def marginReason (s : State) (r : Rail) (n : Acc) (m : Int) : Nat :=
  let core := decide (r.1 % 14 = 11) || decide (r.1 % 14 = 12)
  if pstate s ≠ .sequencing ∧ chState s n ≠ 11 then 0x0501
  else if !s.crz.rail[r].stable then 0x0502
  else if s.crz.chan[accChan n].fault then 0x0201
  else if !core && !marginFits s.sup.win[r] m then 0x0504
  else if s.twb.formatFault[r] then 0x0506
  else if !convOk s (accChan n) then 0x0507
  else if core && s.twb.avs[n].failed then 0x0D01
  else 0

/-- sup.margin: the target of the walk of 05 R151. -/
def applyMargin (r : Rail) (m : Int) (s : State) : State × Option Ans :=
  match accOfRail r with
  | none => (s, some badParam)
  | some n =>
    let why := marginReason s r n m
    if why ≠ 0 then refuse why r.1 s else done (s.modSup fun u => { u with marginTgt := u.marginTgt.set r m })

/-! Steering (06 R174, R186, R190, R193; 15 R457). -/

/-- steer.set_mode: steering may not be asked for in rack states 5 to 7 (06 R190). -/
def applySteerMode (w : Word) (s : State) : State × Option Ans :=
  if 5 ≤ s.rack.state.1 ∧ s.rack.state.1 ≤ 7 ∧ !fldB w 0 then refuse 0x0601 0xFF s
  else done (s.modStr fun r => { r with ctrl := w })

/-- steer.set_phase_pref (06 R174). -/
def applyPhasePref (n : Acc) (p : BitVec 64) (s : State) : State × Option Ans := done (s.setStr n fun a => { a with pref := p })

/-- steer.set_park_order (06 R186). -/
def applyParkOrder (w : Word) (s : State) : State × Option Ans := done (s.modStr fun r => { r with parkOrder := w })

/-- steer.set_group: the shifts of the groups that lose or gain an accelerator are set to 0 (15 R457). -/
def applySteerGroup (w : Word) (s : State) : State × Option Ans :=
  let old := s.str.group
  let g (v : Word) (n : Acc) : Nat := fld v (4 * n.1) 3
  let touched := accList.flatMap fun n => if g old n = g w n then [] else [g old n, g w n]
  let s := s.modStr fun r => { r with group := w }
  done (forAll accList (fun n s => if touched.contains (g w n) then s.setStr n fun a => { a with shift := 0 } else s) s)

/-! The Ledger (08 R229, R237 to R240; 15 R457). -/

/-- Accelerator and context of a slot number (00 R8). -/
def slotAt (x : Nat) : Option (Acc × Fin 48) :=
  if h : x < 384 then some (⟨x / 48, by omega⟩, ⟨x % 48, Nat.mod_lt _ (by omega)⟩) else none

/-- ledger.bind_job (08 R237, R238). A slot whose closed-job record is not written yet still reads bound (08 R240). -/
def applyBind (n : Acc) (c : Fin 48) (ec : Bool) (job : BitVec 64) (s : State) : State × Option Ans :=
  let sl := s.ldg.slot[n][c]
  let x := n.1 * 48 + c.1
  let u := stepAfter s.sys.tick
  let j := intervalOf u
  if slotBound s n c then refuse 0x0801 x s
  else if sl.change = some j then refuse 0x0803 x s
  else if sl.closing then refuse 0x0801 x s
  else
    let s := s.setSlot n c fun l => { l with
      job := job, inForce := false, closing := false, epochClose := ec, first := j, energy := 0, flags := 0,
      change := some j }
    let s := s.modLdg fun l => { l with changes := l.changes ++ [{ acc := n, ctx := c, bind := true, at_ := u }] }
    doneWith (leBytes 8 j) (emit s 6 n.1 x 0x0802 (job.toNat % 65536))

/-- ledger.unbind_job (08 R237, R240); a drain that waits for it ends (14 R441). -/
def applyUnbind (n : Acc) (c : Fin 48) (s : State) : State × Option Ans :=
  let sl := s.ldg.slot[n][c]
  let x := n.1 * 48 + c.1
  let u := stepAfter s.sys.tick
  let j := intervalOf u
  if sl.job = 0 then refuse 0x0802 x s
  else if sl.change = some j then refuse 0x0803 x s
  else if sl.closing then refuse 0x0802 x s
  else
    let s := s.setSlot n c fun l => { l with closing := true, change := some j }
    let s := s.modLdg fun l => { l with changes := l.changes ++ [{ acc := n, ctx := c, bind := false, at_ := u }] }
    doneWith (leBytes 8 j) (drainCheck (emit s 6 n.1 x 0x0803 1))

/-- ledger.set_coeff: the table of a bin, from the next interval (08 R229). -/
def applySetCoeff (b : Fin 3) (l : List Word) (s : State) : State × Option Ans :=
  done (emit (s.modLdg fun g => { g with nextCoef := g.nextCoef.set b (some l) }) 5 8 b.1 0x0804 0)

/-- ledger.set_config: from the next interval (08 R243). -/
def applyLdgConfig (w : Word) (s : State) : State × Option Ans := done (s.modLdg fun g => { g with nextCfg := some w })

/-! Bring-up (11 R337, R341). -/

/-- bup.test: a run of its own for an accelerator in S12 with no active context (11 R341). -/
def applyBupTest (n : Acc) (s : State) : State × Option Ans :=
  let c := s.crz.chan[accChan n]
  if c.state ≠ 12 ∨ c.target ≠ 12 ∨ c.fault ∨ (s.str.acc[n].ctx.toList.any (·.active)) then refuse 0x0B01 n.1 s
  else if s.twb.avs[n].failed then refuse 0x0D01 n.1 s
  else
    let (d, s) := drawRun n s
    let s := (startRefs n d s).setBup n fun b => { b with solo := true }
    doneWith (leBytes 4 d.1) (aimAcc n 11 (s.setAcc n fun a => { a with testWanted := true }))

/-- bup.journal_forget: a KIND 9 entry (11 R337); refused for a serial that a channel has fitted, as its identity block
was last read. -/
def applyForget (serial : BitVec 64) (s : State) : State × Option Ans :=
  if accList.any fun n => (s.acc[n].ident.map (·.serial)) == some serial then refuse 0x0B02 0xFF s
  else done (appendEntry { kind := 9, bin := 0, formats := 0, unit := 0, serial := serial, runId := 0, boot := s.nv.boots,
                           position := 0 } s)

end Sys2Proof.Machine
end

