-- ==== Sys2Proof/Machine/CmdPlant.lean ====
section
/-! DEFINITION. What the cooling, two-wire and network commands do once they are judged (15 R462 to R464). -/

namespace Sys2Proof.Machine

open Sys2Proof

/-! Cooling (12 R363, R378, R380; 15 R462). -/

/-- A cooling setting waits for the next cooling loop (15 R462). -/
def stageCooling (c : Cmd) (s : State) : State × Option Ans := done (s.modCool fun k => { k with staged := k.staged ++ [c] })

/-- cool.clear_fault: every named pump failed, its loop's flow at FLOW_MIN (12 R363, 15 R466). -/
def applyClearPumps (pumps : Byte) (s : State) : State × Option Ans :=
  let named := (List.finRange 4).filter fun (p : Pump) => pumps.getLsbD p.1
  match named.find? fun p => s.cool.pump[p].state ≠ 4 ∨ s.cool.loop[(⟨p.1 / 2, by omega⟩ : Loop)].okSince.isNone with
  | some p => refuse 0x0C07 p.1 s
  | none => done (forAll named (fun p s => s.setPump p fun _ => { state := 3 }) s)

/-- cool.clear_leak: after 10 s of dry readings, 201 evaluations 50 ms apart (12 R374, R376, R378). -/
def applyClearLeak (z : Fin 10) (s : State) : State × Option Ans :=
  if s.cool.leak[z].dryRun < 201 then refuse 0x0C05 z.1 s
  else done (islandForce (s.setLeak z fun x => { x with latch := false }))

/-- cool.set_mode: cause 4 of table mode (12 R368). -/
def applyCoolMode (m : Byte) (s : State) : State × Option Ans :=
  done (tableCheck (s.modCool fun k => { k with hostTable := decide (m = 1) }))

/-! Two-wire ports (13 R393 to R395, R411). -/

/-- The port, AVSBus and target registers: RATE and ALERT_EN of a port, PEC always on, AVSBus RATE 3 ignored (13 R412). -/
def putTwb (p a : List Word) (t : Word) (s : State) : State :=
  s.modTwb fun b => { b with
    port := Vector.ofFn fun (i : Port) =>
      let w := p.getD i.1 0
      { b.port[i] with cfg := setFld (setFld (0x200 : Word) 0 2 (fld w 0 2)) 10 1 (if i.1 = 10 then 0 else fld w 10 1) }
    avs := Vector.ofFn fun (n : Acc) =>
      let w := a.getD n.1 0
      { b.avs[n] with cfg := if fld w 0 2 = 3 then setFld w 0 2 (fld b.avs[n].cfg 0 2) else w }
    addr := fld t 8 7 }

/-- Bytes of a transfer on the bus, with address, command, count and PEC bytes (SMBus; 13 R388). -/
def xferBytes (proto wlen rlen : Nat) : Nat :=
  match proto with
  | 0 => 3 | 1 => 3 | 2 => 4 | 3 => 5 | 4 => 5 | 5 => 6
  | 6 => wlen + 4
  | _ => rlen + 5

/-- A transfer that fits no gap of its bus (13 R390, R393): on the tray segment nothing longer than 51 us and no block; on
a main bus at 400 kHz what takes more than the 4.35 ms that the burst leaves, at 22.5 us a byte. -/
def tooLong (s : State) (p : Port) (proto wlen rlen : Nat) : Bool :=
  if p.1 = 8 then decide (5 ≤ proto)
  else if p.1 < 8 ∧ fld s.twb.port[p].cfg 0 2 = 1 then decide (43500 < 225 * xferBytes proto wlen rlen)
  else false

/-- A count of failures added to a saturating byte. -/
def addSat (k x : Nat) : Nat := min 255 (x + k)

/-- The outcome of a raw transfer on the bus (13 R389, R394, R395): a failure is the third, and the eighth loss is the
last. -/
def xferEnd (p : Port) (addr rlen : Nat) (e : TransferEnd) (s : State) : State × Option Ans :=
  match e with
  | .ok d => doneWith (d.take rlen) s
  | .nack => (s.setPort p fun x => { x with nack := addSat 3 x.nack }, some { res := .nack })
  | .pecError => (s.setPort p fun x => { x with nack := addSat 3 x.nack, pec := addSat 3 x.pec }, some { res := .pecError })
  | .arbLost k a b i d =>
    let s := s.setPort p fun x => { x with
      arbLost := addSat (min k 8) x.arbLost,
      arb := BitVec.ofNat 32 (a.toNat * 2 ^ 16 + b.toNat * 2 ^ 8 + i.toNat) }
    match d, decide (k < 8) with
    | some d, true => doneWith (d.take rlen) s
    | _, _ =>
      let s := emit s 7 (if p.1 < 8 then p.1 else if p.1 = 8 then 8 else 9) p.1 0x0D04 addr
      (s.setPort p fun x => { x with arbLost := addSat (8 - min k 8) x.arbLost }, some { res := .arbFail })

/-- twb.transfer (13 R393, R401, R411). -/
def applyTransfer (p : Port) (addr proto wlen rlen : Nat) (e : TransferEnd) (s : State) : State × Option Ans :=
  if s.twb.port[p].stuck then (s, some { res := .busFault })
  else if tooLong s p proto wlen rlen then (s, some { res := .tooLong })
  else xferEnd p addr rlen e s

/-- How a transfer submitted on another path ends, where no operand says so: a free outcome (notes/assumptions/3.md). -/
def freeEnd (rlen : Nat) (x : BitVec 256) : TransferEnd :=
  let d := leBytes rlen (x.toNat / 16)
  match x.toNat % 4 with
  | 0 => .ok d
  | 1 => .nack
  | 2 => .pecError
  | _ => .arbLost 8 (BitVec.ofNat 7 (x.toNat / 16)) (BitVec.ofNat 8 (x.toNat / 2048)) (BitVec.ofNat 3 (x.toNat / 2 ^ 20)) none

/-! Network (14 R428, R431; 15 R462). -/

/-- net.set_config: an all-zero address is none. -/
def putNet (udp : BitVec 16) (l : List (BitVec 128)) (g : BitVec 128) (s : State) : State :=
  s.modNet fun n => { n with udp := udp, addrs := l.map fun a => a, group := g }

/-- A port of an FMP source. -/
def portOf (x : Source) : Fin 2 := if x = .fmp1 then 1 else 0

/-- net.subscribe: the sender's lease renewed, or the lowest free one opened (14 R431). -/
def applySubscribe (streams version : Byte) (div : BitVec 16) (q : Reply) (s : State) : State × Option Ans :=
  let mine (o : Option Lease) : Bool := match o with | some l => l.addr == q.addr && l.udp == q.udp | none => false
  let ks := List.finRange 4
  let old := ks.find? fun k => mine s.net.leases[k]
  match old.or (ks.find? fun k => s.net.leases[k].isNone) with
  | none => refuse 0x0E02 0xFF s
  | some k =>
    let l : Lease := { addr := q.addr, udp := q.udp, port := portOf q.src, records := streams.getLsbD 0,
                       events := streams.getLsbD 1, version := version, div := div.toNat, expiry := s.sys.tick + 1000000 }
    let s := s.modNet fun n => { n with leases := n.leases.set k (some l) }
    doneWith [BitVec.ofNat 8 k.1] (emit s 5 9 k.1 0x0E03 (if old.isSome then 2 else 1))

end Sys2Proof.Machine
end

