-- ==== Sys2Proof/Machine/CmdFw.lean ====
section
/-! DEFINITION. What the firmware, key, lifecycle and debug commands and sys.commit_epoch do once they are judged (15
R465; 16 R480 to R507). -/

namespace Sys2Proof.Machine

open Sys2Proof

/-- A change that sets the FIRMWARE host event (16 R508). -/
def firmware (s : State) (obj code detail : Nat) : State := hostEvent 12 (emit s 7 9 obj code detail)

/-! Images (16 R492 to R496, R501). -/

/-- A staging area holds the whole image. -/
def stageFull (x : StageState) : Bool := x.total != 0 && x.data.length == x.total

/-- fw.stage (16 R492): a FIRST chunk clears the area and its VERIFIED flag; the last chunk is FW_STAGED. -/
def applyFwStage (t : Fin 3) (first : Bool) (total : Nat) (data : List Byte) (s : State) : State × Option Ans :=
  let x := s.sec.stage[t]
  let x : StageState := { verified := x.verified && !first, total := total, data := (if first then [] else x.data) ++ data }
  let s := s.modSec fun c => { c with stage := c.stage.set t x }
  done (if stageFull x then firmware s t.1 0x1002 t.1 else s)

/-- Interface and Sorus version compatibility (16 R502). -/
def versionOk (s : State) (t : Nat) (b : List Byte) : Bool :=
  if t = 0 then
    decide (ifverN s ≤ imgIfver b + 1) && decide (imgIfver b ≤ ifverN s + 1) &&
      accList.all fun n => let l := s.srs.link[n]
        !l.verSeen || l.ver.toNat == imgSrs b || l.ver.toNat + 1 == imgSrs b
  else imgSrs b == fld s.srs.ver 8 8 || imgSrs b == fld s.srs.ver 0 8

/-- fw.verify (16 R493). -/
def applyFwVerify (t : Fin 3) (s : State) : State × Option Ans :=
  let x := s.sec.stage[t]
  if !stageFull x then refuse 0x1007 t.1 s else
  let r := verifyImage s t.1 x.data
  if r = 2 then (s, some badParam)
  else if r = 6 then refuse 0x100A t.1 s
  else if r ≠ 1 then (s, some { res := .authFail })
  else if s.sec.committed < imgEpochMin x.data ∨ imgEpochMax x.data < s.sec.committed then refuse 0x100B t.1 s
  else if !versionOk s t.1 x.data then refuse 0x1011 t.1 s
  else done (firmware (s.modSec fun c => { c with stage := c.stage.set t { x with verified := true } }) t.1 0x1003 1)

/-- An accelerator image waits for its inactive slot, and is written at once outside S9 to S11 (16 R501). -/
def queueAccWrite (b : List Byte) (n : Acc) (s : State) : State :=
  let now := decide (chState s n < 9) || decide (chState s n = 12)
  s.setAccFw n fun a => { a with
    write := some (1 - (selectOf s n).active, b), writing := now, state := if now then 3 else a.state }

/-- Accelerators of a family that are fitted, as their identity blocks say (16 R501, 03 R64). -/
def familyMembers (s : State) (f : Nat) : List Acc :=
  accList.filter fun n => match s.acc[n].ident with | some id => id.fwFamily.toNat == f | none => false

/-- A controller trial is in progress (16 R494). -/
def inTrial (s : State) : Bool := match s.nv.boot with | some b => b.trial | none => false

/-- An activation is under way, up to its warm reset (16 R494). -/
def activating (s : State) : Bool :=
  s.sec.activate.isSome || s.sec.goldenWrite.isSome || s.sec.activated || s.sec.resetTick.isSome

/-- fw.activate (16 R494 to R496, R501, R507). -/
def applyFwActivate (t : Fin 3) (slot : Nat) (golden : Bool) (s : State) : State × Option Ans :=
  let x := s.sec.stage[t]
  if !x.verified then refuse 0x1008 t.1 s
  else if t = 0 ∧ s.sec.bootSlot = slot then refuse 0x1009 slot s
  else if t = 0 ∧ inTrial s then refuse 0x100F 0xFF s
  else if s.sec.goldenBad[t] && !golden then refuse 0x1010 t.1 s
  else if golden && !s.sys.wpN then refuse 0x1004 0xFF s
  else if activating s then refuse 0 0xFF s
  else if t = 0 then
    done (s.modSec fun c => { c with activate := some { slot := slot, image := x.data, golden := golden } })
  else
    let s := forAll (familyMembers s (t.1 - 1)) (queueAccWrite x.data) s
    done (if golden then s.modSec fun c => { c with goldenWrite := some (t.1, x.data) } else s)

/-! Debug (16 R485 to R488). -/

/-- The debug level changes: DBG_HIST, the counter of unlocks and DEBUG_LEVEL (16 R488). -/
def setDebug (level : Nat) (x : BitVec 256) (s : State) : State :=
  let h := Config.sha3 (bytes32 s.sec.dbgHist ++ leBytes 1 level ++ bytes32 x)
  let s := s.modSec fun c => { c with debug := level, dbgHist := h }
  let s := if level = 0 then s else s.modNv fun v => { v with unlocks := satAdd 0xFFFF v.unlocks }
  emit s 7 9 0xFF 0x100A level

/-- sec.debug_challenge (16 R486). -/
def applyChallenge (s : State) : State × Option Ans :=
  if s.sys.tick < s.sec.refuseUntil then refuse 0x100C 0xFF s else
  let (x, s) := s.draw
  doneWith (bytes32 x) (s.modSec fun c => { c with nonce := some (x, s.sys.tick + 6000000) })

/-- Manifest keys with a use, from the manifest of the vendor in BLANK, RMA and RETIRED and of the owner otherwise (16
R483, R489). -/
def signerKeys (s : State) (use : Nat) : List (List Byte) :=
  let vendor := decide (s.nv.lc = 0) || decide (3 ≤ s.nv.lc)
  if leAt s.nv.manifest 0xC 1 = (if vendor then 0 else 1) then keysFor s use else []

/-- sec.debug_unlock (16 R486, R487). -/
def applyUnlock (level : Nat) (sig : List Byte) (s : State) : State × Option Ans :=
  match s.sec.nonce with
  | none => refuse 0x100C 0xFF s
  | some (x, t) =>
    if t ≤ s.sys.tick then refuse 0x100C 0xFF s
    else if level = 2 ∧ !(s.rack.detached && accList.all fun n => chState s n == 0) then refuse 0x100D 0xFF s
    else
      let m := serialBytes s ++ leBytes 1 s.nv.lc ++ leBytes 1 level ++ bytes32 x ++ bytes32 s.sec.dbgHist
      let s := s.modSec fun c => { c with nonce := none }
      if (signerKeys s 3).any fun p => Config.mldsaVerify p m "FM8 debug" sig then
        done (setDebug level x (s.modSec fun c => { c with failRun := 0 }))
      else
        let third := decide (2 ≤ s.sec.failRun)
        let s := s.modSec fun c => { c with
          fails := satAdd 0xFFFF c.fails, failRun := if third then 0 else c.failRun + 1,
          refuseUntil := if third then s.sys.tick + 6000000 else c.refuseUntil }
        (emit s 7 9 0xFF 0x100A (0x10 + level), some { res := .authFail })

/-- sec.debug_lock (16 R487). -/
def applyLock (s : State) : State × Option Ans :=
  if s.sec.debug ≠ 1 then refuse 0x1002 0xFF s else done (setDebug 0 0 s)

/-! Lifecycle (16 R483, R484). -/

/-- The transition stands in the table of 16 R483. -/
def lcLegal (old new : Nat) : Bool :=
  (old == 0 && new == 1) || (old == 1 && new == 2) || ((old == 1 || old == 2) && new == 3) || (old != 4 && new == 4)

/-- The pending owner manifest is valid with its own root as OWNER_ROOT (16 R483), and not older than the one it replaces (R468). -/
def pendingOk (s : State) : Bool :=
  manifestBy s.nv.pendManifest (Config.sha3 (rootPub s.nv.pendManifest)) 1 &&
    decide (leAt s.nv.manifest 8 4 ≤ leAt s.nv.pendManifest 8 4)

/-- sec.set_lifecycle: accepted here, carried out by LIFECYCLE_FUSED (16 R484). -/
def applyLifecycle (new : Nat) (sig : List Byte) (s : State) : State × Option Ans :=
  let old := s.nv.lc
  if !lcLegal old new ∨ s.sec.lifecycle.isSome then refuse 0x100E 0xFF s
  else if old = 0 ∧ new = 1 ∧ !s.sys.wpN then refuse 0x1004 0xFF s
  else if old = 0 ∧ new = 1 ∧ !pendingOk s then refuse 0x100E 0xFF s
  else if old = 1 ∧ new = 2 ∧ keyOf s 1 = blankKey s then refuse 0x100E 0xFF s
  else done (s.modSec fun c => { c with lifecycle := some (new, sig) })

/-! Keys and the epoch (16 R480, R503, R504). -/

/-- sec.set_key: unwrapped under the rack key in force (16 R480). -/
def applySetKey (k : Fin 3) (w : List Byte) (q : Reply) (s : State) : State × Option Ans :=
  let kr := keyOf s 1
  let x := serialBytes s ++ leBytes 8 q.ctr.toNat ++ leBytes 1 (k.1 + 1)
  let c := w.take 32
  let ks := Config.kmac kr x 256 "FM8 wrap"
  let key : BitVec 256 := BitVec.ofNat 256 (leNat c) ^^^ ks
  if BitVec.ofNat 128 (leNat (w.drop 32)) ≠ Config.kmac kr (x ++ c) 128 "FM8 wtag" then (s, some { res := .authFail })
  else if key = blankKey s then (s, some badParam)
  else done (emit (s.modSec fun z => { z with keys := z.keys.set k (some key), storeDue := true }) 7 9 (k.1 + 1) 0x100C (k.1 + 1))

/-- No rack sequence runs: state 1 or 8, or detached with the tray at rest, running or in HOLD (16 R504). -/
def quietRack (s : State) : Bool :=
  s.rack.state == 1 || s.rack.state == 8 ||
    (s.rack.detached && (s.rack.state == 15 || (s.rack.state == 0 && atRest s)))

/-- sys.commit_epoch (16 R504). -/
def applyCommitEpoch (e : Nat) (s : State) : State × Option Ans :=
  if e ≠ s.sec.committed + 1 ∨ epochMax s < e then refuse 0x1006 0xFF s
  else if !quietRack s then refuse 0x1005 0xFF s
  else done (firmware (s.modSec fun c => { c with committed := e, storeDue := true }) 0xFF 0x100D e)

end Sys2Proof.Machine
end

