-- ==== Sys2Proof/Machine/Frond.lean ====
section
/-! DEFINITION. The Frond slots (09 R264 to R283): loading and its checks, launches and captures, posting of a run,
reloads from flash, aborts, and the frond commands of 15 R458 to R461. -/

namespace Sys2Proof.Machine

open Sys2Proof

/-- PERIOD of a slot's resident model, 0 when empty. -/
def slotPeriod (k : FrdSlot) : Nat := match k.model with | some b => (frcHeader b).period | none => 0

/-- PERIOD of the model that the next launch runs (09 R267). -/
def nextPeriod (k : FrdSlot) : Nat := match k.next with | some b => (frcHeader b).period | none => slotPeriod k

/-- MODEL_ID and MODEL_VERSION of the resident model. -/
def slotModelId (k : FrdSlot) : Nat := match k.model with | some b => (frcHeader b).modelId | none => 0
def slotVersion (k : FrdSlot) : Nat := match k.model with | some b => (frcHeader b).version | none => 0

/-- Units of 100 ns, rounded up (09 R281). -/
def boundUnits (us : Rat) : Nat := (us * 10).ceil.toNat

/-- Utilisation of the periodic slots other than `x`, with four engines: a model that waits counts for the one it replaces
(09 R263). -/
def utilisation (s : State) (x : Slot) : Rat :=
  ((List.finRange 4).map fun (k : Slot) =>
    if k = x then (0 : Rat) else
    match s.frd.slot[k].next.or s.frd.slot[k].model with
    | none => 0
    | some b => let p := (frcHeader b).period
                if p = 0 then 0 else runBound b 4 / (10 * p)).sum

/-- Bytes of the weight store in use; with `cold`, the present model of slot `x` does not count (09 R246, R267). -/
def weightUse (s : State) (x : Slot) (cold : Bool) : Nat :=
  ((List.finRange 4).map fun (k : Slot) =>
    let of (o : Option (List Byte)) : Nat := match o with | some b => (frcHeader b).weightLen | none => 0
    (if k = x && cold then 0 else of s.frd.slot[k].model) + (if k = x then 0 else of s.frd.slot[k].next)).sum

/-- The load checks in order: 0 or the reason of the first failure (09 R266). -/
def loadReason (s : State) (x : Slot) (b : List Byte) (cold : Bool) : Nat :=
  let h := frcHeader b
  let kind := if x.1 = 0 then 0 else if x.1 = 1 then 1 else 2
  let p := pstate s
  if p = .off ∨ p = .safe ∨ !modelLoadAllowed s then 11
  else match modelKey s (BitVec.ofNat 256 (leAt b 0x60 32)) with
  | none => 2
  | some pub =>
    if !Config.mldsaVerify pub (b.take (b.length - 2420)) "" (b.drop (b.length - 2420)) then 1
    else if Config.sha3 (slice b h.weightOff h.weightLen) ≠ BitVec.ofNat 256 (leAt b 0x40 32) then 3
    else if h.version < modelFloor s h.modelId then 4
    else if h.kind ≠ kind then 5
    else if !(structureOk b && kindRules b) then 6
    else if 24 * 1048576 < h.weightLen ∨ 4 * 1048576 < workspaceBytes b then 7
    else if (frcCosts b 4).any (fun c => decide (17000 < c)) ∨
      (if kind = 0 then 50 else if kind = 1 then 200 else 2000) < runBound b 4 then 8
    else if h.period ≠ 0 ∧ 1 / 2 < utilisation s x + runBound b 4 / (10 * h.period) then 9
    else if 28 * 1048576 < weightUse s x cold + h.weightLen then 10
    else 0

/-- The result of a refused load (09, load rejection reasons). -/
def loadAns (r : Nat) : Ans :=
  if r ≤ 3 then { res := .authFail }
  else if r = 4 ∨ 9 ≤ r then { res := .stateConflict, reason := 0x0900 + r }
  else { res := .badParam }

/-- A slot's state reset and its record (09 R260, R283). -/
def resetSlotState (x : Slot) (why : Nat) (s : State) : State :=
  emit (s.setFrd x fun k => { k with leaky := [], captures := [] }) 7 9 x.1 0x0906 why

/-- A slot emptied, and its record (09 R283). -/
def emptySlot (x : Slot) (why : Nat) (s : State) : State :=
  hostEvent 11 (emit (s.setFrd x fun k => { k with
    model := none, state := 0, boundG4 := 0, boundOwn := 0, leaky := [], captures := [] })
    7 9 x.1 0x0903 why)

/-- A container becomes the resident model, its state reset (09 R267, R283). -/
def seatModel (x : Slot) (b : List Byte) (s : State) : State :=
  resetSlotState x 2 <| s.setFrd x fun k => { k with
    model := some b, next := none, state := 2,
    prevAct := Vector.replicate 8 none,
    boundG4 := boundUnits (runBound b 4), boundOwn := boundUnits (runBound b (max 1 s.nv.frondEng)) }

/-- What waits for the end of a run (09 R278): a state reset, then an unload, after which a model accepted meanwhile is seated. -/
def afterRun (x : Slot) (s : State) : State :=
  let k := s.frd.slot[x]
  let s := s.setFrd x fun k => { k with afterReset := false, afterUnload := none }
  let s := if k.afterReset then resetSlotState x 1 s else s
  match k.afterUnload with
  | none => s
  | some why =>
    let s := emptySlot x why s
    match k.next with
    | some b => seatModel x b s
    | none => s

/-- A verified container is accepted for a slot (09 R267): seated at once in an empty slot, else at the next launch. Where the
store cannot hold both models, the present one is unloaded first, after the run in progress. -/
def acceptModel (x : Slot) (b : List Byte) (s : State) : State :=
  let k := s.frd.slot[x]
  let full := k.model.isSome && decide (28 * 1048576 < weightUse s x false + (frcHeader b).weightLen)
  let s := s.setFrd x fun k => { k with
    reject := 0, next := some b, afterUnload := if full then k.afterUnload.or (some 2) else k.afterUnload }
  let s := if k.model.isNone then seatModel x b s
    else if full && k.run.isNone then afterRun x s
    else s
  hostEvent 11 (emit s 7 9 x.1 0x0901 ((frcHeader b).version % 65536))

/-- A refused container (09 R266). -/
def rejectModel (x : Slot) (r : Nat) (s : State) : State :=
  hostEvent 11 (emit (s.setFrd x fun k => { k with reject := r }) 7 9 x.1 0x0902 r)

/-- Activity rate of an accelerator over the slot's last run period (09, input sources). -/
def activityRate (old new : Option Activity) (kind : Nat) : Rat :=
  match old, new with
  | some o, some a =>
    let f := frameInc (some o) a 0
    let of (c : List Nat) : Rat := if kind = 4 then (idleOf 1 c).1 else ((c.getD kind 0 : Nat) : Rat)
    let sum : Rat := ((f.counters.take 48).map of).sum
    if kind ≤ 4 then (if f.avail = 0 then Config.overZero sum else sum / f.avail)
    else (if f.dtNs = 0 then 0 else sum * 1000 / f.dtNs)
  | _, _ => if kind ≤ 4 then Config.overZero 0 else 0

/-- The value of an input source in its physical unit (09, input sources). -/
def sourceValue (s : State) (k : FrdSlot) (e : FrcIn) : Rat :=
  match accOf e.unit with
  | some n =>
    if e.source = 1 then (s.brm.pMeas[n] : Rat) / 1000
    else if e.source = 2 then (s.brm.bal[n] : Rat)
    else if e.source = 3 then (oppSeen s n : Rat)
    else if e.source = 4 then (bandOf s n : Rat)
    else if e.source = 5 then (tjSeen s n : Rat) / 16
    else if e.source = 6 then activityRate k.prevAct[n] (frameSeen s n) e.sub
    else if e.source = 7 then
      ((s.str.acc[n].ctx.toList.filter fun c => c.active && c.phase == e.sub).length : Rat)
    else if e.source = 8 then s.str.acc[n].wFilt.getD 0
    else 0
  | none =>
    if e.source = 9 then (s.brm.trayP : Rat) / 1000
    else if e.source = 0xA then (brmCap s : Rat)
    else if e.source = 0xB then (s.brm.line : Rat) / 1000
    else if e.source = 0xC then thermC s e.sub
    else if e.source = 0xD then fanDuty s e.sub / 100
    else if e.source = 0xE then flowLpm s e.sub
    else if e.source = 0xF then (s.brm.theta : Rat) / 64
    else 0

/-- A capture reads something stale (09 R275). -/
def captureStale (s : State) (b : List Byte) : Bool :=
  let h := frcHeader b
  (List.range h.inCount).any fun i =>
    let e := frcIn b h i
    match accOf e.unit with
    | some n => e.source ≤ 8 && (s.str.acc[n].stale || (e.source == 1 && decide (3 ≤ s.brm.staleP[n])))
    | none => e.source == 9 && decide (3 ≤ s.brm.staleT)

/-! The order of work (09 R272): one part at a time, of at most two ticks. -/

/-- Launch ticks of the ready work, highest priority first; the reference job is ready whenever it is in progress. -/
def readyWork (s : State) : List (FrdWork × Nat) :=
  ((List.finRange 4).filterMap fun (x : Slot) => s.frd.slot[x].run.map fun r => (FrdWork.slot x, r.launch))
    ++ (if s.frd.refBusy then [(FrdWork.refs, 0)] else [])

/-- Priority of a work: 0 highest. -/
def workRank : FrdWork → Nat
  | .slot x => x.1
  | .refs => 4

/-- The work whose part is in progress: a work of higher priority that has been ready for more than two ticks has got its
turn. -/
def curWork (s : State) : Option FrdWork :=
  match (readyWork s).find? fun w => decide (w.2 + 2 < s.sys.tick) with
  | some w => (match s.frd.cur with
    | some c => if workRank c < workRank w.1 then some c else some w.1
    | none => some w.1)
  | none => s.frd.cur

/-- The last part of a work may end now: it is in progress, or nothing of higher priority is ready. -/
def mayEnd (w : FrdWork) (s : State) : Bool :=
  curWork s == some w || !(readyWork s).any fun v => decide (workRank v.1 < workRank w)

/-- A work becomes ready: it begins where the array was idle. -/
def workReady (w : FrdWork) (s : State) : State := s.modFrd fun f => { f with cur := (curWork s).or (some w) }

/-- A work has ended or was aborted: the array takes the highest ready one, where that was the one in progress. -/
def workEnd (w : FrdWork) (s : State) : State :=
  match s.frd.cur with
  | some c => if c = w ∨ workRank w < workRank c then
      s.modFrd fun f => { f with cur := (readyWork s).head?.map (·.1) } else s
  | none => s.modFrd fun f => { f with cur := (readyWork s).head?.map (·.1) }

/-- A launch: the waiting model takes over, a staged offset takes effect, one capture is latched (09 R267, R271, R281). -/
def launch (x : Slot) (reply : Option Reply) (s : State) : State :=
  let s := match s.frd.slot[x].next with
    | some b => seatModel x b s
    | none => s
  let s := s.modFrd fun f => { f with
    sched := setByte f.sched x.1 (f.nextOffset[x].getD (fld f.sched (8 * x.1) 8)), nextOffset := f.nextOffset.set x none }
  let k := s.frd.slot[x]
  match k.model with
  | none => s
  | some b =>
    let h := frcHeader b
    let cap := (List.range h.inCount).map fun i => sourceValue s k (frcIn b h i)
    workReady (.slot x) (s.setFrd x fun k => { k with
      captures := (cap :: k.captures).take 16,
      prevAct := Vector.ofFn fun n => frameSeen s n,
      run := some { launch := s.sys.tick, staleIn := captureStale s b, reply := reply } })

/-- The output block that frond.run and frond.status return (15 R458). -/
def outputBlock (k : FrdSlot) : List Byte :=
  leBytes 8 k.doneTick ++
  leBytes 1 ((if k.staleIn then 1 else 0) + (if k.clamped then 2 else 0) + (if k.skipGen then 4 else 0)
    + (if k.abortGen then 8 else 0)) ++
  leBytes 1 k.outs.length ++ List.replicate 6 0 ++ k.outs.flatMap fun o => leBytes 4 (f32Code o.2.2).toNat

/-- FROND_LAUNCH (09 R271, R274, R276). -/
def execFrondLaunch (x : Slot) (s : State) : Out3 :=
  let k := s.frd.slot[x]
  let per := nextPeriod k
  let off := fld s.frd.sched (8 * x.1) 8
  if per = 0 ∨ k.state ≠ 2 ∨ pstate s = .safe ∨ s.nv.frondEng = 0 ∨ s.sys.tick % per ≠ off % per then .next s else
  if k.run.isSome then
    let n := satAdd 0xFFFF k.skips
    .next (emit (s.setFrd x fun k => { k with skips := n, skipGen := true }) 7 9 x.1 0x0904 n)
  else .next (launch x none s)

/-- Posting of outputs to their readers (09 R277): no value of the thermal predictor's run before stays beside them. -/
def postOuts (b : List Byte) (outs : List (Nat × Nat × Rat)) (s : State) : State :=
  let t := s.sys.tick
  let s := if (frcHeader b).kind = 1 then
      s.modFrd fun f => { f with tjPred := Vector.replicate 8 none, coolPred := none } else s
  outs.foldl (fun s o =>
    match accOf o.2.1 with
    | some n =>
      if o.1 = 1 then s.modFrd fun f => { f with
        pPred := f.pPred.set n (some { tick := t, horizon := (frcHeader b).horizon, watts := o.2.2 }) }
      else if o.1 = 2 then s.modFrd fun f => { f with tjPred := f.tjPred.set n (some (t, o.2.2)) }
      else s
    | none => if o.1 = 3 then s.modFrd fun f => { f with coolPred := some (t, o.2.2) } else s) s

/-- The frond.run commands that wait for a slot end without a run. -/
def dropQueue (x : Slot) (s : State) : State :=
  forAll s.frd.slot[x].queue (fun q s => completeLate q.1 { res := .stateConflict, reason := 0x0912, object := x.1 } s)
    (s.setFrd x fun k => { k with queue := [] })

/-- The next frond.run that waits for a slot launches (15 R461). -/
def nextQueued (x : Slot) (s : State) : State :=
  match s.frd.slot[x].queue with
  | [] => s
  | (q, rst) :: rest =>
    if s.frd.slot[x].model.isNone then dropQueue x s else
    let s := s.setFrd x fun k => { k with queue := rest }
    launch x (some q) (if rst then resetSlotState x 1 s else s)

/-- FROND_RUN_DONE (09 R272, R277): outputs, state, the command that waited, and the next queued command. -/
def execFrondRunDone (x : Slot) (s : State) : Out3 :=
  let k := s.frd.slot[x]
  match k.run, k.model with
  | some r, some b =>
    if !mayEnd (.slot x) s then .next s else
    let (outs, clamped, leaky) := runModel b k.captures k.leaky
    let s := workEnd (.slot x) (s.setFrd x fun k => { k with
      run := none, outs := outs, doneTick := s.sys.tick, staleIn := r.staleIn, clamped := clamped, leaky := leaky,
      runsGen := k.runsGen + 1 })
    let s := postOuts b outs s
    let s := match r.reply with
      | some q => completeLate q { data := outputBlock s.frd.slot[x] } s
      | none => s
    .next (nextQueued x (afterRun x s))
  | _, _ => .next s

/-- SAFE aborts the runs in progress, with no state reset (09 R276). -/
def frondSafe (s : State) : State :=
  forAll (List.finRange 4) (fun (x : Slot) s =>
    match s.frd.slot[x].run with
    | none => s
    | some r =>
      let s := workEnd (.slot x) (s.setFrd x fun k => { k with run := none })
      let s := match r.reply with
        | some q => completeLate q { res := .aborted } s
        | none => s
      afterRun x (dropQueue x s)) s

/-- An uncorrectable error touches a slot (09 R270): a run is aborted, the state reset, and the slot reloads; an unload that waits
for the end of the run is done instead. -/
def frondError (x : Slot) (s : State) : State :=
  let k := s.frd.slot[x]
  let s := match k.run with
    | none => s
    | some r =>
      let n := satAdd 0xFFFF k.aborts
      let s := workEnd (.slot x) (s.setFrd x fun k => { k with
        run := none, aborts := n, abortGen := true, afterReset := false })
      let s := s.modFrd fun f => { f with ueSeen := true }
      let s := resetSlotState x 3 (emit s 7 9 x.1 0x0905 n)
      match r.reply with
      | some q => completeLate q { res := .aborted } s
      | none => s
  let s := dropQueue x s
  if k.afterUnload.isSome then afterRun x s
  else if k.model.isSome then (emptySlot x 3 s).setFrd x fun k => { k with state := 3, next := none }
  else s

/-- A reset of the part starts the load of every slot that has a flash copy: STATE is verifying, since FAULTED is kept for
errors (09 R269, R281). -/
def frondReload (s : State) : State :=
  (List.finRange 4).foldl (fun s (x : Slot) =>
    if s.nv.frdFlash[x].isSome && s.nv.frondEng ≠ 0 then s.setFrd x fun k => { k with state := 1 } else s) s

/-- FROND_RELOAD_DONE (09 R269, R270): the full checks on the flash copy. -/
def execFrondReloadDone (x : Slot) (s : State) : Out3 :=
  if s.frd.slot[x].state ≠ 3 ∧ s.frd.slot[x].state ≠ 1 then .next s else
  match s.nv.frdFlash[x] with
  | none => .next (s.setFrd x fun k => { k with state := 0 })
  | some b =>
    let r := loadReason s x b true
    if r = 0 then .next (acceptModel x b (s.setFrd x fun k => { k with state := 0 }))
    else .next (rejectModel x r (s.setFrd x fun k => { k with state := 0 }))

/-- FROND_PERSIST_DONE (15 R460, 09 R268): flash copy, then the stored minimum version. -/
def execFrondPersistDone (x : Slot) (s : State) : Out3 :=
  match s.frd.slot[x].persist with
  | none => .next s
  | some b =>
    let h := frcHeader b
    let s := s.setFrd x fun k => { k with persist := none }
    .next (s.modNv fun v => { v with
      frdFlash := v.frdFlash.set x (some b),
      modelMin := (h.modelId, max h.version (modelFloor s h.modelId)) :: v.modelMin.filter fun p => p.1 ≠ h.modelId })

/-- frond.stage (15 R458, R459). -/
def applyFrondStage (x : Slot) (first : Bool) (offset total : Nat) (data : List Byte) (s : State) : State × Option Ans :=
  let k := s.frd.slot[x]
  let bad := 32 * 1048576 < total ∨ data.length = 0 ∨ 4000 < data.length ∨
    (if first then offset ≠ 0 else offset ≠ k.staged.length ∨ total ≠ k.total) ∨
    total < (if first then 0 else k.staged.length) + data.length
  if bad then (s, some { res := .badParam }) else
  let st := (if first then [] else k.staged) ++ data
  (s.setFrd x fun k => { k with staged := st, total := total }, some { data := leBytes 4 st.length })

/-- frond.load (15 R458 to R460, 09 R266 to R268). -/
def applyFrondLoad (x : Slot) (flash cold persist : Bool) (s : State) : State × Option Ans :=
  let k := s.frd.slot[x]
  if flash && persist then (s, some { res := .badParam })
  else if !flash && (k.staged.length ≠ k.total || k.total = 0) then
    (s, some { res := .stateConflict, reason := 0x0910, object := x.1 })
  else
    let src := if flash then s.nv.frdFlash[x] else some k.staged
    match src with
    | none => (s, some { res := .stateConflict, reason := 0x0912, object := x.1 })
    | some b =>
      let r := loadReason s x b cold
      if r ≠ 0 then (rejectModel x r s, some (loadAns r)) else
      let h := frcHeader b
      let s := acceptModel x b s
      (if persist then s.setFrd x fun k => { k with persist := some b } else s,
       some { data := leBytes 8 h.modelId ++ leBytes 4 h.version ++ leBytes 2 (boundUnits (runBound b 4)) ++
                leBytes 2 (boundUnits (runBound b (max 1 s.nv.frondEng))) })

/-- frond.unload (15 R458, 09 R278). -/
def applyFrondUnload (x : Slot) (erase : Bool) (s : State) : State × Option Ans :=
  let k := s.frd.slot[x]
  if k.model.isNone then (s, some { res := .stateConflict, reason := 0x0912, object := x.1 }) else
  let s := if erase then s.modNv fun v => { v with frdFlash := v.frdFlash.set x none } else s
  let s := s.setFrd x fun k => { k with next := none, afterUnload := some 1 }
  (if k.run.isSome then s else afterRun x s, some {})

/-- frond.run (15 R458, R461). `q` is the command's ticket; no answer means that the run is in flight. -/
def applyFrondRun (x : Slot) (before only : Bool) (q : Reply) (s : State) : State × Option Ans :=
  let k := s.frd.slot[x]
  if k.model.isNone then (s, some { res := .stateConflict, reason := 0x0912, object := x.1 })
  else if only then
    let s := if k.run.isSome then s.setFrd x fun k => { k with afterReset := true } else resetSlotState x 1 s
    (s, some { data := outputBlock k })
  else if nextPeriod k ≠ 0 then (s, some { res := .stateConflict, reason := 0x0911, object := x.1 })
  else if k.run.isSome then (s.setFrd x fun k => { k with queue := k.queue ++ [(q, before)] }, none)
  else (launch x (some q) (if before then resetSlotState x 1 s else s), none)

/-- frond.set_sched (15 R458, 09 R281). -/
def applyFrondSched (w : Word) (s : State) : State × Option Ans :=
  if (List.range 4).any fun i => decide (99 < fld w (8 * i) 8) then (s, some { res := .badParam }) else
  (s.modFrd fun f => { f with nextOffset := Vector.ofFn fun (i : Slot) => some (fld w (8 * i.1) 8) }, some {})

end Sys2Proof.Machine
end

