-- ==== Sys2Proof/Machine/View.lean ====
section
/-! DEFINITION. What a reader sees: the register images of every block, the State Record as bytes (02 R51 to R53), and
the data of the read commands (15 R445 to R465). -/

namespace Sys2Proof.Machine

open Sys2Proof

/-! Byte helpers. -/

/-- A number that is too large for its field shows its low bits. -/
def w16 (x : Nat) : List Byte := leBytes 2 x
def w32 (x : Nat) : List Byte := leBytes 4 x
def w64 (x : Nat) : List Byte := leBytes 8 x

/-- A signed quantity in `n` bytes. -/
def sInt (n : Nat) (x : Int) : List Byte := leBytes n (twos (8 * n) x)

/-- A list made exactly `n` long, zeros behind it. -/
def padTo (n : Nat) (l : List Byte) : List Byte := (l ++ List.replicate n 0).take n

/-- A number with a bit for each index of a test. -/
def bits (n : Nat) (f : Nat → Bool) : Nat := (List.range n).foldl (fun x i => x + bit (f i) i) 0

/-- A mask over the accelerators. -/
def accMask (f : Acc → Bool) : Nat := accList.foldl (fun x n => x + bit (f n) n.1) 0

/-! SYS_ (01 R33, R35; 00 R2; 18 R528, R542, R545). -/

/-- SYS_CAP_UNITS. -/
def capUnits (s : State) : Nat :=
  s.nv.variant * 2 ^ 16 + 2 ^ 15 + 8 * 2 ^ 11 + 16 * 2 ^ 6 + bit s.nv.coolLiq 5 + s.nv.frondEng % 32

/-- SYS_STATUS. -/
def sysStatusW (s : State) : Nat :=
  pstateCode (pstate s) * 2 ^ 16 + bit s.sys.memShort 7 + bit s.sys.memEccUe 6 + bit s.sys.paceLow 5
    + bit s.sys.refclkLost 4 + bit s.sys.refclkWasLost 3 + bit s.sys.lockViol 2 + bit s.sys.fwRunning 1 + bit s.sys.safOk 0

/-- SYS_STRAP. -/
def strapW (s : State) : Nat :=
  bit s.sys.testEn 15 + bit (floating s != 0) 14 + bit s.sys.wpN 13 + s.sec.bootSel % 4 * 2 ^ 11 + critSel s % 8 * 2 ^ 8
    + slotNo s

/-- SYS_NET. -/
def netW (s : State) : Nat :=
  s.net.frameErr * 2 ^ 24 + s.net.dropped * 2 ^ 16 + s.net.rate[(1 : Fin 2)] * 4 + s.net.rate[(0 : Fin 2)]

/-- SYS_CXL. -/
def cxlW (s : State) : Nat :=
  s.link.downCount * 2 ^ 16 + bit s.link.ide 15 + bit s.link.mediaReady 14 + bit s.link.flit256 13 + s.link.width * 2 ^ 8
    + s.link.rate * 2 ^ 4

/-- SYS_FW_VER: the running image's version (16 R491). -/
def fwVer (s : State) : Nat := imgVersion s.sec.image

/-! BRM_ (07 R219, R220). -/

/-- BRM_STATUS. -/
def brmStatusW (s : State) : Nat :=
  let b := s.brm
  bit b.blindSeen 15 + bit b.forceSeen 14 + bit b.shortSeen 13 + bit b.active 10 + bit b.blind 9 + bit b.forced 8
    + bit b.short 7 + b.theta

/-- The BRM_ registers. -/
def brmRegs (s : State) : List Byte :=
  w32 (brmStatusW s) ++ w32 s.brm.set.cap.toNat ++ w32 s.brm.set.peak.toNat ++ w32 s.brm.set.avg.toNat
    ++ w32 s.brm.set.ramp.toNat ++ w32 s.brm.set.tol.toNat ++ w32 s.brm.set.balMax.toNat ++ sInt 4 s.brm.line
    ++ sInt 4 s.brm.upper ++ accList.flatMap fun n => w32 (s.brm.balCap[n] * 2 ^ 16 + s.brm.bal[n])

/-! CRZ_ (04 R112, R126). -/

/-- CRZ_RACK. -/
def rackW (s : State) : Nat :=
  let r := s.rack
  bit r.dupLeader 15 + bit r.mismatch 14 + bit r.armed 13 + bit r.detached 12 + bit r.driving 11 + bit r.line 10
    + bit (isLeader s) 9 + slotNo s * 16 + r.state.1

/-- The rails of a channel in index order. -/
def chanRails (c : Chan) : List Rail := (List.finRange 120).filter fun r => chanOf r == c

/-- XNET, index 13, counts as stable while STATE is below 3 (04 R112). -/
def xnetHeld (s : State) (c : Chan) : Bool :=
  decide (s.crz.chan[c].state < 3) && match accOf c.1 with
    | some n => s.crz.rail[railOf n 13].stable
    | none => false

/-- CRZ_CH_STATUS. -/
def chStatusW (s : State) (c : Chan) : Nat :=
  let x := s.crz.chan[c]
  bit x.waiting 23 + bit x.fault 22 + bit x.efuseOpen 21 + bit (xnetHeld s c) 20 + x.dir * 2 ^ 18
    + ((chanRails c).zipIdx).foldl (fun a (r, i) => a + bit s.crz.rail[r].stable (4 + i)) 0 + x.state

/-- CRZ_FAULT. -/
def chFaultW (s : State) (c : Chan) : Nat :=
  let x := s.crz.chan[c]
  x.fTrans * 2 ^ 16 + x.fState * 2 ^ 12 + x.fCode * 2 ^ 8 + x.fRail

/-- The data of `crz.status`. -/
def crzData (s : State) : List Byte :=
  w32 (rackW s) ++ chanList.flatMap fun c =>
    w32 s.crz.chan[c].target ++ w32 (chStatusW s c) ++ w32 (chFaultW s c) ++ w32 s.crz.chan[c].fTick

/-! SUP_ and rail entries (05 R147, R154). -/

/-- SUP_STATUS. -/
def supStatusW (s : State) : Nat :=
  bit s.sup.scSeen[(1 : Fin 2)] 3 + bit s.sup.scSeen[(0 : Fin 2)] 2 + bit s.sup.scFault[(1 : Fin 2)] 1
    + bit s.sup.scFault[(0 : Fin 2)] 0

/-- A rail entry (05 R147): 0xFFFF and no current for DIMM_PMIC, no current on a tray rail; stale while its converter is
in fault (05 R133). -/
def railBytes (s : State) (r : Rail) : List Byte :=
  let e := s.sup.entry[r]
  let q := s.crz.rail[r]
  let tray := decide (112 ≤ r.1)
  let blank := !tray && decide (r.1 % 14 = 8)
  let v (x : Nat) : List Byte := w16 (if blank then 0xFFFF else min 0xFFFF x)
  v e.v ++ v e.vMin ++ v e.vMax ++ v (if tray then 10 * nomOf s r else refOf s r)
    ++ w32 (if blank || tray then 0 else e.i)
    ++ leBytes 1 (bit q.en 0 + bit q.stable 1 + bit e.below 2 + bit e.above 3 + bit (s.sup.marginNow[r] != 0) 4
        + bit e.fastOut 5 + bit (e.stale || s.sup.scFault[convOf r]) 6 + bit e.mismatch 7)
    ++ sInt 1 s.sup.marginNow[r] ++ w16 0

/-- A slow-slot reading as `sup.status` shows it (05 R131, 15 R457). -/
def slowBytes (s : State) (c : Nat) (i : Nat) : List Byte :=
  if i = 15 then sInt 2 ((s.link.die[slotIx c]).getD 0)
  else if 12 ≤ i ∧ !s.nv.coolLiq then w16 0 else w16 (slowOf s c i)

/-- The data of `sup.status`. -/
def supData (s : State) : List Byte :=
  w32 (supStatusW s)
    ++ ((List.finRange 112).flatMap fun r => let q : Rail := r.castLE (by omega)
        w32 (twos 8 s.sup.marginNow[q] * 256 + twos 8 s.sup.marginTgt[q]))
    ++ ((List.finRange 8).flatMap fun j => railBytes s (trayRail j))
    ++ ((List.range 2).flatMap fun c => (List.range 16).flatMap fun i => slowBytes s c i)

/-! STR_ (06 R193, R194). -/

/-- STR_STATUS. -/
def strStatusW (s : State) : Nat :=
  let t := s.str
  t.overruns * 2 ^ 24 + t.quota * 2 ^ 16 + accMask (fun n => t.acc[n].park != .no) * 2 ^ 8 + bit t.unreach 6
    + bit t.shortfall 5 + bit (decide (s.sys.tick < t.recoveryEnd)) 4 + t.feltCause * 4 + bit (ffAvail s) 1 + bit t.felting 0

/-- A power in W as mW (06 R194). -/
def mwBytes (q : Rat) : List Byte := sInt 4 (toReport (1000 * q))

/-- A fraction in units of 0.01 % (06 R194). -/
def fracBytes (q : Rat) : List Byte := leBytes 2 (toReport (10000 * q)).toNat

/-- The steering detail of an accelerator (06 R194). -/
def steerBytes (s : State) (n : Acc) : List Byte :=
  let a := s.str.acc[n]
  leBytes 1 a.kPref ++ leBytes 1 a.kCap ++ leBytes 1 a.kTherm ++ leBytes 1 s.brm.kBrim[n] ++ leBytes 1 a.mode
    ++ leBytes 1 a.reason ++ w16 a.feltMhz ++ mwBytes a.alloc ++ mwBytes a.pWork
    ++ mwBytes (if a.ffUse then a.pPred else 0) ++ mwBytes a.shift ++ fracBytes (a.wFilt.getD 0)
    ++ leBytes 1 (groupOf s n) ++ leBytes 1 a.parkReason ++ w16 s.acc[n].relRefused ++ w16 0

/-- The data of `steer.status`. -/
def steerData (s : State) : List Byte :=
  w32 s.str.ctrl.toNat ++ w32 (strStatusW s) ++ w32 s.str.cfg.toNat ++ w32 s.str.cfg2.toNat ++ w32 s.str.parkOrder.toNat
    ++ w32 s.str.group.toNat ++ w32 s.str.thermCeil.toNat ++ accList.flatMap (steerBytes s)

/-- A context entry (06 R194). -/
def ctxEntry (s : State) (n : Acc) (c : Fin 48) : List Byte :=
  let x := s.str.acc[n].ctx[c]
  let pref := s.str.acc[n].pref.toNat / 16 ^ x.phase % 16
  leBytes 1 x.phase ++ leBytes 1 x.epoch ++ leBytes 1 (bit x.active 0 + bit x.setsK 1 + bit s.str.acc[n].stale 2)
    ++ leBytes 1 pref ++ w32 x.runNs ++ w32 x.collNs ++ fracBytes x.runFrac ++ fracBytes x.waitFrac ++ List.replicate 16 0

/-! LDG_ (08 R243). -/

/-- LDG_STATUS. -/
def ldgStatusW (s : State) : Nat :=
  accList.foldl (fun x n => x + s.ldg.acc[n].state * 2 ^ (2 * n.1 + 16)) 0 + bit (accList.any (coefMissing s)) 1
    + bit s.ldg.inconsistent 0

/-- The data of `ledger.status`. -/
def ldgData (s : State) : List Byte :=
  w32 (ldgStatusW s) ++ w32 s.ldg.cfg.toNat ++ w64 s.ldg.last
    ++ accList.flatMap fun n => s.ldg.slot[n].toList.flatMap fun l => w64 l.job.toNat

/-! FRD_ (09 R281, R282). -/

/-- A mask over the slots. -/
def slotBits (f : Slot → Bool) : Nat := (List.finRange 4).foldl (fun x k => x + bit (f k) k.1) 0

/-- FRD_STATUS. -/
def frdStatusW (s : State) : Nat :=
  let f := s.frd
  bit f.ueSeen 16 + slotBits (fun k => f.slot[k].state == 3) * 2 ^ 12 + slotBits (fun k => f.slot[k].run.isSome) * 2 ^ 4
    + slotBits (fun k => f.slot[k].state == 2)

/-- The FRD_ registers. -/
def frdRegs (s : State) : List Byte :=
  let f := s.frd
  w32 (frdStatusW s) ++ w32 f.sched.toNat ++ w32 (bit f.refBusy 31 + bit f.refAborted 30 + f.refDone)
    ++ ((List.finRange 4).flatMap fun (k : Slot) => let x := f.slot[k]
        w32 (x.reject * 2 ^ 24 + slotPeriod x * 2 ^ 8 + x.state) ++ w32 (x.boundG4 * 2 ^ 16 + x.boundOwn)
          ++ w32 (x.skips * 2 ^ 16 + x.aborts) ++ w32 (slotVersion x))
    ++ (List.finRange 4).flatMap fun (k : Slot) => w64 (slotModelId f.slot[k])

/-- A Frond slot entry (09 R282). -/
def frdEntry (k : FrdSlot) : List Byte :=
  leBytes 1 k.state ++ leBytes 1 (bit k.staleIn 0 + bit k.clamped 1 + bit k.skipGen 2 + bit k.abortGen 3) ++ w16 k.runsGen
    ++ w32 (slotVersion k) ++ w64 k.doneTick

/-- A predicted temperature, 1/16 degrees C; 0x8000 for none (09 R282). -/
def predBytes : Option (Nat × Rat) → List Byte
  | none => w16 0x8000
  | some (_, t) => sInt 2 (toReport (16 * t))

/-! SRS_ (10 R310). -/

/-- SRS_HEAD of a link: bytes 0 to 7 of the record at RF, all ones when empty (10 R305). -/
def headBytes (l : LinkState) : List Byte :=
  match l.queue with
  | [] => List.replicate 8 0xFF
  | r :: _ => slice (recBytes r) ((l.rf + 131072 - r.pos) % 131072) 8

/-- The registers of one link. -/
def linkRegs (l : LinkState) : List Byte :=
  w32 (fillOf l / 16 * 2 ^ 16 + l.preset * 2 ^ 12 + l.ver.toNat % 16 * 2 ^ 8 + bit l.dsLost 7 + bit l.paused 6
      + bit l.upLock 5 + l.state)
    ++ w32 l.w ++ w32 l.rf ++ w32 (l.crcErr * 2 ^ 16 + l.fmtErr) ++ w32 (l.overflow * 2 ^ 16 + l.seqGap)
    ++ w32 (l.underrun * 2 ^ 16 + l.flushed * 2 ^ 8 + l.ptrResets) ++ w32 l.age ++ headBytes l

/-- The data of `srs.status`. -/
def srsData (s : State) : List Byte :=
  w32 s.srs.cfg.toNat ++ w32 s.srs.eq.toNat ++ w32 s.srs.ver.toNat ++ accList.flatMap fun n => linkRegs s.srs.link[n]

/-! BUP_, the floor plan and the journal (11 R335, R339, R344). -/

/-- BUP_ACC[n].STAGE: verifying while the channel waits at S8 for the verification of its boot flash (11 R313, R344;
notes/assumptions/58.md). -/
def stageOf (s : State) (n : Acc) : Nat :=
  if s.bup.acc[n].stage = 0 ∧ chState s n = 8 ∧ s.crz.chan[accChan n].waiting ∧ !s.sec.acc[n].verified then 1
  else s.bup.acc[n].stage

/-- The BUP_ registers. -/
def bupRegs (s : State) : List Byte :=
  let b := s.bup
  w32 (accMask (fun n => chState s n == 12) * 2 ^ 8 + bit b.journalFull 7 + bit b.badSeen 6 + bit (fixedSeed s) 5
      + bit s.frd.refBusy 4)
    ++ w32 b.cfg.toNat ++ w32 s.nv.runId ++ w32 b.fpVer
    ++ w32 (b.bad * 2 ^ 16 + min 0xFFFF ((liveEntries s.nv.journal).length))
    ++ accList.flatMap fun n => let x := b.acc[n]
      w32 (x.testMode * 2 ^ 12 + x.trainMode * 2 ^ 8 + x.attempt * 2 ^ 4 + stageOf s n)
        ++ w32 (x.unusable * 2 ^ 16 + x.newFail)

/-- The floor-plan record (11 R339). -/
def planBytes (ver : Nat) (n : Acc) (p : FloorPlan) : List Byte :=
  w32 ver ++ leBytes 1 n.1 ++ leBytes 1 p.status ++ leBytes 1 p.bin ++ leBytes 1 p.binFuse ++ w64 p.serial.toNat
    ++ w32 p.runId ++ leBytes 1 p.testMode ++ leBytes 1 p.mask.die.toNat ++ leBytes 1 p.mask.hbm.toNat
    ++ leBytes 1 p.dimm.toNat ++ leBytes 1 p.xnet.toNat ++ [0] ++ w16 (72 * (8 - maskCount p.mask.hbm 0 8))
    ++ w16 (1024 - maskCount p.mask.core 0 1024) ++ w16 (16384 - maskCount p.mask.engine 0 16384)
    ++ w64 p.mask.cluster.toNat ++ w16 p.untested ++ List.replicate 22 0 ++ leBytes 128 p.mask.core.toNat
    ++ leBytes 2048 p.mask.engine.toNat

/-- A journal entry (11 R335). -/
def entryBytes (e : JEntry) : List Byte :=
  let b := leBytes 1 e.kind ++ leBytes 1 e.bin ++ leBytes 1 e.formats ++ [0] ++ w32 e.unit ++ w64 e.serial.toNat
    ++ w32 e.runId ++ w32 e.boot ++ leBytes 1 e.position ++ List.replicate 3 0
  b ++ w32 (Config.crc32 b).toNat

/-- The data of `bup.journal_read` (15 R462). -/
def journalData (s : State) (serial : BitVec 64) (first : Nat) : List Byte :=
  let l := serialEntries s serial
  let part := (l.drop first).take 120
  w16 (min 0xFFFF l.length) ++ w16 part.length ++ w32 0 ++ part.flatMap entryBytes

/-! COOL_ (12 R380). -/

/-- COOL_STATUS. -/
def coolStatusW (s : State) : Nat :=
  let k := s.cool
  bit k.shdnSeen 15 + bit k.leakSeen 14 + k.cause * 2 ^ 8 + bit k.table 7 + bit s.rack.shdn 6 + bit k.rackflt 5 + bit k.ror 4
    + bit (k.loop.toList.any (·.pressLow)) 3 + bit (k.loop.toList.any (·.lost)) 2 + bit k.est 1
    + bit (decide ((critMembers s).length < 3)) 0

/-- A duty in percent. -/
def dutyOf (q : Rat) : Nat := (toReport q).toNat

/-- COOL_THM. -/
def thmW (s : State) (i : Fin 24) : Nat :=
  let x := s.cool.thm[i]
  let t := x.v.bind thermOf
  let st := if roleOf s i = 0 then 3 else if x.failed then 2 else if x.v.isSome && t.isNone then 1 else 0
  twos 16 (match t with | some t => toReport (16 * t) | none => 0) * 2 ^ 16 + st

/-- A register of pumps, flow, pressure or leak channels: 0 where COOL_LIQ is 0 (00 R6). -/
def liquid (s : State) (x : Nat) : Nat := if s.nv.coolLiq then x else 0

/-- COOL_LEAK. -/
def leakReg (s : State) (c : Fin 10) : Nat :=
  let x := s.cool.leak[c]
  liquid s <| bit x.used 31 + x.res * 16 + bit x.latch 3 + (if !x.used then 3 else if x.failed then 2 else if x.reading = 1 then 1 else 0)

/-- The COOL_ registers. -/
def coolRegs (s : State) : List Byte :=
  let k := s.cool
  w32 (coolStatusW s) ++ w32 k.cfg.toNat ++ w32 k.cfg2.toNat ++ (k.curve.toList.flatMap fun w => w32 w.toNat)
    ++ (k.loop.toList.flatMap fun l => w32 (liquid s l.cfg.toNat)) ++ (k.rows.toList.flatMap fun w => w32 w.toNat)
    ++ (k.fanMap.toList.flatMap fun w => w32 w.toNat)
    ++ (k.fan.toList.flatMap fun f => w32 (f.rpm * 2 ^ 16 + dutyOf f.duty * 2 ^ 8 + f.state))
    ++ (k.pump.toList.flatMap fun p => w32 (liquid s (p.rpm * 2 ^ 16 + dutyOf p.duty * 2 ^ 8 + p.state)))
    ++ ((List.finRange 24).flatMap fun i => w32 (thmW s i)) ++ ((List.finRange 10).flatMap fun c => w32 (leakReg s c))
    ++ (k.thm.toList.flatMap fun t => w32 t.map.toNat)

/-- The cooling fields of the tray section (12 R381). -/
def coolTray (s : State) : List Byte :=
  let k := s.cool
  let temps := ((List.finRange 24).filter fun i => thmValid s i).map fun i => thmTemp s i
  let hi : Option Rat := temps.foldl (fun a t => match a with | none => some t | some x => some (max x t)) none
  let t16 (o : Option Rat) : List Byte := match o with | none => w16 0x8000 | some t => sInt 2 (toReport (16 * t))
  w32 (coolStatusW s) ++ t16 (tOut s) ++ t16 hi ++ (k.fan.toList.flatMap fun f => leBytes 1 (dutyOf f.duty))
    ++ (k.pump.toList.flatMap fun p => leBytes 1 (liquid s (dutyOf p.duty)))
    ++ ((List.range 2).flatMap fun l => w16 (toReport (100 * flowLpm s l)).toNat)
    ++ ((List.range 4).flatMap fun ch => w16 (liquid s (toReport (max 0 (pressOf (slowOf s (ch / 2) (13 + ch % 2))))).toNat))
    ++ w16 (bits 16 fun f => if h : f < 16 then k.fan[f].stalled else false)
    ++ leBytes 1 (bits 4 fun p => if h : p < 4 then k.pump[p].state == 4 else false) ++ [0]
    ++ w32 (bits 24 fun i => if h : i < 24 then k.thm[i].failed else false)
    ++ w16 (bits 10 fun c => if h : c < 10 then leakUsed s ⟨c, h⟩ && k.leak[c].reading == 1 else false)
    ++ w16 (bits 10 fun c => if h : c < 10 then leakUsed s ⟨c, h⟩ && k.leak[c].failed else false)

/-! TWB_ (13 R412). -/

/-- TWB_PORT with ISO of the main buses. -/
def portW (s : State) (p : Port) : Nat :=
  s.twb.port[p].cfg.toNat % 2 ^ 11 + (match accOf p.1 with | some n => bit s.acc[n].isoEn 11 | none => 0)

/-- TWB_PSTAT. -/
def pstatW (s : State) (p : Port) : Nat :=
  let x := s.twb.port[p]
  x.efbState * 2 ^ 8 + bit x.sdaLow 7 + bit x.sclLow 6 + bit x.alertMasked 5 + bit x.alertLine 4 + x.state

/-- The TWB_ registers. -/
def twbRegs (s : State) : List Byte :=
  let b := s.twb
  w32 (bits 8 (fun n => if h : n < 8 then b.port[n].efbStuck else false) * 2 ^ 11
      + bits 11 fun p => if h : p < 11 then b.port[p].stuck else false)
    ++ ((List.finRange 11).flatMap fun (p : Port) => let x := b.port[p]
        w32 (portW s p) ++ w32 (pstatW s p) ++ w32 (x.nack * 2 ^ 24 + x.pec * 2 ^ 16 + x.timeouts * 2 ^ 8 + x.arbLost)
          ++ w32 x.arb.toNat)
    ++ (accList.flatMap fun n => let a := b.avs[n]
        w32 a.cfg.toNat ++ w32 (a.crcErr * 2 ^ 16 + a.noResp))
    ++ w32 (b.dropped * 2 ^ 24 + b.eid.toNat * 2 ^ 16 + b.addr * 2 ^ 8)

/-! SEC_ (16 R505, R506). -/

/-- Something derived from UDS, which UDS_KILL blocks (16 R467). -/
def fromUds (s : State) (t : String) : BitVec 256 := if s.nv.udsKill then 0 else Config.kmac s.nv.uds [] 256 t

/-- The DeviceID public key (16 R475). -/
def devicePub (s : State) : List Byte := Config.mldsaPub (fromUds s "FM8 DeviceID")

/-- Seed and public key of the Alias key pair (16 R475). -/
def aliasSeed (s : State) : BitVec 256 := Config.kmac s.sec.cdi [] 256 "FM8 Alias"
def aliasPub (s : State) : List Byte := Config.mldsaPub (aliasSeed s)

/-- SEC_STATUS. -/
def secStatusW (s : State) : Nat :=
  let c := s.sec
  bit (decide (c.committed ≠ epochInForce s)) 22
    + (List.finRange 3).foldl (fun x k => x + bit c.goldenBad[k] (19 + k.1)) 0
    + (List.finRange 3).foldl (fun x k => x + bit (decide (keyOf s k = blankKey s)) (16 + k.1)) 0
    + bit (sealed s) 15 + bit (match c.nonce with | some (_, t) => decide (s.sys.tick < t) | none => false) 14
    + bit s.sys.wpN 13 + bit (inTrial s) 12 + c.bootSlot * 2 ^ 10 + c.bootSel * 2 ^ 8 + c.debug * 2 ^ 4 + s.nv.lc

/-- SEC_STAGE and SEC_STAGE_VER of a target. -/
def stageRegs (x : StageState) : List Byte :=
  w32 (bit x.verified 31 + bit (stageFull x) 30 + x.data.length) ++ w32 (imgVersion x.data)

/-- SEC_ACCFW and SEC_ACC_VER of an accelerator. -/
def accFwRegs (s : State) (n : Acc) : List Byte :=
  let a := s.sec.acc[n]
  let q := selectOf s n
  w32 (a.state * 2 ^ 12 + bit q.trial 11 + bit a.write.isSome 10 + q.active * 2 ^ 8 + familyOf s n) ++ w32 a.version

/-- The data of `fw.status`. -/
def fwData (s : State) : List Byte :=
  w32 (secStatusW s) ++ w32 (s.sec.gResult * 2 ^ 16 + s.sec.abResult * 2 ^ 8 + s.sec.cause * 2 ^ 4)
    ++ w32 (s.nv.svnMin * 2 ^ 16 + imgSvn s.nv.slot[(2 : Fin 3)] * 2 ^ 8 + imgSvn s.sec.image)
    ++ w32 (epochMax s * 2 ^ 16 + s.sec.committed)
    ++ (s.sec.stage.toList.flatMap stageRegs) ++ (accList.flatMap (accFwRegs s))
    ++ (s.nv.slot.toList.flatMap fun b => w32 (imgVersion b)) ++ (s.nv.golden.toList.flatMap fun b => w32 (imgVersion b))
    ++ (s.nv.lkg.toList.flatMap fun b => w32 (imgVersion b)) ++ w16 (imgEpochMin s.sec.image) ++ w16 0

/-- The data of `sec.status`. -/
def secData (s : State) : List Byte :=
  w32 (secStatusW s) ++ w32 (s.sec.fails * 2 ^ 16 + s.nv.unlocks) ++ bytes32 s.sec.dbgHist
    ++ bytes32 (Config.sha3 (devicePub s)) ++ bytes32 (Config.sha3 (aliasPub s))

/-! SAF_ (17 R523, R524). -/

/-- SAF_STATUS. -/
def safStatusW (s : State) : Nat :=
  let f := s.saf
  f.wdtCount * 2 ^ 16 + f.cause * 2 ^ 8 + bit f.bistFail 7 + bit f.degraded 6 + bit f.override 5 + bit f.safe 4
    + bit s.sys.safOk 3 + bit f.armed 2

/-! The State Record (02 R51 to R55). -/

/-- Record format: the interface version as major version, N or on a stream the N - 1 of its subscriber (02 R54); the manual
gives no minor version, 0 here, and no other layout for N - 1 (notes/assumptions/22.md). -/
def formatW (r : Record) : Nat := r.format * 2 ^ 16

/-- The header. -/
def headerBytes (s : State) (r : Record) : List Byte :=
  padTo 256 (w64 r.gen ++ w64 r.sealTick ++ w32 (formatW r) ++ w32 (bit r.backup 0 + bit r.trunc 1 + bit r.late 2)
    ++ w32 r.missed ++ w16 (epochInForce s) ++ leBytes 1 (pstateCode (pstate s)) ++ leBytes 1 s.rack.state.1
    ++ w32 (sysStatusW s) ++ w16 r.digest.length)

/-- The tray section. -/
def trayBytes (s : State) : List Byte :=
  let b := s.brm
  padTo 256 (sInt 4 b.trayP ++ sInt 4 (toReport b.w2Peak) ++ sInt 4 (toReport b.a100) ++ w32 (1000 * brmCap s)
    ++ w32 (10 * fld b.set.ramp 16 16) ++ w32 (1000 * b.bal.toList.sum)
    ++ sInt 4 b.line ++ sInt 4 b.upper ++ w32 (10 * fld b.set.ramp 0 16) ++ leBytes 1 b.theta
    ++ leBytes 1 (bit b.active 0 + bit b.blind 1 + bit b.forced 2 + bit b.shortGen 3 + bit b.thetaGen 4) ++ w16 0
    ++ sInt 4 b.shortW ++ w32 0
    ++ w64 s.ldg.last ++ w64 s.rack.deadline ++ (s.frd.slot.toList.flatMap frdEntry) ++ predBytes s.frd.coolPred
    ++ List.replicate 14 0 ++ w32 s.bup.fpVer ++ w32 s.nv.runId ++ w64 s.bup.readyTick ++ coolTray s
    ++ List.replicate 12 0 ++ w32 (safStatusW s) ++ w32 0 ++ w64 s.saf.causeTick ++ w32 (cxlW s) ++ w32 (netW s)
    ++ w32 (strapW s))

/-- The summary of an accelerator. -/
def accSummary (s : State) (n : Acc) : List Byte :=
  let a := s.acc[n]
  let t := s.str.acc[n]
  let k := s.cool.acc[n]
  let l := s.cool.leak[(⟨n.1, by omega⟩ : Fin 10)]
  padTo 256 (leBytes 1 (chState s n) ++ leBytes 1 a.bin ++ leBytes 1 a.oppReq ++ leBytes 1 (oppSeen s n)
    ++ leBytes 1 k.band ++ leBytes 1 (quotaOf s n)
    ++ w16 (bit (forced s n) 0 + bit a.forceL0 1 + bit (a.forceCrz || a.forceSaf) 2 + bit (a.forceBrim || a.forceLane) 3
        + bit (t.mode == 1) 4 + bit (t.park != .no) 5 + bit t.stale 6 + bit t.ffUse 7)
    ++ sInt 4 s.brm.pMeas[n] ++ w32 (1000 * s.brm.bal[n]) ++ sInt 2 (tjSeen s n) ++ w16 (ageSeen s n)
    ++ leBytes 1 s.ldg.acc[n].state ++ List.replicate 3 0 ++ w64 s.crz.chan[accChan n].chTick
    ++ w32 (framesOf s.srs.link[n] s.sys.tick) ++ predBytes s.frd.tjPred[n] ++ leBytes 1 (2 ^ k.refresh)
    ++ leBytes 1 (bit k.failed 0 + bit l.latch 1 + bit l.failed 2)
    ++ leBytes 1 (stageOf s n) ++ leBytes 1 s.bup.acc[n].trainMode ++ w16 s.bup.acc[n].unusable)

/-- A source table entry. -/
def sourceBytes (i : Nat) (e : SourceEntry) : List Byte :=
  padTo 32 (leBytes 1 i ++ leBytes 1 e.lastResult ++ w16 e.lastSeq.toNat ++ w32 0 ++ w64 e.lastCtr.toNat ++ w64 e.lastTick)

/-- A digest entry. -/
def evBytes (e : Ev) : List Byte :=
  w64 e.stamp ++ leBytes 1 e.cls ++ leBytes 1 e.unit ++ w16 e.object ++ w16 e.code ++ w16 e.detail

/-- The detail area of an accelerator. -/
def detailBytes (s : State) (n : Acc) : List Byte :=
  padTo 256 ((List.finRange 14).flatMap fun i => railBytes s (railOf n i))
    ++ ((List.finRange 48).flatMap fun c => ctxEntry s n c) ++ steerBytes s n

/-- A latched block set as a state, so that every image above reads it. -/
def viewOf (p : Snap) (s : State) : State :=
  { s with
    sys := p.sys, net := p.net, twb := p.twb, acc := p.acc, crz := p.crz, rack := p.rack, sup := p.sup, str := p.str,
    brm := p.brm, ldg := p.ldg, frd := p.frd, srs := p.srs, bup := p.bup, cool := p.cool, sec := p.sec, saf := p.saf,
    link := p.link, nv := p.nv, rcd := { s.rcd with source := p.source } }

/-- The summary section of a record, 32 KiB (02 R51). -/
def summaryBytes (s : State) (r : Record) : List Byte :=
  let v := viewOf r.snap s
  padTo 0x7FF8 (padTo 0x1000 (headerBytes v r ++ trayBytes v ++ accList.flatMap (accSummary v)
      ++ (v.rcd.source.toList.zipIdx).flatMap fun (e, i) => sourceBytes i e) ++ r.digest.flatMap evBytes)
    ++ w64 r.gen

/-- A whole State Record, 64 KiB (02 R51). -/
def recordBytes (s : State) (r : Record) : List Byte :=
  let v := viewOf r.snap s
  summaryBytes s r ++ padTo 0x7FF8 (accList.flatMap fun n => padTo 0x1000 (detailBytes v n)) ++ w64 r.gen

/-! Read commands (15 R445). -/

/-- The data of a read command, from the generation in SYS_GEN; before the first one, from the present state
(notes/assumptions/23.md). -/
def readData (s : State) (c : Cmd) : List Byte :=
  let v := match s.rcd.mirror with | some r => viewOf r.snap s | none => s
  match c with
  | .sysCapabilities =>
    w32 Config.sysId.toNat ++ w32 Config.sysRev.toNat ++ w64 v.nv.serial.toNat ++ w32 (capUnits v) ++ w32 (fwVer v)
      ++ leBytes 1 (ifverN v) ++ leBytes 1 (ifverN v - 1) ++ w16 (epochInForce v)
  | .sysStatus => match s.rcd.mirror with
    | some r => headerBytes v r ++ trayBytes v
    | none => List.replicate 512 0
  | .powerStatus => brmRegs v
  | .crzStatus => crzData v
  | .supStatus => supData v
  | .steerStatus => steerData v
  | .ledgerStatus => ldgData v
  | .frondStatus => frdRegs v ++ outputBlock v.frd.slot[(2 : Fin 4)] ++ outputBlock v.frd.slot[(3 : Fin 4)]
  | .srsStatus => srsData v
  | .bupFloorPlan a => match accOf a.toNat with
    | some n => planBytes v.bup.fpVer n v.bup.acc[n].plan
    | none => []
  | .bupJournalRead serial first => journalData v serial first.toNat
  | .bupStatus => bupRegs v
  | .coolStatus => coolRegs v
  | .twbStatus => twbRegs v
  | .fwStatus => fwData v
  | .secStatus => secData v
  | _ => []

end Sys2Proof.Machine
end

