-- ==== Sys2Proof/Machine/Store.lean ====
section
/-! DEFINITION. The commands marked Store (15 R448): which register each writes, how a stored value is loaded at reset,
and step 10 of 14 R414, the effect of each command of the catalogue (15 R450 to R465). -/

namespace Sys2Proof.Machine

open Sys2Proof

/-- The registers that a Store command writes, as a key of the configuration store; none is no Store command (15 R448). -/
def storeKey : Cmd → Option (Nat × Nat)
  | .powerSetEnvelope _ _ _ _ _ => some (0x0702, 0)
  | .crzSetDep _ => some (0x0220, 0)
  | .crzSetConfig _ _ => some (0x0221, 0)
  | .supSetWindow r _ _ => some (0x0501, r.toNat)
  | .supSetFastWindow k _ => some (0x0502, k.toNat)
  | .steerSetConfig _ _ _ _ => some (0x0605, 0)
  | .ledgerSetCoeff b _ => some (0x0803, b.toNat)
  | .ledgerSetConfig _ => some (0x0804, 0)
  | .frondSetSched _ => some (0x0905, 0)
  | .srsSetConfig _ _ => some (0x0A01, 0)
  | .bupSetConfig _ => some (0x0B05, 0)
  | .coolSetConfig _ _ => some (0x0C01, 0)
  | .coolSetCurve _ => some (0x0C02, 0)
  | .coolSetTable _ => some (0x0C03, 0)
  | .coolSetMap _ _ _ => some (0x0C04, 0)
  | .coolSetLoop _ => some (0x0C05, 0)
  | .twbSetConfig _ _ _ => some (0x0D01, 0)
  | .netSetConfig _ _ _ => some (0x0E01, 0)
  | _ => none

/-- A value takes the place of an older one of the same registers (15 R448). -/
def storePut (c : Cmd) (l : List Cmd) : List Cmd := c :: l.filter fun d => storeKey d != storeKey c

/-- Rail, fast comparator and bin of a byte. -/
def railByte (b : Byte) : Option Rail := if h : b.toNat < 120 then some ⟨b.toNat, h⟩ else none
def fastByte (b : Byte) : Option (Fin 16) := if h : b.toNat < 16 then some ⟨b.toNat, h⟩ else none
def binByte (b : Byte) : Option (Fin 3) := if h : b.toNat < 3 then some ⟨b.toNat, h⟩ else none

/-- A stored value goes to its registers (15 R448). -/
def putStored : Cmd → State → State
  | .powerSetEnvelope p a r t b, s => s.modBrm fun x => { x with
      set := { x.set with peak := p, avg := a, ramp := r, tol := t, balMax := b } }
  | .crzSetDep d, s => s.modCrz fun c => { c with dep := graphOf d }
  | .crzSetConfig w l, s => s.modCrz fun c => { c with seqCfg := w, stepwin := l.map BitVec.toNat }
  | .supSetWindow r w d, s => match railByte r with
    | some q => supPut (.window q w d) s
    | none => s
  | .supSetFastWindow k w, s => match fastByte k with
    | some q => supPut (.fast q w) s
    | none => s
  | .steerSetConfig c c2 t l, s => s.modStr fun r => { r with
      cfg := c, cfg2 := c2, thermCeil := t, leak := l.map fun w => fld w 0 16 }
  | .ledgerSetCoeff b l, s => match binByte b with
    | some q => s.modLdg fun g => { g with coef := g.coef.set q (some l) }
    | none => s
  | .ledgerSetConfig w, s => s.modLdg fun g => { g with cfg := w }
  | .frondSetSched w, s => s.modFrd fun f => { f with sched := w }
  | .srsSetConfig c e, s => s.modSrs fun r => { r with cfg := c, eq := e }
  | .bupSetConfig w, s => s.modBup fun b => { b with cfg := w }
  | .coolSetConfig c c2, s => newCooling (.coolSetConfig c c2) s
  | .coolSetCurve l, s => newCooling (.coolSetCurve l) s
  | .coolSetTable l, s => s.modCool fun k => { k with rows := Vector.ofFn fun (i : Fin 8) => l.getD i.1 0 }
  | .coolSetMap f t u, s => putMaps f t u s
  | .coolSetLoop l, s => forAll (List.finRange 2) (fun (i : Loop) s => s.setLoop i fun p => { p with
      cfg := loopWord p.cfg (l.getD i.1 0) }) s
  | .twbSetConfig p a t, s => putTwb p a t s
  | .netSetConfig u l g, s => putNet u l g s
  | _, s => s

/-- The registers of a Store command as a command that would write them (15 R448). -/
def storedNow (c : Cmd) (s : State) : Cmd :=
  match c with
  | .powerSetEnvelope _ _ _ _ _ =>
    let e := s.brm.set
    .powerSetEnvelope e.peak e.avg e.ramp e.tol e.balMax
  | .crzSetDep _ => .crzSetDep s.crz.dep
  | .crzSetConfig _ _ => .crzSetConfig s.crz.seqCfg (s.crz.stepwin.map (BitVec.ofNat 32))
  | .supSetWindow r _ _ => match railByte r with
    | some q => .supSetWindow r s.sup.win[q] (if h : q.1 - 112 < 8 then s.sup.trayDiv[(⟨q.1 - 112, h⟩ : Fin 8)] else 0)
    | none => c
  | .supSetFastWindow k _ => match fastByte k with | some q => .supSetFastWindow k s.sup.fwc[q] | none => c
  | .steerSetConfig _ _ _ _ => .steerSetConfig s.str.cfg s.str.cfg2 s.str.thermCeil (s.str.leak.map (BitVec.ofNat 32))
  | .ledgerSetCoeff b _ => match binByte b with | some q => .ledgerSetCoeff b (s.ldg.coef[q].getD []) | none => c
  | .ledgerSetConfig _ => .ledgerSetConfig s.ldg.cfg
  | .frondSetSched _ => .frondSetSched s.frd.sched
  | .srsSetConfig _ _ => .srsSetConfig s.srs.cfg s.srs.eq
  | .bupSetConfig _ => .bupSetConfig s.bup.cfg
  | .coolSetConfig _ _ => .coolSetConfig s.cool.cfg s.cool.cfg2
  | .coolSetCurve _ => .coolSetCurve s.cool.curve.toList
  | .coolSetTable _ => .coolSetTable s.cool.rows.toList
  | .coolSetMap _ _ _ => .coolSetMap s.cool.fanMap.toList (s.cool.thm.toList.map (·.map))
      (BitVec.ofNat 16 (bits 10 fun i => if h : i < 10 then s.cool.leak[i].used else false))
  | .coolSetLoop _ => .coolSetLoop (s.cool.loop.toList.map (·.cfg))
  | .twbSetConfig _ _ _ => .twbSetConfig (s.twb.port.toList.map (·.cfg)) (s.twb.avs.toList.map (·.cfg)) (BitVec.ofNat 32 (256 * s.twb.addr))
  | c => c

/-- A value that the store could not take waits no longer for its point of effect (15 R448; 01 R24). -/
def dropStaged (c : Cmd) (s : State) : State :=
  match c with
  | .powerSetEnvelope _ _ _ _ _ => s.modBrm fun b => { b with
      staged := b.staged.map fun e => { b.set with cap := e.cap } }
  | .supSetWindow r _ _ => s.modSup fun u => { u with
      staged := u.staged.filter fun x => match x with | .window q _ _ => q.1 != r.toNat | .fast _ _ => true }
  | .supSetFastWindow k _ => s.modSup fun u => { u with
      staged := u.staged.filter fun x => match x with | .window _ _ _ => true | .fast q _ => q.1 != k.toNat }
  | .srsSetConfig _ _ => s.modSrs fun r => { r with staged := none }
  | .coolSetTable _ => s.modCool fun k => { k with nextRows := none }
  | c => s.modCool fun k => { k with staged := k.staged.filter fun d => storeKey d != storeKey c }

/-- The registers of a value that the store could not take stay as they were (15 R448): as the store holds them, else as after
reset. -/
def takeBack (c : Cmd) (s : State) : State :=
  putStored ((s.nv.store.find? fun d => storeKey d == storeKey c).getD (storedNow c State.reset)) (dropStaged c s)

/-- The setting that a command addresses and the other role can address too (14 R440): a kind and an object. -/
def settingOf : Cmd → Option (Nat × Nat)
  | .supMargin r _ => some (0, r.toNat)
  | .crzClearFault c => some (1, c.toNat)
  | .frondLoad x _ _ => some (2, x.toNat)
  | .frondUnload x _ => some (2, x.toNat)
  | _ => none

/-- A use of an accelerator number that step 8 has admitted. -/
def onAcc (a : Byte) (f : Acc → State → State × Option Ans) (s : State) : State × Option Ans :=
  match accOf a.toNat with
  | some n => f n s
  | none => (s, some badParam)

/-- A use of a value that step 8 has admitted. -/
def onSome {α : Type} (o : Option α) (f : α → State → State × Option Ans) (s : State) : State × Option Ans :=
  match o with
  | some x => f x s
  | none => (s, some badParam)

/-- Step 10: the command is applied (14 R414). `bus` is the outcome of a raw two-wire transfer where the happening gives
it; an answer of none leaves the command in flight. -/
def applyCmd (bus : Option TransferEnd) (q : Reply) (c : Cmd) (s : State) : State × Option Ans :=
  match c with
  | .sysHeartbeat => done s
  | .sysCommitEpoch e => applyCommitEpoch e.toNat s
  | .powerSetCap w => applySetCap w s
  | .powerSetEnvelope p a r t b => applySetEnvelope p a r t b s
  | .rackPowerOn => applyRackOn s
  | .rackPowerOff g f => applyRackOff g f s
  | .rackHold => done (enterHold s)
  | .rackReset => applyRackReset s
  | .rackJoin => applyRackJoin s
  | .rackDetach => done (announce (detach s))
  | .trayPowerOn => applyTrayOn s
  | .trayPowerOff g f => applyTrayOff g f s
  | .trayFaultClear => applyFaultClear s
  | .crzSetDep d => applySetDep d s
  | .crzSetConfig w l => applyCrzConfig w l s
  | .crzClearFault c => if h : c.toNat < 9 then applyClearFault ⟨c.toNat, h⟩ s else (s, some badParam)
  | .partitionPowerOn a => onAcc a applyPowerOn s
  | .partitionPowerOff a m => onAcc a (fun n s => applyPartOff n (m == 1) q s) s
  | .partitionReset a m f => onAcc a (fun n s =>
      if m = 0 then applyReset n (f.getLsbD 0) q s
      else if m = 1 then applyResetForce n (f.getLsbD 0) s
      else applyResetAbort n s) s
  | .partitionPark a => onAcc a applyPark s
  | .partitionUnpark a => onAcc a applyUnpark s
  | .supSetWindow r w d => onSome (railByte r) (fun r s => applySetWindow r w d s) s
  | .supSetFastWindow k w => onSome (fastByte k) (fun k s => applySetFast k w s) s
  | .supMargin r m => onSome (railByte r) (fun r s => applyMargin r m.toInt s) s
  | .steerSetMode w => applySteerMode w s
  | .steerSetPhasePref a p => onAcc a (fun n s => applyPhasePref n p s) s
  | .steerSetParkOrder w => applyParkOrder w s
  | .steerSetGroup w => applySteerGroup w s
  | .steerSetConfig a b t l => done (putStored (.steerSetConfig a b t l) s)
  | .ledgerBindJob x f j => onSome (slotAt x.toNat) (fun p s => applyBind p.1 p.2 (f.getLsbD 0) j s) s
  | .ledgerUnbindJob x => onSome (slotAt x.toNat) (fun p s => applyUnbind p.1 p.2 s) s
  | .ledgerSetCoeff b l => onSome (binByte b) (fun b s => applySetCoeff b l s) s
  | .ledgerSetConfig w => applyLdgConfig w s
  | .frondStage x f o t d => onSome (slotOf x) (fun k s => applyFrondStage k (f.getLsbD 0) o.toNat t.toNat d s) s
  | .frondLoad x src f => onSome (slotOf x) (fun k s => applyFrondLoad k (src == 1) (f.getLsbD 0) (f.getLsbD 1) s) s
  | .frondUnload x f => onSome (slotOf x) (fun k s => applyFrondUnload k (f.getLsbD 0) s) s
  | .frondRun x f => onSome (slotOf x) (fun k s => applyFrondRun k (f.getLsbD 0) (f.getLsbD 1) q s) s
  | .frondSetSched w => applyFrondSched w s
  | .srsSetConfig a e => done (s.modSrs fun r => { r with staged := some (a, e) })
  | .bupTest a => onAcc a applyBupTest s
  | .bupJournalForget sn => applyForget sn s
  | .bupSetConfig w => done (putStored (.bupSetConfig w) s)
  | .coolSetConfig a b => stageCooling (.coolSetConfig a b) s
  | .coolSetCurve l => stageCooling (.coolSetCurve l) s
  | .coolSetTable l => done (s.modCool fun k => { k with nextRows := some (Vector.ofFn fun (i : Fin 8) => l.getD i.1 0) })
  | .coolSetMap f t u => stageCooling (.coolSetMap f t u) s
  | .coolSetLoop l => stageCooling (.coolSetLoop l) s
  | .coolSetMode m => applyCoolMode m s
  | .coolClearFault p => applyClearPumps p s
  | .coolClearLeak z => if h : z.toNat < 10 then applyClearLeak ⟨z.toNat, h⟩ s else (s, some badParam)
  | .twbSetConfig p a t => done (putTwb p a t s)
  | .twbTransfer p a pr _ wl rl _ =>
    if h : p.toNat < 11 then
      match bus with
      | some e => applyTransfer ⟨p.toNat, h⟩ a.toNat pr.toNat wl.toNat rl.toNat e s
      | none =>
        let (x, s) := s.draw
        applyTransfer ⟨p.toNat, h⟩ a.toNat pr.toNat wl.toNat rl.toNat (freeEnd rl.toNat x) s
    else (s, some badParam)
  | .netSetConfig _ _ _ => done s
  | .netSubscribe st v d => applySubscribe st v d q s
  | .fwStage t f _ tot d => onSome (targetOf t) (fun k s => applyFwStage k (f.getLsbD 0) tot.toNat d s) s
  | .fwVerify t => onSome (targetOf t) applyFwVerify s
  | .fwActivate t sl f => onSome (targetOf t) (fun k s => applyFwActivate k sl.toNat (f.getLsbD 0) s) s
  | .secDebugChallenge _ => applyChallenge s
  | .secDebugUnlock l sig => applyUnlock l.toNat sig s
  | .secDebugLock => applyLock s
  | .secSetLifecycle st sig => applyLifecycle st.toNat sig s
  | .secSetKey k w => if h : 1 ≤ k.toNat ∧ k.toNat ≤ 3 then applySetKey ⟨k.toNat - 1, by omega⟩ w q s else (s, some badParam)
  | .sysCapabilities | .sysStatus | .powerStatus | .crzStatus | .supStatus | .steerStatus | .ledgerStatus | .frondStatus
  | .srsStatus | .bupFloorPlan _ | .bupJournalRead _ _ | .bupStatus | .coolStatus | .twbStatus | .fwStatus | .secStatus =>
    doneWith (readData s c) s

end Sys2Proof.Machine
end

