-- ==== Sys2Proof/Machine/Judge.lean ====
section
/-! DEFINITION. How every command is taken and judged (14 R414 to R440): the frame, duplicates, tags, counters, authority,
legality, application, and the ticket that its reply grows from. -/

namespace Sys2Proof.Machine

open Sys2Proof

/-- The mailbox of a source. -/
def boxOf : Source → Option (Fin 2)
  | .mb0 => some 0
  | .mb1 => some 1
  | _ => none

/-- Precedence class (02 R39, 14 R433): 5 for commands of the rack manager, else 6. -/
def classOf (f : Frame) : Nat :=
  match f.src with
  | .mb0 | .mb1 => 6
  | .fmp0 | .fmp1 => 5
  | .mctp => if f.key = 2 then 5 else 6

/-- UNIT of a COMMAND event (14 R442): the accelerator a command addresses, 8 for a tray-wide command, 9 otherwise. -/
def unitOf (code : Nat) (p : List Byte) : Nat :=
  let small (x : Nat) : Nat := if x < 8 then x else 8
  if code / 256 = 3 ∨ code = 0x0602 ∨ code = 0x0B01 ∨ code = 0x0B02 ∨ code = 0x0222 then small (leAt p 0 1)
  else if code = 0x0801 ∨ code = 0x0802 then small (leAt p 0 2 / 48)
  else if code = 0x0501 ∨ code = 0x0503 then small (leAt p 0 1 / 14)
  else if code = 0x0502 then small (leAt p 0 1 / 2)
  else if code / 256 = 1 ∨ code / 256 = 9 ∨ 0x0D ≤ code / 256 then 9
  else 8

/-! Tags (14 R434, R435). -/

/-- The key of KEY, where there is one: 1 host, 2 rack. -/
def keyByNo (s : State) (k : BitVec 2) : Option (BitVec 256) :=
  if k = 1 then some (keyOf s 0) else if k = 2 then some (keyOf s 1) else none

/-- What the tag of a command covers: a mailbox command area, or an FMP header and body (14 R420, R429, R435). -/
def tagInput (s : State) (r : Req) : List Byte :=
  let f := r.frame
  let len := leBytes 2 r.params.length
  match boxOf f.src with
  | some _ =>
    serialBytes s ++ leBytes 2 r.code ++ leBytes 2 f.seq.toNat ++ len ++ [f.ifver, f.key.setWidth 8] ++ leBytes 8 f.ctr.toNat
      ++ r.params
  | none =>
    [0x46, 0x4D, f.ifver, 1] ++ leBytes 2 f.seq.toNat ++ leBytes 2 r.code ++ leBytes 8 f.device.toNat
      ++ leBytes 8 f.ctr.toNat ++ len ++ [0, f.key.setWidth 8, 0, 0, 0, 0] ++ r.params

/-- A path accepts a key (14 R433); no key is for reads on a mailbox or MCTP. -/
def pathKey (src : Source) (k : BitVec 2) (read : Bool) : Bool :=
  match src with
  | .mb0 | .mb1 => k == 1 || (k == 0 && read)
  | .fmp0 | .fmp1 => k == 2
  | .mctp => k == 1 || k == 2 || (k == 0 && read)

/-- Step 4 (14 R434, 16 R482): what needs the rack key fails while that key is sealed. -/
def tagOk (s : State) (r : Req) : Bool :=
  let f := r.frame
  pathKey f.src f.key (isRead r.code || r.code == 0x0102) && !(sealed s && (f.key == 2 || ownerOf r.code r.params == 1)) &&
    match keyByNo s f.key with
    | some k => Config.kmac k (tagInput s r) 128 "FMP cmd" == f.tag
    | none => f.key == 0

/-! Counters (14 R436, R437). -/

/-- Place of a source and key among the counters. -/
def ctrIx (f : Frame) : Fin 8 := ⟨2 * (sourceNo f.src).1 + (if f.key = 2 then 1 else 0), by
  have := (sourceNo f.src).2; split <;> omega⟩

/-- Step 5: the counter is above the last accepted one, which a cold reset sets to its floor (notes/assumptions/25.md). -/
def ctrOk (s : State) (f : Frame) : Bool := f.key == 0 || decide (s.net.ctr[ctrIx f].toNat < f.ctr.toNat)

/-- A counter is consumed; its floor goes ahead first where the counter is above it (14 R436). -/
def consume (f : Frame) (s : State) : State :=
  if f.key = 0 then s else
  let i := ctrIx f
  let s := if s.nv.floor[i].toNat < f.ctr.toNat then
      emit (s.modNv fun v => { v with floor := v.floor.set i (BitVec.ofNat 64 (min (f.ctr.toNat + 65536) (2 ^ 64 - 1))) })
        7 9 (sourceNo f.src).1 0x0E04 f.key.toNat
    else s
  let s := s.modNet fun n => { n with ctr := n.ctr.set i f.ctr }
  s.modRcd fun r => { r with
    source := r.source.set (sourceNo f.src) { r.source[sourceNo f.src] with lastCtr := f.ctr } }

/-- A command accepted on FMP or MCTP is kept for the duplicate rule (14 R430). -/
def keepAccepted (r : Req) (s : State) : State :=
  let a : Accepted := { frame := r.frame, code := r.code, params := r.params, reply := none }
  match r.frame.src with
  | .fmp0 | .fmp1 => s.modNet fun n => { n with recentFmp := (a :: n.recentFmp).take 16 }
  | .mctp => s.modNet fun n => { n with recentMctp := (a :: n.recentMctp).take 16 }
  | _ => s

/-! Judging (14 R414). -/

/-- The role of a frame: 1 rack manager, 2 host software (14 R433). -/
def roleNo (f : Frame) : Nat := if f.key = 2 then 1 else 2

/-- Step 6 (14 R438): untagged reads are accepted on every read. -/
def mayDo (r : Req) : Bool :=
  let o := ownerOf r.code r.params
  o == 0 || o == roleNo r.frame

/-- Step 7 for a command whose parameters do not parse. -/
def unitAbsent (s : State) (code : Nat) : Bool :=
  (code / 256 == 9 && s.nv.frondEng == 0) || ((code == 0x0C05 || code == 0x0C07 || code == 0x0C08) && !s.nv.coolLiq)

/-- Step 9 beside the owning chapter's rules: the tables, RETIRED, and the same-tick rule (14 R416, R440; 16 R482,
R489). -/
def stateReason (s : State) (r : Req) (c : Cmd) : Option Nat :=
  match powerReason s c with
  | some x => some x
  | none =>
    if s.nv.lc = 4 ∧ !(isRead r.code || r.code == 0x0102) then some 0x1001
    else match settingOf c with
      | some (k, o) => if roleNo r.frame = 2 ∧ s.net.rackSet.contains (k, o, r.stamp) then some 0x0E01 else none
      | none => none

/-- A rack command has set a setting in its tick (14 R440). Commands are applied in the order of their stamps, so only the
settings of this tick and of later ones still count. -/
def noteSetting (r : Req) (c : Cmd) (a : Option Ans) (s : State) : State :=
  let ok := match a with | some a => a.res == .ok || a.res == .clipped | none => true
  match settingOf c with
  | some (k, o) =>
    if roleNo r.frame == 1 && ok then
      s.modNet fun n => { n with rackSet := (k, o, r.stamp) :: n.rackSet.filter fun x => decide (r.stamp ≤ x.2.2) }
    else s
  | none => s

/-- frond.load in a power or lifecycle state that forbids it: reason 11 of the load checks (09 R266; notes/assumptions/56.md). -/
def loadDenied (c : Cmd) (s : State) : State :=
  match c with
  | .frondLoad x _ _ => (match slotOf x with | some k => rejectModel k 11 s | none => s)
  | _ => s

/-- Steps 2 to 10 (14 R414). -/
def judge (r : Req) (q : Reply) (s : State) : State × Option Ans :=
  let f := r.frame
  if f.ifver.toNat ≠ ifverN s ∧ f.ifver.toNat + 1 ≠ ifverN s then (s, some { res := .version })
  else if !knownCodes.contains r.code then (s, some { res := .unknownCommand })
  else if !tagOk s r then (s, some { res := .authFail })
  else if !ctrOk s f then (s, some { res := .replay, detail := leBytes 8 (s.net.ctr[ctrIx f].toNat + 1) })
  else
    let s := keepAccepted r (consume f s)
    if !mayDo r then (s, some { res := .denied })
    else match r.cmd with
    | none => (s, some (if unitAbsent s r.code then { res := .unsupported } else badParam))
    | some c =>
      if !present s c then (s, some { res := .unsupported })
      else if !paramsOk s c then (s, some badParam)
      else match stateReason s r c with
      | some x => (loadDenied c (if x = 0x0C06 then s.modSys fun y => { y with lockViol := true } else s),
          some (conflict x (match c with | .supMargin rl _ => rl.toNat | _ => 0xFF)))
      | none =>
        let (s, a) := applyCmd r.bus q c s
        (noteSetting r c a s, a)

/-! From the frame to the result. -/

/-- The ticket of a command; a Read is answered from the generation in SYS_GEN now (02 R61). -/
def ticket (r : Req) (s : State) : Reply :=
  let f := r.frame
  let shown := if isRead r.code ∧ s.rcd.gen ≠ 0 then some s.rcd.gen else none
  { src := f.src, seq := f.seq, code := r.code, cls := classOf f, unit := unitOf r.code r.params, key := f.key, ctr := f.ctr,
    ifver := f.ifver, addr := f.addr, udp := f.udp, stamp := r.stamp, sealNo := s.rcd.seals, result := .busy, reason := 0,
    object := 0xFF, detail := [], data := [], gen := 0, readGen := shown, snapshot := [], tagKey := (keyByNo s f.key).getD 0, tag := 0 }

/-- The COMMAND event of a command that is applied now (14 R442). -/
def commandEvent (q : Reply) (res : Res) (s : State) : State :=
  recordApplied { stamp := q.stamp, cls := q.cls, unit := q.unit, object := q.code, code := 0x0E01,
                  detail := 256 * resCode res + (sourceNo q.src).1 } s

/-- A command with a result other than AUTH_FAIL or REPLAY counts for the heartbeat (12 R368). -/
def heartbeat (r : Req) (s : State) : State := s.modCool fun k => { k with hbTick := max k.hbTick r.stamp, hbLost := false }

/-- A command marked Store waits for its store write (15 R448). -/
def storeWaits (r : Req) (a : Ans) : Option Cmd :=
  match r.cmd with
  | some c => if a.res = .ok ∧ (storeKey c).isSome then some c else none
  | none => none

/-- COEF_SET with DETAIL 1: a coefficient table rejected for its parameters or the state (08 R244; notes/assumptions/55.md). -/
def coefRejected (r : Req) (a : Ans) (s : State) : State :=
  if r.code = 0x0803 ∧ r.frame.wellFormed ∧ (a.res = .badParam ∨ a.res = .stateConflict) then
    emit s 5 8 (leAt r.params 0 1) 0x0804 1
  else s

/-- The answer of a judged command: known now, after the store write, or later. -/
def settleReq (r : Req) (q : Reply) (a : Option Ans) (s : State) : State :=
  match a with
  | none => commandEvent q .busy (heartbeat r s)
  | some a =>
    let s := coefRejected r a s
    let s := if a.res = .authFail ∨ a.res = .replay then s else heartbeat r s
    match storeWaits r a with
    | some c => commandEvent q .busy (s.modRcd fun x => { x with storeQ := x.storeQ ++ [(c, q)] })
    | none => commandEvent q a.res (complete q a s)

/-- A command that the application cluster takes (14 R414): a malformed mailbox frame ends with BAD_PARAM. -/
def runReq (r : Req) (s : State) : State :=
  let q := ticket r s
  if !r.frame.wellFormed then settleReq r q (some badParam) s
  else
    let (s, a) := judge r q s
    settleReq r q a s

/-- The mailbox takes a command: SYS_STATUS.FW_RUNNING set and nothing in flight (14 R422). -/
def boxReady (s : State) (m : Fin 2) : Bool := !s.mbx.box[m].busy && s.sys.fwRunning && running s

/-- A GO write to a mailbox whose command area holds `seq` (14 R422): taken, or ignored and counted. -/
def goWrite (m : Fin 2) (seq : BitVec 16) (go : State → State) (s : State) : State :=
  let x := s.mbx.box[m]
  if !boxReady s m then s.setBox m fun b => { b with goBusy := satAdd 255 b.goBusy }
  else if x.result ≠ 0xFF ∧ x.seq = seq then
    s.setBox m fun b => { b with goMismatch := satAdd 255 b.goMismatch, reread := true, statRead := true }
  else go (s.setBox m fun b => { b with busy := true, seq := seq })

/-- A frame that an earlier one equals byte for byte (14 R430): the transport path is no part of it. -/
def sameFrame (a b : Frame) : Bool :=
  a.seq == b.seq && a.ifver == b.ifver && a.key == b.key && a.ctr == b.ctr && a.tag == b.tag && a.device == b.device

/-- The accepted command that a frame repeats. -/
def duplicateOf (r : Req) (s : State) : Option Accepted :=
  let l := if r.frame.src = .mctp then s.net.recentMctp else s.net.recentFmp
  l.find? fun a => sameFrame a.frame r.frame && a.code == r.code && a.params == r.params

/-- A frame on FMP or MCTP is applied (14 R430): answered again or ignored when it is a duplicate. -/
def takeNet (r : Req) (s : State) : State :=
  match duplicateOf r s with
  | some a => match a.reply with
    | some q => s.send (.reply { q with src := r.frame.src, addr := r.frame.addr, udp := r.frame.udp })
    | none => s
  | none => runReq r s

/-! Arrival and release (02 R39 to R45). -/

/-- Place of a path among the commands of its class (02 R40). -/
def pathNo : Source → Nat
  | .mb0 | .fmp0 => 0
  | .mb1 | .fmp1 => 1
  | .mctp => 2

/-- A command with its place in the order of release (02 R40). -/
def waitingOf (r : Req) : Waiting :=
  { stamp := r.stamp, cls := classOf r.frame, unit := pathNo r.frame.src, chan := 0, item := .req r }

/-- The stamp of a command: the tick of its arrival at the FM8 (02 R39). Late delivery occurs only while PACE_LOW is set (02
R42), so that otherwise no stamp lies in a released tick (notes/assumptions/26.md). -/
def stampOf (f : Frame) (s : State) : Nat :=
  let t := min f.stamp s.sys.tick
  if s.sys.paceLow then t else match s.rcd.released with
    | some x => max t (x + 1)
    | none => t

/-- The request that a submitted command makes. -/
def reqOf (f : Frame) (c : Cmd) (bus : Option TransferEnd) (s : State) : Req :=
  { frame := f, code := codeOf c, params := paramsOf c, cmd := some c, bus := bus, stamp := stampOf f s }

/-- A released item is applied to the state that every item before it left (02 R44). -/
def applyItem (w : Waiting) (s : State) : State :=
  match w.item with
  | .ev e => recordApplied e s
  | .loop => if loopDue w.stamp s then steeringLoop w.stamp s else s
  | .req r => match boxOf r.frame.src with
    | some _ => runReq r s
    | none => takeNet r s

/-- Host events become visible with the events of their tick (14 R425). -/
def showHostEvents (s : State) : State :=
  s.modMbx fun m => { m with
    evtShown := (m.evtDue.filter fun p => decide (p.2 + 2 ≤ s.sys.tick)).foldl (fun x p => x ||| BitVec.ofNat 16 (2 ^ p.1)) m.evtShown,
    evtDue := m.evtDue.filter fun p => decide (s.sys.tick < p.2 + 2) }

/-- The items that the batch of the present tick releases (02 R41). -/
def dueItems (s : State) : List Waiting := s.rcd.merger.filter fun w => decide (w.stamp + 2 ≤ s.sys.tick)

/-- The batch of the present tick leaves the merger (02 R41); an item whose tick was released before is late (02 R42). -/
def openBatch (s : State) : State :=
  let late := (dueItems s).any fun w => match s.rcd.released with | some t => decide (w.stamp ≤ t) | none => false
  showHostEvents (s.modRcd fun r => { r with
    merger := r.merger.filter fun w => decide (s.sys.tick < w.stamp + 2), late := r.late || late,
    released := if 2 ≤ s.sys.tick then some (s.sys.tick - 2) else r.released })

/-- The batch of the present tick is applied, item by item in release order (02 R41, R44). -/
def release (s : State) : State := forAll (dueItems s) applyItem (openBatch s)

/-- The batch of the present tick has left the merger. -/
def batchOut (s : State) : Bool := s.rcd.released == some (s.sys.tick - 2)

/-- EVENT_RELEASE (02 R41): in the present tick t + 2, every item stamped t or earlier, in release order; the application
cluster must run. -/
def execEventRelease (s : State) : Out3 := .next (if running s then release s else s)

/-- A command enters the merger (02 R41). One whose tick is due is released with its batch, with what waits before it; one that
comes after that batch waits for the next (02 R42). -/
def arrive (r : Req) (s : State) : State :=
  let s' := s.modRcd fun x => { x with merger := insertWaiting (waitingOf r) x.merger }
  if r.stamp + 2 ≤ s.sys.tick ∧ batchOut s = false then release s' else s'

/-- A frame comes in on FMP or MCTP (14 R414; 18 R537): dropped while the cluster is stopped, discarded when malformed or for
another FM8. MCTP discards a message that does not reassemble, and takes none before it has an endpoint ID (13 R409, R410). -/
def takeFrameIn (r : Req) (s : State) : State :=
  if !running s then s.modNet fun n => { n with dropped := satAdd 255 n.dropped }
  else if r.frame.src = .mctp ∧ !r.frame.assembled then
    (s.modTwb fun t => { t with dropped := satAdd 255 t.dropped }).modNet fun n => { n with frameErr := satAdd 255 n.frameErr }
  else if r.frame.src = .mctp ∧ s.twb.eid = 0 then s
  else if !r.frame.wellFormed ∨ r.frame.device ≠ s.nv.serial then s.modNet fun n => { n with frameErr := satAdd 255 n.frameErr }
  else arrive r s

/-- A command of the catalogue, from its submission into the merger and, with the batch of its tick, to its application
(notes/assumptions/26.md). -/
def runCommand (f : Frame) (c : Cmd) (bus : Option TransferEnd) (s : State) : Out3 :=
  match boxOf f.src with
  | some m => .next (goWrite m f.seq (arrive (reqOf f c bus s)) s)
  | none => .next (takeFrameIn (reqOf f c bus s) s)

/-- The request that a copied command area spells (14 R420). -/
def reqOfRaw (src : Source) (raw : List Byte) (stamp : Nat) : Req :=
  let len := leAt raw 4 2
  let flags := leAt raw 7 1
  let code := leAt raw 0 2
  let params := slice raw 0x40 (min len 4032)
  { frame := { src := src, seq := BitVec.ofNat 16 (leAt raw 2 2), ifver := byteAt raw 6, key := BitVec.ofNat 2 flags,
               ctr := BitVec.ofNat 64 (leAt raw 8 8), tag := BitVec.ofNat 128 (leAt raw 0x10 16), device := 0,
               wellFormed := decide (len ≤ 4032) && decide (flags < 4) && blankAt raw 0x20 32, addr := 0, udp := 0, stamp := stamp },
    code := code, params := params, cmd := parseCmd code params, bus := none, stamp := stamp }

/-- BAR0 address of a command area (14 R420). -/
def areaBase (m : Fin 2) : Nat := 0x4000 + 0x2000 * m.1

/-- MBX_GO (14 R422): the command area is copied and waits in the merger. -/
def execMbxGo (m : Fin 2) (seq : BitVec 16) (s : State) : Out3 :=
  let b := areaBase m
  let area := BitVec.ofNat 16 (leNat (cellsRead s.mbx.mem (b + 2) 2))
  if boxReady s m && area != seq then
    .next (s.setBox m fun x => { x with goMismatch := satAdd 255 x.goMismatch })
  else
    let len := min 4032 (leNat (cellsRead s.mbx.mem (b + 4) 2))
    let raw := cellsRead s.mbx.mem b (0x40 + len)
    .next (goWrite m seq (fun s => arrive (reqOfRaw (if m = 0 then .mb0 else .mb1) raw s.sys.tick) s) s)

/-- MBX_STAT (14 R419): while BUSY, RESULT is BUSY; SEQ is then the one in flight. -/
def statW (s : State) (m : Fin 2) : Nat :=
  let x := s.mbx.box[m]
  x.seq.toNat * 2 ^ 16 + (if x.busy then 1 else x.result) * 2 ^ 8 + bit x.reread 3 + bit (boxReady s m) 1 + bit x.busy 0

/-- MBX_STAT_READ (14 R423): the first read after a completion shows REREAD 0, every later one 1. -/
def execMbxStatRead (m : Fin 2) (s : State) : Out3 :=
  let x := s.mbx.box[m]
  let s := s.send (.answer (leBytes 4 (statW s m)))
  if x.busy ∨ x.result = 0xFF then .next s
  else .next (s.setBox m fun b => { b with statRead := true, reread := true })

/-! Host interrupts (14 R425 to R427). -/

/-- HATTN_N follows the enabled bits other than GEN; released until firmware first serves the watchdog (14 R426). -/
def hattnCheck (s : State) : State :=
  s.modMbx fun m => { m with
    hattn := s.sys.boot == .noSlot || (s.saf.served && (m.evt &&& m.evtEn &&& 0xBFFF) != 0) }

/-- The CXL link is up. -/
def cxlUp (s : State) : Bool := s.link.rate != 0

/-- A vector may send its message now (14 R427). -/
def msiOpen (s : State) (v : Fin 16) : Bool := cxlUp s && s.mbx.msixEnable && !s.mbx.msixMask && !s.mbx.vecMask.getLsbD v.1

/-- Pending messages leave where link and masks let them (14 R427). -/
def msiFlush (s : State) : State :=
  forAll (List.finRange 16) (fun (v : Fin 16) s =>
    if s.mbx.pba.getLsbD v.1 && msiOpen s v then
      (s.send (.msi v)).modMbx fun m => { m with pba := m.pba &&& ~~~(BitVec.ofNat 16 (2 ^ v.1)) }
    else s) s

/-- Bits of MBX_EVT are set: a bit that rises with its enable set is signalled (14 R425, R427). -/
def raiseEvt (b : BitVec 16) (s : State) : State :=
  let rise := b &&& ~~~s.mbx.evt &&& s.mbx.evtEn
  hattnCheck (msiFlush (s.modMbx fun m => { m with evt := m.evt ||| b, pba := m.pba ||| rise }))

/-- Byte `i` of a word. -/
def byteOf (w : Word) (i : Nat) : Byte := BitVec.ofNat 8 (fld w (8 * i) 8)

/-- A word written to BAR0 memory. -/
def memWrite (a : Nat) (w : Word) (s : State) : State :=
  s.modMbx fun m => { m with mem := cellsWrite a ((List.range 4).map (byteOf w)) m.mem }

/-- REGISTER_WRITE (01 R33, R35; 14 R419, R420, R422, R425): one aligned word of BAR0; at MBX_GO it submits. -/
def execRegisterWrite (offset : BitVec 16) (data : Word) (s : State) : Out3 :=
  let a := offset.toNat / 4 * 4
  if a = 0x18 then .next (s.modSys fun y => { y with
      memEccUe := y.memEccUe && !fldB data 6, paceLow := y.paceLow && !fldB data 5,
      refclkWasLost := y.refclkWasLost && !fldB data 3, lockViol := y.lockViol && !fldB data 2 })
  else if a = 0x1000 then .next (s.modMbx fun m => { m with sel := if fldB data 0 then 1 else 0 })
  else if a = 0x1004 then
    .next (if 1000 < fld data 0 16 then s else s.modMbx fun m => { m with genDiv := fld data 0 16 })
  else if a = 0x1020 then execMbxGo 0 (data.setWidth 16) s
  else if a = 0x1030 then execMbxGo 1 (data.setWidth 16) s
  else if a = 0x1008 then .next (hattnCheck (s.modMbx fun m => { m with evt := m.evt &&& ~~~(data.setWidth 16) }))
  else if a = 0x100C then .next (hattnCheck (s.modMbx fun m => { m with evtEn := data.setWidth 16 }))
  else if 0x2000 ≤ a ∧ a < 0x2100 then
    let v := (a - 0x2000) / 16
    let s := memWrite a data s
    if a % 16 = 12 then
      let bit := BitVec.ofNat 16 (2 ^ v)
      .next (msiFlush (s.modMbx fun m => { m with
        vecMask := if fldB data 0 then m.vecMask ||| bit else m.vecMask &&& ~~~bit }))
    else .next s
  else if (0x4000 ≤ a ∧ a < 0x5000) ∨ (0x6000 ≤ a ∧ a < 0x7000) then .next (memWrite a data s)
  else .next s

end Sys2Proof.Machine
end

