-- ==== Sys2Proof/Machine/Record.lean ====
section
/-! DEFINITION. The seal and publication of the State Record, stream leases, staged sets, the
configuration store and memory errors (02 R46 to R63; 14 R418 to R431; 01 R24, R27, R30; 15 R448). -/

namespace Sys2Proof.Machine

open Sys2Proof

/-! Seal (02 R46, R49). -/

/-- What the strobe latches. -/
def snapOf (s : State) : Snap :=
  { sys := s.sys, net := s.net, twb := s.twb, acc := s.acc, crz := s.crz, rack := s.rack, sup := s.sup, str := s.str,
    brm := s.brm, ldg := s.ldg, frd := s.frd, srs := s.srs, bup := s.bup, cool := s.cool, sec := s.sec, saf := s.saf,
    link := s.link, nv := s.nv, source := s.rcd.source }

/-- A new generation begins: what a record counts since the previous seal starts over (02 R52; 05 R147; 07 R201, R220; 09
R282; 10 R311). -/
def newGeneration (s : State) : State :=
  let t := s.sys.tick
  let s := s.modBrm fun b => { b with
    w2Peak := 0, shortW := 0, shortGen := false, thetaGen := decide (b.theta < 64) }
  let s := s.modSup fun u => { u with
    entry := u.entry.map fun e => { e with below := false, above := false, fastOut := false, sampled := false } }
  let s := s.modFrd fun f => { f with
    slot := f.slot.map fun k => { k with skipGen := false, abortGen := false, runsGen := 0 } }
  s.modSrs fun r => { r with link := r.link.map fun l => { l with
    frames := 0, framesAt := if l.framesTick < t then 0 else l.framesAt, badFrames := 0 } }

/-- The readings of a rail since the last published generation, from those before and after a missed seal (05 R147). -/
def joinEntry (o e : RailEntry) : RailEntry :=
  { e with
    below := o.below || e.below, above := o.above || e.above, fastOut := o.fastOut || e.fastOut,
    sampled := o.sampled || e.sampled,
    vMin := if o.sampled then (if e.sampled then min o.vMin e.vMin else o.vMin) else e.vMin,
    vMax := if o.sampled then (if e.sampled then max o.vMax e.vMax else o.vMax) else e.vMax }

/-- What a missed record would have counted stays part of the generation that is not published yet (02 R49). -/
def keepGeneration (p : Snap) (s : State) : State :=
  let s := s.modBrm fun b => { b with
    w2Peak := max p.brm.w2Peak b.w2Peak, shortW := max p.brm.shortW b.shortW, shortGen := p.brm.shortGen || b.shortGen,
    thetaGen := p.brm.thetaGen || b.thetaGen }
  let s := s.modSup fun u => { u with entry := Vector.ofFn fun (r : Rail) => joinEntry p.sup.entry[r] u.entry[r] }
  let s := s.modFrd fun f => { f with
    slot := Vector.ofFn fun (x : Slot) => { f.slot[x] with
      skipGen := p.frd.slot[x].skipGen || f.slot[x].skipGen, abortGen := p.frd.slot[x].abortGen || f.slot[x].abortGen,
      runsGen := p.frd.slot[x].runsGen + f.slot[x].runsGen } }
  s.modSrs fun r => { r with
    link := Vector.ofFn fun (n : Acc) => { r.link[n] with
      badFrames := p.srs.link[n].badFrames + r.link[n].badFrames } }

/-- A seal whose record is not published (02 R49): it counts after the seal of generation 1, and what it would have shown
goes to the next record. -/
def missSeal (s : State) : State :=
  match s.rcd.asm with
  | none => s
  | some a =>
    keepGeneration a.snap ((s.modRcd fun r => { r with
      asm := none, late := r.late || a.late,
      missed := if r.gen = 0 then r.missed else min 0xFFFFFFFF (r.missed + 1) }).modMbx fun m => { m with
        evtShown := m.evtShown ||| a.evt })

/-- STATE_RECORD_SEAL (02 R46; 06 R158): the strobe latches into the inactive assembly buffer, one of the two of 01 R28, and for
the steering loop. -/
def execStateRecordSeal (s : State) : Out3 :=
  if s.sys.tick % 100 ≠ 0 ∨ s.sys.boot = .porst ∨ (s.rcd.asm.map (·.sealTick)) = some s.sys.tick then .next s else
  let s := missSeal s
  let a : Assembly :=
    { buffer := s.rcd.buffer, sealTick := s.sys.tick, sealNo := s.rcd.seals + 1, snap := snapOf s, digest := s.rcd.digest,
      late := s.rcd.late, complete := false, eccHit := false, evt := s.mbx.evtShown }
  let s := s.modRcd fun r => { r with asm := some a, buffer := r.buffer + 1, seals := a.sealNo, late := false }
  let s := s.modStr fun r => { r with latch := some (strobeOf s) }
  .next (newGeneration (s.modMbx fun m => { m with evtShown := 0 }))

/-- SEAL_DEADLINE (02 R49): at T + 40 the fields are complete or the seal is missed. -/
def execSealDeadline (complete : Bool) (s : State) : Out3 :=
  match s.rcd.asm with
  | none => .next s
  | some a =>
    if s.sys.tick < a.sealTick + 40 then .next s
    else if !complete || a.eccHit || !running s then .next (missSeal s)
    else .next (s.modRcd fun r => { r with asm := some { a with complete := true } })

/-! Publication (02 R50 to R53). -/

/-- The digest of a record: at most 1,536 events, lower classes first, the earliest of the class at the limit (02 R53). -/
def digestOf (l : List Ev) : List Ev :=
  (l.zipIdx.filter fun (e, i) =>
    decide ((l.countP fun d => decide (d.cls < e.cls)) + ((l.take i).countP fun d => d.cls == e.cls) < 1536)).map (·.1)

/-- The rejection snapshot (14 R418). -/
def snapshot64 (r : Record) (s : State) (q : Reply) : List Byte :=
  let v := viewOf r.snap s
  w64 r.gen ++ w64 r.sealTick ++ [BitVec.ofNat 8 (pstateCode (pstate v)), BitVec.ofNat 8 v.rack.state.1]
    ++ (chanList.map fun c => BitVec.ofNat 8 v.crz.chan[c].state) ++ [0]
    ++ w16 (chanList.foldl (fun x c => x + bit v.crz.chan[c].fault c.1) 0)
    ++ [BitVec.ofNat 8 v.nv.lc, BitVec.ofNat 8 v.sec.debug] ++ w16 q.reason ++ w16 q.object ++ padTo 28 q.detail

/-- Results whose data begin with the snapshot (14 R418). -/
def rejects (r : Res) : Bool := r == .stateConflict || r == .authFail || r == .replay || r == .badParam

/-- The reply has a tag: the command carried a key that its path accepts and that is not sealed (14 R435, 16 R482). -/
def taggedReply (s : State) (q : Reply) : Bool :=
  if (boxOf q.src).isSome then q.key == 1 else q.key == 1 || (q.key == 2 && !sealed s)

/-- What the tag of a reply covers (14 R435). -/
def replyInput (s : State) (q : Reply) : List Byte :=
  let d := q.snapshot ++ q.data
  let fl : List Byte := [BitVec.ofNat 8 (resCode q.result)]
  match boxOf q.src with
  | some _ =>
    serialBytes s ++ leBytes 2 q.seq.toNat ++ fl ++ [1] ++ w16 d.length ++ [q.ifver, 0] ++ w64 q.gen ++ w64 q.stamp
      ++ leBytes 8 q.ctr.toNat ++ d
  | none =>
    [0x46, 0x4D, q.ifver, 2] ++ leBytes 2 q.seq.toNat ++ w16 q.code ++ serialBytes s ++ leBytes 8 q.ctr.toNat
      ++ w16 (16 + d.length) ++ fl ++ [q.key.setWidth 8, 0, 0, 0, 0] ++ w64 q.gen ++ w64 q.stamp ++ d
      ++ leBytes 8 q.ctr.toNat

/-- A reply completed from its effect generation (14 R418, R421, R424, R435): ABORTED by a warm reset, marked by reason 1,
carries generation 0. The answer of a Read reports the generation its data came from (02 R61; notes/assumptions/23.md). -/
def finishReply (r : Record) (s : State) (q : Reply) : Reply :=
  let cut := q.result == .aborted && q.reason == 1
  let g := if q.result == .ok then q.readGen.getD r.gen else r.gen
  let q := { q with gen := if cut then 0 else g, snapshot := if rejects q.result then snapshot64 r s q else [],
                    data := if cut then [] else q.data }
  { q with tag := if taggedReply s q then Config.kmac q.tagKey (replyInput s q) 128 "FMP rsp" else 0 }

/-- The duplicate list learns a reply that was sent (14 R430). -/
def noteReply (q : Reply) (l : List Accepted) : List Accepted :=
  l.map fun a => if a.reply.isNone && a.frame.seq == q.seq && a.frame.ctr == q.ctr && a.frame.key == q.key && a.code == q.code
    then { a with reply := some q } else a

/-- The addresses and port of net.set_config take effect once its reply has left (15 R462). -/
def netTakesEffect (q : Reply) (s : State) : State :=
  if q.code = 0x0E01 ∧ q.result = .ok then
    match s.nv.store.find? fun c => storeKey c == some (0x0E01, 0) with
    | some c => putStored c s
    | none => s
  else s

/-- A result becomes readable, or its reply leaves (14 R423, R428). -/
def deliver (q : Reply) (s : State) : State :=
  match boxOf q.src with
  | some m =>
    let s := s.setBox m fun b => { b with
      seq := q.seq, result := resCode q.result, reread := false, statRead := false, busy := false, area := some q }
    raiseEvt (BitVec.ofNat 16 (2 ^ m.1)) s
  | none =>
    let s := (s.send (.reply q)).modNet fun n =>
      if q.src = .mctp then { n with recentMctp := noteReply q n.recentMctp } else { n with recentFmp := noteReply q n.recentFmp }
    netTakesEffect q s

/-- A datagram of a stream (14 R429, R431, R435): KEY 2, CTR the cold-boot count and the FM8's own sequence number. Its SEQ
is a free value (notes/assumptions/28.md). -/
def streamSend (l : Lease) (typ : Nat) (body : List Byte) (s : State) : State :=
  let (x, s) := s.draw
  let head : List Byte := [0x46, 0x4D, l.version, BitVec.ofNat 8 typ] ++ leBytes 2 (x.setWidth 16).toNat ++ [0, 0] ++ serialBytes s
    ++ w64 (s.nv.boots * 2 ^ 32 + s.net.streamSeq) ++ w16 body.length ++ [0, 2, 0, 0, 0, 0]
  let tag := Config.kmac (keyOf s 1) (head ++ body) 128 "FMP str"
  (s.send (.stream l.addr l.udp l.port (head ++ body ++ leBytes 16 tag.toNat))).modNet fun n => { n with
    streamSeq := (n.streamSeq + 1) % 2 ^ 32 }

/-- Body `i` of the 32 datagrams of a record (14 R431, 02 R60). -/
def fragmentBody (g : Nat) (summary : List Byte) (i : Nat) : List Byte :=
  w64 g ++ w16 i ++ w16 32 ++ w32 0 ++ (summary.drop (1024 * i)).take 1024

/-- A list in pieces of at most `n`, at least one. -/
def pieces {α : Type} (n : Nat) (l : List α) : List (List α) :=
  (List.range (max 1 ((l.length + n - 1) / n))).map fun i => (l.drop (n * i)).take n

/-- Body of a datagram of events (14 R431). -/
def eventsBody (g : Nat) (evt : BitVec 16) (l : List Ev) : List Byte :=
  w64 g ++ w32 evt.toNat ++ w16 l.length ++ w16 0 ++ l.flatMap evBytes

/-- The datagrams of one lease for a generation (14 R431), in the major version that its subscriber negotiated (02 R54). -/
def serveLease (r : Record) (evt : BitVec 16) (l : Lease) (s : State) : State :=
  let s := if l.records && r.gen % l.div == 0 then
      let b := summaryBytes s { r with format := l.version.toNat }
      forAll (List.range 32) (fun i s => streamSend l 3 (fragmentBody r.gen b i) s) s
    else s
  if l.events && (!r.digest.isEmpty || evt != 0) then
    forAll (pieces 85 r.digest) (fun p s => streamSend l 4 (eventsBody r.gen evt p) s) s
  else s

/-- The stream of every open lease (02 R50, 14 R431). -/
def serveLeases (r : Record) (evt : BitVec 16) (s : State) : State :=
  if sealed s then s else
  forAll (List.finRange 4) (fun k s => match s.net.leases[k] with | some l => serveLease r evt l s | none => s) s

/-- FW_ACTIVATED is published: the warm reset follows 100 ms later (16 R494). -/
def activationShown (r : Record) (s : State) : State :=
  if s.sec.activated && r.digest.any (fun e => e.code == 0x1004 && e.object == 0) then
    s.modSec fun c => { c with activated := false, resetTick := some (s.sys.tick + 10000) }
  else s

/-- The MBX_EVT bits that a publication raises, beside the completion bits (14 R425). -/
def evtOf (r : Record) (evt : BitVec 16) (s : State) : BitVec 16 :=
  let was := match s.rcd.mirror with | some m => pstate (viewOf m.snap s) | none => .standby
  let now := pstate (viewOf r.snap s)
  evt ||| (if was = now then 0 else 0x2000) ||| (if s.mbx.genDiv ≠ 0 ∧ r.gen % s.mbx.genDiv = 0 then 0x4000 else 0)

/-- The completion bits of the results that a publication makes readable (14 R425). -/
def doneBits (due : List Reply) : BitVec 16 :=
  due.foldl (fun e q => match boxOf q.src with | some m => e ||| BitVec.ofNat 16 (2 ^ m.1) | none => e) 0

/-- Publication of a sealed record: ring, mirror, SYS_GEN, stream; then host events, results and replies (02 R50, R62; 14
R423, R425). -/
def publish (a : Assembly) (s : State) : State :=
  let g := s.rcd.gen + 1
  let r : Record := { gen := g, format := ifverN s, sealTick := a.sealTick, backup := a.snap.sys.refclkLost, late := a.late, missed := s.rcd.missed,
                      snap := a.snap, digest := digestOf a.digest, trunc := decide (1536 < a.digest.length) }
  let evt := evtOf r a.evt s
  let due := s.rcd.replies.filter fun q => decide (q.sealNo < a.sealNo)
  let s := s.modRcd fun x => { x with
    asm := none, ring := (r :: x.ring).take 12288, mirror := some r, gen := g, digest := x.digest.drop a.digest.length,
    replies := x.replies.filter fun q => decide (a.sealNo ≤ q.sealNo) }
  let s := s.modNv fun v => { v with log := (r.digest.reverse ++ v.log).take 3997696 }
  let s := serveLeases r (evt ||| doneBits due) s
  let s := raiseEvt evt (activationShown r s)
  forAll due (fun q s => deliver (finishReply r s q) s) s

/-- RECORD_PUBLISH (02 R49, R50): the fields were completed by T + 40. -/
def execRecordPublish (s : State) : Out3 :=
  match s.rcd.asm with
  | none => .next s
  | some a =>
    if a.eccHit || !running s || (!a.complete && decide (a.sealTick + 40 < s.sys.tick)) then .next s else .next (publish a s)

/-! Leases, staged sets and the store. -/

/-- LEASE_EXPIRY (14 R431, R442). -/
def execLeaseExpiry (k : Fin 4) (s : State) : Out3 :=
  match s.net.leases[k] with
  | none => .next s
  | some l =>
    if s.sys.tick < l.expiry then .next s
    else .next (emit (s.modNet fun n => { n with leases := n.leases.set k none }) 5 9 k.1 0x0E03 0)

/-- The staged SRS_CFG and SRS_EQ take effect, range-checked whole, and with them the presets of the links (10 R309, R310; 01 R24). -/
def applySrsStaged (s : State) : State :=
  match s.srs.staged with
  | none => s
  | some (c, e) =>
    if srsCfgOk c && srsEqOk e then
      forAll accList applyPreset (s.modSrs fun r => { r with cfg := c, eq := e, staged := none })
    else s.modSrs fun r => { r with staged := none }

/-- STAGED_SET_APPLY (01 R24). -/
def execStagedSetApply (s : State) : Out3 := .next (applySrsStaged (applySup (applyEnvelope s)))

/-- CONFIG_STORE_WRITE_DONE (15 R448, 16 R481, R504): every value that waits is in the store, and its command ends; or the store
could not take them, and their registers are as before. -/
def execConfigStoreWriteDone (taken : Bool) (s : State) : Out3 :=
  let l := s.rcd.storeQ
  let s := s.modRcd fun r => { r with storeQ := [] }
  if !taken then .next (forAll l (fun p s => completeLate p.2 (conflict 0x0E03 0xFF) (takeBack p.1 s)) s) else
  let s := if s.sec.storeDue then
      (s.modNv fun v => { v with keys := s.sec.keys, keyBad := Vector.replicate 3 false, epoch := s.sec.committed }).modSec fun c => { c with storeDue := false }
    else s
  .next (forAll l (fun p s => completeLate p.2 {} (s.modNv fun v => { v with store := storePut p.1 v.store })) s)

/-! Memory (01 R27, R30). -/

/-- The records of an intake queue that an error hit are discarded (01 R27; notes/assumptions/27.md). -/
def dropRecords (n : Acc) (hit : QRec → Bool) (s : State) : State :=
  resumeCheck n (s.setLink n fun l =>
    let q := l.queue.filter fun r => !hit r
    { l with queue := q, rf := match q with | r :: _ => r.pos | [] => l.w })

/-- The oldest record of an intake queue is discarded. -/
def dropHead (n : Acc) (s : State) : State :=
  dropRecords n (fun r => s.srs.link[n].queue.head? == some r) s

/-- The reference job loses its data (09 R280). -/
def abortReference (s : State) : State :=
  if s.frd.refBusy then s.modFrd fun f => { f with refAborted := true, refAgain := true } else s

/-- The assembly in a buffer is not published (02 R49). -/
def spoilAssembly (b : Nat → Bool) (s : State) : State :=
  s.modRcd fun r => { r with asm := r.asm.map fun a => { a with eccHit := a.eccHit || b a.buffer.1 } }

/-- Data of the system SRAM are discarded by the map of 01 R28. The manual places nothing inside firmware's own regions and
the Ledger's (notes/assumptions/27.md). -/
def discardSram (a : Nat) (s : State) : State :=
  if h : 0x800000 ≤ a ∧ a < 0x880000 then
    dropRecords ⟨(a - 0x800000) / 0x10000, by omega⟩
      (fun r => decide (r.pos % 65536 ≤ a % 65536 ∧ a % 65536 < r.pos % 65536 + recSize r.len)) s
  else if 0x880000 ≤ a ∧ a < 0x980000 then spoilAssembly (fun b => b == (a - 0x880000) / 0x80000) s
  else if 0xA00000 ≤ a ∧ a < 0xC00000 then abortReference s
  else s

/-- Data of the LPDDR5X are discarded by the map of 01 R29: a generation of the history ring (02 R58), an interval or a closed
job of the Ledger's window (08 R241). -/
def discardLpddr (a : Nat) (s : State) : State :=
  if a < 0x30000000 then s.modRcd fun r => { r with ring := r.ring.filter fun x => x.gen % 12288 != a / 0x10000 }
  else if 0x30100000 ≤ a ∧ a < 0x38100000 then
    s.modLdg fun g => { g with ring := g.ring.filter fun x => x.number % 16384 != (a - 0x30100000) / 0x2000 }
  else if 0x38100000 ≤ a ∧ a < 0x3C100000 then
    s.modLdg fun g => { g with closed := g.closed.filter fun x => x.number % 1048576 != (a - 0x38100000) / 64 }
  else s

/-- ECC_UNCORRECTABLE (01 R27). -/
def execEccUncorrectable (site : EccSite) (s : State) : Out3 :=
  let s := s.modSys fun y => { y with eccUe := y.eccUe + 1, memEccUe := true }
  match site with
  | .systemSram a => .next (discardSram a.toNat s)
  | .lpddr a => .next (discardLpddr a.toNat s)
  | .assemblyBuffer => .next (spoilAssembly (fun _ => true) s)
  | .frondRun x | .frondWeights x => .next (frondError x s)
  | .frondReference => .next (abortReference s)
  | .sorusRecord n => .next (dropHead n s)

/-- CXL_MEM_WRITE (01 R30). -/
def execCxlMemWrite (_addr : BitVec 30) (s : State) : Out3 := .next (s.modSys fun y => { y with cxlWdrop := satAdd 0xFFFFFFFF y.cxlWdrop })

end Sys2Proof.Machine
end

