-- ==== Sys2Proof/Machine/Boot.lean ====
section
/-! DEFINITION. Resets and boot: cold reset and its straps (18 R528, R529, R535, R536), the start-up tests (17 R521), the
boot ROM (16 R469 to R476), warm reset (18 R537, 14 R424), and the watchdog with the trial of a controller image (17 R512,
R513; 16 R472). -/

namespace Sys2Proof.Machine

open Sys2Proof

/-! Flash writes (16 R494 to R501). -/

/-- What a write that stopped part of the way leaves is a free value (notes/assumptions/3.md): some first part of it. -/
def partWritten (b : List Byte) (s : State) : List Byte × State :=
  let (x, s) := s.draw
  (b.take (x.toNat % (b.length + 1)), s)

/-- Bytes in the golden copy of a target: slot G, which WP_N protects (01 R32), or the golden region of a family. -/
def putGolden (t : Nat) (b : List Byte) (s : State) : State :=
  s.modNv fun v => if t = 0 then (if s.sys.wpN then { v with slot := v.slot.set 2 b } else v)
    else if t = 1 then { v with golden := v.golden.set 0 b } else { v with golden := v.golden.set 1 b }

/-- A reset stops the flash writes under way: each leaves some first part of it, the golden copy of a controller image only once
its slot is whole; boot and select records stay as they are (16 R494, R495, R501). -/
def cutWrites (s : State) : State :=
  let s := match s.sec.activate with
    | none => s
    | some a =>
      let (b, s) := partWritten a.image s
      let s := s.modNv fun v => { v with slot := if a.slot = 0 then v.slot.set 0 b else v.slot.set 1 b }
      if a.golden && !a.cut && b.length == a.image.length then
        let (g, s) := partWritten a.image s
        putGolden 0 g s
      else s
  let s := match s.sec.goldenWrite with
    | none => s
    | some (t, b) =>
      let (g, s) := partWritten b s
      putGolden t g s
  forAll accList (fun n s => match s.sec.acc[n].write with
    | none => s
    | some (k, b) =>
      if !s.sec.acc[n].writing then s else
      let (c, s) := partWritten b s
      putAccSlot n k c s) s

/-! Cold reset. -/

/-- Every field at its reset value; what AUX3V3 or the fuses keep, the board's levels and the model's own fields stay (18
R535, R536); flash writes stop. -/
def coldState (s : State) : State :=
  let s := cutWrites s
  { State.reset with
    nv := s.nv, free := s.free, out := s.out, pending := s.pending, link := { perstN := s.link.perstN },
    acc := Vector.ofFn fun (n : Acc) => { vrAlertN := s.acc[n].vrAlertN },
    rack := { line := s.rack.line },
    twb := { State.reset.twb with port := Vector.ofFn fun (p : Port) => { State.reset.twb.port[p] with
      sdaLow := s.twb.port[p].sdaLow, sclLow := s.twb.port[p].sclLow, alertLine := s.twb.port[p].alertLine } } }

/-- The straps are latched, a floating one at its safe value, and STRAP_FAULT is stamped in tick 1 (18 R528, R529). -/
def latchStraps (i : StrapSample) (s : State) : State :=
  let f := (i.up ^^^ i.down).toNat
  let s := s.modSys fun y => { y with strapUp := i.up, strapDown := i.down, wpN := i.wpN, testEn := i.testEn }
  let s := s.modSec fun c => { c with bootSel := if f / 256 = 0 then i.up.toNat / 256 % 4 else 1 }
  let s := if f % 32 = 0 then s else s.modRack fun r => { r with strapDetached := true, detached := true }
  if f = 0 then s
  else (emit (s.modSys fun y => { y with tick := 1 }) 7 9 0xFF 0x1201 f).modSys fun y => { y with tick := 0 }

/-- COLD_RESET (18 R535): the tick count starts at 0, fuses and straps are read; each last accepted counter is its floor
(14 R436). -/
def execColdReset (i : StrapSample) (s : State) : Out3 :=
  let s := (coldState s).modNv fun v => { v with boots := (v.boots + 1) % 2 ^ 32 }
  let s := s.modNet fun n => { n with ctr := s.nv.floor }
  let s := s.modLk fun k => { k with training := k.perstN }
  let s := s.modSec fun c => { c with committed := s.nv.epoch, keys := s.nv.keys }
  .next (latchStraps i (s.modSys fun y => { y with boot := .coldRom }))

/-- PORST_N_FALL (18 R535, R536): every output falls at once; the part stays in reset until PORST_N rises. -/
def execPorstNFall (s : State) : Out3 :=
  .next ((coldState s).modSys fun y => { y with boot := .porst, tick := s.sys.tick })

/-- TEST_EN in BLANK: the part stays in the boot ROM and releases neither cluster (18 R530). -/
def factoryTest (s : State) : Bool := s.sys.testEn && s.nv.lc == 0

/-- START_UP_SELF_TEST (17 R521): a pass starts the safety island, in table mode (12 R368); each failed test, 1-7, is
recorded. -/
def execStartUpSelfTest (failed : BitVec 7) (s : State) : Out3 :=
  if s.sys.boot ≠ .coldRom ∨ s.saf.started ∨ s.saf.bistFail ∨ factoryTest s then .next s else
  if failed = 0 then .next (tableCheck ((s.modSaf fun f => { f with started := true }).modSys fun y => { y with safOk := true }))
  else .next (forAll ((List.finRange 7).filter fun k => failed.getLsbD k.1)
    (fun k s => emit s 1 9 (k.1 + 1) 0x1104 (k.1 + 1)) (s.modSaf fun f => { f with bistFail := true }))

/-! The boot ROM. -/

/-- The slot the boot record names, with what the ROM does to the record (16 R470 to R472); a failed trial is cause 2. -/
def pickSlot (s : State) : Nat × State :=
  if s.sec.bootSel = 1 ∨ s.sec.bootSel = 3 then (2, s) else
  match s.nv.boot with
  | none => (0, s)
  | some b =>
    if b.trial && b.tried then
      let k := 1 - b.active
      let s := (s.modNv fun v => { v with boot := some { active := k } }).modSec fun c => { c with cause := 2 }
      (k, emit s 7 9 b.active 0x1006 b.active)
    else (b.active, s)

/-- A trial boots: TRIED is set (16 R472). -/
def setTried (s : State) : State :=
  s.modNv fun v => { v with boot := v.boot.map fun b => { b with tried := b.tried || b.trial } }

/-- The slot that boots, its result in SEC_BOOT (16 R471 steps 2 to 4). -/
def chooseSlot (s : State) : Option Nat × State :=
  let (k, s) := pickSlot s
  let golden (s : State) : Option Nat × State :=
    let r := verifyImage s 0 s.nv.slot[(2 : Fin 3)]
    (if r = 1 then some 2 else none, s.modSec fun c => { c with gResult := r })
  if k = 2 then golden s else
  let r := verifyImage s 0 (if k = 0 then s.nv.slot[(0 : Fin 3)] else s.nv.slot[(1 : Fin 3)])
  let s := s.modSec fun c => { c with abResult := r }
  if r = 1 then (some k, s) else golden s

/-- A controller slot's contents. -/
def slotImage (s : State) (k : Nat) : List Byte :=
  if k = 0 then s.nv.slot[(0 : Fin 3)] else if k = 1 then s.nv.slot[(1 : Fin 3)] else s.nv.slot[(2 : Fin 3)]

/-- CDI and the Alias certificate of a boot (16 R475, R476); the widths inside the CDI input are the model's
(notes/assumptions/29.md). -/
def deriveIds (slot : Nat) (s : State) : State :=
  let m := Config.sha3 s.nv.manifest
  let im := s.sec.image
  let x := bytes32 (imgHash im) ++ bytes32 m ++ leBytes 1 s.nv.lc ++ leBytes 1 s.sec.debug ++ leBytes 4 (imgSvn im) ++ leBytes 1 slot
  let s := s.modSec fun c => { c with
    cdi := if s.nv.udsKill then 0 else Config.kmac s.nv.uds x 256 "FM8 CDI", bootState := (s.sec.debug, s.nv.lc, slot),
    bootManifest := m }
  let body := Config.aliasCert (aliasPub s) [imgHash im, Config.sha3 (imgAux s.sec.island), m]
  s.modSec fun c => { c with
    aliasCert := if s.nv.udsKill then [] else body ++ Config.mldsaSign (fromUds s "FM8 DeviceID") body "" }

/-- With no verifying slot nothing is released: the accelerators go to S0, fans, and pumps where fitted, to 100 % (16 R473). -/
def noSlot (s : State) : State :=
  let s := forAll accList (aimAcc · 0) s
  let s := s.modSys fun y => { y with boot := .noSlot }
  let s := s.modMbx fun m => { m with hattn := true }
  s.modCool fun k => { k with
    fan := k.fan.map fun f => { f with state := 2, duty := 100 },
    pump := if s.nv.coolLiq then k.pump.map fun p => { p with state := 2, duty := 100 } else k.pump }

/-- The watchdog starts with its reset value, unarmed, and a fresh token (17 R512). -/
def startWatchdog (s : State) : State :=
  let (x, s) := s.draw
  s.modSaf fun f => { f with
    armed := false, wdtWritten := false, wdtMs := 100, token := x.setWidth 8, serveTick := s.sys.tick,
    releaseTick := s.sys.tick }

/-- Steps 2 to 6 of the boot ROM (16 R471, R474): the application cluster is released, or nothing is. `restore` is what
firmware loads from flash and store before its first serve (15 R448, 18 R537). -/
def romRelease (cold : Bool) (restore : State → State) (s : State) : State :=
  let s := s.modSec fun c => { c with cause := if cold then 0 else c.nextCause, abResult := 0, gResult := 0 }
  let (o, s) := chooseSlot s
  match o with
  | none => noSlot s
  | some k =>
    let s := if k = 2 then s else setTried s
    let im := slotImage s k
    let s := s.modSec fun c => { c with image := im, bootSlot := k, island := if cold then im else c.island }
    let s := deriveIds k s
    let s := s.modSrs fun r => { r with ver := BitVec.ofNat 32 (imgSrs im * 256 + (imgSrs im - 1)) }
    let s := emit s 7 9 k 0x1001 (k + 16 * s.sec.cause)
    let s := if imgEpochMax im < s.sec.committed then hostEvent 12 s else s
    let s := startWatchdog (s.modSys fun y => { y with boot := .running, fwRunning := false })
    frondReload (restore s)

/-- A stored graph is taken only where it passes the checks of 04 R98 (04 R97). -/
def storedOk : Cmd → Bool
  | .crzSetDep d => decide (d.length = 120) && graphOk d
  | _ => true

/-- Key records at boot: one whose tag fails is replaced by the blank key, with KEY_SET (16 R481). -/
def checkKeys (s : State) : State :=
  forAll (List.finRange 3) (fun (k : Fin 3) s =>
    if s.nv.keyBad[k] then
      let s := s.modNv fun v => { v with keys := v.keys.set k none, keyBad := v.keyBad.set k false }
      emit (s.modSec fun c => { c with keys := c.keys.set k none }) 7 9 (k.1 + 1) 0x100C (0x81 + k.1)
    else s) s

/-- What firmware loads after a cold reset: the configuration store, and the journal's bad entries (15 R448, 11 R335). -/
def coldRestore (s : State) : State :=
  let bad := (s.nv.journal.filter Option.isNone).length
  let s := forAll (s.nv.store.filter storedOk) putStored (checkKeys s)
  s.modBup fun b => { b with bad := bad, badSeen := decide (bad ≠ 0) }

/-- BOOT_ROM_RELEASE (16 R471). In BLANK with TEST_EN high the part stays in the ROM (18 R530). With BOOT_SEL 2 it comes up
detached (16 R470). -/
def execBootRomRelease (s : State) : Out3 :=
  if s.sys.boot ≠ .coldRom ∨ (!s.saf.started && !s.saf.bistFail) ∨ factoryTest s then .next s else
  let s := if s.sec.bootSel = 2 then s.modRack fun r => { r with detached := true } else s
  .next (romRelease true coldRestore s)

/-! Warm reset. -/

/-- A command in flight is cut short: ABORTED, generation 0 and no data, in the first generation after the reset (14
R424). REASON 1 marks it for the publication. -/
def abortReply (s : State) (q : Reply) : Reply :=
  { q with result := .aborted, reason := 1, object := 0xFF, detail := [], data := [], sealNo := s.rcd.seals }

/-- The commands in flight of every kind. -/
def inFlight (s : State) : List Reply :=
  s.rcd.replies ++ s.rcd.storeQ.map (·.2)
    ++ accList.filterMap (fun n => s.acc[n].drain.map (·.reply))
    ++ (List.finRange 4).flatMap (fun (x : Slot) =>
      (match s.frd.slot[x].run with | some r => r.reply.toList | none => []) ++ s.frd.slot[x].queue.map (·.1))
    ++ s.rcd.merger.filterMap fun w => match w.item with
      | .req r => some (ticket r s)
      | _ => none

/-- Every command in flight is cut short (14 R424); a drain ends with XNET_DRAIN as it is (03 R73). -/
def abortAll (s : State) : State :=
  let l := (inFlight s).map (abortReply s)
  let s := s.modRcd fun r => { r with
    replies := l, storeQ := [],
    merger := r.merger.filter fun w => match w.item with | .ev _ => true | _ => false }
  let s := forAll accList (fun n s => s.setAcc n fun a => { a with drain := none }) s
  s.modFrd fun f => { f with slot := f.slot.map fun k => { k with run := none, queue := [] }, cur := none }

/-- BUP_ACC and BUP_COUNT of an accelerator at rest take their reset values; firmware goes on with a stage under way
(notes/assumptions/59.md). -/
def resetStage (b : BupAcc) : BupAcc :=
  if 1 ≤ b.stage ∧ b.stage ≤ 5 then b
  else { b with stage := 0, attempt := 0, trainMode := 0, testMode := 0, unusable := 0, newFail := 0 }

/-- Register fields that firmware owns and that no S marks take their reset values (18 R537). -/
def firmwareReset (s : State) : State :=
  let d : StrState := {}
  let s := s.modStr fun r => { r with
    quota := d.quota, unreach := d.unreach, shortfall := d.shortfall, feltCause := d.feltCause, felting := d.felting,
    recoveryEnd := d.recoveryEnd, ctrl := d.ctrl, cfg := d.cfg, cfg2 := d.cfg2, parkOrder := d.parkOrder, group := d.group, thermCeil := d.thermCeil,
    leak := d.leak, acc := r.acc.map fun a => { a with pref := ({} : StrAcc).pref } }
  let s := s.modFrd fun f => { f with
    sched := ({} : FrdState).sched, nextOffset := ({} : FrdState).nextOffset,
    slot := f.slot.map fun k => { k with
      state := 0, reject := 0, model := none, next := none, boundG4 := 0, boundOwn := 0, captures := [], leaky := [],
      afterUnload := none, afterReset := false, persist := none } }
  let s := s.modBup fun b => { b with cfg := ({} : BupState).cfg, journalFull := false, acc := b.acc.map resetStage }
  let s := s.modCool fun k => { k with staged := [], ror := false, outHist := [] }
  s.modSec fun c => { c with
    goldenBad := Vector.replicate 3 false, nonce := none, stage := Vector.replicate 3 {}, activate := none,
    goldenWrite := none, activated := false, resetTick := none, lifecycle := none, spdm := Vector.replicate 2 {},
    acc := c.acc.map fun a => { a with write := none, writing := false, state := if a.verified then 2 else 0 } }

/-- A warm reset begins (18 R537): the application cluster stops and table mode has cause 2 (12 R368). -/
def warmReset (cause : Nat) (s : State) : State :=
  let s := firmwareReset (cutWrites (abortAll (missSeal s)))
  let s := s.modSys fun y => { y with boot := .warmRom, fwRunning := false }
  tableCheck (s.modSec fun c => { c with nextCause := cause })

/-- What firmware restores after a warm reset (18 R537); a cooling command that had not taken effect does so now. -/
def warmRestore (s : State) : State :=
  forAll s.nv.store (fun c s => match c with
    | .steerSetConfig _ _ _ _ => putStored c s
    | .frondSetSched _ => putStored c s
    | .bupSetConfig _ => putStored c s
    | _ => newCooling c s) s

/-- WARM_RESET_RELEASE (16 R474). -/
def execWarmResetRelease (s : State) : Out3 :=
  if s.sys.boot ≠ .warmRom then .next s else .next (romRelease false warmRestore s)

/-! The watchdog (17 R512, R513). -/

/-- WDT_EXPIRE and what follows it: table mode and a warm reset, or SAFE at the third expiry within 600 s. -/
def wdtExpiry (stopped : Bool) (s : State) : State :=
  let t := s.sys.tick
  let l := t :: s.saf.expiries.filter fun x => decide (t < x + 60000000)
  let s := s.modSaf fun f => { f with expiries := l, wdtCount := min 15 l.length, serveTick := t }
  let s := emit s 1 9 0xFF 0x1103 (min 15 l.length)
  if 3 ≤ l.length ∧ !s.saf.safe ∧ !inTrial s then
    let s := frondSafe (enterSafe 4 s)
    tableCheck (if stopped then s.modSys fun y => { y with boot := .stopped, fwRunning := false } else s)
  else warmReset 3 s

/-- WATCHDOG_EXPIRY (17 R513): no serve within WDT_MS, or the application cluster stops. -/
def execWatchdogExpiry (stopped : Bool) (s : State) : Out3 :=
  let due := decide (s.saf.serveTick + 100 * s.saf.wdtMs ≤ s.sys.tick)
  if s.sys.boot = .running ∧ (stopped ∨ due) ∨ s.sys.boot = .stopped ∧ due then .next (wdtExpiry stopped s) else .next s

/-- WATCHDOG_ARM (17 R512, R523): the first legal write of WDT_MS after a release. -/
def execWatchdogArm (ms : BitVec 16) (s : State) : Out3 :=
  if !running s || s.saf.wdtWritten || decide (ms.toNat < 10) || decide (1000 < ms.toNat) then .next s
  else .next (s.modSaf fun f => { f with wdtMs := ms.toNat, wdtWritten := true, armed := true })

/-- WATCHDOG_SERVE (17 R512): the complement of TOKEN, not before WDT_MS / 4 since the previous serve and not after WDT_MS.
The first serve after a release lets the firmware run (18 R535 step 7), and after a cold reset listening begins. -/
def execWatchdogServe (value : Byte) (s : State) : Out3 :=
  if !running s then .next s else
  let f := s.saf
  let early := s.sys.fwRunning && decide (4 * s.sys.tick < 4 * f.serveTick + 100 * f.wdtMs)
  if value ≠ ~~~f.token ∨ early ∨ f.serveTick + 100 * f.wdtMs < s.sys.tick then .next (wdtExpiry false s) else
  let (x, s) := s.draw
  let s := s.modSaf fun f => { f with token := x.setWidth 8, serveTick := s.sys.tick, served := true }
  let s := s.modRack fun r => { r with listenTick := r.listenTick.or (some s.sys.tick) }
  .next (hattnCheck (s.modSys fun y => { y with fwRunning := true }))

/-! The trial of a controller image (16 R472, R494). -/

/-- TRIAL_CONFIRMED (16 R472, R494): 10 s of service and a published record; RAISE_SVN raises SVN_MIN when slot G is as
new. -/
def execTrialConfirmed (s : State) : Out3 :=
  let shown := match s.rcd.mirror with | some r => decide (s.saf.releaseTick ≤ r.sealTick) | none => false
  match s.nv.boot with
  | none => .next s
  | some b =>
    if !running s || !s.sys.fwRunning || !b.trial || s.sec.bootSlot != b.active || !shown ||
      decide (s.sys.tick < s.saf.releaseTick + 1000000) then .next s else
    let s := s.modNv fun v => { v with boot := some { b with trial := false, tried := false } }
    let v := imgSvn s.sec.image
    let up := (imgFlags s.sec.image).testBit 0 && decide (v ≤ imgSvn s.nv.slot[(2 : Fin 3)])
    let s := if up then s.modNv fun x => { x with svnMin := max x.svnMin v } else s
    .next (emit s 7 9 b.active 0x1005 (b.active + (if up then 0 else 16)))

/-- TRIAL_TIMEOUT (16 R472): 30 s after release. -/
def execTrialTimeout (s : State) : Out3 :=
  match s.nv.boot with
  | none => .next s
  | some b =>
    if !running s || !b.trial || s.sec.bootSlot != b.active || decide (s.sys.tick < s.saf.releaseTick + 3000000) then .next s
    else .next (warmReset 3 s)

/-- ACTIVATE_WARM_RESET (16 R494 step 4): 100 ms after the publication that showed FW_ACTIVATED. -/
def execActivateWarmReset (s : State) : Out3 :=
  match s.sec.resetTick with
  | none => .next s
  | some t => if s.sys.tick < t ∨ !running s then .next s else .next (warmReset 1 s)

end Sys2Proof.Machine
end

