-- ==== Sys2Proof/Machine/CrzRows.lean ====
section
/-! DEFINITION. Crozier's steps as events of the board (04_power_sequencing.md, 03 R64, R65, R72): step starts, power-good
edges and timers, rails that count as stable or off, e-fuse and identity reads, THERMTRIP_N and VRALERT_N. -/

namespace Sys2Proof.Machine

open Sys2Proof

/-- CRZ_STEP_START (04 R88): a held step starts, or the next ready rails of a started one are enabled. -/
def execCrzStepStart (c : Chan) (s : State) : Out3 :=
  let ch := s.crz.chan[c]
  .next (if ch.dir = 3 ∨ ch.dir = 2 ∧ !ch.stepDone ∨ ch.target < ch.state then s
    else if !ch.stepDone then enableReady c s else crzUp c s)

/-- STAGGER_START (04 R127): the channel may enter S8, or remove its core rails. -/
def execStaggerStart (n : Acc) (s : State) : Out3 :=
  match s.crz.chan[accChan n].stagger with
  | none => .next s
  | some t =>
    if s.sys.tick < t then .next s else
    .next (crzTick (accChan n) (s.setChan (accChan n) fun c => { c with stagger := none }))

/-- EFUSE_CLOSE_TIMEOUT (04 R87): the e-fuse opens again and the channel stays in S0. -/
def execEfuseCloseTimeout (n : Acc) (s : State) : Out3 :=
  let c := s.crz.chan[accChan n]
  match c.efuseClose with
  | none => .next s
  | some t =>
    if c.efuseGood ∨ s.sys.tick < t + 2000 then .next s else
    let s := (s.setAcc n fun a => { a with efuseOn := false }).setChan (accChan n) fun c => { c with efuseClose := none }
    .next ((faultInPlace (accChan n) 9 s).setChan (accChan n) fun c => { c with target := 0 })

/-- IDENTITY_READ (03 R64, R65): an unreadable block, one with a field out of range, or a good one. A boot-flash image of
the other family counts as a failed verification (16 R498). -/
def execIdentityRead (n : Acc) (id : Option Identity) (s : State) : Out3 :=
  let c := accChan n
  let ch := s.crz.chan[c]
  if ch.state ≠ 1 ∨ ch.stepDone ∨ ch.dir ≠ 1 ∨ s.acc[n].ident.isSome ∨ !s.crz.rail[railOf n 0].stable then .next s else
  match id with
  | none => .next (faultInPlace c 10 s)
  | some x =>
    if 2 < x.binFuse.toNat ∨ 1 < x.fwFamily.toNat then
      .next (faultInPlace c 13 (s.setAcc n fun a => { a with bin := 0xFF }))
    else
      let s := loadIdentity n x s
      let s := if imgTarget (accSlot s n (selectOf s n).active) = 1 + x.fwFamily.toNat then s
        else s.setAccFw n fun a => { a with verified := false, state := 0 }
      .next (settle c s)

/-! Power-good (04 R99 to R102). -/

/-- Step window of a rail's state, ticks (04 R101). -/
def railWindow (s : State) (r : Rail) : Nat := windowTicks s (chanOf r) (railState s r)

/-- REFCLK cycles up to the end of the present tick (04 R99: 40 ns each, 250 a tick). -/
def cyclesNow (s : State) : Nat := 250 * (s.sys.tick + 1)

/-- The REFCLK cycle at which the filtered input of a rail has been steady for 32 us (04 R99, R102). -/
def steadyAt (s : State) (r : Rail) : Nat := s.crz.rail[r].pgAt + 800

/-- The cycle at which a rail counts as stable, its input high (04 R99): 32 us from the enable where it was high before. -/
def stableAt (s : State) (r : Rail) : Nat := max (if driven r then 250 * s.crz.rail[r].enTick + 800 else 0) (steadyAt s r)

/-- A rail of an unfinished step would come to count as stable after the end of its window (04 R99, R100). -/
def afterWindow (s : State) (r : Rail) : Bool :=
  let c := chanOf r
  let ch := s.crz.chan[c]
  match ch.stepStart with
  | none => false
  | some t => !ch.stepDone && railState s r == ch.state && decide (250 * (t + windowTicks s c ch.state) < stableAt s r)

/-- RAIL_PG_CHANGE (04 R101): a transition of the filtered input; the fifth within a window confirms PG_CHATTER. A rail that is not
declared is not supervised (00 R10). -/
def execRailPgChange (r : Rail) (level : Bool) (cycle : Fin 250) (s : State) : Out3 :=
  let q := s.crz.rail[r]
  if q.pg == level then .next s else
  let now := 250 * s.sys.tick + cycle.1
  let s := s.setRail r fun x => { x with pg := level, pgAt := now }
  if !q.en || !declared s r then .next s else
  let l := now :: q.trans.filter fun t => decide (now ≤ t + 250 * railWindow s r)
  let s := s.setRail r fun x => { x with trans := l }
  .next (if 5 ≤ l.length then confirmFault r 2 l.length l.length s else s)

/-- What a rail that comes to count as stable starts: the isolation switch (13 R385), the arming times (03 R72), the
margin base (05 R150), fans and pumps (12 R358, R362). -/
def stableHook (r : Rail) (s : State) : State :=
  match accOfRail r with
  | some n =>
    let i := r.1 % 14
    if i = 8 then s
    else if i = 11 ∨ i = 12 then
      if s.crz.rail[coreRail n 0].stable && s.crz.rail[coreRail n 1].stable then s
      else s.setAcc n fun a => { a with coreTick := s.sys.tick }
    else
      let (x, s) := s.draw
      let s := s.modSup fun u => { u with baseMv := u.baseMv.set r (x.toNat % 65536) }
      if i = 0 then s.setAcc n fun a => { a with isoEn := true, auxTick := s.sys.tick } else s
  | none =>
    if r.1 = 113 then s.modCool fun k => { k with fanTick := some s.sys.tick, kicked := 0 }
    else if r.1 = 114 then startPumps s
    else s

/-- RAIL_STABLE (04 R99): the input of an enabled rail has been high for 32 us, no later than the end of the step window; the step
may be complete (04 R88). AUX3V3 is only monitored. -/
def execRailStable (r : Rail) (s : State) : Out3 :=
  let q := s.crz.rail[r]
  if q.stable || !q.pg || (driven r && !q.en) || decide (cyclesNow s ≤ stableAt s r) || afterWindow s r then .next s else
  let s := s.setRail r fun x => { x with stable := true, off := false }
  .next (settle (chanOf r) (stableHook r s))

/-- The window of a channel's step has ended, on a channel that powers up or has stopped with a fault of this tick (04 R100,
R104). -/
def windowOver (s : State) (c : Chan) : Bool :=
  let ch := s.crz.chan[c]
  match ch.stepStart with
  | none => false
  | some t => !ch.stepDone && ch.state != 0 && decide (t + windowTicks s c ch.state ≤ s.sys.tick)
      && (ch.dir == 1 || (ch.dir == 3 && ch.fTick == s.sys.tick % 2 ^ 32))

/-- PG_TIMEOUT (04 R99, R100): the window of the step ends with the rail not stable; 32 us complete at its end are in time. -/
def execPgTimeout (r : Rail) (s : State) : Out3 :=
  let c := chanOf r
  let ch := s.crz.chan[c]
  let late := !s.crz.rail[r].pg || !s.crz.rail[r].en || afterWindow s r
  if !windowOver s c || railState s r != ch.state || s.crz.rail[r].stable || s.crz.rail[r].removing || !late then .next s
  else .next (confirmFault r 1 ch.state 0 s)

/-- PG_LOST (04 R102): the input of a stable rail has been low for 32 us. -/
def execPgLost (r : Rail) (s : State) : Out3 :=
  let q := s.crz.rail[r]
  if !q.stable || q.pg || (driven r && !q.en) || !declared s r || decide (cyclesNow s ≤ steadyAt s r) then .next s else
  .next (confirmFault r 3 s.crz.chan[chanOf r].state 0 s)

/-! Rails that fall, or do not (04 R92, R107 to R110). -/

/-- Fans and pumps without their supply are off (12 R357). -/
def supplyGone (r : Rail) (s : State) : State :=
  if r.1 = 113 then s.modCool fun k => { k with
    fanTick := none, kicked := 0,
    fan := k.fan.map fun f => { f with state := if f.state = 5 then 5 else 0, duty := 0, rpm := 0 } }
  else if r.1 = 114 then s.modCool fun k => { k with
    pump := k.pump.map fun p => { p with state := if p.state = 4 ∨ p.state = 5 then p.state else 0, duty := 0, rpm := 0 } }
  else s

/-- A rail is judged by its power-good input: DIMM_PMIC, a rail whose converter is in fault, a tray rail without NOM (04 R92; 05
R133, R155). -/
def offByPg (s : State) (r : Rail) : Bool :=
  (match accOfRail r with | some _ => r.1 % 14 == 8 | none => nomOf s r == 0) || s.sup.scFault[convOf r]

/-- A rail counts as off (04 R92): below its threshold in two consecutive scans; or, disabled, 5 ms after the later of the disable
and the end of 32 us of a low power-good input. -/
def countsOff (s : State) (r : Rail) : Bool :=
  if offByPg s r then
    !s.crz.rail[r].en && !s.crz.rail[r].pg &&
      decide (max (250 * s.crz.rail[r].disTick) (steadyAt s r) + 125000 < cyclesNow s)
  else decide (2 ≤ s.sup.entry[r].offRun)

/-- RAIL_OFF (04 R92). -/
def execRailOff (r : Rail) (s : State) : Out3 :=
  if !countsOff s r then .next s else
  let t := railGone r s
  .next (if t.crz.rail[r].off && !s.crz.rail[r].off then supplyGone r t else t)

/-- TRAYFLT_N driven by the safety island (04 R115, 17 R511). -/
def driveTrayflt (s : State) : State := trayOff (s.modRack fun r => { r with trayfltDrive := true })

/-- OFF_TIMEOUT on an accelerator rail (04 R108): e-fuse open, every enable off, S0 with FAULT. -/
def offTimeoutAcc (n : Acc) (r : Rail) (s : State) : State :=
  let c := accChan n
  let s := noteFault c 8 r.1 0 (emit s 2 c.1 r.1 0x208 s.crz.chan[c].state)
  let s := dropDrain n (if 9 ≤ s.crz.chan[c].state then leaveTop n s else s)
  let s := forAll (List.finRange 14) (fun i s =>
    (disableRail (railOf n i) s).setRail (railOf n i) fun q => { q with removing := false }) s
  let s := (putState c 0 s).setChan c fun x => { x with
    fault := true, efuseOpen := true, efuseOpenTick := x.efuseOpenTick.or (some s.sys.tick), target := 0, dir := 0, stepDone := true,
    waiting := false, emergency := false, limit := none, stagger := none }
  enterS0 n s

/-- OFF_TIMEOUT on a tray rail (04 R110): NET is reported only; a rail held through BULK48 brings TRAYFLT_N. -/
def offTimeoutTray (r : Rail) (s : State) : State :=
  let s := noteFault trayChan 8 r.1 0 (emit s 2 8 r.1 0x208 s.crz.chan[trayChan].state)
  if r.1 = 116 then s else
  let s := s.setChan trayChan fun x => { x with fault := true }
  if underBulk s r then driveTrayflt s else s

/-- OFF_TIMEOUT (04 R108, R110): 50 ms after the disable the rail has not counted as off. -/
def execOffTimeout (r : Rail) (s : State) : Out3 :=
  let q := s.crz.rail[r]
  if q.en ∨ q.off ∨ q.offLate ∨ !driven r ∨ s.sys.tick < q.disTick + 5000 then .next s else
  let s := s.setRail r fun x => { x with offLate := true }
  .next (match accOfRail r with
    | some n => offTimeoutAcc n r s
    | none => offTimeoutTray r s)

/-- EFUSE_FAULT (04 R108, 17 R511): a rail not off 100 ms after the e-fuse opened. -/
def execEfuseFault (n : Acc) (s : State) : Out3 :=
  let c := accChan n
  match s.crz.chan[c].efuseOpenTick with
  | none => .next s
  | some t =>
    let live := (List.finRange 14).any fun i => !s.crz.rail[railOf n i].off
    if !live ∨ s.sys.tick < t + 10000 then .next s else
    let s := noteFault c 9 0x7F 0 (emit s 2 c.1 0xFF 0x209 s.crz.chan[c].state)
    .next (driveTrayflt (s.setChan c fun x => { x with fault := true, efuseOpenTick := none }))

/-- TRAYFLT (04 R114): the shared line has been low for 10 us. -/
def execTrayflt (s : State) : Out3 := .next (trayOff s)

/-- RACKFLT (04 R116): the shared line has been low for 100 us and this FM8 does not drive it. -/
def execRackflt (s : State) : Out3 := if s.rack.rackfltDrive then .next s else .next (rackOff s)

/-! Alert inputs (01 R18, R26; 03 R70 to R72, R552). -/

/-- THERMTRIP (03 R70, R72, R552; 04 R106). -/
def execThermtrip (n : Acc) (lowNs : Nat) (s : State) : Out3 :=
  if lowNs < 1000 then .next (s.setAcc n fun a => { a with thermShort := a.thermShort + 1 })
  else if chState s n = 0 then .next s
  else if s.acc[n].thermArmed then .next (emergencyStop n 6 0x7F s)
  else .next (emit s 3 n.1 0xFF 0x0302 0)

/-- ALERT_ARMING (03 R72): 1 ms after regulation the input is acted on; a level already there takes effect, THERMTRIP_N's where it has
lasted 1 us. -/
def execAlertArming (n : Acc) (input : AlertInput) (s : State) : Out3 :=
  match input with
  | .thermtrip lowNs =>
    if !s.crz.rail[railOf n 0].stable ∨ s.acc[n].thermArmed ∨ s.sys.tick < s.acc[n].auxTick + 100 then .next s
    else
      let s := s.setAcc n fun a => { a with thermArmed := true }
      .next (if 1000 ≤ lowNs ∧ chState s n ≠ 0 then emergencyStop n 6 0x7F s else s)
  | .vralert =>
    if !(s.crz.rail[coreRail n 0].stable || s.crz.rail[coreRail n 1].stable) ∨ s.acc[n].vrArmed ∨
      s.sys.tick < s.acc[n].coreTick + 100 then .next s
    else .next (s.setAcc n fun a => { a with vrArmed := true, forceL0 := a.forceL0 || !a.vrAlertN })

/-- VRALERT_FALL (01 R18; 03 R70, R72, R552). -/
def execVralertFall (n : Acc) (s : State) : Out3 :=
  let a := s.acc[n]
  if !a.vrAlertN then .next s else
  let s := s.setAcc n fun a => { a with vrAlertN := false }
  if chState s n = 0 then .next s
  else if a.vrArmed then
    .next (emit (s.setAcc n fun a => { a with forceL0 := true, holdUntil := none }) 3 n.1 0xFF 0x0301 1)
  else .next (emit s 3 n.1 0xFF 0x0301 3)

/-- VRALERT_RISE (01 R26; 03 R552): the 1 ms holdoff starts. -/
def execVralertRise (n : Acc) (s : State) : Out3 :=
  let a := s.acc[n]
  if a.vrAlertN then .next s else
  let s := s.setAcc n fun a => { a with vrAlertN := true }
  if chState s n = 0 ∨ !a.vrArmed then .next s
  else .next (emit (s.setAcc n fun a => { a with
    holdUntil := if a.forceL0 then some (s.sys.tick + 100) else none }) 3 n.1 0xFF 0x0301 0)

/-- HOLDOFF_END (01 R26): a release request may be honoured. -/
def execHoldoffEnd (n : Acc) (s : State) : Out3 :=
  match s.acc[n].holdUntil with
  | none => .next s
  | some t => if s.sys.tick < t then .next s else .next (s.setAcc n fun a => { a with holdUntil := none })

end Sys2Proof.Machine
end

