-- ==== Sys2Proof/Machine/Links.lean ====
section
/-! DEFINITION. REFCLK and the links (01 R17; 18 R539 to R544), LPDDR5X (18 R535), and the causes of SAFE that the safety
island or its comparator finds (17 R510 to R519; 01 R16). -/

namespace Sys2Proof.Machine

open Sys2Proof

/-! CXL (18 R539 to R542). -/

/-- The CXL link is down; IDE keys go with it (18 R541, R542). -/
def cxlDown (s : State) : State :=
  let s := s.modLk fun k => { k with ide := false, ideKeys := [] }
  if s.link.rate = 0 then s else
  emit (s.modLk fun k => { k with rate := 0, width := 0, flit256 := false, downCount := satAdd 255 k.downCount })
    7 9 0xFF 0x1202 0

/-- CXL_LINK_UP (18 R538, R539, R542): at one of the four rates and four widths. Pending vectors are sent (14 R427). -/
def execCxlLinkUp (rate : Fin 7) (width : Fin 5) (flit256 : Bool) (s : State) : Out3 :=
  if rate = 0 ∨ 4 < rate.1 ∨ width = 0 ∨ !s.link.perstN ∨ s.sys.refclkLost ∨ s.sys.boot = .porst ∨ s.link.rate ≠ 0 then .next s
  else
    let s := s.modLk fun k => { k with rate := rate.1, width := width.1, flit256 := flit256, training := false }
    .next (msiFlush (emit s 7 9 0xFF 0x1202 (16 * rate.1 + width.1)))

/-- CXL_LINK_DOWN (18 R542): training starts again. -/
def execCxlLinkDown (s : State) : Out3 :=
  if s.link.rate = 0 then .next s
  else .next ((cxlDown s).modLk fun k => { k with training := k.perstN && !s.sys.refclkLost })

/-- PERST_N_ASSERT (18 R540): the CXL controller, its configuration space and MSI-X only. -/
def execPerstNAssert (s : State) : Out3 :=
  let s := (cxlDown s).modLk fun k => { k with perstN := false, training := false, config := [] }
  .next (s.modMbx fun m => { m with
    msixEnable := false, msixMask := false, vecMask := 0xFFFF, pba := 0,
    mem := m.mem.filter fun c => !(decide (0x2000 ≤ c.1) && decide (c.1 < 0x2100)) })

/-- PERST_N_DEASSERT (18 R539): with PORST_N high, training starts. -/
def execPerstNDeassert (s : State) : Out3 :=
  if s.link.perstN then .next s
  else .next (s.modLk fun k => { k with perstN := true, training := s.sys.boot != .porst && !s.sys.refclkLost })

/-- CXL_CONFIGURATION_LOADED (18 R535 step 5, R539). -/
def execCxlConfigurationLoaded (s : State) : Out3 :=
  if s.sys.boot = .porst then .next s else .next (s.modLk fun k => { k with configLoaded := true })

/-- What a read of configuration space returns: the class code and BAR0, 64 KiB, 64-bit, non-prefetchable (18 R538), at their
places in PCI's header (PRESUMED, notes/assumptions/6.md); the rest the manual leaves to the CXL standard, a free value. -/
def configWord (s : State) (offset : BitVec 12) (x : BitVec 32) : BitVec 32 :=
  let at4 (a : Nat) : BitVec 32 := BitVec.ofNat 32 (leNat (cellsRead s.link.config a 4))
  let a := offset.toNat / 4 * 4
  if a = 8 then 0x05021000 ||| x &&& 0xFF
  else if a = 0x10 then at4 0x10 &&& 0xFFFF0000 ||| 4
  else if a = 0x14 then at4 0x14
  else x

/-- CONFIGURATION_REQUEST (18 R539): Retry Status until the configuration is loaded. MSI-X masking acts on the vectors (14
R427). -/
def execConfigurationRequest (req : ConfigRequest) (s : State) : Out3 :=
  if !cxlUp s then .next s
  else if !s.link.configLoaded then .next (s.send (.config none))
  else match req with
  | .read offset =>
    let (x, t) := s.draw
    .next (t.send (.config (some (configWord s offset (x.setWidth 32)))))
  | .write offset data =>
    let s := s.modLk fun k => { k with config := cellsWrite (offset.toNat / 4 * 4) (leBytes 4 data.toNat) k.config }
    .next (s.send (.config (some 0)))
  | .msixEnable enable functionMask =>
    .next (msiFlush ((s.modMbx fun m => { m with msixEnable := enable, msixMask := functionMask }).send (.config (some 0))))
  | .vectorMask v masked =>
    let b := BitVec.ofNat 16 (2 ^ v.1)
    .next (msiFlush ((s.modMbx fun m => { m with
      vecMask := if masked then m.vecMask ||| b else m.vecMask &&& ~~~b }).send (.config (some 0))))

/-! Ethernet (18 R543, R544). -/

/-- A port's rate changes (18 R545, R550). -/
def ethRate (p : Fin 2) (r : Nat) (s : State) : State :=
  if s.net.rate[p] = r then s else emit (s.modNet fun n => { n with rate := n.rate.set p r }) 7 9 p.1 0x1203 r

/-- ETH_LINK_UP (18 R543). -/
def execEthLinkUp (p : Fin 2) (fast : Bool) (s : State) : Out3 :=
  if s.sys.refclkLost ∨ s.sys.boot = .porst then .next s else .next (ethRate p (if fast then 2 else 1) s)

/-- ETH_LINK_DOWN (18 R543). -/
def execEthLinkDown (p : Fin 2) (s : State) : Out3 := .next (ethRate p 0 s)

/-- MAC address of a port: the fused base, or the base + 1 (18 R543). -/
def portMac (s : State) (p : Fin 2) : BitVec 48 := s.nv.mac + BitVec.ofNat 48 p.1

/-- Link-local address of a port, from the modified EUI-64 of its MAC address (18 R544). -/
def linkLocal (m : BitVec 48) : BitVec 128 :=
  (0xFE80 : BitVec 16) ++ (0 : BitVec 48) ++ ((m.extractLsb' 24 24) ^^^ 0x020000) ++ (0xFFFE : BitVec 16) ++ m.extractLsb' 0 24

/-- Addresses of a port: link-local, and its two of net.set_config (14 R428, 18 R544). -/
def portAddrs (s : State) (p : Fin 2) : List (BitVec 128) :=
  linkLocal (portMac s p) :: (s.net.addrs.drop (2 * p.1)).take 2

/-- An answer that the standard named by the manual fixes, from the port's addresses, leaves on a port that is up (18 R544). -/
def portAnswer (p : Fin 2) (msg : List Byte) (s : State) : State :=
  if s.net.rate[p] = 0 then s else
  s.send (.answer (Config.standardAnswer (leBytes 6 (portMac s p).toNat
    ++ (portAddrs s p).flatMap (fun a => leBytes 16 a.toNat) ++ msg)))

/-- NEIGHBOUR_DISCOVERY (18 R544). -/
def execNeighbourDiscovery (p : Fin 2) (msg : List Byte) (s : State) : Out3 := .next (portAnswer p msg s)

/-- ICMPV6_ECHO (18 R544). -/
def execIcmpv6Echo (p : Fin 2) (msg : List Byte) (s : State) : Out3 := .next (portAnswer p msg s)

/-- NETWORK_FRAME_DROPPED (18 R537, R544, R545; 14 R414). -/
def execNetworkFrameDropped (kind : NetDrop) (s : State) : Out3 :=
  match kind with
  | .stopped => if running s then .next s else .next (s.modNet fun n => { n with dropped := satAdd 255 n.dropped })
  | .badFrame => .next (s.modNet fun n => { n with frameErr := satAdd 255 n.frameErr })
  | .tagged => .next (s.modNet fun n => { n with frameErr := satAdd 255 n.frameErr })
  | .ipv4 => .next (s.modNet fun n => { n with frameErr := satAdd 255 n.frameErr })

/-- IPV6_REASSEMBLY_TIMEOUT (14 R428): the fragments are discarded. A datagram reaches the FM8's state only when it is
whole, and R428 counts nothing. -/
def execIpv6ReassemblyTimeout (s : State) : Out3 := .next s

/-! REFCLK (01 R17; 02 R37) and memory (18 R535; 01 R29). -/

/-- REFCLK_LOST (01 R17, R551): LPDDR5X in self-refresh, no new power-up steps, every link down. -/
def execRefclkLost (s : State) : Out3 :=
  if s.sys.refclkLost then .next s else
  let s := s.modSys fun y => { y with
    refclkLost := true, refclkWasLost := true, refclkSettled := false, memSelfRefresh := true }
  let s := cxlDown (emit s 1 9 0xFF 0x0102 1)
  let s := s.modLk fun k => { k with mediaReady := false, training := false }
  let s := ethRate 1 0 (ethRate 0 0 s)
  .next (forAll accList (linkDown · 3) s)

/-- REFCLK_RETURN (02 R37; 01 R551): the links train again. -/
def execRefclkReturn (s : State) : Out3 :=
  if !s.sys.refclkLost then .next s else
  let s := s.modSys fun y => { y with refclkLost := false, refclkTick := y.tick, memSelfRefresh := false }
  let s := emit s 1 9 0xFF 0x0102 0
  let s := s.modLk fun k => { k with mediaReady := s.sys.memTrained, training := k.perstN }
  .next (forAll accList (fun n s => if linkAllowed s n && s.srs.link[n].state == 0 then linkStart n s else s) s)

/-- REFCLK_SETTLED (01 R17): present for 100 ms. -/
def execRefclkSettled (s : State) : Out3 :=
  if s.sys.refclkLost ∨ s.sys.tick < s.sys.refclkTick + 10000 then .next s
  else .next (s.modSys fun y => { y with refclkSettled := true })

/-- LPDDR5X_TRAINED (18 R535 step 6; 01 R29): less than 4 GiB leaves the FM8 in STANDBY. -/
def execLpddr5xTrained (gib : BitVec 6) (s : State) : Out3 :=
  if s.sys.memTrained ∨ s.sys.boot = .porst then .next s else
  let s := s.modSys fun y => { y with memTrained := true, memGib := gib.toNat, memShort := decide (gib.toNat < 4) }
  .next (s.modLk fun k => { k with mediaReady := !s.sys.memSelfRefresh })

/-- CTRL_HOT (18 R549): 16 readings at or above 105 degrees C, then 16 below 100. -/
def execCtrlHot (s : State) : Out3 :=
  if !s.link.hot && decide (16 ≤ s.link.hotRun) then
    .next (emit (s.modLk fun k => { k with hot := true }) 4 9 0xFF 0x1204 1)
  else if s.link.hot && decide (16 ≤ s.link.coolRun) then
    .next (emit (s.modLk fun k => { k with hot := false }) 4 9 0xFF 0x1204 0)
  else .next s

/-! Causes of SAFE (17 R510 to R519). -/

/-- SAFE with table mode for its causes 3 to 5, or the outputs overridden for 1 and 2 (17 R517). -/
def safeNow (cause : Nat) (s : State) : State :=
  let s := frondSafe (enterSafe cause s)
  if overridden s then driveAll 0 s else tableCheck s

/-- PACE_LOW (01 R16, R551; 17 R514): two low samples in a row with the trim at 0.85 V. While the condition stays, it is not
recorded again, but SAFE is set again where another cause has held it and was cleared. -/
def execPaceLow (s : State) : Out3 :=
  if s.saf.ringLow then .next (if s.saf.safe || !s.sys.paceLow then s else safeNow 3 s)
  else if s.saf.ringTwice = 0 then .next s else
  let s := emit (s.modSys fun y => { y with paceLow := true }) 1 9 0xFF 0x0101 s.saf.ringTwice.toNat
  .next (safeNow 3 (s.modSaf fun f => { f with ringLow := true }))

/-- The comparator confirms a divergence: outputs that differ, or 500 us without the checkpoint due (17 R510). -/
def diverges : Divergence → Bool
  | .handshake => true
  | .unmatched us => decide (500 ≤ us)
  | .silent us => decide (500 ≤ us)

/-- LOCKSTEP_DIVERGENCE (17 R510). A latch that is already set keeps its cause (notes/assumptions/59.md). -/
def execLockstepDivergence (d : Divergence) (s : State) : Out3 :=
  if !s.saf.started || !diverges d then .next s else .next (safeNow 1 (s.modSys fun y => { y with safOk := false }))

/-- ISLAND_SRAM_ERROR (17 R511; 01 R27). -/
def execIslandSramError (s : State) : Out3 :=
  .next (safeNow 2 (s.modSys fun y => { y with memEccUe := true, eccUe := y.eccUe + 1 }))

/-- CONVERTERS_BOTH_FAULT (17 R515): for 100 ms with a channel above S0. -/
def execConvertersBothFault (s : State) : Out3 :=
  match s.saf.bothSince with
  | none => .next s
  | some t =>
    if s.sys.tick < t + 10000 ∨ (accList.all fun n => chState s n == 0) then .next s
    else .next (safeNow 5 s)

/-- SAFE_TRAYFLT (17 R519): an accelerator channel not in S0 1 s after the latch. -/
def execSafeTrayflt (s : State) : Out3 :=
  if !s.saf.safe || s.rack.trayfltDrive || decide (s.sys.tick < s.saf.causeTick + 100000)
      || (accList.all fun n => chState s n == 0) then .next s
  else .next (driveTrayflt s)

end Sys2Proof.Machine
end

