-- ==== Sys2Proof/Machine/FwRows.lean ====
section
/-! DEFINITION. Firmware and lifecycle actions as they finish (16_security_and_firmware.md R484 to R501): boot-flash
verification, image writes, golden copies, lifecycle fuses; and the MCTP and PLDM messages (13 R409, R410; 16 R492). -/

namespace Sys2Proof.Machine

open Sys2Proof

/-! Accelerator boot flashes (16 R497 to R501). -/

/-- An image is taken as verified: measurement 8 + n, version and fixed-seed table (16 R478, R498). -/
def noteVerified (n : Acc) (b : List Byte) (s : State) : State :=
  s.setAccFw n fun a => { a with
    state := 2, verified := true, version := imgVersion b, meas := imgHash b, table := imgAux b }

/-- The golden copy fails too: target S3 and BOOT_FAILED (16 R498). -/
def bootFails (n : Acc) (s : State) : State :=
  aimAcc n 3 ((s.setBup n fun b => { b with stage := 7, bootFailed := true }).setAccFw n fun a => { a with state := 4 })

/-- The golden copy of the family goes into a slot (16 R498, R499). -/
def reflash (n : Acc) (k : Nat) (s : State) : State :=
  let s := putAccSlot n k (goldenOf s (familyOf s n)) s
  hostEvent 12 (emit s 7 n.1 k 0x1008 1)

/-- The active slot is verified; a failed one is rewritten from golden and verified again (16 R498). Before S1 the family
is not known, so that a failure waits for the identity block (notes/assumptions/30.md). -/
def verifyActive (n : Acc) (s : State) : State :=
  let k := (selectOf s n).active
  let b := accSlot s n k
  let r := verifyAcc s n b
  if r = 1 then noteVerified n b s else
  let s := emit s 7 n.1 k 0x1007 r
  if s.acc[n].ident.isNone then s.setAccFw n fun a => { a with state := 4 } else
  let s := reflash n k s
  let g := accSlot s n k
  if verifyAcc s n g = 1 then noteVerified n g s else bootFails n s

/-- In S0 or S12 the inactive slot is verified, and rewritten from the last-known-good copy when it fails (16 R500). -/
def verifyInactive (n : Acc) (s : State) : State :=
  let k := 1 - (selectOf s n).active
  let good := lkgOf s (familyOf s n)
  if (chState s n = 0 ∨ chState s n = 12) ∧ s.acc[n].ident.isSome ∧ good ≠ [] ∧ verifyAcc s n (accSlot s n k) ≠ 1 then
    hostEvent 12 (emit (putAccSlot n k good s) 7 n.1 k 0x1008 2)
  else s

/-- BOOT_FLASH_VERIFIED (11 R313; 16 R498, R500). -/
def execBootFlashVerified (n : Acc) (s : State) : Out3 :=
  if !running s || s.sec.acc[n].write.isSome then .next s else .next (verifyActive n (verifyInactive n s))

/-- ACC_FW_WRITE_DONE (16 R501): slot and select record are written and verified; a failed write leaves the record. -/
def execAccFwWriteDone (n : Acc) (ok : Bool) (s : State) : Out3 :=
  let a := s.sec.acc[n]
  match a.write with
  | none => .next s
  | some (k, b) =>
    if !a.writing ∨ !running s then .next s else
    let s := s.setAccFw n fun a => { a with write := none, writing := false }
    if ok then .next (verifyActive n (writeSelect n k true (putAccSlot n k b s)))
    else
      let (c, s) := partWritten b s
      .next ((putAccSlot n k c s).setAccFw n fun a => { a with state := 4 })

/-- A write deferred in S9 to S11 starts when the channel has left them (16 R501). -/
def startAccWrites (s : State) : State :=
  forAll accList (fun n s =>
    let k := chState s n
    if s.sec.acc[n].write.isSome && !s.sec.acc[n].writing && (decide (k < 9) || k == 12) then
      s.setAccFw n fun a => { a with writing := true, state := 3 }
    else s) s

/-! The controller (16 R494 to R496). -/

/-- WP_N at its present level (01 R32, 18 R528). A fall stops a write of slot G that is under way with what was written so far
(16 R495). -/
def followWp (level : Bool) (s : State) : State :=
  let s := match s.sec.activate with
    | some a =>
      if a.golden && s.sys.wpN && !level then
        let (c, s) := partWritten a.image s
        (putGolden 0 c s).modSec fun x => { x with activate := some { a with cut := true } }
      else s
    | none => s
  s.modSys fun y => { y with wpN := level }

/-- Steps 2 and 3 of a controller activation (16 R494). -/
def activateDone (k : Nat) (s : State) : State :=
  let s := s.modNv fun v => { v with boot := some { active := k, trial := true, tried := false } }
  emit (s.modSec fun c => { c with activated := true }) 7 9 0 0x1004 0

/-- One golden copy is checked (16 R496): GOLDEN_BAD says whether it fails. -/
def checkGolden (t : Fin 3) (s : State) : State :=
  let b := if t = 0 then s.nv.slot[(2 : Fin 3)] else goldenOf s (t.1 - 1)
  if verifyImage s t.1 b = 1 then s.modSec fun c => { c with goldenBad := c.goldenBad.set t false }
  else emit (s.modSec fun c => { c with goldenBad := c.goldenBad.set t true }) 7 9 t.1 0x100E t.1

/-- FW_SLOT_WRITTEN (16 R494, R495): the slot is read back against BODY_HASH, then the golden copy is written and checked. With no
controller activation it is the golden copy of an accelerator family that has been written. -/
def execFwSlotWritten (readBack : List Byte) (s : State) : Out3 :=
  if !running s then .next s else
  match s.sec.activate with
  | some a =>
    let s := s.modSec fun c => { c with activate := none }
    let s := s.modNv fun v => { v with slot := if a.slot = 0 then v.slot.set 0 readBack else v.slot.set 1 readBack }
    if Config.sha3 (imgBody readBack) ≠ imgHash a.image then .next s
    else if !a.golden then .next (activateDone a.slot s)
    else if s.sys.wpN && !a.cut then .next (activateDone a.slot (checkGolden 0 (putGolden 0 readBack s)))
    else .next (checkGolden 0 s)
  | none =>
    match s.sec.goldenWrite with
    | none => .next s
    | some (t, _) =>
      let s := putGolden t readBack (s.modSec fun c => { c with goldenWrite := none })
      .next (if t = 1 then checkGolden 1 s else checkGolden 2 s)

/-- GOLDEN_CHECK (16 R496). -/
def execGoldenCheck (s : State) : Out3 :=
  if !running s then .next s else .next (forAll (List.finRange 3) checkGolden s)

/-! Lifecycle and debug (16 R483 to R486). -/

/-- Zeroisation (16 R483): keys, Frond copies and the configuration store with the model minima and UNLOCKS (notes/assumptions/59.md),
but not floors, BUP_RUN_ID, boot record, epoch and journal. -/
def zeroise (s : State) : State :=
  let s := s.modNv fun v => { v with
    keys := Vector.replicate 3 none, keyBad := Vector.replicate 3 false, frdFlash := Vector.replicate 4 none, store := [],
    modelMin := [], unlocks := 0 }
  s.modSec fun c => { c with keys := Vector.replicate 3 none }

/-- The effects of a transition (16 R483); a low WP_N blocks the write to the flash header (01 R32). -/
def moveLifecycle (old new : Nat) (s : State) : State :=
  let s := if old = 0 ∧ new = 1 then s.modNv fun v => { v with
    ownerRoot := Config.sha3 (rootPub v.pendManifest), manifest := if s.sys.wpN then v.pendManifest else v.manifest } else s
  let s := if 3 ≤ new then zeroise s else s
  s.modNv fun v => { v with lc := new, udsKill := v.udsKill || new == 4 }

/-- The message a lifecycle signature covers (16 R483). -/
def lifecycleMsg (s : State) (new : Nat) : List Byte :=
  let root := if s.nv.lc = 0 ∧ new = 1 then Config.sha3 (rootPub s.nv.pendManifest) else 0
  serialBytes s ++ leBytes 1 s.nv.lc ++ leBytes 1 new ++ bytes32 root

/-- LIFECYCLE_FUSED (16 R484): signature verified and fuses programmed, or the outcome that stopped it. -/
def execLifecycleFused (fuseFault : Bool) (s : State) : Out3 :=
  match s.sec.lifecycle with
  | none => .next s
  | some (new, sig) =>
    let signed := (signerKeys s 4).any fun p => Config.mldsaVerify p (lifecycleMsg s new) "FM8 lifecycle" sig
    let outcome := if !signed then 1 else if fuseFault then 2 else 0
    let s := s.modSec fun c => { c with lifecycle := none }
    let s := if outcome = 0 then moveLifecycle s.nv.lc new s else s
    .next (firmware s 0xFF 0x100B (new + 16 * outcome))

/-- DEBUG_NONCE_EXPIRY (16 R486). -/
def execDebugNonceExpiry (s : State) : Out3 :=
  match s.sec.nonce with
  | none => .next s
  | some (_, t) => if s.sys.tick < t then .next s else .next (s.modSec fun c => { c with nonce := none })

/-! MCTP and PLDM (13 R409, R410; 16 R492). -/

/-- An MCTP message that arrives while the cluster is stopped is dropped (18 R537). -/
def mctpIn (f : State → State) (s : State) : Out3 :=
  .next (if running s then f s else s.modNet fun n => { n with dropped := satAdd 255 n.dropped })

/-- An MCTP message that needs an endpoint ID (13 R409). -/
def mctpApp (f : State → State) (s : State) : Out3 := mctpIn (fun s => if s.twb.eid = 0 then s else f s) s

/-- MCTP_SET_ENDPOINT_ID (13 R409, R413). -/
def execMctpSetEndpointId (eid : Byte) (s : State) : Out3 :=
  mctpIn (fun s =>
    (emit (s.modTwb fun t => { t with eid := eid }) 7 9 10 0x0D09 eid.toNat).send (.answer (Config.standardAnswer [eid]))) s

/-- GET_VENDOR_DEFINED_MESSAGE_SUPPORT (13 R409): Walarazel's enterprise identifier. -/
def execGetVendorDefinedMessageSupport (s : State) : Out3 :=
  mctpIn (fun s => s.send (.answer (leBytes 4 Config.enterpriseId.toNat))) s

/-- MCTP_REASSEMBLY_TIMEOUT (13 R410; 14 R414 step 1). -/
def execMctpReassemblyTimeout (s : State) : Out3 :=
  .next ((s.modTwb fun t => { t with dropped := satAdd 255 t.dropped }).modNet fun n => { n with
    frameErr := satAdd 255 n.frameErr })

/-- PLDM_MONITORING (13 R409): answered as DSP0248 says. -/
def execPldmMonitoring (req : List Byte) (s : State) : Out3 :=
  mctpApp (fun s => s.send (.answer (Config.standardAnswer req))) s

/-- A PLDM request does what the command it stands for does (16 R492), under the checks of its unit, parameters and state
(14 R414 steps 7 to 9; its own row of 16 R489), and is answered with the result. -/
def pldmRun (c : Cmd) (s : State) : State :=
  let q := ticket (reqOfRaw .mctp [] s.sys.tick) s
  let (s, a) :=
    if !present s c then (s, some { res := .unsupported })
    else if !paramsOk s c then (s, some badParam)
    else match pldmReason s c with
    | some x => (s, some (conflict x 0xFF))
    | none => if s.nv.lc = 4 then (s, some (conflict 0x1001 0xFF)) else applyCmd none q c s
  let r := match a with | some x => resCode x.res | none => 0
  s.send (.answer (Config.standardAnswer (leBytes 2 (codeOf c) ++ leBytes 1 r)))

/-- PLDM_FW_TRANSFER (16 R492): component identifiers 0 to 2 are the targets of fw.stage. -/
def execPldmFwTransfer (target : Byte) (first : Bool) (offset total : Word) (data : List Byte) (s : State) : Out3 :=
  mctpApp (pldmRun (.fwStage target (if first then 1 else 0) offset total data)) s

/-- PLDM_VERIFY_COMPLETE (16 R492, R493). -/
def execPldmVerifyComplete (target : Byte) (s : State) : Out3 := mctpApp (pldmRun (.fwVerify target)) s

/-- PLDM_ACTIVATE_FIRMWARE (16 R492): without golden replacement. -/
def execPldmActivateFirmware (target slot : Byte) (s : State) : Out3 := mctpApp (pldmRun (.fwActivate target slot 0)) s

end Sys2Proof.Machine
end

