-- ==== Sys2Proof/Machine/BupRows.lean ====
section
/-! DEFINITION. Bring-up as its events arrive (11_bringup_and_floor_plan.md R315 to R342; 16 R498 to R501): boot, training
and test reports of an accelerator, their time limits, the reference job and the floor plan. -/

namespace Sys2Proof.Machine

open Sys2Proof

/-! Boot (04 R86, 11 R315). -/

/-- A BOOT_COMPLETE that names the active slot and its version confirms the image: the trial, and the last-known-good copy
(16 R500, R501). -/
def confirmImage (n : Acc) (slot version : Nat) (s : State) : State :=
  let x := selectOf s n
  let b := accSlot s n x.active
  if slot ≠ x.active ∨ version ≠ imgVersion b then s else
  let s := if x.trial then writeSelect n x.active false s else s
  let s := s.setBup n fun p => { p with trialSlot := none }
  let f := familyOf s n
  if imgVersion (lkgOf s f) = version then s
  else emit (s.modNv fun v => { v with lkg := if f = 0 then v.lkg.set 0 b else v.lkg.set 1 b }) 7 9 f 0x1009 f

/-- The accelerator may report boot complete now: S9, reset released, the settings record written (11 R315, R316). -/
def bootAwaited (s : State) (n : Acc) : Bool :=
  running s && chState s n == 9 && s.bup.acc[n].stage == 2 && !s.acc[n].rst && !s.bup.acc[n].boxDue

/-- Boot is complete, by the event frame or by BOOTED, whichever comes first (10 R292): the step of S9 is over (04 R86)
and XNET_DRAIN is deasserted unless a drain holds it (03 R75, R76). -/
def bootArrived (n : Acc) (s : State) : State :=
  if !bootAwaited s n ∨ s.bup.acc[n].booted then s else
  let s := (s.setBup n fun b => { b with booted := true }).setAcc n fun a => { a with
    xnetDrain := a.xnetDrain && (a.drain.isSome || a.decision.isSome) }
  stepOver (accChan n) s

/-- Which slot the second attempt boots: the other one when it verifies, else the failed one with the golden copy
(16 R499; notes/assumptions/31.md). -/
def retrySlot (n : Acc) (s : State) : State :=
  let x := selectOf s n
  let k := x.active
  let s := s.setBup n fun b => { b with trialSlot := if x.trial then some k else none }
  let o := 1 - k
  let b := accSlot s n o
  if verifyAcc s n b = 1 then noteVerified n b (writeSelect n o false s) else
  let s := reflash n k s
  let g := accSlot s n k
  if verifyAcc s n g = 1 then noteVerified n g s else bootFails n s

/-- A trial slot that failed both attempts is abandoned (16 R499). -/
def abandonTrial (n : Acc) (s : State) : State :=
  match s.bup.acc[n].trialSlot with
  | none => s
  | some k =>
    let s := s.setBup n fun b => { b with trialSlot := none }
    let s := if (selectOf s n).active = k then writeSelect n (1 - k) false s else s
    emit s 7 9 k 0x1006 k

/-- A boot attempt fails: BOOT_RETRY and a second attempt, or the end of it (11 R315). -/
def bootAttemptFails (n : Acc) (why : Nat) (s : State) : State :=
  let b := s.bup.acc[n]
  if !running s ∨ chState s n ≠ 9 ∨ b.stage ≠ 2 ∨ b.booted ∨ s.acc[n].rst then s
  else if b.attempt < 2 then
    let s := emit s 7 n.1 0xFF 0x0B01 why
    let s := s.setAcc n fun a => { a with rst := true, rstTick := s.sys.tick }
    retrySlot n (s.setBup n fun b => { b with attempt := 2 })
  else
    let s := abandonTrial n (emit s 7 n.1 0xFF 0x0B01 (0x10 + why))
    aimAcc n 3 (hostEvent 6 (s.setBup n fun b => { b with stage := 7, bootFailed := true }))

/-- BOOT_COMPLETE arrives (04 R86, 16 R501). -/
def bootReported (n : Acc) (arg : BitVec 16) (data : Word) (s : State) : State :=
  if bootAwaited s n then bootArrived n (confirmImage n arg.toNat data.toNat s) else s

/-- BOOT_TIMEOUT (11 R315): BOOT_MS from the entry to S9, or from the release of ACC_RST_N for the second attempt
(notes/assumptions/31.md). -/
def execBootTimeout (n : Acc) (s : State) : Out3 :=
  if s.sys.tick < s.bup.acc[n].bootTick + 1000 * fld s.bup.cfg 20 12 then .next s else .next (bootAttemptFails n 1 s)

/-- ACC_RST_HOLD_END (11 R313, R315; 15 R454): 1 ms of ACC_RST_N are over; a boot retry is released, and a channel that
waited at S8 goes on. -/
def execAccRstHoldEnd (n : Acc) (s : State) : Out3 :=
  let a := s.acc[n]
  if !a.rst ∨ s.sys.tick < a.rstTick + 100 then .next s
  else if chState s n = 9 then
    if s.bup.acc[n].stage = 2 ∧ s.sec.acc[n].verified ∧ s.sec.acc[n].write.isNone then
      .next ((s.setAcc n fun a => { a with rst := false }).setBup n fun b => { b with bootTick := s.sys.tick })
    else .next s
  else .next (crzUp (accChan n) s)

/-! Training (11 R316 to R320). -/

/-- Item of a TRAIN_STATUS step: XNET ports 0-3, HBM stacks 4-11, DDR5 channels 12-19 (11 R316). -/
def trainItem (k : Nat) : Option (Fin 20) :=
  if h : 0x10 ≤ k ∧ k < 0x14 then some ⟨k - 0x10, by omega⟩
  else if h : 0x20 ≤ k ∧ k < 0x28 then some ⟨k - 0x20 + 4, by omega⟩
  else if h : 0x30 ≤ k ∧ k < 0x38 then some ⟨k - 0x30 + 12, by omega⟩
  else none

/-- The accelerator's results are read and saved under its key, in place of a record with that key or of the one unused
longest (11 R317, R320). What the record holds is a free value (notes/assumptions/3.md). -/
def saveSettings (n : Acc) (s : State) : State :=
  if s.twb.port[(⟨n.1, by omega⟩ : Port)].stuck then s else
  let (x, s) := s.draw
  let t : TrainRec := { serial := (s.acc[n].ident.map (·.serial)).getD 0, position := n.1, band := s.bup.acc[n].bootBand,
                        content := x.toNat }
  s.modNv fun v => { v with settings := t :: (v.settings.filter fun u => !settingsKey s n u).take 127 }

/-- Training is over (11 R318, R320). -/
def trainingOver (n : Acc) (s : State) : State :=
  let l := s.bup.acc[n].items.toList
  let m := if l.all fun o => o == some 0 || o == some 3 then 1 else 2
  let s := emit (s.setBup n fun b => { b with training := false, trainMode := m }) 7 n.1 0xFF 0x0B02 m
  let s := if l.any fun o => o == some 1 then saveSettings n s else s
  stepOver (accChan n) s

/-- TRAIN_STATUS arrives (11 R316, R318). -/
def trainReported (n : Acc) (arg : BitVec 16) (data : Word) (s : State) : State :=
  if !running s ∨ chState s n ≠ 10 ∨ !s.bup.acc[n].training then s
  else if arg = 0xFF then trainingOver n s
  else match trainItem arg.toNat with
    | none => s
    | some i => if data.toNat < 4 then s.setBup n fun b => { b with items := b.items.set i (some data.toNat) } else s

/-- TRAINING_TIMEOUT (11 R318): 45 s; an item not reported as passed counts as failed. -/
def execTrainingTimeout (n : Acc) (s : State) : Out3 :=
  let b := s.bup.acc[n]
  if !running s ∨ chState s n ≠ 10 ∨ !b.training ∨ s.sys.tick < b.trainTick + 4500000 then .next s
  else .next (trainingOver n s)

/-! The known-answer run (11 R328 to R331). -/

/-- The run in progress of an accelerator in S11. -/
def runNow (s : State) (n : Acc) : Option TestRun :=
  if running s && chState s n == 11 then s.bup.acc[n].run else none

/-- A run changes. -/
def putRun (n : Acc) (r : TestRun) (s : State) : State := s.setBup n fun b => { b with run := some r }

/-- A run is done: merged when nothing is missing (11 R328, R330). -/
def runDone (n : Acc) (r : TestRun) (s : State) : State := finishRun n (putRun n { r with seen := true, done := true } s)

/-- A control failure of a TEST_STATUS code: 2 core, 3 cluster, 4 die, with an index in range (11 R328). -/
def controlOf (code index : Nat) : Option (Nat × Nat) :=
  if code = 0x10 ∧ index < 1024 then some (2, index)
  else if code = 0x11 ∧ index < 64 then some (3, index)
  else if code = 0x12 ∧ index < 2 then some (4, index)
  else none

/-- TEST_STATUS arrives (11 R328): seed incomplete leaves the repetition of SEED and START going. -/
def testReported (n : Acc) (arg : BitVec 16) (data : Word) (s : State) : State :=
  match runNow s n with
  | none => s
  | some r =>
    let c := fld data 24 8
    if arg.toNat ≠ r.runId % 65536 ∨ c = 0x20 then s
    else if c = 0x02 then runDone n r s
    else match controlOf c (fld data 0 24) with
      | some p => putRun n { r with seen := true, control := if r.control.contains p then r.control else r.control ++ [p] } s
      | none => putRun n { r with seen := true } s

/-- TEST_RUNNING of a good activity frame (11 R328). -/
def takeTestRunning (n : Acc) (on : Bool) (s : State) : State :=
  match runNow s n with
  | none => s
  | some r =>
    if on then putRun n { r with seen := true, ran := true } s
    else if r.ran && !r.done then runDone n r s
    else s

/-! Event frames (10 R292). -/

/-- PARK_DONE arrives (06 R185, 10 R298): the PARK word of its sequence number has been carried out. -/
def parkReported (n : Acc) (parked : Bool) (seq : BitVec 16) (s : State) : State :=
  if seq = s.srs.link[n].parkSeq then s.setLink n fun l => { l with parkedSeen := some parked } else s

/-- DS_LOCK_CHANGE arrives (10 R299): a loss counts at once; a gain counts once frames have spanned 1 ms. -/
def lockReported (n : Acc) (gained : Bool) (s : State) : State :=
  let s := s.setLink n fun l => { l with dsLock := gained, span := none }
  if gained then s else setDsLost n true s

/-- MEM_ECC arrives (10 R292): logged. -/
def eccReported (n : Acc) (site : BitVec 16) (count : Word) (s : State) : State :=
  if running s then s.setLink n fun l => { l with eccLog := (s.sys.tick, site.toNat, count.toNat) :: l.eccLog } else s

/-- SENSOR_FAULT arrives (12 R353): the on-die temperatures have failed. -/
def sensorReported (n : Acc) (s : State) : State :=
  onDieCheck n (s.setBand n fun b => { b with sensorTick := some s.sys.tick })

/-- What an entry of an event frame does, by its code (10 R292). The table gives a code beyond 8 no use. -/
def eventEffect (n : Acc) (e : EventEntry) (s : State) : State :=
  if e.code = 1 then bootReported n e.arg e.data s
  else if e.code = 2 then bootAttemptFails n 2 s
  else if e.code = 3 then trainReported n e.arg e.data s
  else if e.code = 4 then testReported n e.arg e.data s
  else if e.code = 5 then parkReported n (e.arg == 1) (e.data.setWidth 16) s
  else if e.code = 6 then lockReported n (e.arg == 1) s
  else if e.code = 7 then eccReported n e.arg e.data s
  else if e.code = 8 then sensorReported n s
  else s

/-- An event frame whose first entry is `e` (10 R288, R292): its record, then its entries in order. -/
def takeEvent (n : Acc) (h : EventHdr) (e : EventEntry) (s : State) : State :=
  let l := e :: h.more
  let (ok, s) := takeFrame n h.hdr 2 (1 + 2 * l.length) (decide (32 < l.length)) (eventBody l) s
  if ok then forAll l (eventEffect n) s else s

/-- BOOT_COMPLETE (04 R86, 10 R292, 16 R501). -/
def execBootComplete (n : Acc) (hdr : EventHdr) (arg : BitVec 16) (data : Word) (s : State) : Out3 :=
  .next (takeEvent n hdr { ns := hdr.ns, code := 1, arg := arg, data := data } s)

/-- BOOT_FAILED (11 R315). -/
def execBootFailed (n : Acc) (hdr : EventHdr) (reason : BitVec 16) (s : State) : Out3 :=
  .next (takeEvent n hdr { ns := hdr.ns, code := 2, arg := reason, data := 0 } s)

/-- TRAIN_STATUS (11 R316, R318). -/
def execTrainStatus (n : Acc) (hdr : EventHdr) (arg : BitVec 16) (data : Word) (s : State) : Out3 :=
  .next (takeEvent n hdr { ns := hdr.ns, code := 3, arg := arg, data := data } s)

/-- TEST_STATUS (11 R328). -/
def execTestStatus (n : Acc) (hdr : EventHdr) (arg : BitVec 16) (data : Word) (s : State) : Out3 :=
  .next (takeEvent n hdr { ns := hdr.ns, code := 4, arg := arg, data := data } s)

/-- PARK_DONE (06 R185, 10 R292, R298). -/
def execParkDone (n : Acc) (hdr : EventHdr) (parked : Bool) (seq : BitVec 16) (s : State) : Out3 :=
  .next (takeEvent n hdr { ns := hdr.ns, code := 5, arg := if parked then 1 else 0, data := seq.setWidth 32 } s)

/-- DS_LOCK_CHANGE (10 R292, R299). -/
def execDsLockChange (n : Acc) (hdr : EventHdr) (gained : Bool) (dsErr : BitVec 16) (s : State) : Out3 :=
  .next (takeEvent n hdr { ns := hdr.ns, code := 6, arg := if gained then 1 else 0, data := dsErr.setWidth 32 } s)

/-- MEM_ECC (10 R292). -/
def execMemEcc (n : Acc) (hdr : EventHdr) (site : BitVec 16) (count : Word) (s : State) : Out3 :=
  .next (takeEvent n hdr { ns := hdr.ns, code := 7, arg := site, data := count } s)

/-- SENSOR_FAULT (10 R292, 12 R353). -/
def execSensorFault (n : Acc) (hdr : EventHdr) (sensor : BitVec 16) (s : State) : Out3 :=
  .next (takeEvent n hdr { ns := hdr.ns, code := 8, arg := sensor, data := 0 } s)

/-- TEST_RESULT_FRAME (10 R293; 11 R328, R329). -/
def execTestResultFrame (n : Acc) (hdr : FrameHdr) (body : TestFrame) (s : State) : Out3 :=
  let (ok, s) := takeFrame n hdr 3 (2 + 4 * body.results.length) (!testWf body) (testBytes n body) s
  match runNow s n with
  | none => .next s
  | some r =>
    if !ok ∨ body.runId.toNat ≠ r.runId then .next s
    else .next (finishRun n (putRun n (body.results.foldl (fun r x => addResult s n r x) r) s))

/-- TEST_TIMEOUT (11 R330): TEST_MS from START; engines without a result are missing. -/
def execTestTimeout (n : Acc) (s : State) : Out3 :=
  match runNow s n with
  | none => .next s
  | some r => if r.done ∨ s.sys.tick < r.start + 1000 * fld s.bup.cfg 12 8 then .next s else .next (runDone n r s)

/-- REF_DONE (09 R272, R280, R283): the references of every engine submitted are present. -/
def execRefDone (s : State) : Out3 :=
  if !s.frd.refBusy ∨ !mayEnd .refs s then .next s else
  let again := s.frd.refAgain
  let s := workEnd .refs (s.modFrd fun f => { f with refBusy := false, refAgain := false, refDone := f.refTotal })
  .next (forAll accList refsArrive (emit s 7 9 4 0x0907 (if again then 1 else 0)))

/-- FLOOR_PLAN (11 R340, R342). -/
def execFloorPlan (s : State) : Out3 := if running s && planDue s then .next (publishPlan s) else .next s

end Sys2Proof.Machine
end

