-- ==== Sys2Proof/Machine/Catalogue.lean ====
section
/-! DEFINITION. The commands of the catalogue, one meaning a row: each is submitted, judged and applied by
`runCommand` (15_command_catalogue.md; notes/assumptions/26.md). -/

namespace Sys2Proof.Machine

open Sys2Proof

/-- SYS_CAPABILITIES (00 R3). -/
def execSysCapabilities (f : Frame) (s : State) : Out3 := runCommand f .sysCapabilities none s

/-- SYS_HEARTBEAT (12 R368). -/
def execSysHeartbeat (f : Frame) (s : State) : Out3 := runCommand f .sysHeartbeat none s

/-- SYS_STATUS (15 R450). -/
def execSysStatus (f : Frame) (s : State) : Out3 := runCommand f .sysStatus none s

/-- SYS_COMMIT_EPOCH (16 R504). -/
def execSysCommitEpoch (f : Frame) (epoch : BitVec 16) (s : State) : Out3 := runCommand f (.sysCommitEpoch epoch) none s

/-- POWER_SET_CAP (07 R218). -/
def execPowerSetCap (f : Frame) (cap : Word) (s : State) : Out3 := runCommand f (.powerSetCap cap) none s

/-- POWER_SET_ENVELOPE (07 R218). -/
def execPowerSetEnvelope (f : Frame) (peak avg ramp tol balMax : Word) (s : State) : Out3 :=
  runCommand f (.powerSetEnvelope peak avg ramp tol balMax) none s

/-- POWER_STATUS (15 R450). -/
def execPowerStatus (f : Frame) (s : State) : Out3 := runCommand f .powerStatus none s

/-- RACK_POWER_ON (04 R121). -/
def execRackPowerOn (f : Frame) (s : State) : Out3 := runCommand f .rackPowerOn none s

/-- RACK_POWER_OFF (04 R121). -/
def execRackPowerOff (f : Frame) (grace flags : Byte) (s : State) : Out3 :=
  runCommand f (.rackPowerOff grace flags) none s

/-- RACK_HOLD (04 R122). -/
def execRackHold (f : Frame) (s : State) : Out3 := runCommand f .rackHold none s

/-- RACK_RESET (04 R121). -/
def execRackReset (f : Frame) (s : State) : Out3 := runCommand f .rackReset none s

/-- RACK_JOIN (04 R124). -/
def execRackJoin (f : Frame) (s : State) : Out3 := runCommand f .rackJoin none s

/-- RACK_DETACH (04 R124). -/
def execRackDetach (f : Frame) (s : State) : Out3 := runCommand f .rackDetach none s

/-- TRAY_POWER_ON (04 R124). -/
def execTrayPowerOn (f : Frame) (s : State) : Out3 := runCommand f .trayPowerOn none s

/-- TRAY_POWER_OFF (14 R441). -/
def execTrayPowerOff (f : Frame) (grace flags : Byte) (s : State) : Out3 :=
  runCommand f (.trayPowerOff grace flags) none s

/-- TRAY_FAULT_CLEAR (15 R451). -/
def execTrayFaultClear (f : Frame) (s : State) : Out3 := runCommand f .trayFaultClear none s

/-- CRZ_SET_DEP (04 R98). -/
def execCrzSetDep (f : Frame) (dep : List Word) (s : State) : Out3 := runCommand f (.crzSetDep dep) none s

/-- CRZ_SET_CONFIG (04 R113). -/
def execCrzSetConfig (f : Frame) (seqCfg : Word) (stepwin : List Word) (s : State) : Out3 :=
  runCommand f (.crzSetConfig seqCfg stepwin) none s

/-- CRZ_CLEAR_FAULT (15 R450). -/
def execCrzClearFault (f : Frame) (ch : Byte) (s : State) : Out3 := runCommand f (.crzClearFault ch) none s

/-- CRZ_STATUS (15 R450). -/
def execCrzStatus (f : Frame) (s : State) : Out3 := runCommand f .crzStatus none s

/-- PARTITION_POWER_ON (15 R453). -/
def execPartitionPowerOn (f : Frame) (acc : Byte) (s : State) : Out3 := runCommand f (.partitionPowerOn acc) none s

/-- PARTITION_POWER_OFF (15 R453). -/
def execPartitionPowerOff (f : Frame) (acc mode : Byte) (s : State) : Out3 :=
  runCommand f (.partitionPowerOff acc mode) none s

/-- PARTITION_RESET (15 R454). -/
def execPartitionReset (f : Frame) (acc flags : Byte) (s : State) : Out3 :=
  runCommand f (.partitionReset acc 0 flags) none s

/-- PARTITION_RESET_FORCE (03 R75). -/
def execPartitionResetForce (f : Frame) (acc flags : Byte) (s : State) : Out3 :=
  runCommand f (.partitionReset acc 1 flags) none s

/-- PARTITION_RESET_ABORT (03 R75). -/
def execPartitionResetAbort (f : Frame) (acc flags : Byte) (s : State) : Out3 :=
  runCommand f (.partitionReset acc 2 flags) none s

/-- PARTITION_PARK (06 R185). -/
def execPartitionPark (f : Frame) (acc : Byte) (s : State) : Out3 := runCommand f (.partitionPark acc) none s

/-- PARTITION_UNPARK (15 R456). -/
def execPartitionUnpark (f : Frame) (acc : Byte) (s : State) : Out3 := runCommand f (.partitionUnpark acc) none s

/-- SUP_SET_WINDOW (05 R139). -/
def execSupSetWindow (f : Frame) (rail : Byte) (win trayDiv : Word) (s : State) : Out3 :=
  runCommand f (.supSetWindow rail win trayDiv) none s

/-- SUP_SET_FAST_WINDOW (05 R139). -/
def execSupSetFastWindow (f : Frame) (k : Byte) (fwc : Word) (s : State) : Out3 :=
  runCommand f (.supSetFastWindow k fwc) none s

/-- SUP_MARGIN (05 R149). -/
def execSupMargin (f : Frame) (rail steps : Byte) (s : State) : Out3 := runCommand f (.supMargin rail steps) none s

/-- SUP_STATUS (15 R457). -/
def execSupStatus (f : Frame) (s : State) : Out3 := runCommand f .supStatus none s

/-- STEER_SET_MODE (06 R190). -/
def execSteerSetMode (f : Frame) (ctrl : Word) (s : State) : Out3 := runCommand f (.steerSetMode ctrl) none s

/-- STEER_SET_PHASE_PREF (06 R173). -/
def execSteerSetPhasePref (f : Frame) (acc : Byte) (pref : BitVec 64) (s : State) : Out3 :=
  runCommand f (.steerSetPhasePref acc pref) none s

/-- STEER_SET_PARK_ORDER (06 R186). -/
def execSteerSetParkOrder (f : Frame) (order : Word) (s : State) : Out3 := runCommand f (.steerSetParkOrder order) none s

/-- STEER_SET_GROUP (06 R170). -/
def execSteerSetGroup (f : Frame) (group : Word) (s : State) : Out3 := runCommand f (.steerSetGroup group) none s

/-- STEER_SET_CONFIG (06 R193). -/
def execSteerSetConfig (f : Frame) (cfg cfg2 thermCeil : Word) (leak : List Word) (s : State) : Out3 :=
  runCommand f (.steerSetConfig cfg cfg2 thermCeil leak) none s

/-- STEER_STATUS (15 R457). -/
def execSteerStatus (f : Frame) (s : State) : Out3 := runCommand f .steerStatus none s

/-- LEDGER_BIND_JOB (08 R237). -/
def execLedgerBindJob (f : Frame) (slot : BitVec 16) (flags : Byte) (job : BitVec 64) (s : State) : Out3 :=
  runCommand f (.ledgerBindJob slot flags job) none s

/-- LEDGER_UNBIND_JOB (08 R240). -/
def execLedgerUnbindJob (f : Frame) (slot : BitVec 16) (s : State) : Out3 := runCommand f (.ledgerUnbindJob slot) none s

/-- LEDGER_SET_COEFF (08 R229). -/
def execLedgerSetCoeff (f : Frame) (bin : Byte) (coef : List Word) (s : State) : Out3 :=
  runCommand f (.ledgerSetCoeff bin coef) none s

/-- LEDGER_SET_CONFIG (08 R243). -/
def execLedgerSetConfig (f : Frame) (cfg : Word) (s : State) : Out3 := runCommand f (.ledgerSetConfig cfg) none s

/-- LEDGER_STATUS (15 R457). -/
def execLedgerStatus (f : Frame) (s : State) : Out3 := runCommand f .ledgerStatus none s

/-- FROND_STAGE (15 R459). -/
def execFrondStage (f : Frame) (slot flags : Byte) (offset total : Word) (data : List Byte) (s : State) : Out3 :=
  runCommand f (.frondStage slot flags offset total data) none s

/-- FROND_LOAD (09 R266). -/
def execFrondLoad (f : Frame) (slot source flags : Byte) (s : State) : Out3 :=
  runCommand f (.frondLoad slot source flags) none s

/-- FROND_UNLOAD (15 R458). -/
def execFrondUnload (f : Frame) (slot flags : Byte) (s : State) : Out3 := runCommand f (.frondUnload slot flags) none s

/-- FROND_RUN (15 R461). -/
def execFrondRun (f : Frame) (slot flags : Byte) (s : State) : Out3 := runCommand f (.frondRun slot flags) none s

/-- FROND_SET_SCHED (09 R281). -/
def execFrondSetSched (f : Frame) (sched : Word) (s : State) : Out3 := runCommand f (.frondSetSched sched) none s

/-- FROND_STATUS (15 R458). -/
def execFrondStatus (f : Frame) (s : State) : Out3 := runCommand f .frondStatus none s

/-- SRS_SET_CONFIG (10 R310). -/
def execSrsSetConfig (f : Frame) (cfg eq : Word) (s : State) : Out3 := runCommand f (.srsSetConfig cfg eq) none s

/-- SRS_STATUS (15 R462). -/
def execSrsStatus (f : Frame) (s : State) : Out3 := runCommand f .srsStatus none s

/-- BUP_TEST (11 R341). -/
def execBupTest (f : Frame) (acc : Byte) (s : State) : Out3 := runCommand f (.bupTest acc) none s

/-- BUP_FLOOR_PLAN (11 R339). -/
def execBupFloorPlan (f : Frame) (acc : Byte) (s : State) : Out3 := runCommand f (.bupFloorPlan acc) none s

/-- BUP_JOURNAL_READ (11 R337). -/
def execBupJournalRead (f : Frame) (serial : BitVec 64) (first : BitVec 16) (s : State) : Out3 :=
  runCommand f (.bupJournalRead serial first) none s

/-- BUP_JOURNAL_FORGET (11 R337). -/
def execBupJournalForget (f : Frame) (serial : BitVec 64) (s : State) : Out3 :=
  runCommand f (.bupJournalForget serial) none s

/-- BUP_SET_CONFIG (11 R344). -/
def execBupSetConfig (f : Frame) (cfg : Word) (s : State) : Out3 := runCommand f (.bupSetConfig cfg) none s

/-- BUP_STATUS (15 R462). -/
def execBupStatus (f : Frame) (s : State) : Out3 := runCommand f .bupStatus none s

/-- COOL_SET_CONFIG (12 R380). -/
def execCoolSetConfig (f : Frame) (cfg cfg2 : Word) (s : State) : Out3 := runCommand f (.coolSetConfig cfg cfg2) none s

/-- COOL_SET_CURVE (12 R380). -/
def execCoolSetCurve (f : Frame) (curve : List Word) (s : State) : Out3 := runCommand f (.coolSetCurve curve) none s

/-- COOL_SET_TABLE (12 R380). -/
def execCoolSetTable (f : Frame) (table : List Word) (s : State) : Out3 := runCommand f (.coolSetTable table) none s

/-- COOL_SET_MAP (12 R380). -/
def execCoolSetMap (f : Frame) (fanMap thmMap : List Word) (leakUsed : BitVec 16) (s : State) : Out3 :=
  runCommand f (.coolSetMap fanMap thmMap leakUsed) none s

/-- COOL_SET_LOOP (12 R380). -/
def execCoolSetLoop (f : Frame) (loop : List Word) (s : State) : Out3 := runCommand f (.coolSetLoop loop) none s

/-- COOL_SET_MODE (12 R368). -/
def execCoolSetMode (f : Frame) (mode : Byte) (s : State) : Out3 := runCommand f (.coolSetMode mode) none s

/-- COOL_CLEAR_FAULT (15 R462). -/
def execCoolClearFault (f : Frame) (pumps : Byte) (s : State) : Out3 := runCommand f (.coolClearFault pumps) none s

/-- COOL_CLEAR_LEAK (12 R378). -/
def execCoolClearLeak (f : Frame) (zone : Byte) (s : State) : Out3 := runCommand f (.coolClearLeak zone) none s

/-- COOL_STATUS (15 R462). -/
def execCoolStatus (f : Frame) (s : State) : Out3 := runCommand f .coolStatus none s

/-- TWB_SET_CONFIG (13 R411). -/
def execTwbSetConfig (f : Frame) (port avs : List Word) (tgt : Word) (s : State) : Out3 :=
  runCommand f (.twbSetConfig port avs tgt) none s

/-- TWB_TRANSFER (15 R463). -/
def execTwbTransfer (f : Frame) (port addr proto code : Byte) (wlen rlen : BitVec 16) (wdata : List Byte) (e : TransferEnd) (s : State) : Out3 :=
  runCommand f (.twbTransfer port addr proto code wlen rlen wdata) (some e) s

/-- TWB_STATUS (15 R462). -/
def execTwbStatus (f : Frame) (s : State) : Out3 := runCommand f .twbStatus none s

/-- NET_SET_CONFIG (14 R428). -/
def execNetSetConfig (f : Frame) (udp : BitVec 16) (addrs : List (BitVec 128)) (group : BitVec 128) (s : State) : Out3 :=
  runCommand f (.netSetConfig udp addrs group) none s

/-- NET_SUBSCRIBE (14 R431). -/
def execNetSubscribe (f : Frame) (streams version : Byte) (div : BitVec 16) (s : State) : Out3 :=
  runCommand f (.netSubscribe streams version div) none s

/-- FW_STAGE (16 R492). -/
def execFwStage (f : Frame) (target flags : Byte) (offset total : Word) (data : List Byte) (s : State) : Out3 :=
  runCommand f (.fwStage target flags offset total data) none s

/-- FW_VERIFY (16 R493). -/
def execFwVerify (f : Frame) (target : Byte) (s : State) : Out3 := runCommand f (.fwVerify target) none s

/-- FW_ACTIVATE (16 R494). -/
def execFwActivate (f : Frame) (target slot flags : Byte) (s : State) : Out3 :=
  runCommand f (.fwActivate target slot flags) none s

/-- FW_STATUS (16 R506). -/
def execFwStatus (f : Frame) (s : State) : Out3 := runCommand f .fwStatus none s

/-- SEC_DEBUG_CHALLENGE (16 R486). -/
def execSecDebugChallenge (f : Frame) (level : Byte) (s : State) : Out3 := runCommand f (.secDebugChallenge level) none s

/-- SEC_DEBUG_UNLOCK (16 R486). -/
def execSecDebugUnlock (f : Frame) (level : Byte) (sig : List Byte) (s : State) : Out3 :=
  runCommand f (.secDebugUnlock level sig) none s

/-- SEC_DEBUG_LOCK (16 R487). -/
def execSecDebugLock (f : Frame) (s : State) : Out3 := runCommand f .secDebugLock none s

/-- SEC_SET_LIFECYCLE (16 R483). -/
def execSecSetLifecycle (f : Frame) (state : Byte) (sig : List Byte) (s : State) : Out3 :=
  runCommand f (.secSetLifecycle state sig) none s

/-- SEC_SET_KEY (16 R480). -/
def execSecSetKey (f : Frame) (key : Byte) (wrapped : List Byte) (s : State) : Out3 :=
  runCommand f (.secSetKey key wrapped) none s

/-- SEC_STATUS (16 R506). -/
def execSecStatus (f : Frame) (s : State) : Out3 := runCommand f .secStatus none s

end Sys2Proof.Machine
end

