-- ==== Sys2Proof/Machine/RackRows.lean ====
section
/-! DEFINITION. The rack as events: SEQSYNC edges, pulses and releases, announcements, the comparisons of 04 R123,
listening after cold reset (04 R125), and the drain deadline (14 R441). -/

namespace Sys2Proof.Machine

open Sys2Proof

/-! SEQSYNC (04 R117 to R121). -/

/-- The line has been qualified high: it has been so for 50 us (04 R117). -/
def lineRises (s : State) : State := s.modRack fun r => { r with line := true, highTick := s.sys.tick - 5 }

/-- SEQSYNC_RISE (04 R119): in a transit state the next rack state follows. A detached FM8 ignores the line (R124), and one
that still listens has not joined it (R125). -/
def execSeqsyncRise (s : State) : Out3 :=
  if s.rack.driving then .next s
  else if transit s.rack.state && !s.rack.detached && s.rack.listened then
    .next (enterRack (nextRack s.rack.state) (lineRises s))
  else .next (lineRises s)

/-- A start pulse (04 R120, R121): from state 1 or 8 the sequence goes on; a follower that is not armed enters HOLD. -/
def startPulse (s : State) : State :=
  if s.rack.state = 15 then s
  else if !isLeader s && !s.rack.armed then enterHold s
  else enterRack (nextRack s.rack.state) s

/-- SEQSYNC has been high for 1 ms before a low of `us` microseconds that ended 50 us ago (04 R117, R120). -/
def highBefore (us : Nat) (s : State) : Bool :=
  (s.rack.line || s.rack.pulse.isSome) && decide (10 * s.rack.highTick + 1000 + us + 50 ≤ 10 * s.sys.tick)

/-- SEQSYNC_PULSE (04 R120): a low in a resting state, at the qualified rise after it. -/
def execSeqsyncPulse (widthUs : Nat) (s : State) : Out3 :=
  if widthUs < 10 ∨ s.rack.driving then .next s else
  let counts := resting s && !s.rack.detached && highBefore widthUs s
  let s := (lineRises s).modRack fun r => { r with pulse := none }
  if !counts then .next s
  else if widthUs < 200 then .next (s.modRack fun r => { r with badPulses := r.badPulses + 1 })
  else if widthUs ≤ 800 then .next (startPulse s)
  else if widthUs < 1000 then .next (enterHold s)
  else .next s

/-- SEQSYNC_RESET_PULSE (04 R120): at 1 ms of low after 1 ms of high, state 0. The line is low, whoever follows it. -/
def execSeqsyncResetPulse (s : State) : Out3 :=
  let high := s.rack.line || s.rack.pulse.isSome
  let mine := s.rack.pulse.isSome || !s.rack.driving
  let counts := resting s && !s.rack.detached && high && mine && decide (s.rack.highTick + 200 ≤ s.sys.tick)
  let s := s.modRack fun r => { r with line := false }
  .next (if counts then enterRack 0 s else s)

/-- SEQSYNC_RELEASE (04 R118, R119): not before 500 us of low. An FM8 that failed its start-up tests does not release the
line in rack state 0 (17 R521). -/
def execSeqsyncRelease (s : State) : Out3 :=
  if transit s.rack.state && s.rack.driving && decide (s.rack.stateTick + 50 ≤ s.sys.tick) && releaseReady s
      && !(s.saf.bistFail && s.rack.state == 0) then
    .next (s.modRack fun r => { r with driving := false })
  else .next s

/-- DRAIN_DEADLINE (14 R441): the commands stamped up to the deadline are applied first, so that an unbind in its tick ends the
drain. -/
def execDrainDeadline (s : State) : Out3 :=
  let waits := s.rcd.merger.any fun w => decide (w.stamp ≤ s.rack.deadline) &&
    match w.item with | .req _ => true | _ => false
  if waits || s.rack.state != 9 || s.rack.drained || s.rack.deadline == 0 || decide (s.sys.tick < s.rack.deadline) then .next s
  else .next (endDrain (if slotsBound s then 3 else 2) s)

/-! Announcements (04 R123, 14 R432). -/

/-- RACK_ANNOUNCE_TX (04 R123): every 100 ms. -/
def execRackAnnounceTx (s : State) : Out3 := if s.sys.tick % 10000 ≠ 0 then .next s else .next (announce s)

/-- An announcement is accepted: its tag verifies and its counter rises (14 R432). -/
def announceOk (a : Announce) (s : State) : Bool :=
  running s && !sealed s && announceTag s a == a.tag &&
    (match s.net.annLast[a.slot] with | some c => decide (c < a.ctr) | none => true)

/-- RACK_ANNOUNCE_RX (04 R123, R125; 14 R432). -/
def execRackAnnounceRx (a : Announce) (s : State) : Out3 :=
  if !announceOk a s then .next s else
  let s := s.modNet fun n => { n with annLast := n.annLast.set a.slot (some a.ctr) }
  let s := s.modRack fun r => { r with
    heard := r.heard.set a.slot (some (a, s.sys.tick)), heardOther := r.heardOther || (!r.listened && a.rackState != 0),
    leaderLost := r.leaderLost && a.slot != 0 }
  if isLeader s && a.slot == 0 && a.device != s.nv.serial then
    .next (hostEvent 15 (enterHold (s.modRack fun r => { r with dupLeader := true })))
  else .next s

/-- The announcement of a slot heard within the last second. -/
def heardNow (s : State) (k : Fin 32) : Option Announce :=
  match s.rack.heard[k] with
  | some (a, t) => if s.sys.tick ≤ t + 100000 then some a else none
  | none => none

/-- The followers heard that are not detached. -/
def followersHeard (s : State) : List Announce :=
  (List.finRange 32).filterMap fun k => if k = 0 then none else
    match heardNow s k with | some a => if a.detached then none else some a | none => none

/-- The comparison of 04 R123 differs now: with the leader's announcement, or on the leader with more than half of the
followers that announce one other state. -/
def rackDiffers (s : State) : Bool :=
  s.rack.listened && !s.rack.detached && s.rack.state != 15 &&
  (if isLeader s then
    let l := followersHeard s
    l.any fun a => a.rackState != s.rack.state && decide (l.length < 2 * (l.filter fun b => b.rackState == a.rackState).length)
   else match heardNow s 0 with
    | some a => !a.detached && a.rackState != s.rack.state
    | none => false)

/-- The tick since which the comparison differs is kept (04 R123). -/
def rackCompare (s : State) : State :=
  let d := rackDiffers s
  s.modRack fun r => { r with differs := if d then r.differs.or (some s.sys.tick) else none }

/-- RACK_MISMATCH (04 R123): more than 20 ms of difference. -/
def execRackMismatch (s : State) : Out3 :=
  let s := rackCompare s
  match s.rack.differs with
  | none => .next s
  | some t =>
    if s.sys.tick ≤ t + 2000 then .next s
    else .next (hostEvent 15 (enterHold (s.modRack fun r => { r with mismatch := true })))

/-- LEADER_LOST (04 R123): a follower has heard no leader for 1 s. -/
def execLeaderLost (s : State) : Out3 :=
  let since := match s.rack.heard[(0 : Fin 32)] with | some (_, t) => t | none => s.rack.listenTick.getD s.sys.tick
  if isLeader s || s.rack.detached || !s.rack.listened || s.rack.leaderLost || decide (s.sys.tick < since + 100000) then
    .next s
  else .next (hostEvent 15 (s.modRack fun r => { r with leaderLost := true }))

/-- RACK_LISTEN_END (04 R125): state 0 when nothing but state 0 was heard; otherwise HOLD, detached. -/
def execRackListenEnd (s : State) : Out3 :=
  match s.rack.listenTick with
  | none => .next s
  | some t =>
    if s.rack.listened ∨ s.sys.tick < t + 100000 then .next s else
    let s := s.modRack fun r => { r with listened := true }
    if s.rack.heardOther then .next (enterHold (detach s)) else .next (enterRack 0 s)

end Sys2Proof.Machine
end

