-- ==== Sys2Proof/Machine/SorusRows.lean ====
section
/-! DEFINITION. Sorus as its events arrive (10_sorus_telemetry_intake.md R286 to R309): training, loss of lock, activity and
event frames, and the read side of the intake queues. -/

namespace Sys2Proof.Machine

open Sys2Proof

/-! Training (10 R286, R309). -/

/-- SORUS_TRAINING_DONE (10 R284, R286, R298, R309): within 2 ms, the upstream pair has block lock and the first good activity frame
reported the downstream one. The full downstream state goes out first, and the preset of the band follows TRAIN_PRESET. -/
def execSorusTrainingDone (n : Acc) (sync : Vector (BitVec 2) 64) (s : State) : Out3 :=
  let l := s.srs.link[n]
  if l.state ≠ 1 ∨ !lockGained sync ∨ l.firstLock ≠ some true ∨ l.trainTick + 200 < s.sys.tick then .next s else
  let s := s.setLink n fun l => { l with state := 2, upLock := true, tries := 0, noEcho := 0 }
  .next (applyPreset n (sendFull n (emit s 7 n.1 0xFF 0x0A01 l.preset)))

/-- SORUS_TRAINING_FAIL (10 R286): 2 ms without completion; at once again twice, then after 100 ms. -/
def execSorusTrainingFail (n : Acc) (s : State) : Out3 :=
  let l := s.srs.link[n]
  if l.state ≠ 1 ∨ s.sys.tick < l.trainTick + 200 then .next s else
  let s := (emit s 7 n.1 0xFF 0x0A02 2).setLink n fun l => { l with tries := l.tries + 1 }
  if l.tries < 2 ∧ linkAllowed s n then .next (linkStart n s)
  else .next (s.setLink n fun l => { l with state := 3, upLock := false, tries := 2, trainTick := s.sys.tick })

/-- SORUS_TRAINING_RETRY (10 R286): every 100 ms while the channel is in S2 or above. -/
def execSorusTrainingRetry (n : Acc) (s : State) : Out3 :=
  let l := s.srs.link[n]
  if l.state = 3 ∧ l.trainTick + 10000 ≤ s.sys.tick ∧ linkAllowed s n then .next (linkStart n s) else .next s

/-- UPSTREAM_LOCK_LOST (10 R284, R286, R309): retraining starts at once; within 100 us of a preset change, with the new
preset. -/
def execUpstreamLockLost (n : Acc) (sync : Vector (BitVec 2) 64) (s : State) : Out3 :=
  let l := s.srs.link[n]
  if l.state ≠ 2 ∨ !lockFails sync then .next s else
  let late := match l.presetTick with | some t => decide (s.sys.tick ≤ t + 10) | none => false
  let s := linkDown n (if late then 5 else 1) s
  let s := if linkAllowed s n then linkStart n s else s
  .next (if late then s.setLink n fun x => { x with preset := l.preset } else s)

/-! Frames (10 R290 to R292, R299, R302). -/

/-- What a good activity frame does beyond its record: echo, lane, temperatures, steering and Ledger input, and the
conditions that event frames also carry (10 R292, R302, R308). -/
def takeActivity (n : Acc) (a : Activity) (s : State) : State :=
  let l := s.srs.link[n]
  let old := if l.lastNs.isSome then l.last else none
  let dt := match l.lastNs with | some p => a.frameNs.toNat - p | none => 0
  let s := takeEcho n a (noteFrame n a (queueFrame n a dt (ledgerFrame n old a s)))
  let s := takeLane n a s
  let s := onDieCheck n (takeTemps n a (rorCheck n a.tjMax s))
  let s := if a.booted then bootArrived n s else s
  takeTestRunning n a.testRunning s

/-- ACTIVITY_FRAME (10 R288, R290): FRAME_NS must have grown, and the 49 contexts are there. -/
def execActivityFrame (n : Acc) (hdr : FrameHdr) (a : Activity) (s : State) : Out3 :=
  let bad := a.ctx.length != 49 || (match s.srs.link[n].lastNs with | some p => decide (a.frameNs.toNat ≤ p) | none => false)
  let (ok, s) := takeFrame n hdr 1 400 bad (activityBytes a) s
  .next (if ok then takeActivity n a s else s)

/-- LINK_LOST_TIMEOUT (10 R299). -/
def execLinkLostTimeout (n : Acc) (s : State) : Out3 :=
  let l := s.srs.link[n]
  let due := match l.lastGood with
    | some t => decide (t + 100 * fld s.srs.cfg 0 8 ≤ s.sys.tick)
    | none => decide (l.trainTick + 100 * fld s.srs.cfg 0 8 ≤ s.sys.tick)
  .next (if l.state = 2 && due then setDsLost n true (s.setLink n fun l => { l with span := none }) else s)

/-! The read side (10 R303, R305, R307). -/

/-- SRS_HEAD_READ (10 R305). -/
def execSrsHeadRead (n : Acc) (s : State) : Out3 :=
  let l := s.srs.link[n]
  if fillOf l = 0 then
    .next ((s.setLink n fun l => { l with underrun := satAdd 0xFFFF l.underrun }).send (.answer (List.replicate 8 0xFF)))
  else .next (s.send (.answer (headBytes l)))

/-- SRS_RF_WRITE (10 R303, R305): RF moves up to W and no further; records wholly behind it are gone. -/
def execSrsRfWrite (n : Acc) (value : Word) (s : State) : Out3 :=
  let l := s.srs.link[n]
  let v := value.toNat % 131072
  let d := (v + 131072 - l.rf) % 131072
  if v % 16 ≠ 0 ∨ fillOf l < d then .next (s.setLink n fun l => { l with underrun := satAdd 0xFFFF l.underrun })
  else
    let behind (r : QRec) : Bool :=
      let x := (v + 131072 - r.pos) % 131072
      decide (recSize r.len ≤ x) && decide (x ≤ 65536)
    .next (resumeCheck n (s.setLink n fun l => { l with rf := v, queue := l.queue.filter fun r => !behind r }))

/-- POINTER_RESET (10 R307): PAUSE, every record discarded, RESUME. -/
def execPointerReset (n : Acc) (s : State) : Out3 :=
  let s := sendFlow n (s.setLink n fun l => { l with paused := true })
  let k := satAdd 255 s.srs.link[n].ptrResets
  let s := s.setLink n fun l => { l with w := 0, rf := 0, queue := [], ptrResets := k, paused := false }
  .next (emit (sendFlow n s) 7 n.1 0xFF 0x0A05 k)

end Sys2Proof.Machine
end

