-- ==== Sys2Proof/Machine/Spdm.lean ====
section
/-! DEFINITION. SPDM over MCTP and over the CXL mailbox (16 R477, R478; 18 R541): the order of a conversation, the
certificate chain, challenges and measurements signed with the Alias key, sessions and IDE keys. The bytes of the messages
are those of the standards the manual names (notes/assumptions/2.md). -/

namespace Sys2Proof.Machine

open Sys2Proof

/-- Index of a path's conversation. -/
def pathIx : SpdmPath → Fin 2
  | .mctp => 0
  | .doe => 1

/-- One conversation changes. -/
def State.setSpdm (p : SpdmPath) (f : SpdmState → SpdmState) (s : State) : State :=
  s.modSec fun c => { c with spdm := c.spdm.set (pathIx p) (f c.spdm[pathIx p]) }

/-- A request that arrives on a path: MCTP needs an endpoint ID (13 R409), the mailbox a link (18 R541). -/
def spdmIn (p : SpdmPath) (f : State → State) (s : State) : Out3 :=
  match p with
  | .mctp => mctpApp f s
  | .doe => .next (if running s && cxlUp s then f s else s)

/-- An answer leaves and joins the transcript that signatures cover. -/
def spdmAnswer (p : SpdmPath) (req body : List Byte) (s : State) : State :=
  (s.setSpdm p fun x => { x with transcript := x.transcript ++ req ++ body }).send (.answer body)

/-- A request out of its order, or not supported, is answered as the standard says. -/
def spdmError (s : State) : State := s.send (.answer (Config.standardAnswer (asciiBytes "ERROR")))

/-- The certificate chain of slot 0 (16 R477). -/
def certChain (s : State) : List Byte := s.nv.chain ++ s.sec.aliasCert

/-- A signature of the Alias key over the conversation so far (16 R477). -/
def aliasSign (s : State) (p : SpdmPath) (req body : List Byte) : List Byte :=
  Config.mldsaSign (aliasSeed s) (s.sec.spdm[pathIx p].transcript ++ req ++ body) "FM8 SPDM"

/-- A request that the algorithms must have been negotiated for. -/
def afterAlgs (p : SpdmPath) (f : State → State) (s : State) : Out3 :=
  spdmIn p (fun s => if s.sec.spdm[pathIx p].algs then f s else spdmError s) s

/-- SPDM_GET_VERSION (16 R477): a conversation starts. -/
def execSpdmGetVersion (path : SpdmPath) (s : State) : Out3 :=
  let req := asciiBytes "GET_VERSION"
  spdmIn path (fun s => spdmAnswer path req (Config.standardAnswer req) (s.setSpdm path fun _ => { version := true })) s

/-- SPDM_GET_CAPABILITIES (16 R477). -/
def execSpdmGetCapabilities (path : SpdmPath) (s : State) : Out3 :=
  let req := asciiBytes "GET_CAPABILITIES"
  spdmIn path (fun s => if s.sec.spdm[pathIx path].version then
    spdmAnswer path req (Config.standardAnswer req) (s.setSpdm path fun x => { x with caps := true }) else spdmError s) s

/-- SPDM_NEGOTIATE_ALGORITHMS (16 R477): SHA3-256, no BaseAsymAlgo, one ExtAsym entry for ML-DSA-44. -/
def execSpdmNegotiateAlgorithms (path : SpdmPath) (s : State) : Out3 :=
  let req := asciiBytes "NEGOTIATE_ALGORITHMS"
  let entry : List Byte := 0x04 :: leBytes 4 Config.enterpriseId.toNat ++ leBytes 2 1
  spdmIn path (fun s => if s.sec.spdm[pathIx path].caps then
    spdmAnswer path req (Config.standardAnswer (req ++ entry)) (s.setSpdm path fun x => { x with algs := true })
    else spdmError s) s

/-- SPDM_GET_DIGESTS (16 R477). -/
def execSpdmGetDigests (path : SpdmPath) (s : State) : Out3 :=
  let req := asciiBytes "GET_DIGESTS"
  afterAlgs path (fun s => spdmAnswer path req (Config.standardAnswer req ++ bytes32 (Config.sha3 (certChain s))) s) s

/-- SPDM_GET_CERTIFICATE (16 R477): slot 0 only. -/
def execSpdmGetCertificate (path : SpdmPath) (slot : Byte) (offset len : BitVec 16) (s : State) : Out3 :=
  let req := asciiBytes "GET_CERTIFICATE" ++ [slot] ++ leBytes 2 offset.toNat ++ leBytes 2 len.toNat
  afterAlgs path (fun s => if slot ≠ 0 then spdmError s else
    spdmAnswer path req (Config.standardAnswer req ++ slice (certChain s) offset.toNat len.toNat) s) s

/-- SPDM_CHALLENGE (16 R477): signed with the Alias key. -/
def execSpdmChallenge (path : SpdmPath) (slot : Byte) (nonce : BitVec 256) (s : State) : Out3 :=
  let req := asciiBytes "CHALLENGE" ++ [slot] ++ bytes32 nonce
  afterAlgs path (fun s => if slot ≠ 0 then spdmError s else
    let body := Config.standardAnswer req ++ bytes32 (Config.sha3 (certChain s))
    spdmAnswer path req (body ++ aliasSign s path req body) s) s

/-- The value of a measurement index (16 R478). -/
def measurement (s : State) (i : Nat) : Option (BitVec 256) :=
  if i = 1 then some Config.romHash
  else if i = 2 then some (imgHash s.sec.image)
  else if i = 3 then some (Config.sha3 (imgAux s.sec.island))
  else if i = 4 then some s.sec.bootManifest
  else if i = 5 then
    let (d, l, k) := s.sec.bootState
    some (Config.sha3 (leBytes 1 l ++ leBytes 1 d ++ leBytes 1 k))
  else if i = 6 then some s.sec.dbgHist
  else if h : 8 ≤ i ∧ i ≤ 15 then some s.sec.acc[(⟨i - 8, by omega⟩ : Acc)].meas
  else if h : 16 ≤ i ∧ i ≤ 19 then
    some (match s.frd.slot[(⟨i - 16, by omega⟩ : Slot)].model with | some b => Config.sha3 b | none => 0)
  else none

/-- The measurement blocks a request asks for: 0 the count, 0xFF all of them. -/
def measured (s : State) (i : Nat) : List Byte :=
  let all := (List.range 20).filter fun j => (measurement s j).isSome
  if i = 0 then leBytes 1 all.length
  else (if i = 0xFF then all else [i]).flatMap fun j => match measurement s j with
    | some h => leBytes 1 j ++ bytes32 h
    | none => []

/-- SPDM_GET_MEASUREMENTS (16 R477, R478). -/
def execSpdmGetMeasurements (path : SpdmPath) (index : Byte) (nonce : BitVec 256) (sign : Bool) (s : State) : Out3 :=
  let i := index.toNat
  let req := asciiBytes "GET_MEASUREMENTS" ++ [index] ++ bytes32 nonce ++ [if sign then 1 else 0]
  afterAlgs path (fun s => if i ≠ 0 ∧ i ≠ 0xFF ∧ (measurement s i).isNone then spdmError s else
    let body := Config.standardAnswer req ++ measured s i
    spdmAnswer path req (body ++ if sign then aliasSign s path req body else []) s) s

/-- SPDM_KEY_EXCHANGE (18 R541): on the mailbox only. -/
def execSpdmKeyExchange (path : SpdmPath) (share : List Byte) (s : State) : Out3 :=
  let req := asciiBytes "KEY_EXCHANGE" ++ share
  afterAlgs path (fun s => if path = .mctp then spdmError s else
    let (x, s) := s.draw
    let body := Config.standardAnswer (req ++ bytes32 x)
    let s := s.setSpdm path fun c => { c with session := some (Config.sessionKey x share, false) }
    spdmAnswer path req (body ++ aliasSign s path req body) s) s

/-- SPDM_FINISH (18 R541): a good one establishes the session. -/
def execSpdmFinish (path : SpdmPath) (good : Bool) (s : State) : Out3 :=
  let req := asciiBytes "FINISH"
  afterAlgs path (fun s => match s.sec.spdm[pathIx path].session with
    | some (k, false) =>
      if good then spdmAnswer path req (Config.standardAnswer req) (s.setSpdm path fun c => { c with session := some (k, true) })
      else spdmError (s.setSpdm path fun c => { c with session := none })
    | _ => spdmError s) s

/-- SPDM_END_SESSION (18 R541). -/
def execSpdmEndSession (path : SpdmPath) (s : State) : Out3 :=
  let req := asciiBytes "END_SESSION"
  afterAlgs path (fun s => match s.sec.spdm[pathIx path].session with
    | some (_, true) => spdmAnswer path req (Config.standardAnswer req) (s.setSpdm path fun c => { c with session := none })
    | _ => spdmError s) s

/-- IDE_KEY_MANAGEMENT (18 R541): within the secure session; the keys exist only in the CXL controller. -/
def execIdeKeyManagement (m : IdeMessage) (s : State) : Out3 :=
  spdmIn .doe (fun s => match s.sec.spdm[(1 : Fin 2)].session with
    | some (_, true) =>
      let s := match m with
        | .keyProg key => s.modLk fun k => { k with ideKeys := k.ideKeys ++ [key] }
        | .setGo => s.modLk fun k => { k with ide := k.ideKeys != [] }
        | .setStop => s.modLk fun k => { k with ide := false }
      s.send (.answer (Config.standardAnswer (asciiBytes "IDE_KM")))
    | _ => spdmError s) s

end Sys2Proof.Machine
end

