-- ==== Sys2Proof/Machine/TwoWire.lean ====
section
/-! DEFINITION. The two-wire ports (13_two_wire_buses.md R386 to R403): scheduled reads of the e-fuse buses, the tray
segment and the main buses, alerts, and stuck buses. -/

namespace Sys2Proof.Machine

open Sys2Proof

/-! Readings (13 R387 to R391). -/

/-- The main bus of an accelerator as a port; its e-fuse bus shares the port's error register (13 R383). -/
def mainPort (n : Acc) : Port := ⟨n.1, by omega⟩

/-- The port whose registers report a bus. -/
def busPort : Bus → Port
  | .port p => p
  | .efuse n => mainPort n

/-- OBJECT of a bus (13 R413). -/
def busObject : Bus → Nat
  | .port p => p.1
  | .efuse n => 0x10 + n.1

/-- A bus is in a SEG_STUCK episode (13 R401). -/
def busStuck (s : State) : Bus → Bool
  | .port p => s.twb.port[p].stuck
  | .efuse n => s.twb.port[mainPort n].efbStuck

/-- A bus with a hung clock (13 R399). -/
def busHung (s : State) : Bus → Bool
  | .port p => s.twb.port[p].state == 3
  | .efuse n => s.twb.port[mainPort n].efbState == 3

/-- The accelerator whose main bus this is. -/
def busAcc : Bus → Option Acc
  | .port p => accOf p.1
  | .efuse _ => none

/-- Scheduled reads of a bus do not complete: stuck, or waiting for its clock (13 R401, R403). -/
def busDown (s : State) (b : Bus) : Bool := busStuck s b || busHung s b

/-- Arbitration losses are counted, the last one recorded (13 R394, R412). -/
def countLosses (p : Port) (addr k : Nat) (byte : Byte) (bit : BitVec 3) (s : State) : State :=
  if k = 0 then s else s.setPort p fun x => { x with
    arbLost := min 255 (x.arbLost + k), arb := BitVec.ofNat 32 (addr % 128 * 2 ^ 16 + byte.toNat * 2 ^ 8 + bit.toNat) }

/-- A scheduled read of a device on a bus with other controllers: what it brought, once its losses are counted (13 R395). -/
def settleRead (p : Port) (addr : Nat) (rd : BusRead) (s : State) : BusRead × State :=
  match rd with
  | .lost k byte bit w => (match w with | some w => .ok w | none => .notDone, countLosses p addr k byte bit s)
  | rd => (rd, s)

/-- A failed read is counted (13 R389, R412). -/
def countFailed (p : Port) (rd : BusRead) (s : State) : State :=
  match rd with
  | .ok _ => s
  | .notDone => s
  | .lost .. => s
  | .nack => s.setPort p fun x => { x with nack := satAdd 255 x.nack }
  | .pecError => s.setPort p fun x => { x with nack := satAdd 255 x.nack, pec := satAdd 255 x.pec }

/-- A discarded reading, or a STATUS_WORD fault that its repeat does not confirm, is counted (13 R388). -/
def countImplausible (p : Port) (s : State) : State := s.setPort p fun x => { x with pec := satAdd 255 x.pec }

/-- A Linear11 quantity inside its plausible range (13 R388). -/
def plausible (w : BitVec 16) (top : Rat) : Option Rat :=
  let q := linear11 w
  if 0 ≤ q ∧ q ≤ top then some q else none

/-- EFUSE_READ_PIN (13 R388, R390; 07 R198, 06 R161). -/
def execEfuseReadPin (n : Acc) (rd : BusRead) (s : State) : Out3 :=
  let p := mainPort n
  if busDown s (.efuse n) || !frameDue s.twb.port[p].frameA 10 s then .next s else
  let s := s.setPort p fun x => { x with frameA := some (s.sys.tick / 10) }
  match rd with
  | .ok w =>
    match plausible w 10000 with
    | none => .next (countImplausible p s)
    | some q =>
      let mw := toReport (1000 * q)
      .next (s.modBrm fun b => { b with
        pMeas := b.pMeas.set n mw, gotP := b.gotP.set n true,
        workHist := b.workHist.set n ((s.sys.tick, mw - 1000 * (b.bal[n] : Int)) ::
          b.workHist[n].filter fun x => decide (s.sys.tick < x.1 + 200)) })
  | _ => .next (countFailed p rd s)

/-- A slot B read of STATUS_WORD without PEC: a fault waits for its repeat (13 R388, R391). -/
def efuseStatus (n : Acc) (rd : BusRead) (s : State) : State :=
  let p := mainPort n
  let s := s.setPort p fun x => { x with efbAlert := false }
  match rd with
  | .ok w => if statusFault w then s.setPort p fun x => { x with repeatOf := some w } else s
  | _ => countFailed p rd s

/-- The repeat of a STATUS_WORD fault (13 R388; 05 R145). -/
def efuseRepeat (n : Acc) (first : BitVec 16) (rd : BusRead) (s : State) : State :=
  let p := mainPort n
  let s := s.setPort p fun x => { x with repeatOf := none }
  match rd with
  | .ok w => if w = first then vrStatus n.1 0xFF p 0x44 w s else countImplausible p s
  | _ => countImplausible p (countFailed p rd s)

/-- READ_VOUT during the check of a closing e-fuse (04 R87, 13 R391). -/
def efuseVout (n : Acc) (rd : BusRead) (s : State) : State :=
  match rd with
  | .ok w =>
    if 40 ≤ linear11 w then
      crzUp (accChan n) (s.setChan (accChan n) fun c => { c with efuseGood := true, efuseClose := none })
    else s
  | _ => countFailed (mainPort n) rd s

/-- EFUSE_SLOT_B_READ (13 R391). -/
def execEfuseSlotBRead (n : Acc) (rd : BusRead) (s : State) : Out3 :=
  let x := s.twb.port[mainPort n]
  let c := s.crz.chan[accChan n]
  if busDown s (.efuse n) || !frameDue x.frameB 10 s then .next s else
  let s := s.setPort (mainPort n) fun x => { x with frameB := some (s.sys.tick / 10) }
  if c.efuseClose.isSome && !c.efuseGood then .next (efuseVout n rd s)
  else match x.repeatOf with
    | some w => .next (efuseRepeat n w rd s)
    | none =>
      if x.efbAlert ∨ s.sys.tick / 10 % 100 = 0 then .next (efuseStatus n rd s)
      else match rd with
        | .ok w => .next (s.modTwb fun t => { t with vin := t.vin.set n (some (toReport (1000 * linear11 w)).toNat) })
        | _ => .next (countFailed (mainPort n) rd s)

/-- EFB_ALERT (13 R391): the next slot B carries STATUS_WORD. -/
def execEfbAlert (n : Acc) (s : State) : Out3 := .next (s.setPort (mainPort n) fun x => { x with efbAlert := true })

/-- TRAY_READ_PIN (13 R388, R390; 07 R199). -/
def execTrayReadPin (rd : BusRead) (s : State) : Out3 :=
  if busDown s (.port 8) || !frameDue s.twb.port[(8 : Port)].frameA 10 s then .next s else
  let s := s.setPort 8 fun x => { x with frameA := some (s.sys.tick / 10) }
  let (rd, s) := settleRead 8 0x40 rd s
  match rd with
  | .ok w =>
    match plausible w 40000 with
    | none => .next (countImplausible 8 s)
    | some q => .next (s.modBrm fun b => { b with bulk := toReport (1000 * q), gotT := true })
  | _ => .next (countFailed 8 rd s)

/-- Device that a slot B of the tray segment reads (13 R390). -/
def trayDevice (s : State) (k : Nat) : Nat :=
  if k = 0 then 0x40 else if k ≤ 4 then 0x47 + k else if k ≤ 8 then 0x43 + k
  else match s.twb.trayRepeat with | [] => 0x40 | x :: _ => x.1

/-- READ_IOUT of the monitor of a fan group, mA (12 R359, 13 R388). -/
def trayCurrent (g : Fin 4) (rd : BusRead) (s : State) : State :=
  match rd with
  | .ok w =>
    match plausible w 200 with
    | none => countImplausible 8 s
    | some q => s.modCool fun c => { c with
        groupCur := c.groupCur.set g (((s.sys.tick, (toReport (1000 * q)).toNat) :: c.groupCur[g]).take 301) }
  | _ => countFailed 8 rd s

/-- STATUS_WORD of a device on the tray segment: a fault waits for its repeat (13 R388). -/
def trayStatus (addr : Nat) (rd : BusRead) (s : State) : State :=
  match rd with
  | .ok w => if statusFault w then s.modTwb fun t => { t with trayRepeat := t.trayRepeat ++ [(addr, w)] } else s
  | _ => countFailed 8 rd s

/-- TRAY_SLOT_B_READ (13 R388, R390): frames 0 to 8 of 100 in turn; a repeat in a free one. -/
def execTraySlotBRead (rd : BusRead) (s : State) : Out3 :=
  let k := s.sys.tick / 10 % 100
  if busDown s (.port 8) || !frameDue s.twb.port[(8 : Port)].frameB 10 s then .next s else
  let s := s.setPort 8 fun x => { x with frameB := some (s.sys.tick / 10) }
  let (rd, s) := settleRead 8 (trayDevice s k) rd s
  if k = 0 then .next (trayStatus 0x40 rd s)
  else if h : 1 ≤ k ∧ k ≤ 4 then .next (trayCurrent ⟨k - 1, by omega⟩ rd s)
  else if k ≤ 8 then .next (trayStatus (trayDevice s k) rd s)
  else match s.twb.trayRepeat with
    | [] => .next s
    | (addr, first) :: rest =>
      let s := s.modTwb fun t => { t with trayRepeat := rest }
      match rd with
      | .ok w => .next (if w = first then vrStatus 8 0xFF 8 addr w s else countImplausible 8 s)
      | _ => .next (countImplausible 8 (countFailed 8 rd s))

/-! The readback burst of a main bus (13 R386, R387, R390). -/

/-- NACKs in a row from a rail's regulator (13 R386). -/
def countNacks (r : Rail) (rd : BusRead) (s : State) : State :=
  match rd with
  | .ok _ => s.modTwb fun t => { t with nacks := t.nacks.set r 0 }
  | .nack => s.modTwb fun t => { t with nacks := t.nacks.set r (t.nacks[r] + 1) }
  | _ => s

/-- VOUT_MODE, read on the first answer and again after three NACKs in a row (13 R386, R387). -/
def takeMode (n : Acc) (r : Rail) (mode : Byte) (s : State) : State :=
  if s.twb.voutMode[r].isSome ∧ s.twb.nacks[r] < 3 then s else
  let bad := mode.toNat / 32 != 0
  let s := s.modTwb fun t => { t with voutMode := t.voutMode.set r (some mode), formatFault := t.formatFault.set r bad }
  if bad then emit s 3 n.1 r.1 0x0D08 mode.toNat else s

/-- Some read of a regulator was answered. -/
def regAnswered (g : RegRead) : Bool :=
  [g.vout, g.iout, g.status].any fun rd => match rd with | .ok _ => true | _ => false

/-- The three reads of one regulator (13 R390; 05 R143 to R146). -/
def takeReg (n : Acc) (i : Fin 14) (g : RegRead) (s : State) : State :=
  let p := mainPort n
  let r := railOf n i
  let (vout, s) := settleRead p (0x62 + i.1) g.vout s
  let (iout, s) := settleRead p (0x62 + i.1) g.iout s
  let (status, s) := settleRead p (0x62 + i.1) g.status s
  let g := { g with vout := vout, iout := iout, status := status }
  let s := if regAnswered g then takeMode n r g.voutMode s else s
  let s := countNacks r g.status (countNacks r g.iout (countNacks r g.vout s))
  let s := countFailed p g.status (countFailed p g.iout (countFailed p g.vout s))
  let s := match g.vout with
    | .ok w =>
      if s.twb.formatFault[r] then s
      else takeReadback r (toReport (10000 * linear16 (s.twb.voutMode[r].getD 0) w)).toNat s
    | _ => s
  let s := match g.iout with
    | .ok w => takeCurrent r (toReport (1000 * linear11 w)).toNat s
    | _ => s
  match g.status with
  | .ok w => if statusFault w then vrStatus n.1 r.1 p (0x62 + i.1) w s else s
  | _ => s

/-- MAIN_BUS_BURST (13 R390): the 13 regulators in ascending rail index; DIMM_PMIC has none. -/
def execMainBusBurst (n : Acc) (regs : List RegRead) (s : State) : Out3 :=
  if busDown s (.port (mainPort n)) || !frameDue s.twb.port[mainPort n].burst 1000 s then .next s else
  let s := s.setPort (mainPort n) fun x => { x with burst := some (s.sys.tick / 1000) }
  .next (forAll regs (fun g s => if h : g.rail < 14 ∧ g.rail ≠ 8 then takeReg n ⟨g.rail, h.1⟩ g s else s) s)

/-! Alerts (13 R397, R398). -/

/-- UNIT of a port's events (13 R413). -/
def portUnit (p : Port) : Nat := if p.1 < 8 then p.1 else if p.1 = 8 then 8 else 9

/-- UNIT and OBJECT of the PMBus device at an address of a port (13 R384, R397). -/
def alerter (p : Port) (addr : Nat) : Option (Nat × Nat) :=
  if p.1 < 8 then
    if 0x62 ≤ addr ∧ addr ≤ 0x6F ∧ addr ≠ 0x6A then some (p.1, 14 * p.1 + (addr - 0x62)) else none
  else if p.1 = 8 ∧ (addr = 0x40 ∨ (0x48 ≤ addr ∧ addr ≤ 0x4B)) then some (8, 0xFF)
  else none

/-- TWB_ALERT (13 R397): one alert cycle, where it is enabled, not masked and the bus is not in recovery (R403). `staysLow`: the
line is still low after it; it is after a cycle that nothing answered (notes/assumptions/33.md). An episode ends as the line rises. -/
def execTwbAlert (p : Port) (responder : Option (BitVec 7)) (status : BitVec 16) (staysLow : Bool) (s : State) : Out3 :=
  let x := s.twb.port[p]
  let s := s.setPort p fun x => { x with alertLine := true }
  if !fldB x.cfg 10 ∨ x.alertMasked ∨ busDown s (.port p) then .next s else
  match responder with
  | none => .next ((countFailed p .nack s).setPort p fun x => { x with cycles := x.cycles + 1, araNack := true })
  | some a =>
    let s := s.setPort p fun x => { x with
      alertLine := staysLow, cycles := if staysLow then x.cycles + 1 else 0, araNack := false }
    match alerter p a.toNat with
    | some (unit, obj) =>
      .next (if statusFault status then vrStatus unit obj p a.toNat status s else s.send (.clearFaults p a.toNat))
    | none => .next (emit s 3 (portUnit p) p.1 0x0D06 a.toNat)

/-- Why a low alert line is masked (13 R398): 1 the Alert Response Address NACKed, 2 sixteen cycles; 0 not. -/
def alertCause (x : PortState) : Nat :=
  if !x.alertLine then 0 else if x.araNack then 1 else if 16 ≤ x.cycles then 2 else 0

/-- ALERT_STUCK (13 R398). -/
def execAlertStuck (p : Port) (s : State) : Out3 :=
  let x := s.twb.port[p]
  if !fldB x.cfg 10 ∨ x.alertMasked ∨ alertCause x = 0 then .next s else
  .next (emit (s.setPort p fun x => { x with alertMasked := true, maskTick := s.sys.tick, cycles := 0, araNack := false })
    3 (portUnit p) p.1 0x0D05 (alertCause x))

/-- ALERT_UNMASK (13 R398): after 1 s. -/
def execAlertUnmask (p : Port) (s : State) : Out3 :=
  let x := s.twb.port[p]
  if !x.alertMasked ∨ s.sys.tick < x.maskTick + 100000 then .next s
  else .next (s.setPort p fun x => { x with alertMasked := false })

/-! Stuck buses (13 R399 to R401). -/

/-- A bus event (13 R413). -/
def busEvent (b : Bus) (code detail : Nat) (s : State) : State := emit s 3 (portUnit (busPort b)) (busObject b) code detail

/-- Hung clocks and stuck data lines are counted (13 R412). -/
def countTimeout (b : Bus) (s : State) : State := s.setPort (busPort b) fun x => { x with timeouts := satAdd 255 x.timeouts }

/-- The lines of the two-wire buses in a tick (13 R399): ports 0-10, then the e-fuse buses. -/
def takeLines (sda scl : BitVec 19) (s : State) : State :=
  let run (b : Bool) (k : Nat) : Nat := if b then k + 1 else 0
  s.modTwb fun t => { t with port := Vector.ofFn fun p =>
    let x := t.port[p]
    let x := { x with
      sdaLow := sda.getLsbD p.1, sclLow := scl.getLsbD p.1, sdaRun := run (sda.getLsbD p.1) x.sdaRun,
      sclRun := run (scl.getLsbD p.1) x.sclRun }
    if p.1 < 8 then { x with
      efbSdaRun := run (sda.getLsbD (11 + p.1)) x.efbSdaRun, efbSclRun := run (scl.getLsbD (11 + p.1)) x.efbSclRun } else x }

/-- Ticks in a row for which SDA of a bus has been low with SCL high, and SCL low. -/
def sdaRunOf (s : State) : Bus → Nat
  | .port p => s.twb.port[p].sdaRun
  | .efuse n => s.twb.port[mainPort n].efbSdaRun
def sclRunOf (s : State) : Bus → Nat
  | .port p => s.twb.port[p].sclRun
  | .efuse n => s.twb.port[mainPort n].efbSclRun

/-- The bus is free (13 R400 step 2): it resumes its schedule. On a main bus the isolation switch is closed again while AUX
is stable (R385; notes/assumptions/33.md), and a settings record that waited is written (11 R316). -/
def busFreed (b : Bus) (pulses : Nat) (s : State) : State :=
  let s := busEvent b 0x0D02 pulses s
  let s := match b with
    | .port p => s.setPort p fun x => { x with state := 0, stuck := false, accSide := false, sdaLow := false, sclLow := false, sdaRun := 0 }
    | .efuse n => s.setPort (mainPort n) fun x => { x with efbState := 0, efbStuck := false, efbSdaRun := 0 }
  match busAcc b with
  | none => s
  | some n =>
    let s := s.setAcc n fun a => { a with
      isoEn := a.isoEn || (s.crz.rail[railOf n 0].stable && decide (1 ≤ chState s n)) }
    if s.bup.acc[n].boxDue && chState s n == 9 then writeSettings n s else s

/-- The bus stays stuck after nine pulses (13 R400 steps 3 and 4, R401): recorded once per episode. -/
def busHeld (b : Bus) (freeWhenIsolated : Bool) (s : State) : State :=
  let side := freeWhenIsolated && (busAcc b).isSome
  let s := if busStuck s b then s else busEvent b 0x0D01 (if side then 1 else 2) s
  let s := match busAcc b with | some n => s.setAcc n fun a => { a with isoEn := false } | none => s
  match b with
  | .port p => s.setPort p fun x => { x with
      state := 4, stuck := true, accSide := side, sdaLow := !side, sclLow := false, tryTick := s.sys.tick }
  | .efuse n => s.setPort (mainPort n) fun x => { x with efbState := 4, efbStuck := true, efbTick := s.sys.tick }

/-- Recovery of a bus (13 R400). -/
def recoverBus (b : Bus) (rec : Recovery) (s : State) : State :=
  match rec with
  | .freed k => busFreed b k.1 s
  | .stuck side => busHeld b side s

/-- STUCK_DATA_LINE (13 R399, R400): 100 us. -/
def execStuckDataLine (bus : Bus) (rec : Recovery) (s : State) : Out3 :=
  if busStuck s bus ∨ busHung s bus ∨ sdaRunOf s bus < 10 then .next s else .next (recoverBus bus rec (countTimeout bus s))

/-- CLK_TIMEOUT (13 R399): a hung clock, 35 ms; no pulses until SCL is released. -/
def execClkTimeout (bus : Bus) (s : State) : Out3 :=
  if busHung s bus ∨ sclRunOf s bus < 3500 then .next s else
  let s := busEvent bus 0x0D03 0 (countTimeout bus s)
  .next (match bus with
    | .port p => s.setPort p fun x => { x with state := 3 }
    | .efuse n => s.setPort (mainPort n) fun x => { x with efbState := 3 })

/-- SCL_RELEASED (13 R400): recovery starts at step 1. -/
def execSclReleased (bus : Bus) (rec : Recovery) (s : State) : Out3 :=
  if busHung s bus ∧ sclRunOf s bus = 0 then .next (recoverBus bus rec s) else .next s

/-- Tick of the last recovery attempt of a bus. -/
def busTried (s : State) : Bus → Nat
  | .port p => s.twb.port[p].tryTick
  | .efuse n => s.twb.port[mainPort n].efbTick

/-- SEG_RETRY (13 R401): every 1 s; with DETAIL 1 the isolation switch is closed first, above S0. -/
def execSegRetry (bus : Bus) (rec : Recovery) (s : State) : Out3 :=
  if !busStuck s bus ∨ s.sys.tick < busTried s bus + 100000 then .next s else
  let s := match busAcc bus with
    | some n =>
      if s.twb.port[busPort bus].accSide && decide (1 ≤ chState s n) then s.setAcc n fun a => { a with isoEn := true } else s
    | none => s
  .next (recoverBus bus rec s)

end Sys2Proof.Machine
end

