-- ==== Sys2Proof/Machine/Tick.lean ====
section
/-! DEFINITION. The event tick (02 R36): what one tick samples, and what the blocks decide at its start. -/

namespace Sys2Proof.Machine

open Sys2Proof

/-- A die temperature of a converter (18 R549): the reading, formed on converter 1's sample, is the higher of both. -/
def takeDie (c : Fin 2) (v : Nat) (s : State) : State :=
  let s := s.modLk fun k => { k with die := k.die.set c (some ((v : Int) - 32768)) }
  if c = 0 then s else
  let t := max ((s.link.die[(0 : Fin 2)]).getD (-32768)) ((s.link.die[(1 : Fin 2)]).getD (-32768))
  s.modLk fun k => { k with
    hotRun := if 1680 ≤ t then k.hotRun + 1 else 0, coolRun := if t < 1600 then k.coolRun + 1 else 0 }

/-- A sample of the slow slot (05 R131). -/
def takeSlow (c : Fin 2) (sub : Fin 16) (v : Nat) (s : State) : State :=
  let ok := !s.sup.scFault[c]
  let s := if !ok then s else s.modSup fun u => { u with slow := u.slow.set (16 * c.1 + sub.1) v }
  if h : sub.1 < 12 then takeThm ⟨12 * c.1 + sub.1, by omega⟩ v ok s
  else if sub.1 = 15 then (if ok then takeDie c v s else s)
  else if !s.nv.coolLiq then s
  else if sub.1 = 12 then takeFlow c v ok s
  else if h : 13 ≤ sub.1 ∧ sub.1 < 15 then takePress ⟨2 * c.1 + (sub.1 - 13), by omega⟩ v ok s
  else s

/-- A conversion of channel `k` (05 R130, R131, R133): reserved channels are discarded. -/
def takeChannel (c : Fin 2) (k v : Nat) (s : State) : State :=
  if k = 95 then takeSlow c ⟨s.sup.scanNo[c] % 16, Nat.mod_lt _ (by decide)⟩ v s
  else if 56 ≤ k ∧ k ≤ 58 then takeCheck c k v s
  else match railOfScan c.1 k with
    | none => s
    | some r => if s.sup.scFault[c] then skipRail r s else takeRail r v s

/-- The next conversion of a converter, channels 0-95 in order and then a new scan (05 R129). -/
def takeSample (c : Fin 2) (v : Nat) (s : State) : State :=
  let k := s.sup.scanPos[c]
  (takeChannel c k v s).modSup fun u => { u with
    scanPos := u.scanPos.set c ((k + 1) % 96), scanNo := if k = 95 then u.scanNo.set c ((u.scanNo[c] + 1) % 16) else u.scanNo }

/-- The conversions of one tick: 20 slots of 12.5 cycles on each converter, which scan independently (05 R129). -/
def takeScan (i : TickIn) (s : State) : State :=
  forAll i.scan[(1 : Fin 2)].toList (takeSample 1) (forAll i.scan[(0 : Fin 2)].toList (takeSample 0) s)

/-- The tach inputs of a tick (12 R355): fans 0-15, pumps 16-19. -/
def takeTach (e : BitVec 20) (s : State) : State :=
  forAll (List.finRange 4) (fun (p : Pump) s => pumpTach (e.getLsbD (16 + p.1)) p s)
    (forAll (List.finRange 16) (fun (f : Fan) s => fanTach (e.getLsbD f.1) f s) s)

/-- VID_PWM (18 R532): driven from tick 100; the trim moves the duty by one within 96-224. -/
def trimVid (up down : Bool) (s : State) : State :=
  let d := s.sys.vidDuty
  s.modSys fun y => { y with
    vidDriven := y.vidDriven || decide (100 ≤ y.tick),
    vidDuty := if !y.memTrained || up == down then d else if up then min 224 (d + 1) else max 96 (d - 1) }

/-- The replica rings of a tick (01 R16): they count while the trim is at 0.85 V. -/
def takeRings (rings : BitVec 4) (s : State) : State :=
  let now := if s.sys.vidDuty = 224 then rings else 0
  s.modSaf fun f => { f with ringNow := now, ringTwice := f.ringNow &&& now, ringLow := f.ringLow && now != 0 }

/-- How long the causes 3 to 5 of SAFE have been present (17 R513 to R516, R520): a low ring, firmware that does not run
(DEDUCED, notes/assumptions/59.md), both converters in fault. -/
def presentCauses (s : State) : State :=
  let s := bothFaulty s
  let both := s.sup.scFault[(0 : Fin 2)] && s.sup.scFault[(1 : Fin 2)]
  s.modSaf fun f => { f with
    presentTick := if (f.cause = 3 ∧ f.ringLow) ∨ (f.cause = 4 ∧ !s.sys.fwRunning) ∨ (f.cause = 5 ∧ both) then s.sys.tick
      else f.presentTick }

/-- COOL_TABLE written rows take effect together (12 R369). -/
def applyRows (s : State) : State :=
  s.modCool fun k => { k with rows := k.nextRows.getD k.rows, nextRows := none }

/-- SRS_AGE counts ticks (10 R308). -/
def ageLinks (s : State) : State :=
  forAll accList (fun n s => s.setLink n fun l => { l with age := satAdd 0xFFFF l.age }) s

/-- D_n and the filtered wait stay frozen for 1 ms after FORCEMIN_N is released (06 R180). -/
def freezeForced (s : State) : State :=
  forAll accList (fun n s => if forced s n then s.setStr n fun a => { a with frozenUntil := s.sys.tick + 100 } else s) s

/-- Engines whose references the reference job completed in the tick before (09 R272, R281; 11 R329). -/
def takeRefs (k : Nat) (s : State) : State :=
  if s.frd.refBusy && mayEnd .refs s then
    forAll accList refsProgress (s.modFrd fun f => { f with refDone := min f.refTotal (f.refDone + k) })
  else s

/-- EVENT_TICK (02 R36): the counter, the samples of the tick, and the decisions that a tick boundary makes. -/
def execEventTick (i : TickIn) (s : State) : Out3 :=
  if s.sys.boot = .porst then .next s else
  let s := s.modSys fun y => { y with tick := (y.tick + 1) % 2 ^ 64, eccCe := y.eccCe + i.eccCorrected }
  let s := takeLines i.sdaHeld i.sclHeld (followWp i.wpN s)
  let s := freezeForced (ageLinks (applyRows s))
  let s := takeRefs i.refs (takeScan i s)
  let s := takeTach i.tach s
  let s := presentCauses (takeRings i.rings s)
  let s := trimVid i.trimUp i.trimDown (sampleIdle i.xnetIdle s)
  let s := forAll accList onDieCheck s
  let s := startAccWrites (crzTicks (pulseEnds s))
  .next (tableCheck (drainCheck (rackCompare (rackLocal s))))

end Sys2Proof.Machine
end

