-- ==== Sys2Proof/Machine/Dispatch.lean ====
section
/-! DEFINITION. The effect of each command on everything but the queue: one arm a command of `Instr`. -/

namespace Sys2Proof.Machine

open Sys2Proof

/-- The effect of a command (the rows of the table of operations and events). -/
def exec (i : Instr) (s : State) : Host.Outcome State Fault Refusal :=
  match i with
  | .coldReset inp => Sys2Proof.Machine.execColdReset inp s
  | .porstNFall => Sys2Proof.Machine.execPorstNFall s
  | .startUpSelfTest failed => Sys2Proof.Machine.execStartUpSelfTest failed s
  | .bootRomRelease => Sys2Proof.Machine.execBootRomRelease s
  | .warmResetRelease => Sys2Proof.Machine.execWarmResetRelease s
  | .refclkLost => Sys2Proof.Machine.execRefclkLost s
  | .refclkReturn => Sys2Proof.Machine.execRefclkReturn s
  | .refclkSettled => Sys2Proof.Machine.execRefclkSettled s
  | .eventTick inp => Sys2Proof.Machine.execEventTick inp s
  | .paceLow => Sys2Proof.Machine.execPaceLow s
  | .eventRelease => Sys2Proof.Machine.execEventRelease s
  | .stateRecordSeal => Sys2Proof.Machine.execStateRecordSeal s
  | .sealDeadline complete => Sys2Proof.Machine.execSealDeadline complete s
  | .recordPublish => Sys2Proof.Machine.execRecordPublish s
  | .eccUncorrectable site => Sys2Proof.Machine.execEccUncorrectable site s
  | .cxlMemWrite addr => Sys2Proof.Machine.execCxlMemWrite addr s
  | .mbxGo m seq => Sys2Proof.Machine.execMbxGo m seq s
  | .mbxStatRead m => Sys2Proof.Machine.execMbxStatRead m s
  | .registerWrite offset data => Sys2Proof.Machine.execRegisterWrite offset data s
  | .srsRfWrite n value => Sys2Proof.Machine.execSrsRfWrite n value s
  | .srsHeadRead n => Sys2Proof.Machine.execSrsHeadRead n s
  | .watchdogArm ms => Sys2Proof.Machine.execWatchdogArm ms s
  | .watchdogServe value => Sys2Proof.Machine.execWatchdogServe value s
  | .watchdogExpiry stopped => Sys2Proof.Machine.execWatchdogExpiry stopped s
  | .sysCapabilities f => Sys2Proof.Machine.execSysCapabilities f s
  | .sysHeartbeat f => Sys2Proof.Machine.execSysHeartbeat f s
  | .sysStatus f => Sys2Proof.Machine.execSysStatus f s
  | .sysCommitEpoch f epoch => Sys2Proof.Machine.execSysCommitEpoch f epoch s
  | .powerSetCap f cap => Sys2Proof.Machine.execPowerSetCap f cap s
  | .powerSetEnvelope f peak avg ramp tol balMax => Sys2Proof.Machine.execPowerSetEnvelope f peak avg ramp tol balMax s
  | .powerStatus f => Sys2Proof.Machine.execPowerStatus f s
  | .rackPowerOn f => Sys2Proof.Machine.execRackPowerOn f s
  | .rackPowerOff f grace flags => Sys2Proof.Machine.execRackPowerOff f grace flags s
  | .rackHold f => Sys2Proof.Machine.execRackHold f s
  | .rackReset f => Sys2Proof.Machine.execRackReset f s
  | .rackJoin f => Sys2Proof.Machine.execRackJoin f s
  | .rackDetach f => Sys2Proof.Machine.execRackDetach f s
  | .trayPowerOn f => Sys2Proof.Machine.execTrayPowerOn f s
  | .trayPowerOff f grace flags => Sys2Proof.Machine.execTrayPowerOff f grace flags s
  | .trayFaultClear f => Sys2Proof.Machine.execTrayFaultClear f s
  | .crzSetDep f dep => Sys2Proof.Machine.execCrzSetDep f dep s
  | .crzSetConfig f seqCfg stepwin => Sys2Proof.Machine.execCrzSetConfig f seqCfg stepwin s
  | .crzClearFault f ch => Sys2Proof.Machine.execCrzClearFault f ch s
  | .crzStatus f => Sys2Proof.Machine.execCrzStatus f s
  | .partitionPowerOn f acc => Sys2Proof.Machine.execPartitionPowerOn f acc s
  | .partitionPowerOff f acc mode => Sys2Proof.Machine.execPartitionPowerOff f acc mode s
  | .partitionReset f acc flags => Sys2Proof.Machine.execPartitionReset f acc flags s
  | .partitionResetForce f acc flags => Sys2Proof.Machine.execPartitionResetForce f acc flags s
  | .partitionResetAbort f acc flags => Sys2Proof.Machine.execPartitionResetAbort f acc flags s
  | .partitionPark f acc => Sys2Proof.Machine.execPartitionPark f acc s
  | .partitionUnpark f acc => Sys2Proof.Machine.execPartitionUnpark f acc s
  | .supSetWindow f rail win trayDiv => Sys2Proof.Machine.execSupSetWindow f rail win trayDiv s
  | .supSetFastWindow f k fwc => Sys2Proof.Machine.execSupSetFastWindow f k fwc s
  | .supMargin f rail steps => Sys2Proof.Machine.execSupMargin f rail steps s
  | .supStatus f => Sys2Proof.Machine.execSupStatus f s
  | .steerSetMode f ctrl => Sys2Proof.Machine.execSteerSetMode f ctrl s
  | .steerSetPhasePref f acc pref => Sys2Proof.Machine.execSteerSetPhasePref f acc pref s
  | .steerSetParkOrder f order => Sys2Proof.Machine.execSteerSetParkOrder f order s
  | .steerSetGroup f group => Sys2Proof.Machine.execSteerSetGroup f group s
  | .steerSetConfig f cfg cfg2 thermCeil leak => Sys2Proof.Machine.execSteerSetConfig f cfg cfg2 thermCeil leak s
  | .steerStatus f => Sys2Proof.Machine.execSteerStatus f s
  | .ledgerBindJob f slot flags job => Sys2Proof.Machine.execLedgerBindJob f slot flags job s
  | .ledgerUnbindJob f slot => Sys2Proof.Machine.execLedgerUnbindJob f slot s
  | .ledgerSetCoeff f bin coef => Sys2Proof.Machine.execLedgerSetCoeff f bin coef s
  | .ledgerSetConfig f cfg => Sys2Proof.Machine.execLedgerSetConfig f cfg s
  | .ledgerStatus f => Sys2Proof.Machine.execLedgerStatus f s
  | .frondStage f slot flags offset total data => Sys2Proof.Machine.execFrondStage f slot flags offset total data s
  | .frondLoad f slot source flags => Sys2Proof.Machine.execFrondLoad f slot source flags s
  | .frondUnload f slot flags => Sys2Proof.Machine.execFrondUnload f slot flags s
  | .frondRun f slot flags => Sys2Proof.Machine.execFrondRun f slot flags s
  | .frondSetSched f sched => Sys2Proof.Machine.execFrondSetSched f sched s
  | .frondStatus f => Sys2Proof.Machine.execFrondStatus f s
  | .srsSetConfig f cfg eq => Sys2Proof.Machine.execSrsSetConfig f cfg eq s
  | .srsStatus f => Sys2Proof.Machine.execSrsStatus f s
  | .bupTest f acc => Sys2Proof.Machine.execBupTest f acc s
  | .bupFloorPlan f acc => Sys2Proof.Machine.execBupFloorPlan f acc s
  | .bupJournalRead f serial first => Sys2Proof.Machine.execBupJournalRead f serial first s
  | .bupJournalForget f serial => Sys2Proof.Machine.execBupJournalForget f serial s
  | .bupSetConfig f cfg => Sys2Proof.Machine.execBupSetConfig f cfg s
  | .bupStatus f => Sys2Proof.Machine.execBupStatus f s
  | .coolSetConfig f cfg cfg2 => Sys2Proof.Machine.execCoolSetConfig f cfg cfg2 s
  | .coolSetCurve f curve => Sys2Proof.Machine.execCoolSetCurve f curve s
  | .coolSetTable f table => Sys2Proof.Machine.execCoolSetTable f table s
  | .coolSetMap f fanMap thmMap leakUsed => Sys2Proof.Machine.execCoolSetMap f fanMap thmMap leakUsed s
  | .coolSetLoop f loop => Sys2Proof.Machine.execCoolSetLoop f loop s
  | .coolSetMode f mode => Sys2Proof.Machine.execCoolSetMode f mode s
  | .coolClearFault f pumps => Sys2Proof.Machine.execCoolClearFault f pumps s
  | .coolClearLeak f zone => Sys2Proof.Machine.execCoolClearLeak f zone s
  | .coolStatus f => Sys2Proof.Machine.execCoolStatus f s
  | .twbSetConfig f port avs tgt => Sys2Proof.Machine.execTwbSetConfig f port avs tgt s
  | .twbTransfer f port addr proto code wlen rlen wdata e => Sys2Proof.Machine.execTwbTransfer f port addr proto code wlen rlen wdata e s
  | .twbStatus f => Sys2Proof.Machine.execTwbStatus f s
  | .netSetConfig f udp addrs group => Sys2Proof.Machine.execNetSetConfig f udp addrs group s
  | .netSubscribe f streams version div => Sys2Proof.Machine.execNetSubscribe f streams version div s
  | .fwStage f target flags offset total data => Sys2Proof.Machine.execFwStage f target flags offset total data s
  | .fwVerify f target => Sys2Proof.Machine.execFwVerify f target s
  | .fwActivate f target slot flags => Sys2Proof.Machine.execFwActivate f target slot flags s
  | .fwStatus f => Sys2Proof.Machine.execFwStatus f s
  | .secDebugChallenge f level => Sys2Proof.Machine.execSecDebugChallenge f level s
  | .secDebugUnlock f level sig => Sys2Proof.Machine.execSecDebugUnlock f level sig s
  | .secDebugLock f => Sys2Proof.Machine.execSecDebugLock f s
  | .secSetLifecycle f state sig => Sys2Proof.Machine.execSecSetLifecycle f state sig s
  | .secSetKey f key wrapped => Sys2Proof.Machine.execSecSetKey f key wrapped s
  | .secStatus f => Sys2Proof.Machine.execSecStatus f s
  | .mctpSetEndpointId eid => Sys2Proof.Machine.execMctpSetEndpointId eid s
  | .mctpReassemblyTimeout => Sys2Proof.Machine.execMctpReassemblyTimeout s
  | .spdmGetVersion path => Sys2Proof.Machine.execSpdmGetVersion path s
  | .spdmGetCapabilities path => Sys2Proof.Machine.execSpdmGetCapabilities path s
  | .spdmNegotiateAlgorithms path => Sys2Proof.Machine.execSpdmNegotiateAlgorithms path s
  | .spdmGetDigests path => Sys2Proof.Machine.execSpdmGetDigests path s
  | .spdmGetCertificate path slot offset len => Sys2Proof.Machine.execSpdmGetCertificate path slot offset len s
  | .spdmChallenge path slot nonce => Sys2Proof.Machine.execSpdmChallenge path slot nonce s
  | .spdmGetMeasurements path index nonce sign => Sys2Proof.Machine.execSpdmGetMeasurements path index nonce sign s
  | .spdmKeyExchange path share => Sys2Proof.Machine.execSpdmKeyExchange path share s
  | .spdmFinish path good => Sys2Proof.Machine.execSpdmFinish path good s
  | .spdmEndSession path => Sys2Proof.Machine.execSpdmEndSession path s
  | .ideKeyManagement m => Sys2Proof.Machine.execIdeKeyManagement m s
  | .pldmFwTransfer target first offset total data => Sys2Proof.Machine.execPldmFwTransfer target first offset total data s
  | .pldmVerifyComplete target => Sys2Proof.Machine.execPldmVerifyComplete target s
  | .pldmActivateFirmware target slot => Sys2Proof.Machine.execPldmActivateFirmware target slot s
  | .pldmMonitoring req => Sys2Proof.Machine.execPldmMonitoring req s
  | .perstNAssert => Sys2Proof.Machine.execPerstNAssert s
  | .cxlLinkUp rate width flit256 => Sys2Proof.Machine.execCxlLinkUp rate width flit256 s
  | .cxlLinkDown => Sys2Proof.Machine.execCxlLinkDown s
  | .ethLinkUp p fast => Sys2Proof.Machine.execEthLinkUp p fast s
  | .ethLinkDown p => Sys2Proof.Machine.execEthLinkDown p s
  | .leaseExpiry k => Sys2Proof.Machine.execLeaseExpiry k s
  | .rackAnnounceRx a => Sys2Proof.Machine.execRackAnnounceRx a s
  | .rackAnnounceTx => Sys2Proof.Machine.execRackAnnounceTx s
  | .rackMismatch => Sys2Proof.Machine.execRackMismatch s
  | .leaderLost => Sys2Proof.Machine.execLeaderLost s
  | .rackListenEnd => Sys2Proof.Machine.execRackListenEnd s
  | .seqsyncRise => Sys2Proof.Machine.execSeqsyncRise s
  | .seqsyncPulse widthUs => Sys2Proof.Machine.execSeqsyncPulse widthUs s
  | .seqsyncResetPulse => Sys2Proof.Machine.execSeqsyncResetPulse s
  | .seqsyncRelease => Sys2Proof.Machine.execSeqsyncRelease s
  | .drainDeadline => Sys2Proof.Machine.execDrainDeadline s
  | .quiesceBallastClear => Sys2Proof.Machine.execQuiesceBallastClear s
  | .staggerStart n => Sys2Proof.Machine.execStaggerStart n s
  | .coolRundown => Sys2Proof.Machine.execCoolRundown s
  | .trayflt => Sys2Proof.Machine.execTrayflt s
  | .rackflt => Sys2Proof.Machine.execRackflt s
  | .crzStepStart c => Sys2Proof.Machine.execCrzStepStart c s
  | .efuseCloseTimeout n => Sys2Proof.Machine.execEfuseCloseTimeout n s
  | .identityRead n id => Sys2Proof.Machine.execIdentityRead n id s
  | .railPgChange r level cycle => Sys2Proof.Machine.execRailPgChange r level cycle s
  | .railStable r => Sys2Proof.Machine.execRailStable r s
  | .pgTimeout r => Sys2Proof.Machine.execPgTimeout r s
  | .pgLost r => Sys2Proof.Machine.execPgLost r s
  | .railOff r => Sys2Proof.Machine.execRailOff r s
  | .offTimeout r => Sys2Proof.Machine.execOffTimeout r s
  | .efuseFault n => Sys2Proof.Machine.execEfuseFault n s
  | .coreWindow k level ns => Sys2Proof.Machine.execCoreWindow k level ns s
  | .thermtrip n lowNs => Sys2Proof.Machine.execThermtrip n lowNs s
  | .alertArming n input => Sys2Proof.Machine.execAlertArming n input s
  | .vralertFall n => Sys2Proof.Machine.execVralertFall n s
  | .vralertRise n => Sys2Proof.Machine.execVralertRise n s
  | .holdoffEnd n => Sys2Proof.Machine.execHoldoffEnd n s
  | .drainSuccess n => Sys2Proof.Machine.execDrainSuccess n s
  | .drainTimeout n => Sys2Proof.Machine.execDrainTimeout n s
  | .routeAbort n => Sys2Proof.Machine.execRouteAbort n s
  | .window r => Sys2Proof.Machine.execWindow r s
  | .convFault c => Sys2Proof.Machine.execConvFault c s
  | .convFaultClear c => Sys2Proof.Machine.execConvFaultClear c s
  | .setpointReached n => Sys2Proof.Machine.execSetpointReached n s
  | .setpointTimeout n => Sys2Proof.Machine.execSetpointTimeout n s
  | .marginStep r => Sys2Proof.Machine.execMarginStep r s
  | .readbackStale => Sys2Proof.Machine.execReadbackStale s
  | .efuseReadPin n rd => Sys2Proof.Machine.execEfuseReadPin n rd s
  | .efuseSlotBRead n rd => Sys2Proof.Machine.execEfuseSlotBRead n rd s
  | .trayReadPin rd => Sys2Proof.Machine.execTrayReadPin rd s
  | .traySlotBRead rd => Sys2Proof.Machine.execTraySlotBRead rd s
  | .mainBusBurst n regs => Sys2Proof.Machine.execMainBusBurst n regs s
  | .avsbusRead n a0 a1 => Sys2Proof.Machine.execAvsbusRead n a0 a1 s
  | .avsNoResp n => Sys2Proof.Machine.execAvsNoResp n s
  | .twbAlert p responder status staysLow => Sys2Proof.Machine.execTwbAlert p responder status staysLow s
  | .alertStuck p => Sys2Proof.Machine.execAlertStuck p s
  | .alertUnmask p => Sys2Proof.Machine.execAlertUnmask p s
  | .efbAlert n => Sys2Proof.Machine.execEfbAlert n s
  | .stuckDataLine bus rec_ => Sys2Proof.Machine.execStuckDataLine bus rec_ s
  | .clkTimeout bus => Sys2Proof.Machine.execClkTimeout bus s
  | .segRetry bus rec_ => Sys2Proof.Machine.execSegRetry bus rec_ s
  | .sorusTrainingDone n sync => Sys2Proof.Machine.execSorusTrainingDone n sync s
  | .sorusTrainingFail n => Sys2Proof.Machine.execSorusTrainingFail n s
  | .sorusTrainingRetry n => Sys2Proof.Machine.execSorusTrainingRetry n s
  | .upstreamLockLost n sync => Sys2Proof.Machine.execUpstreamLockLost n sync s
  | .activityFrame n hdr a => Sys2Proof.Machine.execActivityFrame n hdr a s
  | .bootComplete n hdr arg data => Sys2Proof.Machine.execBootComplete n hdr arg data s
  | .bootFailed n hdr reason => Sys2Proof.Machine.execBootFailed n hdr reason s
  | .trainStatus n hdr arg data => Sys2Proof.Machine.execTrainStatus n hdr arg data s
  | .testStatus n hdr arg data => Sys2Proof.Machine.execTestStatus n hdr arg data s
  | .parkDone n hdr parked seq => Sys2Proof.Machine.execParkDone n hdr parked seq s
  | .dsLockChange n hdr gained dsErr => Sys2Proof.Machine.execDsLockChange n hdr gained dsErr s
  | .memEcc n hdr site count => Sys2Proof.Machine.execMemEcc n hdr site count s
  | .sensorFault n hdr sensor => Sys2Proof.Machine.execSensorFault n hdr sensor s
  | .testResultFrame n hdr body => Sys2Proof.Machine.execTestResultFrame n hdr body s
  | .pointerReset n => Sys2Proof.Machine.execPointerReset n s
  | .linkLostTimeout n => Sys2Proof.Machine.execLinkLostTimeout n s
  | .steeringLoop => Sys2Proof.Machine.execSteeringLoop s
  | .loopOverrun => Sys2Proof.Machine.execLoopOverrun s
  | .stagedSetApply => Sys2Proof.Machine.execStagedSetApply s
  | .brimEvaluation => Sys2Proof.Machine.execBrimEvaluation s
  | .brimBlind => Sys2Proof.Machine.execBrimBlind s
  | .ledgerStep => Sys2Proof.Machine.execLedgerStep s
  | .ledgerPosting => Sys2Proof.Machine.execLedgerPosting s
  | .frondLaunch k => Sys2Proof.Machine.execFrondLaunch k s
  | .frondRunDone k => Sys2Proof.Machine.execFrondRunDone k s
  | .frondReloadDone k => Sys2Proof.Machine.execFrondReloadDone k s
  | .frondPersistDone k => Sys2Proof.Machine.execFrondPersistDone k s
  | .refDone => Sys2Proof.Machine.execRefDone s
  | .bootFlashVerified n => Sys2Proof.Machine.execBootFlashVerified n s
  | .bootTimeout n => Sys2Proof.Machine.execBootTimeout n s
  | .trainingTimeout n => Sys2Proof.Machine.execTrainingTimeout n s
  | .testTimeout n => Sys2Proof.Machine.execTestTimeout n s
  | .floorPlan => Sys2Proof.Machine.execFloorPlan s
  | .coolingLoop => Sys2Proof.Machine.execCoolingLoop s
  | .fanGroupKick g => Sys2Proof.Machine.execFanGroupKick g s
  | .fanKickDone f => Sys2Proof.Machine.execFanKickDone f s
  | .fanKickTimeout f => Sys2Proof.Machine.execFanKickTimeout f s
  | .fanTachLoss f => Sys2Proof.Machine.execFanTachLoss f s
  | .fanSlow f => Sys2Proof.Machine.execFanSlow f s
  | .tachFaultClear f => Sys2Proof.Machine.execTachFaultClear f s
  | .fanRekick f => Sys2Proof.Machine.execFanRekick f s
  | .flowLow l => Sys2Proof.Machine.execFlowLow l s
  | .pumpTachLoss l => Sys2Proof.Machine.execPumpTachLoss l s
  | .flowLost l => Sys2Proof.Machine.execFlowLost l s
  | .flowHoldEnd l => Sys2Proof.Machine.execFlowHoldEnd l s
  | .pressLow l => Sys2Proof.Machine.execPressLow l s
  | .coolEst => Sys2Proof.Machine.execCoolEst s
  | .coolEstTimeout => Sys2Proof.Machine.execCoolEstTimeout s
  | .thmFault inp => Sys2Proof.Machine.execThmFault inp s
  | .thmRecover inp => Sys2Proof.Machine.execThmRecover inp s
  | .critTemp => Sys2Proof.Machine.execCritTemp s
  | .onDieFault n => Sys2Proof.Machine.execOnDieFault n s
  | .refreshRequest n ok => Sys2Proof.Machine.execRefreshRequest n ok s
  | .leakEvaluation ohms => Sys2Proof.Machine.execLeakEvaluation ohms s
  | .leakWet c => Sys2Proof.Machine.execLeakWet c s
  | .leakSensor c => Sys2Proof.Machine.execLeakSensor c s
  | .leakSensorRecover c => Sys2Proof.Machine.execLeakSensorRecover c s
  | .heartbeatTimeout => Sys2Proof.Machine.execHeartbeatTimeout s
  | .tableModeExit => Sys2Proof.Machine.execTableModeExit s
  | .lockstepDivergence d => Sys2Proof.Machine.execLockstepDivergence d s
  | .islandSramError => Sys2Proof.Machine.execIslandSramError s
  | .convertersBothFault => Sys2Proof.Machine.execConvertersBothFault s
  | .safeTrayflt => Sys2Proof.Machine.execSafeTrayflt s
  | .trialConfirmed => Sys2Proof.Machine.execTrialConfirmed s
  | .trialTimeout => Sys2Proof.Machine.execTrialTimeout s
  | .goldenCheck => Sys2Proof.Machine.execGoldenCheck s
  | .fwSlotWritten readBack => Sys2Proof.Machine.execFwSlotWritten readBack s
  | .activateWarmReset => Sys2Proof.Machine.execActivateWarmReset s
  | .accFwWriteDone n ok => Sys2Proof.Machine.execAccFwWriteDone n ok s
  | .lifecycleFused fuseFault => Sys2Proof.Machine.execLifecycleFused fuseFault s
  | .debugNonceExpiry => Sys2Proof.Machine.execDebugNonceExpiry s
  | .ctrlHot => Sys2Proof.Machine.execCtrlHot s
  | .cxlConfigurationLoaded => Sys2Proof.Machine.execCxlConfigurationLoaded s
  | .lpddr5xTrained gib => Sys2Proof.Machine.execLpddr5xTrained gib s
  | .configurationRequest req => Sys2Proof.Machine.execConfigurationRequest req s
  | .perstNDeassert => Sys2Proof.Machine.execPerstNDeassert s
  | .ipv6ReassemblyTimeout => Sys2Proof.Machine.execIpv6ReassemblyTimeout s
  | .neighbourDiscovery p msg => Sys2Proof.Machine.execNeighbourDiscovery p msg s
  | .icmpv6Echo p msg => Sys2Proof.Machine.execIcmpv6Echo p msg s
  | .networkFrameDropped kind => Sys2Proof.Machine.execNetworkFrameDropped kind s
  | .getVendorDefinedMessageSupport => Sys2Proof.Machine.execGetVendorDefinedMessageSupport s
  | .pumpKickDone p => Sys2Proof.Machine.execPumpKickDone p s
  | .flowPressureFailed ch => Sys2Proof.Machine.execFlowPressureFailed ch s
  | .sclReleased bus rec_ => Sys2Proof.Machine.execSclReleased bus rec_ s
  | .accRstHoldEnd n => Sys2Proof.Machine.execAccRstHoldEnd n s
  | .avsWriteResponse n core r => Sys2Proof.Machine.execAvsWriteResponse n core r s
  | .configStoreWriteDone taken => Sys2Proof.Machine.execConfigStoreWriteDone taken s

end Sys2Proof.Machine
end

