-- ==== Sys2Proof/Machine/Bar0.lean ====
section
/-! DEFINITION. What the host's windows read: every offset of BAR0 (01 R33; 02 R36, R38, R59; 14 R419 to R421), the CXL.mem window
with the history ring and the energy ledger (02 R58; 08 R241, R242), and the layouts of the memories (01 R28 to R32). -/

namespace Sys2Proof.Machine

open Sys2Proof

/-! BAR0 (01 R33). -/

/-- SYS_ from offset 0 on: identity, capabilities and status, TICK at 0x20 and GEN at 0x28 (02 R38), and SYS_STRAP, SYS_NET and
SYS_CXL at 0x30 to 0x38 (18 R530, R542, R545). -/
def sysPage (s : State) : List Byte :=
  w32 Config.sysId.toNat ++ w32 Config.sysRev.toNat ++ w64 s.nv.serial.toNat ++ w32 (capUnits s) ++ w32 (fwVer s)
    ++ w32 (sysStatusW s) ++ w32 s.sys.cxlWdrop ++ w64 s.sys.tick ++ w64 s.rcd.gen ++ w32 (strapW s) ++ w32 (netW s) ++ w32 (cxlW s)

/-- MBX_GO, MBX_STAT and MBX_ERR of a mailbox with the reserved word behind them; MBX_GO is write-only and reads 0 (14 R419). -/
def boxPage (s : State) (m : Fin 2) : List Byte :=
  let x := s.mbx.box[m]
  w32 0 ++ w32 (statW s m) ++ w32 (x.goMismatch * 2 ^ 24 + x.goBusy * 2 ^ 16) ++ w32 0

/-- MBX_ from offset 0x1000 on (14 R419). -/
def mbxPage (s : State) : List Byte :=
  w32 s.mbx.sel.1 ++ w32 s.mbx.genDiv ++ w32 s.mbx.evt.toNat ++ w32 s.mbx.evtEn.toNat ++ List.replicate 16 0
    ++ boxPage s 0 ++ boxPage s 1

/-- A result area (14 R421); empty before the first result. -/
def resultBytes (o : Option Reply) : List Byte :=
  match o with
  | none => []
  | some q =>
    let d := q.snapshot ++ q.data
    w16 q.seq.toNat ++ leBytes 1 (resCode q.result) ++ leBytes 1 (if q.key = 1 then 1 else 0) ++ w16 d.length
      ++ [q.ifver, 0] ++ w64 q.gen ++ w64 q.stamp ++ leBytes 16 q.tag.toNat ++ List.replicate 24 0 ++ d

/-- The mirror: the summary section of the generation in SYS_GEN (02 R59); nothing before generation 1. -/
def mirrorBytes (s : State) : List Byte :=
  match s.rcd.mirror with
  | none => []
  | some r => summaryBytes s r

/-- The byte at an offset of BAR0; reserved ranges read 0 (01 R33). -/
def bar0Byte (s : State) (a : Nat) : Byte :=
  if a < 0x100 then (sysPage s).getD a 0
  else if 0x1000 ≤ a ∧ a < 0x1100 then (mbxPage s).getD (a - 0x1000) 0
  else if 0x2000 ≤ a ∧ a < 0x2100 then cellRead s.mbx.mem a
  else if 0x2800 ≤ a ∧ a < 0x2808 then (w64 s.mbx.pba.toNat).getD (a - 0x2800) 0
  else if (0x4000 ≤ a ∧ a < 0x5000) ∨ (0x6000 ≤ a ∧ a < 0x7000) then cellRead s.mbx.mem a
  else if 0x5000 ≤ a ∧ a < 0x6000 then (resultBytes s.mbx.box[(0 : Fin 2)].area).getD (a - 0x5000) 0
  else if 0x7000 ≤ a ∧ a < 0x8000 then (resultBytes s.mbx.box[(1 : Fin 2)].area).getD (a - 0x7000) 0
  else if 0x8000 ≤ a ∧ a < 0x10000 then (mirrorBytes s).getD (a - 0x8000) 0
  else 0

/-- A read of `n` bytes of BAR0: one value of 8 bytes, or a half of it (02 R38). -/
def bar0Read (s : State) (a n : Nat) : List Byte := (List.range n).map fun i => bar0Byte s (a + i)

/-! The energy ledger in the window (08 R241, R242). -/

/-- ENERGY_MJ: whole millijoules, rounded toward the lower, so that REM_UJ is 0 to 999. -/
def wholeMj (e : Int) : Int := e / 1000

/-- REM_UJ. -/
def remUj (e : Int) : Nat := (e % 1000).toNat

/-- A slot or account entry (08 R242). -/
def slotEntry (posted job : Nat) (energy : Int) (bindTick first flags : Nat) (epoch : Bool) : List Byte :=
  w64 posted ++ w64 job ++ sInt 8 (wholeMj energy) ++ w64 bindTick ++ w64 first ++ w32 flags ++ w16 (remUj energy)
    ++ leBytes 1 (bit epoch 0) ++ List.replicate 9 0 ++ w64 posted

/-- Entry of slot `i` of the slot table, as the latest posting wrote it. -/
def slotWindow (s : State) (i : Nat) : List Byte :=
  if h : i < 384 then
    let x := s.ldg.posted[i / 48][i % 48]
    slotEntry s.ldg.last x.job.toNat x.energy x.bindTick x.first x.flags x.epochClose
  else []

/-- Entry of account `i` of the account table. -/
def accountWindow (s : State) (i : Nat) : List Byte :=
  if h : i < 25 then slotEntry s.ldg.last i s.ldg.account[i] 0 0 s.ldg.accountFlags[i] false else []

/-- D of an accelerator entry: 0.01 %, saturating; all ones when not evaluated (08 R242). -/
def dW (d : Option Rat) : Nat := match d with | some x => min 0xFFFF (toReport (10000 * x)).toNat | none => 0xFFFF

/-- An accelerator entry of an interval record (08 R242). -/
def intervalAcc (e : IntervalAcc) : List Byte :=
  sInt 4 e.eMeas ++ sInt 4 e.eMod.floor ++ sInt 4 e.eBal ++ sInt 4 e.eOvh ++ sInt 4 e.eUnbound
    ++ sInt 4 (toReport (65536 * e.k)) ++ w16 (dW e.d) ++ leBytes 1 e.state ++ [0] ++ w32 e.flags.toNat ++ leBytes 1 e.opp
    ++ leBytes 1 e.band ++ w16 e.steps ++ List.replicate 28 0

/-- An interval record, 8 KiB (08 R242). -/
def intervalBytes (r : IntervalRec) : List Byte :=
  padTo 0x1FF8 (padTo 0xD00 (padTo 0xA00 (padTo 0x400 (padTo 0x40 (w64 r.number ++ w64 (1000 * r.number) ++ sInt 8 r.trayE
      ++ sInt 8 r.trayOvh ++ w32 r.tflags) ++ r.accs.flatMap intervalAcc)
    ++ r.slotUj.flatMap fun x => w32 x) ++ r.share.flatMap fun x => sInt 2 (toReport (10000 * x)))) ++ w64 r.number

/-- A closed-job record (08 R242). -/
def closedBytes (r : ClosedJob) : List Byte :=
  w64 r.number ++ w64 r.job.toNat ++ sInt 8 (wholeMj r.energy) ++ w64 r.bindTick ++ w64 r.closeInterval ++ w16 r.slot
    ++ w16 (remUj r.energy) ++ w32 r.flags ++ w64 r.first ++ w64 r.number

/-- The Ledger header (08 R242). -/
def ledgerHeader (s : State) : List Byte :=
  padTo 0xFF8 (w64 s.ldg.last ++ w32 (ifverN s * 2 ^ 16) ++ w32 0 ++ w64 s.ldg.cjLast) ++ w64 s.ldg.last

/-! The CXL.mem window (01 R29, R30). -/

/-- The record of a ring entry: the latest generation of its place (02 R58). -/
def ringEntry (s : State) (k : Nat) : Option Record := s.rcd.ring.find? fun r => r.gen % 12288 == k

/-- The byte at an offset of the window; what nothing has written reads 0 (notes/assumptions/6.md). -/
def windowByte (s : State) (a : Nat) : Byte :=
  if a < 0x30000000 then
    match ringEntry s (a / 0x10000) with
    | some r => (recordBytes s r).getD (a % 0x10000) 0
    | none => 0
  else if a < 0x30001000 then (ledgerHeader s).getD (a - 0x30000000) 0
  else if a < 0x30007000 then (slotWindow s ((a - 0x30001000) / 64)).getD (a % 64) 0
  else if a < 0x30007640 then (accountWindow s ((a - 0x30007000) / 64)).getD (a % 64) 0
  else if 0x30100000 ≤ a ∧ a < 0x38100000 then
    match s.ldg.ring.find? fun r => r.number % 16384 == (a - 0x30100000) / 0x2000 with
    | some r => (intervalBytes r).getD (a % 0x2000) 0
    | none => 0
  else if 0x38100000 ≤ a ∧ a < 0x3C100000 then
    match s.ldg.closed.find? fun r => r.number % 1048576 == (a - 0x38100000) / 64 with
    | some r => (closedBytes r).getD (a % 64) 0
    | none => 0
  else 0

/-! The memories (01 R28, R29, R31, R32). -/

/-- Who owns a region of the system SRAM. -/
inductive Owner where
  | firmware | hardware | shared
deriving DecidableEq, Repr

/-- A region: its first address, its size and its owner. -/
structure Region where
  base : Nat
  size : Nat
  owner : Owner
deriving DecidableEq, Repr

/-- The system SRAM (01 R28): firmware, the eight intake queues, record assembly, tables, Ledger, engine-test references, buffers
and the event log ring. -/
def sramMap : List Region :=
  [⟨0, 0x800000, .firmware⟩, ⟨0x800000, 0x80000, .hardware⟩, ⟨0x880000, 0x100000, .shared⟩, ⟨0x980000, 0x40000, .firmware⟩,
   ⟨0x9C0000, 0x40000, .hardware⟩, ⟨0xA00000, 0x200000, .shared⟩, ⟨0xC00000, 0x200000, .firmware⟩,
   ⟨0xE00000, 0x200000, .firmware⟩]

/-- The application cluster may write an address of the system SRAM: hardware-owned regions reject it (01 R28). -/
def clusterMayWrite (a : Nat) : Bool :=
  sramMap.any fun r => decide (r.base ≤ a) && decide (a < r.base + r.size) && r.owner != .hardware

/-- The LPDDR5X below 4 GiB (01 R29): window parts 1 and 2, image staging, logs, Frond staging. -/
def lpddrMap : List (Nat × Nat) :=
  [(0, 0x30000000), (0x30000000, 0x10000000), (0x40000000, 0x40000000), (0x80000000, 0x40000000), (0xC0000000, 0x40000000)]

/-- Where a Frond slot's staging area starts (15 R458). -/
def stagingBase (x : Slot) : Nat := 0xC0000000 + 0x2000000 * x.1

/-- The FM8's flash (01 R31): header, slots A, B and G, accelerator golden and last-known-good images, Frond models, journal,
settings, configuration store, event log. -/
def flashMap : List (Nat × Nat) :=
  [(0, 0x100000), (0x1000000, 0x1000000), (0x2000000, 0x1000000), (0x3000000, 0x1000000), (0x4000000, 0x4000000),
   (0x8000000, 0x4000000), (0xC000000, 0x8000000), (0x14000000, 0x100000), (0x14100000, 0x100000), (0x14200000, 0x100000),
   (0x14300000, 0x3D00000)]

/-- Bytes closed by their CRC-32. -/
def withCrc (n : Nat) (b : List Byte) : List Byte := padTo n b ++ w32 (Config.crc32 (padTo n b)).toNat

/-- Header of the active journal bank (11 R335). -/
def journalHeader (s : State) : List Byte := withCrc 0x3C ([0x46, 0x44, 0x4A, 0x31] ++ w32 s.nv.journalSeq)

/-- A journal entry (11 R335). -/
def journalEntry (e : JEntry) : List Byte :=
  withCrc 0x1C (leBytes 1 e.kind ++ leBytes 1 e.bin ++ leBytes 1 e.formats ++ [0] ++ w32 e.unit ++ w64 e.serial.toNat
    ++ w32 e.runId ++ w32 e.boot ++ leBytes 1 e.position)

/-- An accelerator select record (16 R497). -/
def selectBytes (x : Select) : List Byte :=
  withCrc 0x3C ([0x46, 0x41, 0x53, 0x31] ++ leBytes 1 x.active ++ leBytes 1 (bit x.trial 0) ++ [0, 0] ++ w32 x.seq)

/-- The xSPI port blocks a program or erase at a flash address while WP_N is low: the header and slot G (01 R32). -/
def wpBlocks (s : State) (a : Nat) : Bool :=
  !s.sys.wpN && (decide (a < 0x100000) || (decide (0x3000000 ≤ a) && decide (a < 0x4000000)))

end Sys2Proof.Machine
end

