-- ==== Sys2Proof/WellFormed.lean ====
section
/-! DEFINITION. Which terms stand for something that the FM8 can be given: parameters of a command have the lengths of
their layout (15_command_catalogue.md R443 to R465), a tick brings readings that a converter gives (05 R129), frames
have the entries of their layout (10 R290, R292), a burst names regulators that exist (13 R390), and an identity block is whole
(03 R64). -/

namespace Sys2Proof

/-- The parameter lists of a command have the lengths of its layout (15 R450 to R465). -/
def Cmd.wf : Cmd → Bool
  | .crzSetDep d => d.length == 120
  | .crzSetConfig _ l => l.length == 11
  | .steerSetConfig _ _ _ l => l.length == 15
  | .ledgerSetCoeff _ l => l.length == 800
  | .frondStage _ _ _ _ d => decide (1 ≤ d.length) && decide (d.length ≤ 4000)
  | .coolSetCurve l => l.length == 5
  | .coolSetTable l => l.length == 8
  | .coolSetMap f t _ => f.length == 16 && t.length == 24
  | .coolSetLoop l => l.length == 2
  | .twbSetConfig p a _ => p.length == 11 && a.length == 8
  | .twbTransfer _ _ _ _ wlen _ wdata => wdata.length == wlen.toNat
  | .netSetConfig _ l _ => l.length == 4
  | .fwStage _ _ _ _ d => decide (1 ≤ d.length) && decide (d.length ≤ 4000)
  | .secDebugUnlock _ sig => sig.length == 2420
  | .secSetLifecycle _ sig => sig.length == 2420
  | .secSetKey _ w => w.length == 48
  | _ => true

/-- A tick brings conversions of 16 bits (05 R129), and at most the engines that a Frond has (09 R281). -/
def TickIn.wf (i : TickIn) : Bool := (i.scan.all fun l => l.all fun v => decide (v < 65536)) && decide (i.refs ≤ 131072)

/-- An activity frame carries 48 context entries and the ballast context (10 R290). -/
def Activity.wf (a : Activity) : Bool := a.ctx.length == 49

/-- An event frame carries 1 to 32 entries (10 R292). -/
def EventHdr.wf (h : EventHdr) : Bool := decide (h.more.length ≤ 31)

/-- An identity block carries five bands of 1,024 fmax entries (03 R64). -/
def Identity.wf (i : Identity) : Bool := i.fmax.length == 5120

/-- A regulator of a main bus: rails 0-13 of the accelerator but DIMM_PMIC, which has none (13 R390). -/
def RegRead.wf (g : RegRead) : Bool := decide (g.rail < 14) && g.rail != 8

/-- The command that a row of the catalogue carries. -/
def Instr.cmd? : Instr → Option (Frame × Cmd)
  | .sysCapabilities f => some (f, .sysCapabilities)
  | .sysHeartbeat f => some (f, .sysHeartbeat)
  | .sysStatus f => some (f, .sysStatus)
  | .sysCommitEpoch f epoch => some (f, .sysCommitEpoch epoch)
  | .powerSetCap f cap => some (f, .powerSetCap cap)
  | .powerSetEnvelope f peak avg ramp tol balMax => some (f, .powerSetEnvelope peak avg ramp tol balMax)
  | .powerStatus f => some (f, .powerStatus)
  | .rackPowerOn f => some (f, .rackPowerOn)
  | .rackPowerOff f grace flags => some (f, .rackPowerOff grace flags)
  | .rackHold f => some (f, .rackHold)
  | .rackReset f => some (f, .rackReset)
  | .rackJoin f => some (f, .rackJoin)
  | .rackDetach f => some (f, .rackDetach)
  | .trayPowerOn f => some (f, .trayPowerOn)
  | .trayPowerOff f grace flags => some (f, .trayPowerOff grace flags)
  | .trayFaultClear f => some (f, .trayFaultClear)
  | .crzSetDep f dep => some (f, .crzSetDep dep)
  | .crzSetConfig f seqCfg stepwin => some (f, .crzSetConfig seqCfg stepwin)
  | .crzClearFault f ch => some (f, .crzClearFault ch)
  | .crzStatus f => some (f, .crzStatus)
  | .partitionPowerOn f acc => some (f, .partitionPowerOn acc)
  | .partitionPowerOff f acc mode => some (f, .partitionPowerOff acc mode)
  | .partitionReset f acc flags => some (f, .partitionReset acc 0 flags)
  | .partitionResetForce f acc flags => some (f, .partitionReset acc 1 flags)
  | .partitionResetAbort f acc flags => some (f, .partitionReset acc 2 flags)
  | .partitionPark f acc => some (f, .partitionPark acc)
  | .partitionUnpark f acc => some (f, .partitionUnpark acc)
  | .supSetWindow f rail win trayDiv => some (f, .supSetWindow rail win trayDiv)
  | .supSetFastWindow f k fwc => some (f, .supSetFastWindow k fwc)
  | .supMargin f rail steps => some (f, .supMargin rail steps)
  | .supStatus f => some (f, .supStatus)
  | .steerSetMode f ctrl => some (f, .steerSetMode ctrl)
  | .steerSetPhasePref f acc pref => some (f, .steerSetPhasePref acc pref)
  | .steerSetParkOrder f order => some (f, .steerSetParkOrder order)
  | .steerSetGroup f group => some (f, .steerSetGroup group)
  | .steerSetConfig f cfg cfg2 thermCeil leak => some (f, .steerSetConfig cfg cfg2 thermCeil leak)
  | .steerStatus f => some (f, .steerStatus)
  | .ledgerBindJob f slot flags job => some (f, .ledgerBindJob slot flags job)
  | .ledgerUnbindJob f slot => some (f, .ledgerUnbindJob slot)
  | .ledgerSetCoeff f bin coef => some (f, .ledgerSetCoeff bin coef)
  | .ledgerSetConfig f cfg => some (f, .ledgerSetConfig cfg)
  | .ledgerStatus f => some (f, .ledgerStatus)
  | .frondStage f slot flags offset total data => some (f, .frondStage slot flags offset total data)
  | .frondLoad f slot source flags => some (f, .frondLoad slot source flags)
  | .frondUnload f slot flags => some (f, .frondUnload slot flags)
  | .frondRun f slot flags => some (f, .frondRun slot flags)
  | .frondSetSched f sched => some (f, .frondSetSched sched)
  | .frondStatus f => some (f, .frondStatus)
  | .srsSetConfig f cfg eq => some (f, .srsSetConfig cfg eq)
  | .srsStatus f => some (f, .srsStatus)
  | .bupTest f acc => some (f, .bupTest acc)
  | .bupFloorPlan f acc => some (f, .bupFloorPlan acc)
  | .bupJournalRead f serial first => some (f, .bupJournalRead serial first)
  | .bupJournalForget f serial => some (f, .bupJournalForget serial)
  | .bupSetConfig f cfg => some (f, .bupSetConfig cfg)
  | .bupStatus f => some (f, .bupStatus)
  | .coolSetConfig f cfg cfg2 => some (f, .coolSetConfig cfg cfg2)
  | .coolSetCurve f curve => some (f, .coolSetCurve curve)
  | .coolSetTable f table => some (f, .coolSetTable table)
  | .coolSetMap f fanMap thmMap leakUsed => some (f, .coolSetMap fanMap thmMap leakUsed)
  | .coolSetLoop f loop => some (f, .coolSetLoop loop)
  | .coolSetMode f mode => some (f, .coolSetMode mode)
  | .coolClearFault f pumps => some (f, .coolClearFault pumps)
  | .coolClearLeak f zone => some (f, .coolClearLeak zone)
  | .coolStatus f => some (f, .coolStatus)
  | .twbSetConfig f port avs tgt => some (f, .twbSetConfig port avs tgt)
  | .twbTransfer f port addr proto code wlen rlen wdata _ => some (f, .twbTransfer port addr proto code wlen rlen wdata)
  | .twbStatus f => some (f, .twbStatus)
  | .netSetConfig f udp addrs group => some (f, .netSetConfig udp addrs group)
  | .netSubscribe f streams version div => some (f, .netSubscribe streams version div)
  | .fwStage f target flags offset total data => some (f, .fwStage target flags offset total data)
  | .fwVerify f target => some (f, .fwVerify target)
  | .fwActivate f target slot flags => some (f, .fwActivate target slot flags)
  | .fwStatus f => some (f, .fwStatus)
  | .secDebugChallenge f level => some (f, .secDebugChallenge level)
  | .secDebugUnlock f level sig => some (f, .secDebugUnlock level sig)
  | .secDebugLock f => some (f, .secDebugLock)
  | .secSetLifecycle f state sig => some (f, .secSetLifecycle state sig)
  | .secSetKey f key wrapped => some (f, .secSetKey key wrapped)
  | .secStatus f => some (f, .secStatus)
  | _ => none

/-- A command or event whose operands stand for something that exists. -/
def Instr.wf (i : Instr) : Bool :=
  match i with
  | .eventTick t => t.wf
  | .activityFrame _ _ a => a.wf
  | .bootComplete _ h _ _ => h.wf
  | .bootFailed _ h _ => h.wf
  | .trainStatus _ h _ _ => h.wf
  | .testStatus _ h _ _ => h.wf
  | .parkDone _ h _ _ => h.wf
  | .dsLockChange _ h _ _ => h.wf
  | .memEcc _ h _ _ => h.wf
  | .sensorFault _ h _ => h.wf
  | .identityRead _ (some d) => d.wf
  | .mainBusBurst _ regs => regs.all RegRead.wf
  | i => match i.cmd? with
    | some (_, c) => c.wf
    | none => true

end Sys2Proof
end

