-- ==== Sys2Proof/Safety.lean ====
section
/-! DEFINITION. The words in which statements about the FM8 are written: when a command of the catalogue is admitted (14
R414), how it is answered, which events and host events a step raises, and the invariants of the machine. -/

namespace Sys2Proof.Machine

open Sys2Proof

/-- The state in which a submitted command is taken: a mailbox is busy with it (14 R422), and the batch of its tick has left the
merger (02 R41), with the host events of the tick (14 R425). -/
def submitted (f : Frame) (s : State) : State :=
  let s := match boxOf f.src with
    | some m => s.setBox m fun b => { b with busy := true, seq := f.seq }
    | none => s
  showHostEvents (s.modRcd fun r => { r with released := some (s.sys.tick - 2) })

/-- The state in which an admitted command is applied: its counter is consumed and it is kept for the duplicate rule (14
R430, R436). -/
def taken (f : Frame) (c : Cmd) (s : State) : State := keepAccepted (reqOf f c none s) (consume f (submitted f s))

/-- A command passes steps 1 to 9 of 14 R414: the cluster runs and takes it, the frame is well formed and no duplicate, and
version, tag, counter, role, unit, parameters and the state all admit it. Its tick is due and not yet released, and no other item is
due (02 R41): it is applied in the step. -/
structure Admitted (f : Frame) (c : Cmd) (s : State) : Prop where
  running : running s = true
  due : f.stamp + 2 ≤ s.sys.tick
  fresh : ∀ x, s.rcd.released = some x → x < f.stamp
  alone : ∀ w ∈ s.rcd.merger, s.sys.tick < w.stamp + 2
  mctp : f.src = .mctp → f.assembled = true ∧ s.twb.eid ≠ 0
  formed : f.wellFormed = true
  box : ∀ m, boxOf f.src = some m → s.mbx.box[m].busy = false ∧ s.sys.fwRunning = true ∧
    (s.mbx.box[m].result = 0xFF ∨ s.mbx.box[m].seq ≠ f.seq)
  net : boxOf f.src = none → f.device = s.nv.serial ∧ duplicateOf (reqOf f c none s) s = none
  version : f.ifver.toNat = ifverN s ∨ f.ifver.toNat + 1 = ifverN s
  tag : tagOk s (reqOf f c none s) = true
  counter : ctrOk s f = true
  role : mayDo (reqOf f c none s) = true
  unit : present s c = true
  range : paramsOk s c = true
  legal : stateReason s (reqOf f c none s) c = none

/-- The command is answered: its result waits for its effect generation (02 R62, R63). -/
def Answered (f : Frame) (c : Cmd) (res : Res) (t : State) : Prop :=
  ∃ q ∈ t.rcd.replies, q.src = f.src ∧ q.seq = f.seq ∧ q.code = codeOf c ∧ q.result = res

/-- The command is answered with data (14 R415). -/
def AnsweredWith (f : Frame) (c : Cmd) (res : Res) (data : List Byte) (t : State) : Prop :=
  ∃ q ∈ t.rcd.replies, q.src = f.src ∧ q.seq = f.seq ∧ q.code = codeOf c ∧ q.result = res ∧ q.data = data

/-- The command waits for its store write (15 R448). -/
def AwaitsStore (f : Frame) (c : Cmd) (t : State) : Prop :=
  ∃ q, (c, q) ∈ t.rcd.storeQ ∧ q.src = f.src ∧ q.seq = f.seq ∧ q.code = codeOf c

/-- CRZ_RACK after rack.power_on or rack.power_off: armed, and on the leader SEQSYNC low for the pulse (04 R121, R126). -/
def armedRack (s : State) (r : RackState) : RackState :=
  if isLeader s then { r with armed := true, driving := true, line := false, pulse := some (s.sys.tick + 40) }
  else { r with armed := true }

/-- `s` with the traces that any command leaves, as `t` shows them: the record and source table, the mailboxes, counters and
recent commands, and the heartbeat. A command that ends in `bookkept s t` has no other effect. -/
def bookkept (s t : State) : State :=
  { s with
    rcd := t.rcd, mbx := { s.mbx with box := t.mbx.box, evtDue := t.mbx.evtDue, evtShown := t.mbx.evtShown }, nv := { s.nv with floor := t.nv.floor },
    net := { s.net with ctr := t.net.ctr, recentFmp := t.net.recentFmp, recentMctp := t.net.recentMctp,
                        rackSet := t.net.rackSet },
    cool := { s.cool with hbTick := t.cool.hbTick, hbLost := t.cool.hbLost } }

/-- An event stamped with the tick of a step waits in the merger (02 R39). -/
def Raised (t : State) (cls unit obj code detail : Nat) : Prop :=
  ∃ w ∈ t.rcd.merger, w.item = .ev { stamp := t.sys.tick, cls := cls, unit := unit, object := obj, code := code,
                                     detail := detail }

/-- A host event is due with the tick of a step (14 R425). -/
def HostDue (t : State) (b : Nat) : Prop := (b, t.sys.tick) ∈ t.mbx.evtDue

/-- The intake takes a frame of a type whose contents require `len` blocks (10 R285 to R288, R294, R304): the link trains or is up, the frame is
whole with its type, length, CRCs and a known version, and the queue has room, with its PAD record where the end of the buffer is
near. -/
def goodFrame (s : State) (n : Acc) (h : FrameHdr) (ftype len : Nat) (body : List Byte) : Bool :=
  let l := s.srs.link[n]
  let pad := if 65536 < l.w % 65536 + recSize len then 65536 - l.w % 65536 else 0
  (l.state == 1 || l.state == 2) && !frameBroken h body && h.ftype.toNat == ftype && h.len.toNat == len && verOk s h.ver &&
    decide (fillOf l + pad + recSize len ≤ 65536)

/-- A frame taken in the step from `s` to `t` is a record of the intake queue (10 R300, R304). -/
def Published (n : Acc) (h : FrameHdr) (ftype len : Nat) (s t : State) : Prop :=
  ∃ r ∈ t.srs.link[n].queue, r.ftype = ftype ∧ r.len = len ∧ r.fseq = h.fseq ∧ r.ver = h.ver ∧ r.stamp = s.sys.tick

/-- An event frame is good, with its first entry and those behind it, 32 at most (10 R288, R292). -/
def goodEvents (s : State) (n : Acc) (h : EventHdr) (e : EventEntry) : Bool :=
  goodFrame s n h.hdr 2 (3 + 2 * h.more.length) (eventBody (e :: h.more)) && decide (h.more.length ≤ 31)

/-- `s` with what taking one event frame on a link leaves, as `t` shows it: its intake, the record, the words sent, those that waited
on any link among them, and the free values drawn. -/
def intaken (n : Acc) (s t : State) : State :=
  { s with
    srs := { s.srs with link := Vector.ofFn fun (m : Acc) =>
      if m = n then t.srs.link[n] else { s.srs.link[m] with waiting := t.srs.link[m].waiting } },
    rcd := t.rcd, out := t.out, free := t.free }

/-- A known-answer run is done with every result compared and none missing (11 R330). -/
def runComplete (s : State) (n : Acc) (r : TestRun) : Bool := r.done && r.waiting.isEmpty && (missingEngines s n r).isEmpty

/-- The step from `s` to `t` merges a run (11 R332, R338): the run is over, and TEST_DONE counts its new failures. -/
def RunMerged (n : Acc) (r : TestRun) (s t : State) : Prop :=
  t.bup.acc[n].run = none ∧ t.bup.acc[n].merged = true ∧ t.bup.acc[n].mergedRun = r.runId ∧ t.bup.acc[n].stage = 5 ∧
    t.bup.acc[n].newFail = (r.failed.filter fun p => !s.bup.acc[n].standing.engine.getLsbD p.1.1).length ∧
    t.crz = s.crz ∧ Raised t 7 n.1 0xFF 0x0B03 (min 0xFFFF t.bup.acc[n].newFail)

/-- The step from `s` to `t` enters a rack state (04 R118, R119): SEQSYNC is held low in transit, and transit disarms. -/
def RackEntered (k : Fin 16) (s t : State) : Prop :=
  t.rack.state = k ∧ t.rack.stateTick = s.sys.tick ∧ t.rack.driving = (transit k && !s.rack.detached) ∧
    (transit k = true → t.rack.armed = false)

/-- The step from `s` to `t` enters HOLD with the power state it had, and tells the host (04 R122). -/
def HoldEntered (s t : State) : Prop :=
  t.rack.state = 15 ∧ t.rack.heldP = some (pstate s) ∧ t.rack.driving = false ∧ t.rack.armed = false ∧ HostDue t 15

/-- `s` with what entering a rack state or HOLD leaves, as `t` shows it: everything but the registers of the tray that firmware and
the rest of the part own. -/
def rackMoved (s t : State) : State :=
  { t with sys := s.sys, nv := s.nv, link := s.link, saf := s.saf, frd := s.frd, pending := s.pending }

/-- The step from `s` to `t` confirms a fault on a rail (04 R103, R104): it is recorded with its code and a detail, the host is told,
the rail's enable goes, and the channel of the rail, and of every enabled dependant, stops with FAULT. -/
def RailFaulted (r : Rail) (code detail : Nat) (s t : State) : Prop :=
  Raised t 2 (chanOf r).1 r.1 (0x200 + code) (detail % 65536) ∧ HostDue t 6 ∧ t.crz.rail[r].en = false ∧
    t.crz.chan[chanOf r].fault = true ∧ t.crz.chan[chanOf r].dir = 3 ∧
    ∀ q : Rail, (dependants s r).testBit q.1 = true → s.crz.rail[q].en = true → t.crz.chan[chanOf q].fault = true

/-- The step from `s` to `t` is an emergency shutdown of an accelerator (04 R106): recorded in class 1 with its object, the core
rails off, the channel stopped with FAULT and on its way to S3 or below. -/
def EmergencyStopped (n : Acc) (code obj : Nat) (s t : State) : Prop :=
  Raised t 1 n.1 obj (0x200 + code) (chState s n % 65536) ∧ HostDue t 6 ∧ t.crz.rail[coreRail n 0].en = false ∧
    t.crz.rail[coreRail n 1].en = false ∧ t.crz.chan[accChan n].fault = true ∧ t.crz.chan[accChan n].emergency = true ∧
    t.crz.chan[accChan n].target ≤ 3 ∧ t.acc[n].rst = true

/-- The shared line TRAYFLT_N takes the tray down at once (04 R114): every enable but NET's, every accelerator channel in S0, the tray
channel no higher than T1. -/
def TrayDown (s t : State) : Prop :=
  Raised t 1 8 0xFF 0x20B (s.crz.chan[trayChan].state % 65536) ∧ t.rack.offLatch = true ∧
    (∀ r : Rail, r.1 ≠ 116 → t.crz.rail[r].en = false) ∧ t.crz.rail[(116 : Rail)].en = s.crz.rail[(116 : Rail)].en ∧
    (∀ n : Acc, chState t n = 0 ∧ t.crz.chan[accChan n].target = 0 ∧ t.acc[n].efuseOn = false ∧ t.acc[n].rst = true) ∧
    t.crz.chan[trayChan].state ≤ 1

/-- An SPDM request on a path reaches the responder: MCTP needs an endpoint ID (13 R409), the mailbox a link (18 R541). -/
def spdmReady (p : SpdmPath) (s : State) : Bool :=
  running s && (match p with | .mctp => s.twb.eid != 0 | .doe => s.link.rate != 0)

/-- The step from `s` to `t` answers an SPDM request, which joins the transcript with the answer; nothing else changes (16 R477). -/
def SpdmAnswered (p : SpdmPath) (req body : List Byte) (s t : State) : Prop :=
  t.out = .answer body :: s.out ∧
    t.sec.spdm[pathIx p].transcript = s.sec.spdm[pathIx p].transcript ++ req ++ body ∧
    t = { s with out := t.out, free := t.free, sec := { s.sec with
      spdm := s.sec.spdm.set (pathIx p) t.sec.spdm[pathIx p] } }

/-- No flash write is under way (16 R494, R495, R501). -/
def noFlashWrite (s : State) : Bool :=
  s.sec.activate.isNone && s.sec.goldenWrite.isNone && accList.all fun n => s.sec.acc[n].write.isNone || !s.sec.acc[n].writing

/-- A reset from `s` to `t` keeps what fuses and flash hold as `v`: only the images that a write under way was changing may differ
(16 R494, R495, R501). -/
def FlashKept (s t : State) (v : NvState) : Prop :=
  t.nv = { v with slot := t.nv.slot, golden := t.nv.golden, acc := t.nv.acc } ∧ (noFlashWrite s = true → t.nv = v)

/-- What every step of the FM8 keeps: both memories in canonical form (notes/assumptions/6.md), VID_PWM within its limits (18 R532),
GEN_DIV in its range (14 R419). -/
structure Invariant (s : State) : Prop where
  memory : cellsWf s.mbx.mem = true
  config : cellsWf s.link.config = true
  duty : 96 ≤ s.sys.vidDuty ∧ s.sys.vidDuty ≤ 224
  generation : s.mbx.genDiv ≤ 1000

end Sys2Proof.Machine
end

