-- ==== Sys2Proof/Certificates/Slice0/Obligations.lean ====
section
/-! DEFINITION. The statements about the FM8 (OBLIGATIONS.json), from the numbered rules of the manual. A statement about a
command of the catalogue speaks of an admitted one (`Admitted`, Safety.lean): it says what the command's effect is, that
nothing else of the state changes (`bookkept`), and how it is answered. -/

open Sys2Proof Sys2Proof.Machine

/-! The queue of waiting commands. -/

/-- A step takes the command at the front of the queue and applies it to the state with the rest of the queue; on an empty
queue the FM8 stays as it is (a design choice: notes/assumptions/12.md). -/
def Obligations.StepRunsFrontCommand : Prop :=
  ∀ (c : Instr) (rest : List Instr) (s : State),
    step { s with pending := c :: rest } = exec c { s with pending := rest } ∧
      (s.pending = [] → step s = .next s)

/-! Commands of the catalogue as bytes and as judged (14 R414, 15 R443). -/

/-- Every well-formed command is read back from its code and its parameter bytes, whatever its parameters (15 R443 to
R465). -/
def Obligations.ParametersReadBackTheCommand : Prop :=
  ∀ c : Cmd, c.wf = true → parseCmd (codeOf c) (paramsOf c) = some c

/-- The checks of 14 R414 in their order, for a command on FMP or MCTP that the running cluster takes and that is alone due: each is
reached only when the ones before it pass, and a command it rejects has no effect beyond its traces (an autonomous table refused by the
lifecycle also sets LOCK_VIOL, 12 R380, and a load refused by the state its REJECT, 09 R266: the model's reading,
notes/assumptions/56.md). A command that fails the tag or the counter consumes no counter. -/
def Obligations.RejectedCommandAnswersFirstFailedStep : Prop :=
  ∀ (i : Instr) (f : Frame) (c : Cmd) (s : State), i.cmd? = some (f, c) → boxOf f.src = none → running s = true →
    f.wellFormed = true → f.device = s.nv.serial → duplicateOf (reqOf f c none s) s = none →
    (f.src = .mctp → f.assembled = true ∧ s.twb.eid ≠ 0) → f.stamp + 2 ≤ s.sys.tick →
    (∀ x, s.rcd.released = some x → x < f.stamp) → (∀ w ∈ s.rcd.merger, s.sys.tick < w.stamp + 2) →
    let r := reqOf f c none s
    let version := f.ifver.toNat = ifverN s ∨ f.ifver.toNat + 1 = ifverN s
    (¬version → ∃ t, exec i s = .next t ∧ t = bookkept s t ∧ t.net.ctr = s.net.ctr ∧ Answered f c .version t) ∧
    (version → tagOk s r = false →
      ∃ t, exec i s = .next t ∧ t = bookkept s t ∧ t.net.ctr = s.net.ctr ∧ Answered f c .authFail t) ∧
    (version → tagOk s r = true → ctrOk s f = false →
      ∃ t, exec i s = .next t ∧ t = bookkept s t ∧ t.net.ctr = s.net.ctr ∧ Answered f c .replay t) ∧
    (version → tagOk s r = true → ctrOk s f = true → mayDo r = false →
      ∃ t, exec i s = .next t ∧ t = bookkept s t ∧ Answered f c .denied t) ∧
    (version → tagOk s r = true → ctrOk s f = true → mayDo r = true → present s c = false →
      ∃ t, exec i s = .next t ∧ t = bookkept s t ∧ Answered f c .unsupported t) ∧
    (version → tagOk s r = true → ctrOk s f = true → mayDo r = true → present s c = true → paramsOk s c = false →
      ∃ t, exec i s = .next t ∧ t = bookkept s t ∧ Answered f c .badParam t) ∧
    (version → tagOk s r = true → ctrOk s f = true → mayDo r = true → present s c = true → paramsOk s c = true →
      ∀ x, stateReason s r c = some x →
        ∃ t, exec i s = .next t ∧
          t = { bookkept s t with sys := { s.sys with lockViol := s.sys.lockViol || x == 0x0C06 }, frd := (loadDenied c s).frd } ∧
          Answered f c .stateConflict t)

/-- What every admitted command leaves, whichever it is: its counter is the last one of its source and key, the floor stands
above it (14 R436), and the heartbeat counts it, but for one whose own signature or tag fails, AUTH_FAIL (12 R368). -/
def Obligations.AdmittedCommandConsumesItsCounter : Prop :=
  ∀ (i : Instr) (f : Frame) (c : Cmd) (s : State), i.cmd? = some (f, c) → Admitted f c s →
    ∃ t, exec i s = .next t ∧
      (¬Answered f c .authFail t → t.cool.hbTick = max s.cool.hbTick f.stamp ∧ t.cool.hbLost = false) ∧
      (f.key ≠ 0 → t.net.ctr = s.net.ctr.set (ctrIx f) f.ctr ∧ f.ctr.toNat ≤ t.nv.floor[ctrIx f].toNat) ∧
      (f.key = 0 → t.net.ctr = s.net.ctr ∧ t.nv.floor = s.nv.floor)

/-- A Read command (15 R445) and sys.heartbeat change nothing but the traces of a command, and the Read answers with its
data: rows SYS_CAPABILITIES, SYS_STATUS, POWER_STATUS, CRZ_STATUS, SUP_STATUS, STEER_STATUS, LEDGER_STATUS, FROND_STATUS,
SRS_STATUS, BUP_FLOOR_PLAN, BUP_JOURNAL_READ, BUP_STATUS, COOL_STATUS, TWB_STATUS, FW_STATUS, SEC_STATUS and
SYS_HEARTBEAT. -/
def Obligations.ReadCommandsAnswerWithData : Prop :=
  (∀ (i : Instr) (f : Frame) (c : Cmd) (s : State), i.cmd? = some (f, c) → isRead (codeOf c) = true → Admitted f c s →
    ∃ t, exec i s = .next t ∧ t = bookkept s t ∧ AnsweredWith f c .ok (readData (taken f c s) c) t) ∧
  (∀ (f : Frame) (s : State), Admitted f .sysHeartbeat s →
    ∃ t, exec (.sysHeartbeat f) s = .next t ∧ t = bookkept s t ∧ Answered f .sysHeartbeat .ok t)

/-! Envelope, rack, tray, Crozier and partition commands (15 R450 to R456). -/

/-- power.set_cap and power.set_envelope stage a set (07 R218); the cap is answered CAP_UNREACHABLE below what overhead,
headroom and parking leave (06 R188), the envelope waits for its store write (15 R448). -/
def Obligations.EnvelopeCommandsStageASet : Prop :=
  (∀ (f : Frame) (cap : Word) (s : State), Admitted f (.powerSetCap cap) s →
    ∃ t, exec (.powerSetCap f cap) s = .next t ∧
      t = { bookkept s t with brm := { s.brm with staged := some { envelopeNow s with cap := cap } } } ∧
      Answered f (.powerSetCap cap)
        (if ((10 * fld cap 0 16 : Nat) : Rat) <
            overheadW s + ((10 * fld cap 0 16 : Nat) : Rat) * ((fld s.str.cfg 12 4 : Nat) : Rat) / 100 +
              sumAcc (accList.filter fun n => decide (9 ≤ chState s n)) (parkedW s)
          then .capUnreachable else .ok) t) ∧
  (∀ (f : Frame) (p a r l b : Word) (s : State), Admitted f (.powerSetEnvelope p a r l b) s →
    ∃ t, exec (.powerSetEnvelope f p a r l b) s = .next t ∧
      t = { bookkept s t with brm := { s.brm with
        staged := some { envelopeNow s with peak := p, avg := a, ramp := r, tol := l, balMax := b } } } ∧
      AwaitsStore f (.powerSetEnvelope p a r l b) t)

/-- rack.power_on, rack.power_off and rack.reset on an attached FM8 in the state they ask for: the leader pulls SEQSYNC low for a
pulse, a follower is armed (04 R121, R126). rack.hold keeps the present power state in HOLD (04 R122); rack.detach leaves SEQSYNC
alone (04 R124); rack.join does nothing on an attached FM8 out of HOLD, attaches one that rests where the leader does, and takes one in
HOLD to the leader's resting state (04 R122, R124). The others leave channels, rails and targets as they are. -/
def Obligations.RackCommands : Prop :=
  (∀ (f : Frame) (s : State), Admitted f .rackPowerOn s → s.rack.detached = false → s.rack.state = 1 →
    (isLeader s = true → lineHigh s = true) →
    ∃ t, exec (.rackPowerOn f) s = .next t ∧
      t = { bookkept s t with rack := armedRack s s.rack, out := if isLeader s then .pulse 400 :: s.out else s.out } ∧
      Answered f .rackPowerOn .ok t) ∧
  (∀ (f : Frame) (grace flags : Byte) (s : State), Admitted f (.rackPowerOff grace flags) s → s.rack.detached = false →
    s.rack.state = 8 → (isLeader s = true → lineHigh s = true) →
    ∃ t, exec (.rackPowerOff f grace flags) s = .next t ∧
      t = { bookkept s t with
        rack := armedRack s { s.rack with grace := grace.toNat, immediate := flags.getLsbD 0 },
        out := if isLeader s then .pulse 400 :: s.out else s.out } ∧
      Answered f (.rackPowerOff grace flags) .ok t) ∧
  (∀ (f : Frame) (s : State), Admitted f .rackReset s → s.rack.detached = false → isLeader s = true → resting s = true →
    lineHigh s = true →
    ∃ t, exec (.rackReset f) s = .next t ∧ t = { bookkept s t with
        rack := { s.rack with driving := true, line := false, pulse := some (s.sys.tick + 200) }, out := .pulse 2000 :: s.out } ∧
      Answered f .rackReset .ok t) ∧
  (∀ (f : Frame) (s : State), Admitted f .rackHold s →
    ∃ t, exec (.rackHold f) s = .next t ∧ t.rack.state = 15 ∧ t.crz = s.crz ∧ t.acc = s.acc ∧
      (s.rack.state ≠ 15 → t.rack.heldP = some (pstate s) ∧ HostDue t 15) ∧
      (s.rack.state = 15 → t.rack = s.rack) ∧ t.rack.detached = s.rack.detached ∧ Answered f .rackHold .ok t) ∧
  (∀ (f : Frame) (s : State), Admitted f .rackDetach s →
    ∃ t, exec (.rackDetach f) s = .next t ∧
      t.rack = { s.rack with detached := true, driving := false, armed := false, pulse := none } ∧ t.crz = s.crz ∧ t.acc = s.acc ∧
      Answered f .rackDetach .ok t) ∧
  (∀ (f : Frame) (s : State), Admitted f .rackJoin s → s.rack.strapDetached = false → s.rack.detached = false →
    s.rack.state ≠ 15 →
    ∃ t, exec (.rackJoin f) s = .next t ∧ t = bookkept s t ∧ Answered f .rackJoin .ok t) ∧
  (∀ (f : Frame) (s : State), Admitted f .rackJoin s → s.rack.strapDetached = false →
    (s.rack.detached = true ∨ s.rack.state = 15) → (localState s = 1 ∨ localState s = 8) →
    leaderState s = some (localState s) →
    ∃ t, exec (.rackJoin f) s = .next t ∧ t.rack.state = localState s ∧ t.rack.detached = false ∧ t.crz = s.crz ∧
      t.acc = s.acc ∧ Answered f .rackJoin .ok t) ∧
  (∀ (f : Frame) (k : Fin 16) (s : State), Admitted f .rackJoin s → s.rack.strapDetached = false → s.rack.detached = false →
    s.rack.state = 15 → leaderState s = some k → (k = 1 ∨ k = 8) →
    ∃ t, exec (.rackJoin f) s = .next t ∧ t.rack.state = k ∧ t.rack.detached = false ∧ Answered f .rackJoin .ok t)

/-- On a detached tray tray.power_on enters rack state 2, whose tray target is T2, and tray.power_off the drain of rack state
9 (04 R124, 14 R441); tray.fault_clear, where it is permitted, lets the fault lines and latches go and enters rack state 0
(15 R451). -/
def Obligations.TrayCommands : Prop :=
  (∀ (f : Frame) (s : State), Admitted f .trayPowerOn s → s.rack.detached = true → s.rack.state ≠ 15 →
    convOk s trayChan = true →
    ∃ t, exec (.trayPowerOn f) s = .next t ∧ t.rack.state = 2 ∧ t.rack.detached = true ∧
      t.crz = { s.crz with chan := s.crz.chan.set 8 { s.crz.chan[(8 : Chan)] with target := 2 } } ∧ t.acc = s.acc ∧
      Answered f .trayPowerOn .ok t) ∧
  (∀ (f : Frame) (grace flags : Byte) (s : State), Admitted f (.trayPowerOff grace flags) s → s.rack.detached = true →
    s.rack.state ≠ 15 →
    ∃ t, exec (.trayPowerOff f grace flags) s = .next t ∧ t.rack.state = 9 ∧ t.rack.detached = true ∧
      t.rack.grace = grace.toNat ∧ t.rack.immediate = flags.getLsbD 0 ∧ t.crz = s.crz ∧ t.acc = s.acc ∧
      HostDue t 5 ∧ Answered f (.trayPowerOff grace flags) .ok t) ∧
  (∀ (f : Frame) (s : State), Admitted f .trayFaultClear s → safeRefuses s = none → critRefuses s = false →
    leakRefuses s = false →
    ∃ t, exec (.trayFaultClear f) s = .next t ∧ t.rack.state = 0 ∧ t.rack.trayfltDrive = false ∧
      t.rack.rackfltDrive = false ∧ t.rack.shdn = false ∧ t.rack.offLatch = false ∧ t.saf.safe = false ∧
      t.cool.crit = false ∧ (∀ c : Fin 10, t.cool.leak[c].latch = false) ∧
      (∀ n : Acc, t.crz.chan[accChan n].target = 0) ∧
      t.rack.detached = (s.rack.faultDetached || s.rack.strapDetached) ∧ Answered f .trayFaultClear .ok t)

/-- crz.set_dep replaces the graph at rest, with the read-only fields kept (04 R96, R98), and the spare tray rails, 118 and 119, follow
it (00 R10; the model's reading, notes/assumptions/52.md): where it declares them for the tray's present state or above they stay as
they are, undeclared they are off. Refused elsewhere with REASON 0x0202. crz.set_config sets CRZ_SEQ_CFG and
the step windows in a resting state (04 R113); crz.clear_fault clears FAULT and EFUSE_OPEN of a channel with no fault shutdown
under way (15 R450). -/
def Obligations.CrozierCommands : Prop :=
  (∀ (f : Frame) (dep : List Word) (s : State), Admitted f (.crzSetDep dep) s → atRest s = true →
    ∃ t, exec (.crzSetDep f dep) s = .next t ∧ t.crz.dep = graphOf dep ∧
      (∀ r : Rail, r ≠ 118 → r ≠ 119 → t.crz.rail[r] = s.crz.rail[r]) ∧
      (∀ r : Rail, (r = 118 ∨ r = 119) → declared t r = false → t.crz.rail[r].en = false) ∧
      t = { bookkept s t with
        crz := { s.crz with dep := t.crz.dep, rail := t.crz.rail, chan := s.crz.chan.set 8 t.crz.chan[(8 : Chan)] },
        sup := { s.sup with marginTgt := t.sup.marginTgt } } ∧
      AwaitsStore f (.crzSetDep dep) t) ∧
  (∀ (f : Frame) (dep : List Word) (s : State), Admitted f (.crzSetDep dep) s → atRest s = false →
    ∃ t, exec (.crzSetDep f dep) s = .next t ∧ t = bookkept s t ∧ Answered f (.crzSetDep dep) .stateConflict t) ∧
  (∀ (f : Frame) (w : Word) (l : List Word) (s : State), Admitted f (.crzSetConfig w l) s → resting s = true →
    ∃ t, exec (.crzSetConfig f w l) s = .next t ∧
      t = { bookkept s t with crz := { s.crz with seqCfg := w, stepwin := l.map BitVec.toNat } } ∧
      AwaitsStore f (.crzSetConfig w l) t) ∧
  (∀ (f : Frame) (b : Byte) (c : Chan) (s : State), Admitted f (.crzClearFault b) s → b.toNat = c.1 →
    s.crz.chan[c].dir ≠ 3 →
    ∃ t, exec (.crzClearFault f b) s = .next t ∧
      t = { bookkept s t with crz := { s.crz with
        chan := s.crz.chan.set c { s.crz.chan[c] with fault := false, efuseOpen := false } } } ∧
      Answered f (.crzClearFault b) .ok t)

/-- partition.power_on takes a channel that may be raised to target S12 (15 R453); on one already in S12 it does nothing.
partition.power_off and partition.reset first drain an accelerator whose XNET is up: XNET_DRAIN is asserted and the command
stays in flight (03 R74). With a ROUTE_BUSY decision pending, partition.reset MODE 1 carries the action out without a drain: a
reset takes the channel to target S12 with ACC_RST_N asserted when it was in S9 or above, and a power-off lowers the target;
MODE 2 deasserts XNET_DRAIN and drops the command (03 R75, 15 R454). -/
def Obligations.PartitionCommands : Prop :=
  (∀ (f : Frame) (b : Byte) (n : Acc) (s : State), Admitted f (.partitionPowerOn b) s → b.toNat = n.1 →
    s.acc[n].decision = none →
    (s.crz.chan[accChan n].state = 12 → s.crz.chan[accChan n].target = 12 →
      ∃ t, exec (.partitionPowerOn f b) s = .next t ∧ t = bookkept s t ∧ Answered f (.partitionPowerOn b) .ok t) ∧
    (¬(s.crz.chan[accChan n].state = 12 ∧ s.crz.chan[accChan n].target = 12) → s.crz.chan[accChan n].fault = false →
      s.bup.acc[n].failed = false → raiseReason s n = 0 → s.twb.avs[n].failed = false →
      ∃ t, exec (.partitionPowerOn f b) s = .next t ∧
        t.crz = { s.crz with chan := s.crz.chan.set (accChan n) { s.crz.chan[accChan n] with
          setOff := false, target := 12 } } ∧
        t.acc[n].testWanted = (s.acc[n].testWanted || decide (s.crz.chan[accChan n].target ≠ 12)) ∧
        t.bup.acc[n] = { s.bup.acc[n] with bootFailed := false, solo := true } ∧
        Answered f (.partitionPowerOn b) .ok t)) ∧
  (∀ (f : Frame) (b m : Byte) (n : Acc) (s : State), Admitted f (.partitionPowerOff b m) s → b.toNat = n.1 →
    s.acc[n].decision = none → s.acc[n].drain = none →
    (3 ≤ chState s n →
      ∃ t q, exec (.partitionPowerOff f b m) s = .next t ∧
        t = { bookkept s t with acc := s.acc.set n { s.acc[n] with
          xnetDrain := true,
          drain := some { start := s.sys.tick, goal := .powerOff (m == 1), reply := q, idle := false } } } ∧
        q.src = f.src ∧ q.seq = f.seq ∧ q.code = 0x0302) ∧
    (chState s n < 3 →
      ∃ t, exec (.partitionPowerOff f b m) s = .next t ∧
        t = { bookkept s t with crz := { s.crz with chan := s.crz.chan.set (accChan n) { s.crz.chan[accChan n] with
          setOff := true, target := min s.crz.chan[accChan n].target (if m = 1 then 0 else 3) } } } ∧
        Answered f (.partitionPowerOff b m) .ok t)) ∧
  (∀ (f : Frame) (b fl : Byte) (n : Acc) (s : State), Admitted f (.partitionReset b 0 fl) s → b.toNat = n.1 →
    s.acc[n].decision = none → s.acc[n].drain = none → resetReason s n = 0 → 3 ≤ chState s n →
      ∃ t q, exec (.partitionReset f b fl) s = .next t ∧
        t = { bookkept s t with acc := s.acc.set n { s.acc[n] with
          xnetDrain := true,
          drain := some { start := s.sys.tick, goal := .reset (fl.getLsbD 0), reply := q, idle := false } } } ∧
        q.src = f.src ∧ q.seq = f.seq ∧ q.code = 0x0303) ∧
  (∀ (f : Frame) (b fl : Byte) (n : Acc) (g : Bool) (d : Nat) (s : State), Admitted f (.partitionReset b 1 fl) s →
    b.toNat = n.1 → s.acc[n].decision = some (.reset g, d) →
    (resetReason s n = 0 →
      ∃ t, exec (.partitionResetForce f b fl) s = .next t ∧ t.acc[n].decision = none ∧
        t.acc[n].testWanted = fl.getLsbD 0 ∧ t.crz.chan[accChan n].target = 12 ∧
        (9 ≤ chState s n → rackHolds s = false → chState t n = 8 ∧ t.acc[n].rst = true ∧ t.acc[n].forceCrz = true) ∧
        (9 ≤ chState s n → rackHolds s = true → chState t n = chState s n ∧ t.crz.chan[accChan n].resetDue = true) ∧
        (chState s n < 9 → chState t n = chState s n) ∧ Answered f (.partitionReset b 1 fl) .ok t) ∧
    (resetReason s n ≠ 0 →
      ∃ t, exec (.partitionResetForce f b fl) s = .next t ∧ t = bookkept s t ∧
        Answered f (.partitionReset b 1 fl) .stateConflict t)) ∧
  (∀ (f : Frame) (b fl : Byte) (n : Acc) (g : Bool) (d : Nat) (s : State), Admitted f (.partitionReset b 1 fl) s →
    b.toNat = n.1 → s.acc[n].decision = some (.powerOff g, d) →
    ∃ t, exec (.partitionResetForce f b fl) s = .next t ∧ t.acc[n].decision = none ∧
      t.crz.chan[accChan n].target = min s.crz.chan[accChan n].target (if g then 0 else 3) ∧
      t.crz.chan[accChan n].setOff = true ∧ Answered f (.partitionReset b 1 fl) .ok t) ∧
  (∀ (f : Frame) (b fl : Byte) (n : Acc) (s : State), Admitted f (.partitionReset b 2 fl) s → b.toNat = n.1 →
    s.acc[n].decision ≠ none →
    ∃ t, exec (.partitionResetAbort f b fl) s = .next t ∧
      t = { bookkept s t with acc := s.acc.set n { s.acc[n] with xnetDrain := false, decision := none } } ∧
      Answered f (.partitionReset b 2 fl) .ok t)


/-- partition.park marks an accelerator parked by the host, and one in S12 that is not parked enters the park sequence with
event 0x0603 and the PARK host event (06 R185, R186; 15 R456); partition.unpark takes the mark back, answers CLIPPED with the
reason while the cap holds the accelerator parked, and otherwise starts the unpark sequence of a parked one. -/
def Obligations.ParkAndUnparkCommands : Prop :=
  (∀ (f : Frame) (b : Byte) (n : Acc) (s : State), Admitted f (.partitionPark b) s → b.toNat = n.1 →
    s.acc[n].decision = none → s.crz.chan[accChan n].fault = false →
    ∃ t, exec (.partitionPark f b) s = .next t ∧ t.str.acc[n].hostPark = true ∧ t.crz = s.crz ∧
      Answered f (.partitionPark b) .ok t ∧
      (n ∉ s.str.capParked → s.str.acc[n].park ≠ .parked → chState s n = 12 →
        t.str.acc[n].park = .parked ∧ t.str.acc[n].parkReason = 1 ∧ Raised t 7 n.1 0xFF 0x0603 1 ∧ HostDue t 2) ∧
      (n ∉ s.str.capParked → s.str.acc[n].park ≠ .parked → chState s n ≠ 12 →
        t.str.acc[n] = { s.str.acc[n] with hostPark := true })) ∧
  (∀ (f : Frame) (b : Byte) (n : Acc) (s : State), Admitted f (.partitionUnpark b) s → b.toNat = n.1 →
    s.acc[n].decision = none → s.twb.avs[n].failed = false →
    ∃ t, exec (.partitionUnpark f b) s = .next t ∧ t.str.acc[n].hostPark = false ∧ t.crz = s.crz ∧
      (n ∈ s.str.capParked → t.str.acc[n] = { s.str.acc[n] with hostPark := false, parkReason := 2 } ∧
        AnsweredWith f (.partitionUnpark b) .clipped [1] t) ∧
      (n ∉ s.str.capParked → s.str.acc[n].park = .parked →
        t.str.acc[n].park = .unparking ∧ HostDue t 2 ∧ Answered f (.partitionUnpark b) .ok t) ∧
      (n ∉ s.str.capParked → s.str.acc[n].park ≠ .parked →
        t.str.acc[n] = { s.str.acc[n] with hostPark := false } ∧ Answered f (.partitionUnpark b) .ok t))

/-! Supervision, steering, Ledger, Frond, Sorus and bring-up commands (15 R457 to R462). -/

/-- sup.set_window and sup.set_fast_window join the staged set (05 R139); sup.margin sets the target of the walk where
nothing refuses it (05 R149). -/
def Obligations.SupervisionCommands : Prop :=
  (∀ (f : Frame) (b : Byte) (r : Rail) (w d : Word) (s : State), Admitted f (.supSetWindow b w d) s → b.toNat = r.1 →
    (118 ≤ r.1 → declared s r = true) →
    (r.1 < 112 → r.1 % 14 ≠ 11 → r.1 % 14 ≠ 12 → marginFits w s.sup.marginNow[r] = true) →
    ∃ t, exec (.supSetWindow f b w d) s = .next t ∧
      t = { bookkept s t with sup := { s.sup with staged := s.sup.staged ++ [.window r w d] } } ∧
      AwaitsStore f (.supSetWindow b w d) t) ∧
  (∀ (f : Frame) (b : Byte) (k : Fin 16) (w : Word) (s : State), Admitted f (.supSetFastWindow b w) s → b.toNat = k.1 →
    ∃ t, exec (.supSetFastWindow f b w) s = .next t ∧
      t = { bookkept s t with sup := { s.sup with staged := s.sup.staged ++ [.fast k w] } } ∧
      AwaitsStore f (.supSetFastWindow b w) t) ∧
  (∀ (f : Frame) (b m : Byte) (r : Rail) (n : Acc) (s : State), Admitted f (.supMargin b m) s → b.toNat = r.1 →
    accOfRail r = some n → marginReason s r n m.toInt = 0 →
    ∃ t, exec (.supMargin f b m) s = .next t ∧
      t = { bookkept s t with sup := { s.sup with marginTgt := s.sup.marginTgt.set r m.toInt } } ∧
      Answered f (.supMargin b m) .ok t)

/-- The steering commands write their registers (06 R193): the mode is refused only where it asks for steering in rack states
5 to 7 (06 R190); a change of groups sets the shifts of the accelerators of every group that loses or gains one to 0 (15
R457). -/
def Obligations.SteeringCommands : Prop :=
  (∀ (f : Frame) (w : Word) (s : State), Admitted f (.steerSetMode w) s →
    ¬(5 ≤ s.rack.state.1 ∧ s.rack.state.1 ≤ 7 ∧ fldB w 0 = false) →
    ∃ t, exec (.steerSetMode f w) s = .next t ∧ t = { bookkept s t with str := { s.str with ctrl := w } } ∧
      Answered f (.steerSetMode w) .ok t) ∧
  (∀ (f : Frame) (b : Byte) (n : Acc) (p : BitVec 64) (s : State), Admitted f (.steerSetPhasePref b p) s → b.toNat = n.1 →
    ∃ t, exec (.steerSetPhasePref f b p) s = .next t ∧
      t = { bookkept s t with str := { s.str with acc := s.str.acc.set n { s.str.acc[n] with pref := p } } } ∧
      Answered f (.steerSetPhasePref b p) .ok t) ∧
  (∀ (f : Frame) (w : Word) (s : State), Admitted f (.steerSetParkOrder w) s →
    ∃ t, exec (.steerSetParkOrder f w) s = .next t ∧ t = { bookkept s t with str := { s.str with parkOrder := w } } ∧
      Answered f (.steerSetParkOrder w) .ok t) ∧
  (∀ (f : Frame) (w : Word) (s : State), Admitted f (.steerSetGroup w) s →
    ∃ t, exec (.steerSetGroup f w) s = .next t ∧ t = { bookkept s t with str := t.str } ∧ t.str.group = w ∧
      (∀ n : Acc, t.str.acc[n] = { s.str.acc[n] with shift :=
        if (∃ m : Acc, fld s.str.group (4 * m.1) 3 ≠ fld w (4 * m.1) 3 ∧
            (fld w (4 * n.1) 3 = fld s.str.group (4 * m.1) 3 ∨ fld w (4 * n.1) 3 = fld w (4 * m.1) 3))
        then 0 else s.str.acc[n].shift }) ∧
      Answered f (.steerSetGroup w) .ok t) ∧
  (∀ (f : Frame) (a b c : Word) (l : List Word) (s : State), Admitted f (.steerSetConfig a b c l) s →
    ∃ t, exec (.steerSetConfig f a b c l) s = .next t ∧
      t = { bookkept s t with str := { s.str with cfg := a, cfg2 := b, thermCeil := c, leak := l.map fun w => fld w 0 16 } } ∧
      AwaitsStore f (.steerSetConfig a b c l) t)

/-- ledger.bind_job binds a free slot from the interval of the next step and answers with that interval (08 R237, R238);
ledger.unbind_job closes a bound one (08 R240); coefficients and thresholds apply from the next interval (08 R229, R243). -/
def Obligations.LedgerCommands : Prop :=
  (∀ (f : Frame) (x : BitVec 16) (fl : Byte) (job : BitVec 64) (n : Acc) (c : Fin 48) (s : State),
    Admitted f (.ledgerBindJob x fl job) s → x.toNat = 48 * n.1 + c.1 → slotBound s n c = false →
    s.ldg.slot[n][c].change ≠ some (intervalOf (stepAfter s.sys.tick)) → s.ldg.slot[n][c].closing = false →
    ∃ t, exec (.ledgerBindJob f x fl job) s = .next t ∧ t = { bookkept s t with ldg := t.ldg } ∧
      t.ldg.slot[n][c].job = job ∧ t.ldg.slot[n][c].first = intervalOf (stepAfter s.sys.tick) ∧
      t.ldg.slot[n][c].epochClose = fl.getLsbD 0 ∧ t.ldg.slot[n][c].energy = 0 ∧
      (∀ (m : Acc) (d : Fin 48), (m, d) ≠ (n, c) → t.ldg.slot[m][d] = s.ldg.slot[m][d]) ∧
      t.ldg.acc = s.ldg.acc ∧ Raised t 6 n.1 x.toNat 0x0802 (job.toNat % 65536) ∧
      AnsweredWith f (.ledgerBindJob x fl job) .ok (leBytes 8 (intervalOf (stepAfter s.sys.tick))) t) ∧
  (∀ (f : Frame) (x : BitVec 16) (n : Acc) (c : Fin 48) (s : State), Admitted f (.ledgerUnbindJob x) s →
    x.toNat = 48 * n.1 + c.1 → s.ldg.slot[n][c].job ≠ 0 →
    s.ldg.slot[n][c].change ≠ some (intervalOf (stepAfter s.sys.tick)) → s.ldg.slot[n][c].closing = false →
    ∃ t, exec (.ledgerUnbindJob f x) s = .next t ∧ t.crz = s.crz ∧ t.acc = s.acc ∧
      t.ldg.slot[n][c] = { s.ldg.slot[n][c] with
        closing := true, change := some (intervalOf (stepAfter s.sys.tick)) } ∧
      (∀ (m : Acc) (d : Fin 48), (m, d) ≠ (n, c) → t.ldg.slot[m][d] = s.ldg.slot[m][d]) ∧
      Raised t 6 n.1 x.toNat 0x0803 1 ∧ AnsweredWith f (.ledgerUnbindJob x) .ok (leBytes 8 (intervalOf (stepAfter s.sys.tick))) t) ∧
  (∀ (f : Frame) (x : Byte) (b : Fin 3) (l : List Word) (s : State), Admitted f (.ledgerSetCoeff x l) s → x.toNat = b.1 →
    ∃ t, exec (.ledgerSetCoeff f x l) s = .next t ∧
      t = { bookkept s t with ldg := { s.ldg with nextCoef := s.ldg.nextCoef.set b (some l) } } ∧
      Raised t 5 8 b.1 0x0804 0 ∧ AwaitsStore f (.ledgerSetCoeff x l) t) ∧
  (∀ (f : Frame) (w : Word) (s : State), Admitted f (.ledgerSetConfig w) s →
    ∃ t, exec (.ledgerSetConfig f w) s = .next t ∧
      t = { bookkept s t with ldg := { s.ldg with nextCfg := some w } } ∧ AwaitsStore f (.ledgerSetConfig w) t)

/-- frond.stage adds its chunk to the slot's staging area, a FIRST one to an empty area (15 R459); frond.load seats a
container that passes the load checks in an empty slot, with MODEL_LOADED (09 R266, R267); frond.unload empties a slot that
runs nothing (15 R458); frond.set_sched stages the offsets (09 R281). frond.run with RESET_ONLY resets the state of an
operator slot that runs nothing and answers with the last outputs; a run of an aperiodic model is launched at once, latches
its inputs, and stays in flight; one submitted while a run goes on is queued (15 R458, R461). -/
def Obligations.FrondCommands : Prop :=
  (∀ (f : Frame) (b fl : Byte) (x : Slot) (o l : Word) (d : List Byte) (s : State), Admitted f (.frondStage b fl o l d) s →
    b.toNat = x.1 →
    ∃ t, exec (.frondStage f b fl o l d) s = .next t ∧
      t = { bookkept s t with frd := { s.frd with slot := s.frd.slot.set x { s.frd.slot[x] with
        staged := (if fl.getLsbD 0 then [] else s.frd.slot[x].staged) ++ d, total := l.toNat } } } ∧
      AnsweredWith f (.frondStage b fl o l d) .ok
        (leBytes 4 ((if fl.getLsbD 0 then [] else s.frd.slot[x].staged) ++ d).length) t) ∧
  (∀ (f : Frame) (b fl : Byte) (x : Slot) (s : State), Admitted f (.frondLoad b 0 fl) s → b.toNat = x.1 →
    s.frd.slot[x].total ≠ 0 → s.frd.slot[x].staged.length = s.frd.slot[x].total → s.frd.slot[x].model = none →
    loadReason s x s.frd.slot[x].staged (fl.getLsbD 0) = 0 →
    ∃ t, exec (.frondLoad f b 0 fl) s = .next t ∧ t.frd.slot[x].model = some s.frd.slot[x].staged ∧
      t.frd.slot[x].state = 2 ∧ t.frd.slot[x].leaky = [] ∧ (∀ y : Slot, y ≠ x → t.frd.slot[y] = s.frd.slot[y]) ∧
      (t.frd.slot[x].persist = if fl.getLsbD 1 then some s.frd.slot[x].staged else s.frd.slot[x].persist) ∧
      Raised t 7 9 x.1 0x0901 ((frcHeader s.frd.slot[x].staged).version % 65536) ∧ HostDue t 11 ∧
      Answered f (.frondLoad b 0 fl) .ok t) ∧
  (∀ (f : Frame) (b fl : Byte) (x : Slot) (s : State), Admitted f (.frondUnload b fl) s → b.toNat = x.1 →
    s.frd.slot[x].model ≠ none → s.frd.slot[x].run = none →
    ∃ t, exec (.frondUnload f b fl) s = .next t ∧ t.frd.slot[x].model = none ∧ t.frd.slot[x].next = none ∧
      t.frd.slot[x].state = 0 ∧ (∀ y : Slot, y ≠ x → t.frd.slot[y] = s.frd.slot[y]) ∧
      (t.nv.frdFlash = if fl.getLsbD 0 then s.nv.frdFlash.set x none else s.nv.frdFlash) ∧
      Raised t 7 9 x.1 0x0903 1 ∧ HostDue t 11 ∧ Answered f (.frondUnload b fl) .ok t) ∧
  (∀ (f : Frame) (w : Word) (s : State), Admitted f (.frondSetSched w) s →
    ∃ t, exec (.frondSetSched f w) s = .next t ∧
      t = { bookkept s t with frd := { s.frd with
        nextOffset := Vector.ofFn fun (i : Slot) => some (fld w (8 * i.1) 8) } } ∧
      AwaitsStore f (.frondSetSched w) t) ∧
  (∀ (f : Frame) (b fl : Byte) (x : Slot) (m : List Byte) (s : State), Admitted f (.frondRun b fl) s → b.toNat = x.1 →
    s.frd.slot[x].model = some m →
    (fl.getLsbD 1 = true → s.frd.slot[x].run = none →
      ∃ t, exec (.frondRun f b fl) s = .next t ∧ t.frd.slot[x] = { s.frd.slot[x] with leaky := [], captures := [] } ∧
        Raised t 7 9 x.1 0x0906 1 ∧ AnsweredWith f (.frondRun b fl) .ok (outputBlock s.frd.slot[x]) t) ∧
    (fl.getLsbD 1 = false → nextPeriod s.frd.slot[x] = 0 → s.frd.slot[x].run = none → s.frd.slot[x].next = none →
      ∃ t r q, exec (.frondRun f b fl) s = .next t ∧ t.frd.slot[x].run = some r ∧ r.launch = s.sys.tick ∧
        r.reply = some q ∧ q.src = f.src ∧ q.seq = f.seq ∧ t.frd.slot[x].model = some m ∧
        (∀ y : Slot, y ≠ x → t.frd.slot[y] = s.frd.slot[y])) ∧
    (fl.getLsbD 1 = false → nextPeriod s.frd.slot[x] = 0 → s.frd.slot[x].run ≠ none →
      ∃ t q, exec (.frondRun f b fl) s = .next t ∧
        t = { bookkept s t with frd := { s.frd with slot := s.frd.slot.set x { s.frd.slot[x] with
          queue := s.frd.slot[x].queue ++ [(q, fl.getLsbD 0)] } } } ∧ q.src = f.src ∧ q.seq = f.seq))


/-- srs.set_config stages SRS_CFG and SRS_EQ (10 R310), bup.set_config sets BUP_CFG (11 R344); bup.journal_forget appends the
KIND 9 entry of a serial that no channel has fitted, while the journal has room (11 R337); bup.test takes an idle accelerator in
S12 to S11 with a run of its own and answers with the new RUN_ID (11 R341). -/
def Obligations.SorusAndBringupCommands : Prop :=
  (∀ (f : Frame) (a e : Word) (s : State), Admitted f (.srsSetConfig a e) s →
    ∃ t, exec (.srsSetConfig f a e) s = .next t ∧ t = { bookkept s t with srs := { s.srs with staged := some (a, e) } } ∧
      AwaitsStore f (.srsSetConfig a e) t) ∧
  (∀ (f : Frame) (w : Word) (s : State), Admitted f (.bupSetConfig w) s →
    ∃ t, exec (.bupSetConfig f w) s = .next t ∧ t = { bookkept s t with bup := { s.bup with cfg := w } } ∧
      AwaitsStore f (.bupSetConfig w) t) ∧
  (∀ (f : Frame) (sn : BitVec 64) (s : State), Admitted f (.bupJournalForget sn) s →
    (∀ (n : Acc) (id : Identity), s.acc[n].ident = some id → id.serial ≠ sn) → s.nv.journal.length < 16382 →
    ∃ t, exec (.bupJournalForget f sn) s = .next t ∧
      t = { bookkept s t with nv := { s.nv with
        floor := t.nv.floor,
        journal := s.nv.journal ++ [some { kind := 9, bin := 0, formats := 0, unit := 0, serial := sn, runId := 0,
                                           boot := s.nv.boots, position := 0 }] } } ∧
      serialEntries t sn = [] ∧ Answered f (.bupJournalForget sn) .ok t) ∧
  (∀ (f : Frame) (b : Byte) (n : Acc) (s : State), Admitted f (.bupTest b) s → b.toNat = n.1 →
    s.crz.chan[accChan n].state = 12 → s.crz.chan[accChan n].target = 12 → s.crz.chan[accChan n].fault = false →
    (∀ i : Fin 48, s.str.acc[n].ctx[i].active = false) → s.twb.avs[n].failed = false →
    ∃ t, exec (.bupTest f b) s = .next t ∧ t.crz.chan[accChan n].target = 11 ∧
      t.nv.runId = (s.nv.runId + 1) % 2 ^ 32 ∧ t.bup.acc[n].solo = true ∧ t.bup.acc[n].drawn.isSome ∧
      t.acc[n].testWanted = true ∧ (∀ m : Acc, m ≠ n → t.bup.acc[m] = s.bup.acc[m]) ∧
      AnsweredWith f (.bupTest b) .ok (leBytes 4 ((s.nv.runId + 1) % 2 ^ 32)) t)

/-! Cooling, two-wire, network, firmware and security commands (15 R462 to R465). -/

/-- cool.set_table stages its rows for the next tick (12 R369, R380); cool.set_config, cool.set_curve, cool.set_map and cool.set_loop
wait for the next cooling loop (15 R462), which puts them in force: the settings and the curve, the maps, with a fan newly unused
stopped, and the loops with ACTIVE kept (12 R380). -/
def Obligations.CoolingSettingCommands : Prop :=
  let staged (c : Cmd) (s t : State) : Prop :=
    t = { bookkept s t with cool := { (bookkept s t).cool with staged := s.cool.staged ++ [c] } }
  (∀ (f : Frame) (a b : Word) (s : State), Admitted f (.coolSetConfig a b) s →
    ∃ t, exec (.coolSetConfig f a b) s = .next t ∧ staged (.coolSetConfig a b) s t ∧ AwaitsStore f (.coolSetConfig a b) t) ∧
  (∀ (f : Frame) (l : List Word) (s : State), Admitted f (.coolSetCurve l) s →
    ∃ t, exec (.coolSetCurve f l) s = .next t ∧ staged (.coolSetCurve l) s t ∧ AwaitsStore f (.coolSetCurve l) t) ∧
  (∀ (f : Frame) (l : List Word) (s : State), Admitted f (.coolSetTable l) s →
    ∃ t, exec (.coolSetTable f l) s = .next t ∧
      t = { bookkept s t with cool := { (bookkept s t).cool with
        nextRows := some (Vector.ofFn fun (i : Fin 8) => l.getD i.1 0) } } ∧ AwaitsStore f (.coolSetTable l) t) ∧
  (∀ (f : Frame) (fm tm : List Word) (u : BitVec 16) (s : State), Admitted f (.coolSetMap fm tm u) s →
    ∃ t, exec (.coolSetMap f fm tm u) s = .next t ∧ staged (.coolSetMap fm tm u) s t ∧
      AwaitsStore f (.coolSetMap fm tm u) t) ∧
  (∀ (f : Frame) (l : List Word) (s : State), Admitted f (.coolSetLoop l) s →
    ∃ t, exec (.coolSetLoop f l) s = .next t ∧ staged (.coolSetLoop l) s t ∧ AwaitsStore f (.coolSetLoop l) t) ∧
  (∀ (c : Cmd) (s : State), running s = true → s.sys.tick % 1000 = 0 → s.cool.staged = [c] →
    ∃ t, exec .coolingLoop s = .next t ∧ t.cool.staged = [] ∧ t.crz = s.crz ∧ t.acc = s.acc ∧ t.nv = s.nv ∧
      (∀ a b, c = .coolSetConfig a b → t.cool.cfg = a ∧ t.cool.cfg2 = b) ∧
      (∀ l, c = .coolSetCurve l → ∀ i : Fin 5, t.cool.curve[i] = l.getD i.1 0) ∧
      (∀ fm tm u, c = .coolSetMap fm tm u →
        (∀ i : Fan, t.cool.fanMap[i] = fm.getD i.1 0) ∧ (∀ i : Fin 10, t.cool.leak[i].used = u.getLsbD i.1) ∧
        (∀ i : Fin 24, i.1 ≠ 0 → i.1 ≠ 1 → i.1 ≠ 12 → t.cool.thm[i].map = tm.getD i.1 0) ∧
        (∀ i : Fan, fldB (fm.getD i.1 0) 8 = fldB s.cool.fanMap[i] 8 → t.cool.fan[i].state = s.cool.fan[i].state) ∧
        (∀ i : Fan, fldB (fm.getD i.1 0) 8 = false → fldB s.cool.fanMap[i] 8 = true → t.cool.fan[i].state = 5)) ∧
      (∀ l, c = .coolSetLoop l → ∀ i : Loop,
        t.cool.loop[i] = { s.cool.loop[i] with cfg := setFld (l.getD i.1 0) 30 1 (fld s.cool.loop[i].cfg 30 1) } ∧
        (fldB (l.getD i.1 0) 31 = fldB s.cool.loop[i].cfg 31 →
          t.cool.pump[activePump s i].state = s.cool.pump[activePump s i].state ∧
          t.cool.pump[otherPump s i].state = s.cool.pump[otherPump s i].state)))

/-- cool.clear_fault puts failed pumps whose loop flows back in reserve (12 R363), cool.clear_leak clears the wet latch of a zone
that read dry for 10 s, 201 evaluations (12 R374, R378), cool.set_mode sets or clears cause 4 of table mode (12 R368). -/
def Obligations.CoolingClearingCommands : Prop :=
  (∀ (f : Frame) (b : Byte) (s : State), Admitted f (.coolClearFault b) s →
    (∀ p : Pump, b.getLsbD p.1 = true →
      s.cool.pump[p].state = 4 ∧ s.cool.loop[(⟨p.1 / 2, by omega⟩ : Loop)].okSince ≠ none) →
    ∃ t, exec (.coolClearFault f b) s = .next t ∧ t = { bookkept s t with cool := t.cool } ∧
      (∀ p : Pump, t.cool.pump[p] = if b.getLsbD p.1 then { state := 3 } else s.cool.pump[p]) ∧
      t.cool.loop = s.cool.loop ∧ t.cool.fan = s.cool.fan ∧ Answered f (.coolClearFault b) .ok t) ∧
  (∀ (f : Frame) (b : Byte) (z : Fin 10) (s : State), Admitted f (.coolClearLeak b) s → b.toNat = z.1 →
    201 ≤ s.cool.leak[z].dryRun →
    ∃ t, exec (.coolClearLeak f b) s = .next t ∧ t = { bookkept s t with cool := t.cool, acc := t.acc } ∧
      t.cool.leak = s.cool.leak.set z { s.cool.leak[z] with latch := false } ∧
      (∀ n : Acc, t.acc[n] = { s.acc[n] with
        forceSaf := s.saf.safe || flowLostFor s n || (decide (n.1 ≠ z.1) && zoneWet s n) }) ∧
      Answered f (.coolClearLeak b) .ok t) ∧
  (∀ (f : Frame) (m : Byte) (s : State), Admitted f (.coolSetMode m) s →
    ∃ t, exec (.coolSetMode f m) s = .next t ∧ t.cool.hostTable = decide (m = 1) ∧
      (s.cool.table = true → t.cool.table = true) ∧
      (m = 1 → s.saf.started = true → t.cool.table = true) ∧
      (m = 0 → s.cool.table = false → tableCause { s with cool := { s.cool with hostTable := false } } = none →
        t.cool.table = false) ∧
      t.crz = s.crz ∧ t.acc = s.acc ∧ Answered f (.coolSetMode m) .ok t)

/-- twb.set_config writes RATE and ALERT_EN of every port with PEC always on, the AVSBus settings but RATE 3, and the target
address (13 R412). twb.transfer ends with BUS_FAULT on a stuck port, with TOO_LONG where it fits no gap, and otherwise as the bus
answers (13 R393 to R395, R411): data, NACK counted three times, PEC_ERR, or ARB_FAIL with its event. -/
def Obligations.TwoWireCommands : Prop :=
  (∀ (f : Frame) (p a : List Word) (g : Word) (s : State), Admitted f (.twbSetConfig p a g) s →
    ∃ t, exec (.twbSetConfig f p a g) s = .next t ∧ t = { bookkept s t with twb := t.twb } ∧
      (∀ i : Port, fld t.twb.port[i].cfg 0 2 = fld (p.getD i.1 0) 0 2 ∧ fldB t.twb.port[i].cfg 9 = true ∧
        fldB t.twb.port[i].cfg 10 = (fldB (p.getD i.1 0) 10 && i.1 != 10) ∧
        t.twb.port[i] = { s.twb.port[i] with cfg := t.twb.port[i].cfg }) ∧
      (∀ n : Acc, fld (a.getD n.1 0) 0 2 ≠ 3 → t.twb.avs[n] = { s.twb.avs[n] with cfg := a.getD n.1 0 }) ∧
      t.twb.addr = fld g 8 7 ∧ AwaitsStore f (.twbSetConfig p a g) t) ∧
  (∀ (f : Frame) (p : Port) (b a pr co : Byte) (wl rl : BitVec 16) (wd : List Byte) (e : TransferEnd) (s : State),
    let c := Cmd.twbTransfer b a pr co wl rl wd
    Admitted f c s → b.toNat = p.1 →
    (s.twb.port[p].stuck = true →
      ∃ t, exec (.twbTransfer f b a pr co wl rl wd e) s = .next t ∧ t = bookkept s t ∧ Answered f c .busFault t) ∧
    (s.twb.port[p].stuck = false → tooLong s p pr.toNat wl.toNat rl.toNat = true →
      ∃ t, exec (.twbTransfer f b a pr co wl rl wd e) s = .next t ∧ t = bookkept s t ∧ Answered f c .tooLong t) ∧
    (s.twb.port[p].stuck = false → tooLong s p pr.toNat wl.toNat rl.toNat = false →
      (∀ d, e = .ok d → ∃ t, exec (.twbTransfer f b a pr co wl rl wd e) s = .next t ∧ t = bookkept s t ∧
        AnsweredWith f c .ok (d.take rl.toNat) t) ∧
      (e = .nack → ∃ t, exec (.twbTransfer f b a pr co wl rl wd e) s = .next t ∧
        t = { bookkept s t with twb := { s.twb with port := s.twb.port.set p { s.twb.port[p] with
          nack := min 255 (s.twb.port[p].nack + 3) } } } ∧ Answered f c .nack t) ∧
      (e = .pecError → ∃ t, exec (.twbTransfer f b a pr co wl rl wd e) s = .next t ∧
        t = { bookkept s t with twb := { s.twb with port := s.twb.port.set p { s.twb.port[p] with
          nack := min 255 (s.twb.port[p].nack + 3), pec := min 255 (s.twb.port[p].pec + 3) } } } ∧
        Answered f c .pecError t) ∧
      (∀ k x y z, e = .arbLost k x y z none → ∃ t, exec (.twbTransfer f b a pr co wl rl wd e) s = .next t ∧
        t = { bookkept s t with twb := t.twb } ∧
        Raised t 7 (if p.1 < 8 then p.1 else if p.1 = 8 then 8 else 9) p.1 0x0D04 a.toNat ∧ Answered f c .arbFail t)))

/-- net.set_config is answered after its store write and takes effect only then (14 R428); net.subscribe opens the lowest free
lease for a sender that holds none, for 10 s, and answers with its number (14 R431). -/
def Obligations.NetworkCommands : Prop :=
  (∀ (f : Frame) (u : BitVec 16) (l : List (BitVec 128)) (g : BitVec 128) (s : State), Admitted f (.netSetConfig u l g) s →
    ∃ t, exec (.netSetConfig f u l g) s = .next t ∧ t = bookkept s t ∧ AwaitsStore f (.netSetConfig u l g) t) ∧
  (∀ (f : Frame) (st v : Byte) (d : BitVec 16) (k : Fin 4) (s : State), Admitted f (.netSubscribe st v d) s →
    (∀ (j : Fin 4) (l : Lease), s.net.leases[j] = some l → ¬(l.addr = f.addr ∧ l.udp = f.udp)) →
    s.net.leases[k] = none → (∀ j : Fin 4, j < k → s.net.leases[j] ≠ none) →
    ∃ t, exec (.netSubscribe f st v d) s = .next t ∧
      t = { bookkept s t with net := { (bookkept s t).net with leases := s.net.leases.set k (some {
          addr := f.addr, udp := f.udp, port := portOf f.src, records := st.getLsbD 0, events := st.getLsbD 1, version := v,
          div := d.toNat, expiry := s.sys.tick + 1000000 }) } } ∧
      Raised t 5 9 k.1 0x0E03 1 ∧ AnsweredWith f (.netSubscribe st v d) .ok [BitVec.ofNat 8 k.1] t)

/-- fw.stage adds its chunk, a FIRST one to an empty area whose VERIFIED flag it clears (16 R492); fw.verify sets VERIFIED of a
whole image that passes its checks (16 R493); fw.activate starts the write of a verified controller image to the other slot, or
queues a verified accelerator image for every fitted accelerator of its family (16 R494, R501). -/
def Obligations.FirmwareCommands : Prop :=
  (∀ (f : Frame) (b fl : Byte) (k : Fin 3) (o l : Word) (d : List Byte) (s : State), Admitted f (.fwStage b fl o l d) s →
    b.toNat = k.1 →
    ∃ t, exec (.fwStage f b fl o l d) s = .next t ∧
      t.sec = { s.sec with stage := s.sec.stage.set k {
          verified := s.sec.stage[k].verified && !fl.getLsbD 0, total := l.toNat,
          data := (if fl.getLsbD 0 then [] else s.sec.stage[k].data) ++ d } } ∧
      (l.toNat ≠ 0 → ((if fl.getLsbD 0 then [] else s.sec.stage[k].data) ++ d).length = l.toNat →
        Raised t 7 9 k.1 0x1002 k.1 ∧ HostDue t 12) ∧
      t.nv = { s.nv with floor := t.nv.floor } ∧ t.crz = s.crz ∧ Answered f (.fwStage b fl o l d) .ok t) ∧
  (∀ (f : Frame) (b : Byte) (k : Fin 3) (s : State), Admitted f (.fwVerify b) s → b.toNat = k.1 →
    stageFull s.sec.stage[k] = true → verifyImage s k.1 s.sec.stage[k].data = 1 →
    imgEpochMin s.sec.stage[k].data ≤ s.sec.committed → s.sec.committed ≤ imgEpochMax s.sec.stage[k].data →
    versionOk s k.1 s.sec.stage[k].data = true →
    ∃ t, exec (.fwVerify f b) s = .next t ∧
      t.sec = { s.sec with stage := s.sec.stage.set k { s.sec.stage[k] with verified := true } } ∧
      Raised t 7 9 k.1 0x1003 1 ∧ HostDue t 12 ∧ t.nv = { s.nv with floor := t.nv.floor } ∧ t.crz = s.crz ∧
      Answered f (.fwVerify b) .ok t) ∧
  (∀ (f : Frame) (sl : Byte) (s : State), Admitted f (.fwActivate 0 sl 0) s → s.sec.stage[(0 : Fin 3)].verified = true →
    s.sec.bootSlot ≠ sl.toNat → inTrial s = false → s.sec.goldenBad[(0 : Fin 3)] = false → activating s = false →
    ∃ t, exec (.fwActivate f 0 sl 0) s = .next t ∧
      t = { bookkept s t with sec := { s.sec with
        activate := some { slot := sl.toNat, image := s.sec.stage[(0 : Fin 3)].data, golden := false } } } ∧
      Answered f (.fwActivate 0 sl 0) .ok t) ∧
  (∀ (f : Frame) (b sl : Byte) (k : Fin 3) (s : State), Admitted f (.fwActivate b sl 0) s → b.toNat = k.1 → k ≠ 0 →
    s.sec.stage[k].verified = true → s.sec.goldenBad[k] = false → activating s = false →
    ∃ t, exec (.fwActivate f b sl 0) s = .next t ∧ t = { bookkept s t with sec := { s.sec with acc := t.sec.acc } } ∧
      (∀ (n : Acc) (id : Identity), s.acc[n].ident = some id → id.fwFamily.toNat = k.1 - 1 →
        t.sec.acc[n].write = some (1 - (selectOf s n).active, s.sec.stage[k].data)) ∧
      (∀ n : Acc, n ∉ familyMembers s (k.1 - 1) → t.sec.acc[n] = s.sec.acc[n]) ∧
      Answered f (.fwActivate b sl 0) .ok t)

/-- sec.debug_challenge draws a nonce good for 60 s, a free value (16 R486; notes/assumptions/3.md); sec.debug_unlock raises the
level on a valid signature over it and counts a failure otherwise; sec.debug_lock returns VIEW to LOCKED (16 R486 to R488). -/
def Obligations.DebugCommands : Prop :=
  (∀ (f : Frame) (b : Byte) (s : State), Admitted f (.secDebugChallenge b) s → s.sec.refuseUntil ≤ s.sys.tick →
    ∃ t, exec (.secDebugChallenge f b) s = .next t ∧
      t = { bookkept s t with free := s.free + 1, sec := { s.sec with
        nonce := some (Config.freeValue s.free, s.sys.tick + 6000000) } } ∧
      AnsweredWith f (.secDebugChallenge b) .ok (bytes32 (Config.freeValue s.free)) t) ∧
  (∀ (f : Frame) (b : Byte) (sig : List Byte) (x : BitVec 256) (e : Nat) (s : State), Admitted f (.secDebugUnlock b sig) s →
    s.sec.nonce = some (x, e) → s.sys.tick < e →
    (b = 2 → s.rack.detached = true ∧ ∀ n : Acc, chState s n = 0) →
    let good := (signerKeys s 3).any fun p => Config.mldsaVerify p
      (serialBytes s ++ leBytes 1 s.nv.lc ++ leBytes 1 b.toNat ++ bytes32 x ++ bytes32 s.sec.dbgHist) "FM8 debug" sig
    (good = true →
      ∃ t, exec (.secDebugUnlock f b sig) s = .next t ∧ t.sec.debug = b.toNat ∧ t.sec.nonce = none ∧ t.sec.failRun = 0 ∧
        t.sec.dbgHist = Config.sha3 (bytes32 s.sec.dbgHist ++ leBytes 1 b.toNat ++ bytes32 x) ∧
        t.nv = { s.nv with floor := t.nv.floor, unlocks := min 0xFFFF (s.nv.unlocks + 1) } ∧
        Raised t 7 9 0xFF 0x100A b.toNat ∧ Answered f (.secDebugUnlock b sig) .ok t) ∧
    (good = false →
      ∃ t, exec (.secDebugUnlock f b sig) s = .next t ∧
        t.sec = { s.sec with
          nonce := none, fails := min 0xFFFF (s.sec.fails + 1),
          failRun := if 2 ≤ s.sec.failRun then 0 else s.sec.failRun + 1,
          refuseUntil := if 2 ≤ s.sec.failRun then s.sys.tick + 6000000 else s.sec.refuseUntil } ∧
        Answered f (.secDebugUnlock b sig) .authFail t)) ∧
  (∀ (f : Frame) (s : State), Admitted f .secDebugLock s → s.sec.debug = 1 →
    ∃ t, exec (.secDebugLock f) s = .next t ∧
      t = { bookkept s t with sec := { s.sec with
        debug := 0, dbgHist := Config.sha3 (bytes32 s.sec.dbgHist ++ leBytes 1 0 ++ bytes32 0) } } ∧
      Raised t 7 9 0xFF 0x100A 0 ∧ Answered f .secDebugLock .ok t)

/-- sec.set_lifecycle accepts a transition of the table (16 R483) whose condition holds; sec.set_key installs the key that unwraps
under the rack key, with KEY_SET (16 R480); sys.commit_epoch commits the next epoch with no rack sequence under way, with
EPOCH_COMMITTED (16 R504). -/
def Obligations.LifecycleKeyAndEpochCommands : Prop :=
  (∀ (f : Frame) (b : Byte) (sig : List Byte) (s : State), Admitted f (.secSetLifecycle b sig) s →
    lcLegal s.nv.lc b.toNat = true → s.sec.lifecycle = none →
    (s.nv.lc = 0 → b.toNat = 1 → s.sys.wpN = true ∧ pendingOk s = true) →
    (s.nv.lc = 1 → b.toNat = 2 → keyOf s 1 ≠ blankKey s) →
    ∃ t, exec (.secSetLifecycle f b sig) s = .next t ∧
      t = { bookkept s t with sec := { s.sec with lifecycle := some (b.toNat, sig) } } ∧
      Answered f (.secSetLifecycle b sig) .ok t) ∧
  (∀ (f : Frame) (b : Byte) (k : Fin 3) (w : List Byte) (s : State), Admitted f (.secSetKey b w) s → b.toNat = k.1 + 1 →
    let x := serialBytes s ++ leBytes 8 f.ctr.toNat ++ leBytes 1 (k.1 + 1)
    let key := BitVec.ofNat 256 (leNat (w.take 32)) ^^^ Config.kmac (keyOf s 1) x 256 "FM8 wrap"
    BitVec.ofNat 128 (leNat (w.drop 32)) = Config.kmac (keyOf s 1) (x ++ w.take 32) 128 "FM8 wtag" → key ≠ blankKey s →
    ∃ t, exec (.secSetKey f b w) s = .next t ∧
      t = { bookkept s t with sec := { s.sec with keys := s.sec.keys.set k (some key), storeDue := true } } ∧
      Raised t 7 9 (k.1 + 1) 0x100C (k.1 + 1) ∧ Answered f (.secSetKey b w) .ok t) ∧
  (∀ (f : Frame) (e : BitVec 16) (s : State), Admitted f (.sysCommitEpoch e) s → e.toNat = s.sec.committed + 1 →
    e.toNat ≤ epochMax s → quietRack s = true →
    ∃ t, exec (.sysCommitEpoch f e) s = .next t ∧
      t.sec = { s.sec with committed := e.toNat, storeDue := true } ∧ t.nv = { s.nv with floor := t.nv.floor } ∧
      t.crz = s.crz ∧ t.rack = s.rack ∧ Raised t 7 9 0xFF 0x100D e.toNat ∧ HostDue t 12 ∧
      Answered f (.sysCommitEpoch e) .ok t)

/-! Reset, boot and the watchdog (16 R469 to R476; 17 R512, R513, R521; 18 R528 to R537). -/

/-- The machine right after reset (01 R35, 02 R36, 04 R117, 17 R512): tick 0, the cold ROM, firmware stopped, rack state 0, every
channel in S0 with target S0, AUX3V3 the only rail that is not off by Crozier, every lane and link down, no command waiting; the
memories list nothing. -/
def Obligations.ResetStateAsStated : Prop :=
  let s := State.reset
  s.sys.tick = 0 ∧ s.sys.boot = .coldRom ∧ s.sys.fwRunning = false ∧ s.rack.state = 0 ∧ s.rcd.gen = 0 ∧
    (∀ c : Chan, s.crz.chan[c].target = 0 ∧ s.crz.chan[c].fault = false) ∧ (∀ r : Rail, s.crz.rail[r].en = false) ∧
    (∀ n : Acc, s.acc[n].rst = true ∧ s.acc[n].efuseOn = false ∧ s.srs.link[n].state = 0) ∧
    (∀ m : Fin 2, s.mbx.box[m].busy = false ∧ s.mbx.box[m].result = 0xFF) ∧ s.mbx.evt = 0 ∧ s.mbx.evtEn = 0xBFFF ∧
    s.sys.vidDuty = 128 ∧ s.saf.wdtMs = 100 ∧ s.mbx.mem = [] ∧ s.link.config = [] ∧ s.pending = []

/-- COLD_RESET and PORST_N_FALL take every enable away at once (18 R535, R536): what fuses and flash hold stays, a flash write under
way stops (`FlashKept`); after a cold reset the tick count is 0, the straps are latched, a floating one is reported in tick 1 (18 R528, R529), and each counter is its stored
floor (14 R436). START_UP_SELF_TEST in the cold ROM (17 R521): a pass starts the safety island with SAF_OK, in table mode (12 R368);
each failed test is recorded as BIST_FAIL, 0x1104, and sets BIST_FAIL, with no part started. -/
def Obligations.ResetAndSelfTestRows : Prop :=
  (∀ (i : StrapSample) (s : State), ∃ t, exec (.coldReset i) s = .next t ∧ t.sys.tick = 0 ∧ t.sys.boot = .coldRom ∧
    t.sys.fwRunning = false ∧ t.sys.strapUp = i.up ∧ t.sys.strapDown = i.down ∧ t.sys.wpN = i.wpN ∧ t.sys.testEn = i.testEn ∧
    FlashKept s t { s.nv with boots := (s.nv.boots + 1) % 2 ^ 32 } ∧ t.net.ctr = s.nv.floor ∧ t.crz = State.reset.crz ∧
    (∀ n : Acc, t.acc[n].efuseOn = false ∧ t.acc[n].rst = true) ∧ t.pending = s.pending ∧
    (i.up = i.down → t.rcd.merger = []) ∧
    (i.up ≠ i.down → ∃ w, t.rcd.merger = [w] ∧ w.item = .ev
      { stamp := 1, cls := 7, unit := 9, object := 0xFF, code := 0x1201, detail := (i.up ^^^ i.down).toNat })) ∧
  (∀ s : State, ∃ t, exec .porstNFall s = .next t ∧ t.sys.boot = .porst ∧ t.sys.tick = s.sys.tick ∧ FlashKept s t s.nv ∧
    t.crz = State.reset.crz ∧ (∀ n : Acc, t.acc[n].efuseOn = false ∧ t.acc[n].rst = true) ∧ t.rcd.merger = [] ∧
    t.pending = s.pending) ∧
  (∀ s : State, s.sys.boot = .coldRom → s.saf.started = false → s.saf.bistFail = false → factoryTest s = false →
     (∃ t, exec (.startUpSelfTest 0) s = .next t ∧ t.saf = { s.saf with started := true } ∧ t.sys = { s.sys with safOk := true } ∧
       t.cool.table = true ∧ t.crz = s.crz ∧ t.acc = s.acc) ∧
     (∀ failed : BitVec 7, failed ≠ 0 → ∃ t, exec (.startUpSelfTest failed) s = .next t ∧
       (∀ k : Fin 7, failed.getLsbD k.1 = true → Raised t 1 9 (k.1 + 1) 0x1104 (k.1 + 1)) ∧
       t = { s with rcd := t.rcd, saf := { s.saf with bistFail := true } }))

/-- BOOT_ROM_RELEASE and WARM_RESET_RELEASE with slot G chosen by the straps (16 R470, R471, R474): with a verifying image the
cluster is released with firmware not yet running and the image and slot noted; with none nothing is released, HATTN_N is
asserted and the accelerators go to S0 (16 R473). With no strap the slot of a boot record that names no failed trial boots when it verifies (16 R471). -/
def Obligations.BootRomReleasesVerifiedImage : Prop :=
  ∀ s : State, (s.saf.started = true ∨ s.saf.bistFail = true) → factoryTest s = false →
    (∀ i : Instr, ((i = .bootRomRelease ∧ s.sys.boot = .coldRom) ∨ (i = .warmResetRelease ∧ s.sys.boot = .warmRom)) →
      ((s.sec.bootSel = 1 ∨ s.sec.bootSel = 3) → verifyImage s 0 s.nv.slot[(2 : Fin 3)] = 1 →
        ∃ t, exec i s = .next t ∧ t.sys.boot = .running ∧ t.sys.fwRunning = false ∧ t.sec.bootSlot = 2 ∧
          t.sec.image = s.nv.slot[(2 : Fin 3)] ∧ t.saf.armed = false ∧ t.saf.wdtMs = 100) ∧
      ((s.sec.bootSel = 1 ∨ s.sec.bootSel = 3) → verifyImage s 0 s.nv.slot[(2 : Fin 3)] ≠ 1 →
        ∃ t, exec i s = .next t ∧ t.sys.boot = .noSlot ∧ t.mbx.hattn = true ∧ t.rack.state = s.rack.state ∧
          ∀ n : Acc, t.crz.chan[accChan n].target = 0) ∧
      (∀ b : BootRec, s.sec.bootSel ≠ 1 → s.sec.bootSel ≠ 3 → s.nv.boot = some b → b.active ≤ 1 → b.trial = false →
        verifyImage s 0 (slotImage s b.active) = 1 →
        ∃ t, exec i s = .next t ∧ t.sys.boot = .running ∧ t.sys.fwRunning = false ∧ t.sec.bootSlot = b.active ∧
          t.sec.image = slotImage s b.active ∧ t.saf.armed = false ∧ t.saf.wdtMs = 100))

/-- The watchdog (17 R512): the first legal write of WDT_MS after a release arms it; a serve with the complement of TOKEN inside
its window lets firmware run and draws the next TOKEN, a free value (notes/assumptions/3.md); a wrong serve, and an expiry, are an
expiry (17 R513): a warm reset, with SAFE and cause 4 instead at the third within 600 s. A warm reset stops the cluster and leaves
Crozier and the accelerators' outputs as they are (18 R537). -/
def Obligations.WatchdogRows : Prop :=
  (∀ (ms : BitVec 16) (s : State), running s = true → s.saf.wdtWritten = false → 10 ≤ ms.toNat → ms.toNat ≤ 1000 →
    exec (.watchdogArm ms) s = .next { s with saf := { s.saf with wdtMs := ms.toNat, wdtWritten := true, armed := true } }) ∧
  (∀ (s : State), running s = true → s.sys.tick ≤ s.saf.serveTick + 100 * s.saf.wdtMs →
    (s.sys.fwRunning = true → 4 * s.saf.serveTick + 100 * s.saf.wdtMs ≤ 4 * s.sys.tick) →
    ∃ t, exec (.watchdogServe (~~~s.saf.token)) s = .next t ∧ t.sys = { s.sys with fwRunning := true } ∧
      t.saf = { s.saf with token := (Config.freeValue s.free).setWidth 8, serveTick := s.sys.tick, served := true } ∧
      t.rack = { s.rack with listenTick := s.rack.listenTick.or (some s.sys.tick) } ∧ t.crz = s.crz ∧ t.acc = s.acc) ∧
  (∀ (i : Instr) (s : State), running s = true →
    ((∃ v, i = .watchdogServe v ∧ v ≠ ~~~s.saf.token) ∨
      (∃ x, i = .watchdogExpiry x ∧ (x = true ∨ s.saf.serveTick + 100 * s.saf.wdtMs ≤ s.sys.tick))) →
    let l := s.saf.expiries.filter fun x => decide (s.sys.tick < x + 60000000)
    (l.length < 2 → ∃ t, exec i s = .next t ∧ t.sys.boot = .warmRom ∧ t.sys.fwRunning = false ∧ t.crz = s.crz ∧
      t.saf.expiries = s.sys.tick :: l ∧ (∀ n : Acc, t.acc[n] = { s.acc[n] with drain := none }) ∧ t.saf.safe = s.saf.safe) ∧
    (2 ≤ l.length → s.saf.safe = false → inTrial s = false →
      ∃ t, exec i s = .next t ∧ t.saf.safe = true ∧ t.saf.cause = 4 ∧ t.rack.detached = true ∧
        (∀ n : Acc, t.acc[n].forceSaf = true ∧ t.crz.chan[accChan n].target = 0)))

/-- Controller images, golden copies, fuses and the debug nonce (16 R472, R483 to R486, R492 to R496). A trial is confirmed 10 s after
release once firmware runs and a record sealed since is published; not confirmed 30 s after release, a warm reset; and a warm reset
100 ms after FW_ACTIVATED is published. A slot that reads back right is booted on trial next. A golden copy written, and each one at
GOLDEN_CHECK, is checked: GOLDEN_BAD says whether it fails, and a failure is recorded. LIFECYCLE_FUSED moves the state on a good signature and a good fuse, and reports the outcome; the nonce lapses. -/
def Obligations.FirmwareAndFuseRows : Prop :=
  (∀ (b : BootRec) (r : Record) (s : State), running s = true → s.sys.fwRunning = true → s.nv.boot = some b → b.trial = true →
    b.active ≤ 1 → s.sec.bootSlot = b.active → s.rcd.mirror = some r → s.saf.releaseTick ≤ r.sealTick →
    s.saf.releaseTick + 1000000 ≤ s.sys.tick →
    ∃ t, exec .trialConfirmed s = .next t ∧ t.nv.boot = some { b with trial := false, tried := false } ∧
      s.nv.svnMin ≤ t.nv.svnMin ∧ ((imgFlags s.sec.image).testBit 0 = false → t.nv.svnMin = s.nv.svnMin) ∧
      t = { s with rcd := t.rcd, nv := { s.nv with boot := t.nv.boot, svnMin := t.nv.svnMin } } ∧
      (Raised t 7 9 b.active 0x1005 b.active ∨ Raised t 7 9 b.active 0x1005 (b.active + 16))) ∧
  (∀ (b : BootRec) (s : State), running s = true → s.nv.boot = some b → b.trial = true → s.sec.bootSlot = b.active →
    s.saf.releaseTick + 3000000 ≤ s.sys.tick →
    ∃ t, exec .trialTimeout s = .next t ∧ t.sys.boot = .warmRom ∧ t.sys.fwRunning = false ∧ t.sec.nextCause = 3 ∧
      t.crz = s.crz ∧ FlashKept s t s.nv) ∧
  (∀ (x : Nat) (s : State), running s = true → s.sec.resetTick = some x → x ≤ s.sys.tick →
    ∃ t, exec .activateWarmReset s = .next t ∧ t.sys.boot = .warmRom ∧ t.sys.fwRunning = false ∧ t.sec.nextCause = 1 ∧
      t.sec.resetTick = none ∧ t.crz = s.crz ∧ FlashKept s t s.nv) ∧
  (∀ (a : Activate) (rb : List Byte) (s : State), running s = true → s.sec.activate = some a → a.golden = false →
    (Config.sha3 (imgBody rb) = imgHash a.image → ∃ t, exec (.fwSlotWritten rb) s = .next t ∧
      t.nv.slot[if a.slot = 0 then (0 : Fin 3) else 1] = rb ∧
      t.nv.boot = some { active := a.slot, trial := true, tried := false } ∧ t.sec.activated = true ∧ t.sec.activate = none ∧
      Raised t 7 9 0 0x1004 0 ∧ t.nv.slot[(2 : Fin 3)] = s.nv.slot[(2 : Fin 3)] ∧ t.crz = s.crz) ∧
    (Config.sha3 (imgBody rb) ≠ imgHash a.image → ∃ t, exec (.fwSlotWritten rb) s = .next t ∧ t.nv.boot = s.nv.boot ∧
      t.sec = { s.sec with activate := none } ∧ t.rcd = s.rcd ∧ t.crz = s.crz)) ∧
  (∀ (k : Fin 3) (b rb : List Byte) (s : State), running s = true → s.sec.activate = none → s.sec.goldenWrite = some (k.1, b) →
    k ≠ 0 → ∃ t, exec (.fwSlotWritten rb) s = .next t ∧ goldenOf t (k.1 - 1) = rb ∧
      t = { s with rcd := t.rcd, nv := { s.nv with golden := t.nv.golden },
                   sec := { s.sec with goldenWrite := none, goldenBad := t.sec.goldenBad } } ∧
      (verifyImage s k.1 rb = 1 → t.sec.goldenBad[k] = false ∧ t.rcd = s.rcd) ∧
      (verifyImage s k.1 rb ≠ 1 → t.sec.goldenBad[k] = true ∧ Raised t 7 9 k.1 0x100E k.1)) ∧
  (∀ s : State, running s = true → ∃ t, exec .goldenCheck s = .next t ∧
    t = { s with rcd := t.rcd, sec := { s.sec with goldenBad := t.sec.goldenBad } } ∧
    ∀ k : Fin 3, let b := if k = 0 then s.nv.slot[(2 : Fin 3)] else goldenOf s (k.1 - 1)
      (verifyImage s k.1 b = 1 → t.sec.goldenBad[k] = false) ∧
      (verifyImage s k.1 b ≠ 1 → t.sec.goldenBad[k] = true ∧ Raised t 7 9 k.1 0x100E k.1)) ∧
  (∀ (new : Nat) (sig : List Byte) (bad : Bool) (s : State), s.sec.lifecycle = some (new, sig) → new ≤ 4 →
    let signed := (signerKeys s 4).any fun p => Config.mldsaVerify p (lifecycleMsg s new) "FM8 lifecycle" sig
    let outcome := if signed = false then 1 else if bad then 2 else 0
    ∃ t, exec (.lifecycleFused bad) s = .next t ∧ t.sec.lifecycle = none ∧ HostDue t 12 ∧
      Raised t 7 9 0xFF 0x100B (new + 16 * outcome) ∧ (outcome ≠ 0 → t.nv = s.nv) ∧
      (outcome = 0 → t.nv.lc = new ∧ t.nv.floor = s.nv.floor ∧ t.nv.journal = s.nv.journal ∧ t.nv.boot = s.nv.boot ∧
        t.nv.epoch = s.nv.epoch ∧
        (3 ≤ new → t.nv.store = [] ∧ t.nv.modelMin = [] ∧ t.nv.unlocks = 0 ∧ t.nv.keys = Vector.replicate 3 none ∧ t.nv.frdFlash = Vector.replicate 4 none))) ∧
  (∀ (x : BitVec 256) (e : Nat) (s : State), s.sec.nonce = some (x, e) → e ≤ s.sys.tick →
    exec .debugNonceExpiry s = .next { s with sec := { s.sec with nonce := none } })
/-! The tick, events, the State Record and registers (01, 02, 14). -/

/-- EVENT_TICK (02 R36, R38): the tick counter goes up by one modulo 2^64, the errors corrected in it are counted (01 R27), WP_N is
sampled (18 R528), staged table rows take effect together (12 R369), and VID_PWM moves by at most one within 96 to 224 (18 R532), from a duty in that range. -/
def Obligations.EventTickCounts : Prop :=
  ∀ (i : TickIn) (s : State), s.sys.boot ≠ .porst →
    ∃ t, exec (.eventTick i) s = .next t ∧ t.sys.tick = (s.sys.tick + 1) % 2 ^ 64 ∧
      t.sys.eccCe = s.sys.eccCe + i.eccCorrected ∧ t.sys.wpN = i.wpN ∧
      t.cool.rows = s.cool.nextRows.getD s.cool.rows ∧ t.cool.nextRows = none ∧
      (96 ≤ s.sys.vidDuty → s.sys.vidDuty ≤ 224 → 96 ≤ t.sys.vidDuty ∧ t.sys.vidDuty ≤ 224 ∧
        t.sys.vidDuty ≤ s.sys.vidDuty + 1 ∧ s.sys.vidDuty ≤ t.sys.vidDuty + 1)

/-- EVENT_RELEASE (02 R41, R44): while the cluster runs, each item stamped two ticks ago or earlier is applied, in the merger's order
and each to the state that the ones before it left; every other item stays, host events of those ticks become visible (14 R425), and
an item whose tick was released before sets LATE (02 R42). Where none of them is a command or a loop, the due events enter the
digest and nothing else changes. -/
def Obligations.EventReleaseAppliesDueEvents : Prop :=
  (∀ s : State, exec .eventRelease s = .next (if running s then forAll (dueItems s) applyItem (openBatch s) else s)) ∧
  (∀ s : State, (openBatch s).rcd.merger = (s.rcd.merger.filter fun w => decide (s.sys.tick < w.stamp + 2)) ∧
    ((openBatch s).rcd.late = true ↔ s.rcd.late = true ∨ ∃ w ∈ s.rcd.merger, w.stamp + 2 ≤ s.sys.tick ∧
      ∃ x, s.rcd.released = some x ∧ w.stamp ≤ x)) ∧
  ∀ (es : List Ev) (s : State), running s = true → (dueItems s).map (·.item) = es.map Item.ev →
    ∃ t, exec .eventRelease s = .next t ∧ t.rcd.digest = s.rcd.digest ++ es ∧
      t.rcd.merger = (s.rcd.merger.filter fun w => decide (s.sys.tick < w.stamp + 2)) ∧
      t.mbx.evtDue = (s.mbx.evtDue.filter fun p => decide (s.sys.tick < p.2 + 2)) ∧
      t = { s with rcd := t.rcd, mbx := { s.mbx with evtDue := t.mbx.evtDue, evtShown := t.mbx.evtShown } }

/-- STATE_RECORD_SEAL, SEAL_DEADLINE and RECORD_PUBLISH (02 R46, R49, R50): the strobe of a tick multiple of 100 latches the blocks and
the digest of its tick, an earlier record still in assembly being missed; 40 ticks later the record is complete or the seal is missed,
and counted once a generation exists; publication of a record completed in time gives it the next generation and puts it into the
ring and the mirror, and the results that were known at its seal leave (02 R62). Off its tick, or with nothing in assembly, a row
changes nothing. -/
def Obligations.RecordSealedAndPublished : Prop :=
  (∀ s : State, s.sys.boot ≠ .porst → s.sys.tick % 100 = 0 → (∀ b, s.rcd.asm = some b → b.sealTick ≠ s.sys.tick) →
    ∃ t a, exec .stateRecordSeal s = .next t ∧ t.rcd.asm = some a ∧ a.sealTick = s.sys.tick ∧ a.sealNo = s.rcd.seals + 1 ∧
      a.buffer = s.rcd.buffer ∧ a.digest = s.rcd.digest ∧ a.complete = false ∧ a.eccHit = false ∧ t.rcd.seals = s.rcd.seals + 1 ∧
      (s.rcd.asm = none → a.snap = snapOf s ∧ t.rcd.missed = s.rcd.missed ∧ t.str.latch = some (strobeOf s)) ∧
      (s.rcd.asm.isSome = true →
        t.rcd.missed = if s.rcd.gen = 0 then s.rcd.missed else min 0xFFFFFFFF (s.rcd.missed + 1)) ∧
      t.rcd.gen = s.rcd.gen ∧ t.crz = s.crz ∧ t.acc = s.acc ∧ t.nv = s.nv ∧ t.rack = s.rack) ∧
  (∀ s : State, s.sys.tick % 100 ≠ 0 → exec .stateRecordSeal s = .next s) ∧
  (∀ (a : Assembly) (s : State), s.rcd.asm = some a → a.sealTick + 40 ≤ s.sys.tick →
    (a.eccHit = false → running s = true →
      exec (.sealDeadline true) s = .next { s with rcd := { s.rcd with asm := some { a with complete := true } } }) ∧
    (∀ c : Bool, c = false ∨ a.eccHit = true ∨ running s = false →
      ∃ t, exec (.sealDeadline c) s = .next t ∧ t.rcd.asm = none ∧ t.rcd.gen = s.rcd.gen ∧ t.rcd.ring = s.rcd.ring ∧
        t.rcd.mirror = s.rcd.mirror ∧
        t.rcd.missed = if s.rcd.gen = 0 then s.rcd.missed else min 0xFFFFFFFF (s.rcd.missed + 1))) ∧
  (∀ (c : Bool) (s : State), (∀ a, s.rcd.asm = some a → s.sys.tick < a.sealTick + 40) → exec (.sealDeadline c) s = .next s) ∧
  (∀ (a : Assembly) (s : State), s.rcd.asm = some a → a.eccHit = false → running s = true →
    a.complete = true ∨ s.sys.tick ≤ a.sealTick + 40 →
    ∃ t r, exec .recordPublish s = .next t ∧ t.rcd.gen = s.rcd.gen + 1 ∧ t.rcd.mirror = some r ∧ r.gen = s.rcd.gen + 1 ∧
      r.sealTick = a.sealTick ∧ r.snap = a.snap ∧ r.digest = digestOf a.digest ∧ r.late = a.late ∧ r.missed = s.rcd.missed ∧
      t.rcd.ring = (r :: s.rcd.ring).take 12288 ∧
      t.rcd.asm = none ∧ t.rcd.replies = (s.rcd.replies.filter fun q => decide (a.sealNo ≤ q.sealNo)) ∧ t.crz = s.crz) ∧
  (∀ s : State, (∀ a, s.rcd.asm = some a → a.eccHit = true ∨ running s = false ∨
    (a.complete = false ∧ a.sealTick + 40 < s.sys.tick)) → exec .recordPublish s = .next s)

/-- The mailbox registers (14 R420 to R423): MBX_GO with the SEQ of the command area copies the area and makes the mailbox busy;
one that is not ready counts GO_BUSY, another SEQ, or that of the command last completed, counts GO_MISMATCH; a read of MBX_STAT
answers its word, with REREAD from the second read after a completion on. -/
def Obligations.MailboxRows : Prop :=
  (∀ (m : Fin 2) (seq : BitVec 16) (s : State), boxReady s m = true →
    BitVec.ofNat 16 (leNat (cellsRead s.mbx.mem (areaBase m + 2) 2)) = seq →
    (s.mbx.box[m].result = 0xFF ∨ s.mbx.box[m].seq ≠ seq) →
    ∃ t, exec (.mbxGo m seq) s = .next t ∧
      t.mbx = { s.mbx with box := s.mbx.box.set m { s.mbx.box[m] with busy := true, seq := seq } } ∧
      (∃ w ∈ t.rcd.merger, w.stamp = s.sys.tick ∧ w.cls = 6 ∧ w.item = .req (reqOfRaw (if m = 0 then .mb0 else .mb1)
        (cellsRead s.mbx.mem (areaBase m) (0x40 + min 4032 (leNat (cellsRead s.mbx.mem (areaBase m + 4) 2)))) s.sys.tick)) ∧
      t = { s with mbx := t.mbx, rcd := { s.rcd with merger := t.rcd.merger } }) ∧
  (∀ (m : Fin 2) (seq : BitVec 16) (s : State), boxReady s m = false →
    exec (.mbxGo m seq) s = .next { s with mbx := { s.mbx with
      box := s.mbx.box.set m { s.mbx.box[m] with goBusy := min 255 (s.mbx.box[m].goBusy + 1) } } }) ∧
  (∀ (m : Fin 2) (seq : BitVec 16) (s : State), boxReady s m = true →
    BitVec.ofNat 16 (leNat (cellsRead s.mbx.mem (areaBase m + 2) 2)) ≠ seq →
    exec (.mbxGo m seq) s = .next { s with mbx := { s.mbx with
      box := s.mbx.box.set m { s.mbx.box[m] with goMismatch := min 255 (s.mbx.box[m].goMismatch + 1) } } }) ∧
  (∀ (m : Fin 2) (seq : BitVec 16) (s : State), boxReady s m = true →
    BitVec.ofNat 16 (leNat (cellsRead s.mbx.mem (areaBase m + 2) 2)) = seq → s.mbx.box[m].result ≠ 0xFF →
    s.mbx.box[m].seq = seq →
    exec (.mbxGo m seq) s = .next { s with mbx := { s.mbx with box := s.mbx.box.set m { s.mbx.box[m] with
      goMismatch := min 255 (s.mbx.box[m].goMismatch + 1), reread := true, statRead := true } } }) ∧
  (∀ (m : Fin 2) (s : State), s.mbx.box[m].busy = false → s.mbx.box[m].result ≠ 0xFF →
    exec (.mbxStatRead m) s = .next { s with
      out := .answer (leBytes 4 (statW s m)) :: s.out,
      mbx := { s.mbx with box := s.mbx.box.set m { s.mbx.box[m] with statRead := true, reread := true } } }) ∧
  (∀ (m : Fin 2) (s : State), s.mbx.box[m].busy = true ∨ s.mbx.box[m].result = 0xFF →
    exec (.mbxStatRead m) s = .next { s with out := .answer (leBytes 4 (statW s m)) :: s.out })

/-- REGISTER_WRITE (01 R33, R35; 14 R419, R420, R425): a word of a command area reads back and every other byte of BAR0 memory
keeps its value; SYS_STATUS and MBX_EVT clear the bits written 1; MBX_EVT_EN takes the data; GEN_DIV takes 0 to 1,000 and keeps its
value otherwise. A read of 8 bytes at 0x20 returns TICK and at 0x28 GEN, one of 4 bytes half of it (02 R38); reserved ranges read 0. -/
def Obligations.RegisterWriteRow : Prop :=
  (∀ (o : BitVec 16) (d : Word) (s : State),
    ((0x4000 ≤ o.toNat / 4 * 4 ∧ o.toNat / 4 * 4 < 0x5000) ∨ (0x6000 ≤ o.toNat / 4 * 4 ∧ o.toNat / 4 * 4 < 0x7000)) →
    cellsWf s.mbx.mem = true →
    ∃ t, exec (.registerWrite o d) s = .next t ∧ t = { s with mbx := { s.mbx with mem := t.mbx.mem } } ∧
      (∀ i : Fin 4, cellRead t.mbx.mem (o.toNat / 4 * 4 + i.1) = BitVec.ofNat 8 (d.toNat / 2 ^ (8 * i.1))) ∧
      (∀ a : Nat, (a < o.toNat / 4 * 4 ∨ o.toNat / 4 * 4 + 4 ≤ a) → cellRead t.mbx.mem a = cellRead s.mbx.mem a) ∧
      cellsWf t.mbx.mem = true) ∧
  (∀ (o : BitVec 16) (d : Word) (s : State), o.toNat / 4 * 4 = 0x18 →
    exec (.registerWrite o d) s = .next { s with sys := { s.sys with
      memEccUe := s.sys.memEccUe && !fldB d 6, paceLow := s.sys.paceLow && !fldB d 5,
      refclkWasLost := s.sys.refclkWasLost && !fldB d 3, lockViol := s.sys.lockViol && !fldB d 2 } }) ∧
  (∀ (o : BitVec 16) (d : Word) (s : State), o.toNat / 4 * 4 = 0x1008 →
    ∃ t, exec (.registerWrite o d) s = .next t ∧
      t = { s with mbx := { s.mbx with evt := s.mbx.evt &&& ~~~(d.setWidth 16), hattn := t.mbx.hattn } } ∧
      (s.sys.boot ≠ .noSlot → s.saf.served = true →
        t.mbx.hattn = ((s.mbx.evt &&& ~~~(d.setWidth 16)) &&& s.mbx.evtEn &&& 0xBFFF != 0))) ∧
  (∀ (o : BitVec 16) (d : Word) (s : State), o.toNat / 4 * 4 = 0x100C →
    ∃ t, exec (.registerWrite o d) s = .next t ∧
      t = { s with mbx := { s.mbx with evtEn := d.setWidth 16, hattn := t.mbx.hattn } }) ∧
  (∀ (o : BitVec 16) (d : Word) (s : State), o.toNat / 4 * 4 = 0x1004 →
    exec (.registerWrite o d) s = .next (if 1000 < fld d 0 16 then s else
      { s with mbx := { s.mbx with genDiv := fld d 0 16 } })) ∧
  (∀ s : State, bar0Read s 0x20 8 = leBytes 8 s.sys.tick ∧ bar0Read s 0x28 8 = leBytes 8 s.rcd.gen ∧
    bar0Read s 0x20 4 = (leBytes 8 s.sys.tick).take 4 ∧ bar0Read s 0x24 4 = (leBytes 8 s.sys.tick).drop 4 ∧
    bar0Read s 0x28 4 = (leBytes 8 s.rcd.gen).take 4 ∧ bar0Read s 0x2C 4 = (leBytes 8 s.rcd.gen).drop 4) ∧
  (∀ (a : Nat) (s : State), ((0x100 ≤ a ∧ a < 0x1000) ∨ (0x1100 ≤ a ∧ a < 0x2000) ∨ (0x2100 ≤ a ∧ a < 0x2800) ∨
    (0x2808 ≤ a ∧ a < 0x4000)) → bar0Byte s a = 0)

/-- ECC_UNCORRECTABLE counts and sets MEM_ECC_UE whatever the memory; one in the assembly buffer marks the record in assembly, one in
the history ring discards the generation of its place (01 R27, R29, 02 R49, R58); CXL_MEM_WRITE has no effect but its count (01 R30); LEASE_EXPIRY closes a lease past its 10 s (14 R431);
CONFIG_STORE_WRITE_DONE empties the waiting list, ends each command with OK and stores its value (15 R448), with keys and epoch
where they wait (16 R504), or, where the store could not take them, ends each with STATE_CONFLICT and stores nothing;
STAGED_SET_APPLY takes a legal SRS_CFG and SRS_EQ, with the presets of the links (10 R309), and leaves nothing staged (01 R24, 10
R310). -/
def Obligations.MemoryLeaseStoreAndStagedRows : Prop :=
  (∀ (x : EccSite) (s : State), ∃ t, exec (.eccUncorrectable x) s = .next t ∧ t.sys.memEccUe = true ∧
    t.sys.eccUe = s.sys.eccUe + 1 ∧ t.crz = s.crz ∧
    (x = .assemblyBuffer → t.rcd.asm = s.rcd.asm.map fun a => { a with eccHit := true }) ∧
    (∀ a, x = .lpddr a → a.toNat < 0x30000000 →
      t.rcd.ring = s.rcd.ring.filter fun r => r.gen % 12288 != a.toNat / 0x10000)) ∧
  (∀ (a : BitVec 30) (s : State), exec (.cxlMemWrite a) s =
    .next { s with sys := { s.sys with cxlWdrop := min 0xFFFFFFFF (s.sys.cxlWdrop + 1) } }) ∧
  (∀ (k : Fin 4) (l : Lease) (s : State), s.net.leases[k] = some l → l.expiry ≤ s.sys.tick →
    ∃ t, exec (.leaseExpiry k) s = .next t ∧ Raised t 5 9 k.1 0x0E03 0 ∧
      t = { s with rcd := t.rcd, net := { s.net with leases := s.net.leases.set k none } }) ∧
  (∀ s : State, ∃ t, exec (.configStoreWriteDone true) s = .next t ∧ t.rcd.storeQ = [] ∧
    t.rcd.replies.length = s.rcd.replies.length + s.rcd.storeQ.length ∧
    (∀ p ∈ s.rcd.storeQ, ∃ q ∈ t.rcd.replies, q.src = p.2.src ∧ q.seq = p.2.seq ∧ q.result = .ok) ∧
    (s.sec.storeDue = true → t.nv.keys = s.sec.keys ∧ t.nv.epoch = s.sec.committed) ∧
    (∀ c q, s.rcd.storeQ = [(c, q)] → t.nv.store = storePut c s.nv.store) ∧
    t.sec.storeDue = false ∧ t.crz = s.crz) ∧
  (∀ s : State, ∃ t, exec (.configStoreWriteDone false) s = .next t ∧ t.rcd.storeQ = [] ∧ t.nv = s.nv ∧
    ∀ p ∈ s.rcd.storeQ, ∃ q ∈ t.rcd.replies, q.src = p.2.src ∧ q.seq = p.2.seq ∧ q.result = .stateConflict ∧ q.reason = 0x0E03) ∧
  (∀ (c e : Word) (s : State), s.srs.staged = some (c, e) → srsCfgOk c = true → srsEqOk e = true →
    ∃ t, exec .stagedSetApply s = .next t ∧ t.srs = { s.srs with
        cfg := c, eq := e, staged := none,
        link := Vector.ofFn fun (n : Acc) =>
          let p := fld e (4 * bandOf s n) 3
          if s.srs.link[n].state ≠ 2 ∨ s.srs.link[n].preset = p then s.srs.link[n]
          else { s.srs.link[n] with preset := p, presetTick := some s.sys.tick } } ∧
      t.brm.staged = none ∧
      t.sup.staged = [] ∧ t.crz = s.crz)


/-! Sorus: links and the intake (10 R286 to R309; 01 R17, R551; 02 R37). -/

/-- The training of a link and its loss (10 R284, R286, R291, R299, R309): with 64 valid sync headers, DS_LOCK in the first good frame
and within 2 ms, SORUS_TRAINING_DONE brings a training link up; a failed attempt is repeated at once twice and then waits 100 ms; a
lock that fails, the 16th invalid header among 64, retrains where the channel is in S2 or above with REFCLK, and is recorded with
cause 5 within 100 us of a preset change; LINK_LOST_MS without a good frame makes the downstream lane lost. Each changes nothing but
the link, its FORCEMIN_N demand, the record and the words sent; a training that starts makes Frond's next increases start anew. -/
def Obligations.SorusTrainingRows : Prop :=
  let retrained (n : Acc) (s t : State) : Prop :=
    t = { intaken n s t with acc := s.acc.set n { s.acc[n] with forceLane := true }, frd := { s.frd with
      slot := s.frd.slot.map fun k => { k with prevAct := k.prevAct.set n none } } } ∧
    t.srs.link[n].state = 1 ∧ t.srs.link[n].trainTick = s.sys.tick ∧ t.srs.link[n].lastNs = none ∧
    t.srs.link[n].firstLock = none ∧ t.srs.link[n].dsLost = true
  (∀ (n : Acc) (y : Vector (BitVec 2) 64) (s : State), s.srs.link[n].state = 1 → lockGained y = true →
    s.srs.link[n].firstLock = some true → s.sys.tick ≤ s.srs.link[n].trainTick + 200 →
    ∃ t, exec (.sorusTrainingDone n y) s = .next t ∧ t = intaken n s t ∧ t.srs.link[n].state = 2 ∧ t.srs.link[n].upLock = true ∧
      t.srs.link[n].tries = 0 ∧ t.srs.link[n].preset = fld s.srs.eq (4 * bandOf s n) 3 ∧ t.free = s.free ∧
      Raised t 7 n.1 0xFF 0x0A01 (s.srs.link[n].preset % 65536)) ∧
  (∀ (n : Acc) (s : State), s.srs.link[n].state = 1 → s.srs.link[n].trainTick + 200 ≤ s.sys.tick →
    ∃ t, exec (.sorusTrainingFail n) s = .next t ∧ Raised t 7 n.1 0xFF 0x0A02 2 ∧
      (s.srs.link[n].tries < 2 ∧ linkAllowed s n = true → retrained n s t ∧
        t.srs.link[n].tries = s.srs.link[n].tries + 1 ∧ t.srs.link[n].preset = fld s.srs.eq 20 3) ∧
      (¬(s.srs.link[n].tries < 2 ∧ linkAllowed s n = true) → t = intaken n s t ∧ t.srs.link[n].state = 3 ∧
        t.srs.link[n].trainTick = s.sys.tick ∧ t.srs.link[n].upLock = false)) ∧
  (∀ (n : Acc) (s : State), s.srs.link[n].state = 3 → s.srs.link[n].trainTick + 10000 ≤ s.sys.tick → linkAllowed s n = true →
    ∃ t, exec (.sorusTrainingRetry n) s = .next t ∧ retrained n s t ∧ t.srs.link[n].preset = fld s.srs.eq 20 3) ∧
  (∀ (n : Acc) (y : Vector (BitVec 2) 64) (late : Bool) (s : State), s.srs.link[n].state = 2 → lockFails y = true →
    (late = true ↔ ∃ x, s.srs.link[n].presetTick = some x ∧ s.sys.tick ≤ x + 10) →
    ∃ t, exec (.upstreamLockLost n y) s = .next t ∧ Raised t 7 n.1 0xFF 0x0A02 (if late then 5 else 1) ∧
      (linkAllowed s n = true → retrained n s t) ∧
      (linkAllowed s n = false → t = { intaken n s t with acc := s.acc.set n { s.acc[n] with forceLane := true } } ∧
        t.srs.link[n].state = 0 ∧ t.srs.link[n].dsLost = true) ∧
      (late = true → t.srs.link[n].preset = s.srs.link[n].preset)) ∧
  (∀ (n : Acc) (x : Nat) (s : State), s.srs.link[n].state = 2 →
    x = s.srs.link[n].lastGood.getD s.srs.link[n].trainTick → x + 100 * fld s.srs.cfg 0 8 ≤ s.sys.tick →
    ∃ t, exec (.linkLostTimeout n) s = .next t ∧ t = { intaken n s t with acc := t.acc } ∧
      t.acc = s.acc.set n { s.acc[n] with forceLane := true } ∧ t.srs.link[n].dsLost = true ∧ t.srs.link[n].state = 2 ∧
      (s.srs.link[n].dsLost = false → Raised t 7 n.1 0xFF 0x0A03 1))

/-- Frames at the intake (10 R288, R290, R292, R300, R304). A good activity frame becomes a record of the queue and is then taken:
echo, temperatures, Ledger and steering input (`takeActivity`). A frame with a framing or CRC defect counts in CRC_ERR, any other
bad one in FMT_ERR, and no record of it stays. A good event frame becomes a record too, and its entries act in order: PARK_DONE of
the present PARK_SEQ, DS_LOCK_CHANGE, MEM_ECC and SENSOR_FAULT have their effect (10 R298, R299; 12 R353), with nothing else changed,
and then those of the further entries (`eventEffect`). -/
def Obligations.IntakeFrameRows : Prop :=
  (∀ (n : Acc) (h : FrameHdr) (a : Activity) (s : State), goodFrame s n h 1 400 (activityBytes a) = true → a.ctx.length = 49 →
    (∀ x, s.srs.link[n].lastNs = some x → x < a.frameNs.toNat) →
    ∃ u, exec (.activityFrame n h a) s = .next (takeActivity n a u) ∧ u = intaken n s u ∧ Published n h 1 400 s u ∧
      u.srs.link[n].expect = some (h.fseq + 1) ∧ u.srs.link[n].lastGood = some s.sys.tick ∧ u.free = s.free) ∧
  (∀ (n : Acc) (h : FrameHdr) (a : Activity) (s : State), s.srs.link[n].state = 1 ∨ s.srs.link[n].state = 2 →
    let rewound (t : State) : Prop :=
      t = intaken n s t ∧ t.srs.link[n].queue = s.srs.link[n].queue ∧ t.srs.link[n].w = s.srs.link[n].w ∧ t.out = s.out
    (frameBroken h (activityBytes a) = true → ∃ t, exec (.activityFrame n h a) s = .next t ∧ rewound t ∧
      t.srs.link[n].crcErr = min 0xFFFF (s.srs.link[n].crcErr + 1) ∧ t.srs.link[n].fmtErr = s.srs.link[n].fmtErr) ∧
    (frameBroken h (activityBytes a) = false → h.ftype ≠ 1 ∨ h.len ≠ 400 ∨ verOk s h.ver = false ∨ a.ctx.length ≠ 49 ∨
        (∃ x, s.srs.link[n].lastNs = some x ∧ a.frameNs.toNat ≤ x) →
      ∃ t, exec (.activityFrame n h a) s = .next t ∧ rewound t ∧
        t.srs.link[n].fmtErr = min 0xFFFF (s.srs.link[n].fmtErr + 1) ∧ t.srs.link[n].crcErr = s.srs.link[n].crcErr)) ∧
  (∀ (n : Acc) (h : EventHdr) (p : Bool) (q : BitVec 16) (s : State),
    goodEvents s n h { ns := h.ns, code := 5, arg := if p then 1 else 0, data := q.setWidth 32 } = true →
    ∃ u, exec (.parkDone n h p q) s = .next (forAll h.more (eventEffect n) u) ∧ u = intaken n s u ∧
      Published n h.hdr 2 (3 + 2 * h.more.length) s u ∧
      u.srs.link[n].parkedSeen = (if q = s.srs.link[n].parkSeq then some p else s.srs.link[n].parkedSeen)) ∧
  (∀ (n : Acc) (h : EventHdr) (g : Bool) (e : BitVec 16) (s : State),
    goodEvents s n h { ns := h.ns, code := 6, arg := if g then 1 else 0, data := e.setWidth 32 } = true →
    ∃ u, exec (.dsLockChange n h g e) s = .next (forAll h.more (eventEffect n) u) ∧ u = { intaken n s u with acc := u.acc } ∧
      Published n h.hdr 2 (3 + 2 * h.more.length) s u ∧ u.srs.link[n].dsLock = g ∧
      u.srs.link[n].dsLost = (s.srs.link[n].dsLost || !g) ∧
      u.acc = (if g then s.acc else s.acc.set n { s.acc[n] with forceLane := true })) ∧
  (∀ (n : Acc) (h : EventHdr) (x : BitVec 16) (k : Word) (s : State),
    goodEvents s n h { ns := h.ns, code := 7, arg := x, data := k } = true → running s = true →
    ∃ u, exec (.memEcc n h x k) s = .next (forAll h.more (eventEffect n) u) ∧ u = intaken n s u ∧
      Published n h.hdr 2 (3 + 2 * h.more.length) s u ∧
      u.srs.link[n].eccLog = (s.sys.tick, x.toNat, k.toNat) :: s.srs.link[n].eccLog) ∧
  (∀ (n : Acc) (h : EventHdr) (x : BitVec 16) (s : State),
    goodEvents s n h { ns := h.ns, code := 8, arg := x, data := 0 } = true → 2 ≤ chState s n →
    ∃ u, exec (.sensorFault n h x) s = .next (forAll h.more (eventEffect n) u) ∧
      Published n h.hdr 2 (3 + 2 * h.more.length) s u ∧ u.cool.acc[n].failed = true ∧
      u.cool.acc[n].sensorTick = some s.sys.tick ∧
      u = { intaken n s u with cool := { s.cool with acc := s.cool.acc.set n u.cool.acc[n] },
                               mbx := { s.mbx with evtDue := u.mbx.evtDue } } ∧
      (s.cool.acc[n].failed = false → HostDue u 7 ∧ Raised u 4 n.1 0xFF 0x0C0F 1))

/-- The read side of an intake queue (10 R303, R305, R307): SRS_HEAD gives the first 8 bytes of the record at RF, or all ones with
an UNDERRUN; RF moves up to W in multiples of 16, any other write counts an UNDERRUN; a pointer reset empties the queue. -/
def Obligations.IntakeReadSideRows : Prop :=
  (∀ (n : Acc) (s : State), fillOf s.srs.link[n] = 0 →
    exec (.srsHeadRead n) s = .next { s with
      out := .answer (List.replicate 8 0xFF) :: s.out,
      srs := { s.srs with link := s.srs.link.set n { s.srs.link[n] with
        underrun := min 0xFFFF (s.srs.link[n].underrun + 1) } } }) ∧
  (∀ (n : Acc) (s : State), fillOf s.srs.link[n] ≠ 0 →
    exec (.srsHeadRead n) s = .next { s with out := .answer (headBytes s.srs.link[n]) :: s.out }) ∧
  (∀ (n : Acc) (v : Word) (s : State),
    (v.toNat % 131072 % 16 ≠ 0 ∨ fillOf s.srs.link[n] < (v.toNat % 131072 + 131072 - s.srs.link[n].rf) % 131072) →
    exec (.srsRfWrite n v) s = .next { s with srs := { s.srs with link := s.srs.link.set n { s.srs.link[n] with
      underrun := min 0xFFFF (s.srs.link[n].underrun + 1) } } }) ∧
  (∀ (n : Acc) (v : Word) (s : State), v.toNat % 131072 % 16 = 0 →
    (v.toNat % 131072 + 131072 - s.srs.link[n].rf) % 131072 ≤ fillOf s.srs.link[n] →
    ∃ t, exec (.srsRfWrite n v) s = .next t ∧ t = intaken n s t ∧ t.srs.link[n].rf = v.toNat % 131072 ∧
      t.srs.link[n].w = s.srs.link[n].w ∧ t.srs.link[n].underrun = s.srs.link[n].underrun ∧ t.rcd = s.rcd) ∧
  (∀ (n : Acc) (s : State),
    ∃ t, exec (.pointerReset n) s = .next t ∧ t = intaken n s t ∧ t.srs.link[n].queue = [] ∧ t.srs.link[n].w = 0 ∧
      t.srs.link[n].rf = 0 ∧ t.srs.link[n].paused = false ∧
      t.srs.link[n].ptrResets = min 255 (s.srs.link[n].ptrResets + 1) ∧
      Raised t 7 n.1 0xFF 0x0A05 (min 255 (s.srs.link[n].ptrResets + 1)))

/-! Bring-up (04 R86; 11 R315 to R342; 16 R498 to R501). -/

/-- Boot of an accelerator in S9. BOOT_COMPLETE completes the step, confirms a trial of the image it names and makes that image the
last-known-good copy (04 R86; 16 R500, R501). BOOT_FAILED and BOOT_TIMEOUT (11 R315): the first failure records BOOT_RETRY and resets
the accelerator for a second attempt; the second makes the target S3 and reports it. ACC_RST_HOLD_END ends 1 ms of reset, and the
boot time of the second attempt counts from it (a reading: notes/assumptions/31.md). Behind the entry that a row names, the further
entries of its event frame act (`eventEffect`). -/
def Obligations.AcceleratorBootRows : Prop :=
  (∀ (n : Acc) (h : EventHdr) (arg : BitVec 16) (data : Word) (s : State),
    goodEvents s n h { ns := h.ns, code := 1, arg := arg, data := data } = true → bootAwaited s n = true →
    s.bup.acc[n].booted = false → s.crz.chan[accChan n].target = 9 → s.crz.chan[accChan n].dir ≠ 3 →
    let x := selectOf s n
    let b := accSlot s n x.active
    let f := familyOf s n
    ∃ t, exec (.bootComplete n h arg data) s = .next (forAll h.more (eventEffect n) t) ∧
      Published n h.hdr 2 (3 + 2 * h.more.length) s t ∧ t.bup.acc[n].booted = true ∧
      t.crz.chan[accChan n].stepDone = true ∧ t.crz.chan[accChan n].state = 9 ∧
      t.acc[n].xnetDrain = (s.acc[n].xnetDrain && (s.acc[n].drain.isSome || s.acc[n].decision.isSome)) ∧
      (arg.toNat = x.active → data.toNat = imgVersion b → t.bup.acc[n].trialSlot = none ∧
        (x.trial = true → ∃ i : Fin 2, t.nv.acc[n].select[i] =
          some { active := x.active, trial := false, seq := (x.seq + 1) % 2 ^ 32 }) ∧
        (imgVersion (lkgOf s f) ≠ data.toNat → lkgOf t f = b ∧ Raised t 7 9 f 0x1009 f)) ∧
      ((arg.toNat ≠ x.active ∨ data.toNat ≠ imgVersion b) → t.nv = s.nv)) ∧
  (∀ (i : Instr) (why : Nat) (more : List EventEntry) (n : Acc) (s : State), running s = true → chState s n = 9 → s.bup.acc[n].stage = 2 →
    s.bup.acc[n].booted = false → s.acc[n].rst = false →
    ((why = 2 ∧ ∃ h r, i = .bootFailed n h r ∧ more = h.more ∧
        goodEvents s n h { ns := h.ns, code := 2, arg := r, data := 0 } = true) ∨
      (why = 1 ∧ more = [] ∧ i = .bootTimeout n ∧ s.bup.acc[n].bootTick + 1000 * fld s.bup.cfg 20 12 ≤ s.sys.tick)) →
    (s.bup.acc[n].attempt < 2 → ∃ t, exec i s = .next (forAll more (eventEffect n) t) ∧ t.acc[n].rst = true ∧ t.bup.acc[n].attempt = 2 ∧
      Raised t 7 n.1 0xFF 0x0B01 why) ∧
    (2 ≤ s.bup.acc[n].attempt → ∃ t, exec i s = .next (forAll more (eventEffect n) t) ∧ t.bup.acc[n].stage = 7 ∧ t.bup.acc[n].bootFailed = true ∧
      t.crz.chan[accChan n].target = 3 ∧ HostDue t 6 ∧ Raised t 7 n.1 0xFF 0x0B01 (0x10 + why))) ∧
  (∀ (n : Acc) (s : State), s.acc[n].rst = true → s.acc[n].rstTick + 100 ≤ s.sys.tick →
    (chState s n = 9 → s.bup.acc[n].stage = 2 → s.sec.acc[n].verified = true → s.sec.acc[n].write = none →
      exec (.accRstHoldEnd n) s = .next { s with
        acc := s.acc.set n { s.acc[n] with rst := false },
        bup := { s.bup with acc := s.bup.acc.set n { s.bup.acc[n] with bootTick := s.sys.tick } } }) ∧
    (chState s n ≠ 9 → exec (.accRstHoldEnd n) s = .next (crzUp (accChan n) s)))

/-- Boot flashes (16 R498, R500, R501). BOOT_FLASH_VERIFIED notes an active slot that verifies; one that fails is recorded and, with
the family known, rewritten from the golden copy; where that fails too the boot has failed. ACC_FW_WRITE_DONE writes the slot and a
select record on trial; a write that failed leaves the select record as it was. -/
def Obligations.BootFlashRows : Prop :=
  (∀ (n : Acc) (s : State), running s = true → s.sec.acc[n].write = none → chState s n ≠ 0 → chState s n ≠ 12 →
    let k := (selectOf s n).active
    let b := accSlot s n k
    let g := goldenOf s (familyOf s n)
    (verifyAcc s n b = 1 → exec (.bootFlashVerified n) s = .next { s with
      sec := { s.sec with acc := s.sec.acc.set n { s.sec.acc[n] with
        state := 2, verified := true, version := imgVersion b, meas := imgHash b, table := imgAux b } } }) ∧
    (verifyAcc s n b ≠ 1 → s.acc[n].ident = none → ∃ t, exec (.bootFlashVerified n) s = .next t ∧
      Raised t 7 n.1 k 0x1007 (verifyAcc s n b) ∧ t.sec.acc[n].state = 4 ∧
      t = { s with rcd := t.rcd, sec := { s.sec with acc := s.sec.acc.set n { s.sec.acc[n] with state := 4 } } }) ∧
    (verifyAcc s n b ≠ 1 → s.acc[n].ident ≠ none → verifyAcc s n g = 1 → ∃ t, exec (.bootFlashVerified n) s = .next t ∧
      Raised t 7 n.1 k 0x1007 (verifyAcc s n b) ∧ Raised t 7 n.1 k 0x1008 1 ∧ HostDue t 12 ∧ accSlot t n k = g ∧
      t.sec.acc[n].verified = true ∧ t.sec.acc[n].version = imgVersion g ∧ t.crz = s.crz) ∧
    (verifyAcc s n b ≠ 1 → s.acc[n].ident ≠ none → verifyAcc s n g ≠ 1 → ∃ t, exec (.bootFlashVerified n) s = .next t ∧
      t.bup.acc[n].bootFailed = true ∧ t.bup.acc[n].stage = 7 ∧ t.sec.acc[n].state = 4 ∧
      t.crz.chan[accChan n].target = 3)) ∧
  (∀ (n : Acc) (k : Nat) (b : List Byte) (s : State), running s = true → s.sec.acc[n].writing = true →
    s.sec.acc[n].write = some (k, b) → k ≤ 1 → (selectOf s n).seq + 1 < 2 ^ 32 →
    (verifyAcc s n b = 1 → ∃ t, exec (.accFwWriteDone n true) s = .next t ∧ t.sec.acc[n].write = none ∧ accSlot t n k = b ∧
      selectOf t n = { active := k, trial := true, seq := (selectOf s n).seq + 1 } ∧ t.sec.acc[n].verified = true ∧
      t = { s with nv := { s.nv with acc := s.nv.acc.set n t.nv.acc[n] },
                   sec := { s.sec with acc := s.sec.acc.set n t.sec.acc[n] } }) ∧
    (∃ t, exec (.accFwWriteDone n false) s = .next t ∧ t.sec.acc[n].write = none ∧ t.sec.acc[n].state = 4 ∧
      t.sec.acc[n].verified = false ∧ selectOf t n = selectOf s n ∧ t.free = s.free + 1 ∧
      t = { s with free := t.free, nv := { s.nv with acc := s.nv.acc.set n t.nv.acc[n] },
                   sec := { s.sec with acc := s.sec.acc.set n t.sec.acc[n] } }))

/-- Training and the known-answer run (11 R316 to R342). TRAIN_STATUS keeps an item's result; 0xFF, or 45 s, ends training with
TRAIN_DONE and the step of S10. TEST_STATUS keeps a control failure, or that the run was seen; its end, the results of a
TEST_RESULT_FRAME and TEST_MS merge the run once no result is missing. REF_DONE, in its turn (09 R272), makes references ready and is
recorded (09 R283); FLOOR_PLAN publishes the record of each merged accelerator. -/
def Obligations.TrainingAndTestRows : Prop :=
  (∀ (n : Acc) (h : EventHdr) (arg : BitVec 16) (data : Word) (i : Fin 20) (s : State),
    goodEvents s n h { ns := h.ns, code := 3, arg := arg, data := data } = true →
    running s = true → chState s n = 10 → s.bup.acc[n].training = true → trainItem arg.toNat = some i → data.toNat < 4 →
    ∃ t, exec (.trainStatus n h arg data) s = .next (forAll h.more (eventEffect n) t) ∧
      Published n h.hdr 2 (3 + 2 * h.more.length) s t ∧
      t = { intaken n s t with bup := { s.bup with acc := s.bup.acc.set n { s.bup.acc[n] with
        items := s.bup.acc[n].items.set i (some data.toNat) } } }) ∧
  (∀ (i : Instr) (more : List EventEntry) (n : Acc) (s : State), running s = true → chState s n = 10 → s.bup.acc[n].training = true →
    s.crz.chan[accChan n].target = 10 → s.crz.chan[accChan n].dir ≠ 3 →
    ((∃ h d, i = .trainStatus n h 0xFF d ∧ more = h.more ∧
        goodEvents s n h { ns := h.ns, code := 3, arg := 0xFF, data := d } = true) ∨
      (more = [] ∧ i = .trainingTimeout n ∧ s.bup.acc[n].trainTick + 4500000 ≤ s.sys.tick)) →
    ∃ t, exec i s = .next (forAll more (eventEffect n) t) ∧ t.bup.acc[n].training = false ∧ t.crz.chan[accChan n].stepDone = true ∧
      t.crz.chan[accChan n].state = 10 ∧
      t.bup.acc[n].trainMode =
        (if s.bup.acc[n].items.toList.all fun o => o == some 0 || o == some 3 then 1 else 2) ∧
      Raised t 7 n.1 0xFF 0x0B02 t.bup.acc[n].trainMode) ∧
  (∀ (n : Acc) (h : EventHdr) (arg : BitVec 16) (data : Word) (r : TestRun) (s : State),
    goodEvents s n h { ns := h.ns, code := 4, arg := arg, data := data } = true →
    runNow s n = some r → arg.toNat = r.runId % 65536 → fld data 24 8 ≠ 0x02 → fld data 24 8 ≠ 0x20 →
    ∃ t, exec (.testStatus n h arg data) s = .next (forAll h.more (eventEffect n) t) ∧
      Published n h.hdr 2 (3 + 2 * h.more.length) s t ∧
      t = { intaken n s t with bup := { s.bup with acc := s.bup.acc.set n { s.bup.acc[n] with run := t.bup.acc[n].run } } } ∧
      t.bup.acc[n].run = some { r with
        seen := true,
        control := match controlOf (fld data 24 8) (fld data 0 24) with
          | some p => if r.control.contains p then r.control else r.control ++ [p]
          | none => r.control }) ∧
  (∀ (i : Instr) (more : List EventEntry) (n : Acc) (r r' : TestRun) (s : State), runNow s n = some r →
    ((∃ h arg d, i = .testStatus n h arg d ∧ more = h.more ∧
        goodEvents s n h { ns := h.ns, code := 4, arg := arg, data := d } = true ∧ arg.toNat = r.runId % 65536 ∧ fld d 24 8 = 0x02 ∧
        r' = { r with seen := true, done := true }) ∨
      (∃ h b, i = .testResultFrame n h b ∧ more = [] ∧ goodFrame s n h 3 (2 + 4 * b.results.length) (testBytes n b) = true ∧ testWf b = true ∧
        b.runId.toNat = r.runId ∧ r' = b.results.foldl (fun r x => addResult s n r x) r) ∨
      (i = .testTimeout n ∧ more = [] ∧ r.done = false ∧ r.start + 1000 * fld s.bup.cfg 12 8 ≤ s.sys.tick ∧
        r' = { r with seen := true, done := true })) →
    ∃ t, exec i s = .next (forAll more (eventEffect n) t) ∧ (runComplete s n r' = true → RunMerged n r' s t) ∧
      (runComplete s n r' = false → t.bup.acc[n].run = some r' ∧ t.crz = s.crz)) ∧
  (∀ s : State, s.frd.refBusy = true → mayEnd .refs s = true →
    ∃ t, exec .refDone s = .next t ∧
      t.frd = { s.frd with refBusy := false, refAgain := false, refDone := s.frd.refTotal, cur := t.frd.cur } ∧
      Raised t 7 9 4 0x0907 (if s.frd.refAgain then 1 else 0) ∧
      (∀ n : Acc, t.bup.acc[n].refWait = false ∧ (s.bup.acc[n].refWait = true → t.bup.acc[n].refReady = true)) ∧
      t.crz = s.crz) ∧
  (∀ s : State, running s = true → planDue s = true →
    ∃ t, exec .floorPlan s = .next t ∧ t.bup.fpVer = (s.bup.fpVer + 1) % 2 ^ 32 ∧ HostDue t 3 ∧
      Raised t 7 8 0xFF 0x0B07 (t.bup.fpVer % 65536) ∧
      (∀ n : Acc, t.bup.acc[n].merged = false ∧ t.bup.acc[n].dropped = false ∧
        t.bup.acc[n].plan = (if s.bup.acc[n].merged then planOf s n else
          if s.bup.acc[n].dropped then { s.bup.acc[n].plan with status := 2 } else s.bup.acc[n].plan) ∧
        (s.bup.acc[n].merged = true → s.bup.acc[n].failed = true → t.crz.chan[accChan n].target = 3) ∧
        (s.bup.acc[n].merged = true → s.bup.acc[n].failed = false → s.bup.acc[n].solo = true →
          t.crz.chan[accChan n].target = 12) ∧
        (s.bup.acc[n].merged = false → t.crz.chan[accChan n] = s.crz.chan[accChan n])))

/-! The rack (04 R117 to R127; 14 R432, R441). -/

/-- SEQSYNC (04 R117 to R121): a qualified rise in a transit state enters the next rack state, in a resting state only the line
rises; a pulse of 200 to 800 us after its high time goes on from state 1 or 8, for a follower only when armed, which otherwise holds;
a shorter one of at least 10 us is counted, one between 800 us and 1 ms holds; 1 ms of low enters state 0; the line is released once
the state's condition is met. DRAIN_DEADLINE, when no command stamped up to the deadline waits, and QUIESCE_BALLAST_CLEAR end what
rack states 9 and 10 wait for (14 R441, 07 R217; the outcome is 3 with a slot bound, else 2);
COOL_RUNDOWN ends rack state 13's run-down (12 R367). -/
def Obligations.SeqsyncRows : Prop :=
  (∀ s : State, s.rack.driving = false → transit s.rack.state = true → s.rack.detached = false → s.rack.listened = true →
    ∃ t, exec .seqsyncRise s = .next t ∧ RackEntered (nextRack s.rack.state) s t ∧ t = rackMoved s t) ∧
  (∀ s : State, s.rack.driving = false → (transit s.rack.state = false ∨ s.rack.detached = true) →
    exec .seqsyncRise s = .next { s with rack := { s.rack with line := true, highTick := s.sys.tick - 5 } }) ∧
  (∀ (us : Nat) (s : State), s.rack.driving = false → resting s = true → s.rack.detached = false → highBefore us s = true →
    (10 ≤ us → us < 200 → exec (.seqsyncPulse us) s = .next { s with rack := { s.rack with
      line := true, highTick := s.sys.tick - 5, pulse := none, badPulses := s.rack.badPulses + 1 } }) ∧
    (200 ≤ us → us ≤ 800 → s.rack.state ≠ 15 → (isLeader s = true ∨ s.rack.armed = true) →
      ∃ t, exec (.seqsyncPulse us) s = .next t ∧ RackEntered (nextRack s.rack.state) s t ∧ t = rackMoved s t) ∧
    (200 ≤ us → us ≤ 800 → s.rack.state ≠ 15 → isLeader s = false → s.rack.armed = false →
      ∃ t, exec (.seqsyncPulse us) s = .next t ∧ HoldEntered s t ∧ t.crz = s.crz) ∧
    (800 < us → us < 1000 → s.rack.state ≠ 15 →
      ∃ t, exec (.seqsyncPulse us) s = .next t ∧ HoldEntered s t ∧ t.crz = s.crz)) ∧
  (∀ s : State,
    let counts := resting s = true ∧ s.rack.detached = false ∧ (s.rack.line = true ∨ s.rack.pulse.isSome = true) ∧
      (s.rack.pulse.isSome = true ∨ s.rack.driving = false) ∧ s.rack.highTick + 200 ≤ s.sys.tick
    (counts → ∃ t, exec .seqsyncResetPulse s = .next t ∧ RackEntered 0 s t ∧ t = rackMoved s t ∧
      ∀ n : Acc, t.crz.chan[accChan n].target = 0) ∧
    (¬counts → exec .seqsyncResetPulse s = .next { s with rack := { s.rack with line := false } })) ∧
  (∀ s : State, transit s.rack.state = true → s.rack.driving = true → s.rack.stateTick + 50 ≤ s.sys.tick →
    releaseReady s = true → ¬(s.saf.bistFail = true ∧ s.rack.state = 0) →
    exec .seqsyncRelease s = .next { s with rack := { s.rack with driving := false } }) ∧
  (∀ s : State, s.rack.state = 9 → s.rack.drained = false → s.rack.deadline ≠ 0 → s.rack.deadline ≤ s.sys.tick →
    (∀ w ∈ s.rcd.merger, ∀ r, w.item = .req r → s.rack.deadline < w.stamp) →
    ∃ t, exec .drainDeadline s = .next t ∧ Raised t 7 8 0xFF 0x0E02 (if slotsBound s then 3 else 2) ∧
      t = { s with rcd := t.rcd, rack := { s.rack with deadline := 0, drained := true } }) ∧
  (∀ s : State, s.rack.state = 10 → s.rack.quiesced = false → 10 ≤ s.brm.zeroRun →
    ∃ t, exec .quiesceBallastClear s = .next t ∧ t.rack = { s.rack with quiesced := true } ∧
      ∀ n : Acc, t.crz.chan[accChan n].target = min s.crz.chan[accChan n].target 8) ∧
  (∀ (x : Nat) (s : State), s.cool.rundown = some x → x ≤ s.sys.tick →
    exec .coolRundown s = .next { s with
      cool := { s.cool with rundown := none },
      crz := { s.crz with chan := s.crz.chan.set (8 : Chan) { s.crz.chan[(8 : Chan)] with
        target := if s.rack.state = 0 then 1 else 2 } } })

/-- Announcements (04 R123, R125; 14 R432, R435): one is sent every 100 ms with this tray's state, a rising counter and its tag; one
whose tag verifies and whose counter rises is kept, and on the leader another device's announcement of slot 0 holds the rack; a
difference of more than 20 ms holds it, a leader silent for 1 s is reported, and the listening time ends in state 0, or in HOLD and
detached when another state was heard. -/
def Obligations.AnnouncementRows : Prop :=
  (∀ s : State, s.sys.tick % 10000 = 0 → running s = true → s.sec.debug ≠ 2 →
    ∃ (t : State) (a : Announce), exec .rackAnnounceTx s = .next t ∧
      t = { s with free := s.free + 1, out := .announce a ((s.net.annSeq + 1) % 2 ^ 32) :: s.out,
                   net := { s.net with annSeq := (s.net.annSeq + 1) % 2 ^ 32 } } ∧
      a.device = s.nv.serial ∧ a.slot.1 = slotNo s ∧ a.rackState = s.rack.state ∧ a.detached = s.rack.detached ∧
      a.armed = s.rack.armed ∧ a.leader = isLeader s ∧ a.tag = announceTag s a ∧
      a.ctr = BitVec.ofNat 64 (s.nv.boots * 2 ^ 32 + (s.net.annSeq + 1) % 2 ^ 32)) ∧
  (∀ (a : Announce) (s : State), running s = true → s.sec.debug ≠ 2 → announceTag s a = a.tag →
    (∀ c, s.net.annLast[a.slot] = some c → c < a.ctr) →
    (¬(isLeader s = true ∧ a.slot = 0 ∧ a.device ≠ s.nv.serial) → exec (.rackAnnounceRx a) s = .next { s with
      net := { s.net with annLast := s.net.annLast.set a.slot (some a.ctr) },
      rack := { s.rack with heard := s.rack.heard.set a.slot (some (a, s.sys.tick)),
                            heardOther := s.rack.heardOther || (!s.rack.listened && a.rackState != 0),
                            leaderLost := s.rack.leaderLost && a.slot != 0 } }) ∧
    (isLeader s = true → a.slot = 0 → a.device ≠ s.nv.serial → s.rack.state ≠ 15 →
      ∃ t, exec (.rackAnnounceRx a) s = .next t ∧ HoldEntered s t ∧ t.rack.dupLeader = true ∧ t.crz = s.crz)) ∧
  (∀ (x : Nat) (s : State), rackDiffers s = true → s.rack.differs = some x → x + 2000 < s.sys.tick →
    ∃ t, exec .rackMismatch s = .next t ∧ HoldEntered s t ∧ t.rack.mismatch = true ∧ t.crz = s.crz) ∧
  (∀ s : State, rackDiffers s = true → s.rack.differs = none →
    exec .rackMismatch s = .next { s with rack := { s.rack with differs := some s.sys.tick } }) ∧
  (∀ (x : Nat) (s : State), isLeader s = false → s.rack.detached = false → s.rack.listened = true → s.rack.leaderLost = false →
    ((∃ a, s.rack.heard[(0 : Fin 32)] = some (a, x)) ∨ (s.rack.heard[(0 : Fin 32)] = none ∧ s.rack.listenTick = some x)) →
    x + 100000 ≤ s.sys.tick →
    exec .leaderLost s = .next { s with rack := { s.rack with leaderLost := true },
                                        mbx := { s.mbx with evtDue := s.mbx.evtDue ++ [(15, s.sys.tick)] } }) ∧
  (∀ (x : Nat) (s : State), s.rack.listenTick = some x → s.rack.listened = false → x + 100000 ≤ s.sys.tick →
    (s.rack.heardOther = false → ∃ t, exec .rackListenEnd s = .next t ∧ RackEntered 0 s t ∧ t.rack.listened = true) ∧
    (s.rack.heardOther = true → s.rack.state ≠ 15 → ∃ t, exec .rackListenEnd s = .next t ∧ HoldEntered s t ∧
      t.rack.detached = true ∧ t.rack.listened = true ∧ t.crz = s.crz))

/-! Crozier (03 R64, R65; 04 R87 to R110; 05 R135). -/

/-- Steps of a channel. CRZ_STEP_START starts a held step once nothing holds it, closes the e-fuse first when leaving S0, and shows
WAITING while something holds it (04 R87, R88, R112); STAGGER_START frees the channel to go on (04 R127); EFUSE_CLOSE_TIMEOUT opens
the e-fuse again with a fault in S0 (04 R87); IDENTITY_READ takes a good block with its bin and masks, and faults the channel on a
bad one (03 R64 to R66; 11 R322); RAIL_STABLE counts a rail as stable whose input has been high for 32 us, within its window (04 R99),
and a transition of the input is kept with the declared rail's times (04 R101). -/
def Obligations.CrozierStepRows : Prop :=
  (∀ (c : Chan) (s : State), s.crz.chan[c].dir = 0 ∨ s.crz.chan[c].dir = 1 → s.crz.chan[c].stepDone = true →
    s.crz.chan[c].state < s.crz.chan[c].target → s.crz.chan[c].fault = false → s.crz.chan[c].limit = none →
    let k := s.crz.chan[c].state + 1
    (heldBy s c k = true → exec (.crzStepStart c) s = .next { s with crz := { s.crz with
      chan := s.crz.chan.set c { s.crz.chan[c] with waiting := true } } }) ∧
    (heldBy s c k = false → barred s c k = false → (c = 8 ∨ k ≠ 1 ∨ s.crz.chan[c].efuseGood = true) →
      ∃ t, exec (.crzStepStart c) s = .next t ∧ t.crz.chan[c].state = k ∧ t.crz.chan[c].chTick = s.sys.tick ∧
        t.crz.chan[c].waiting = false) ∧
    (∀ n : Acc, c = accChan n → k = 1 → heldBy s c k = false → barred s c k = false → s.crz.chan[c].efuseGood = false →
      s.crz.chan[c].efuseClose = none → exec (.crzStepStart c) s = .next { s with
        acc := s.acc.set n { s.acc[n] with efuseOn := true },
        crz := { s.crz with chan := s.crz.chan.set c { s.crz.chan[c] with
          efuseClose := some s.sys.tick, efuseOpenTick := none, dir := 1, waiting := false } } })) ∧
  (∀ (n : Acc) (x : Nat) (s : State), s.crz.chan[accChan n].stagger = some x → x ≤ s.sys.tick →
    exec (.staggerStart n) s = .next (crzTick (accChan n) { s with crz := { s.crz with
      chan := s.crz.chan.set (accChan n) { s.crz.chan[accChan n] with stagger := none } } })) ∧
  (∀ (n : Acc) (x : Nat) (s : State), s.crz.chan[accChan n].efuseClose = some x → s.crz.chan[accChan n].efuseGood = false →
    x + 2000 ≤ s.sys.tick →
    ∃ t, exec (.efuseCloseTimeout n) s = .next t ∧ t.acc = s.acc.set n { s.acc[n] with efuseOn := false } ∧
      t.crz.chan[accChan n].fault = true ∧ t.crz.chan[accChan n].target = 0 ∧ t.crz.chan[accChan n].efuseClose = none ∧
      HostDue t 6 ∧ Raised t 2 n.1 0xFF 0x209 (chState s n % 65536)) ∧
  (∀ (n : Acc) (s : State), chState s n = 1 → s.crz.chan[accChan n].stepDone = false → s.crz.chan[accChan n].dir = 1 →
    s.acc[n].ident = none → s.crz.rail[railOf n 0].stable = true →
    (∃ t, exec (.identityRead n none) s = .next t ∧ t.crz.chan[accChan n].fault = true ∧ t.acc = s.acc ∧ HostDue t 6 ∧
      Raised t 2 n.1 0xFF 0x20A 1) ∧
    (∀ x : Identity, (2 < x.binFuse.toNat ∨ 1 < x.fwFamily.toNat) →
      ∃ t, exec (.identityRead n (some x)) s = .next t ∧ t.crz.chan[accChan n].fault = true ∧
        t.acc = s.acc.set n { s.acc[n] with bin := 0xFF } ∧ HostDue t 6 ∧ Raised t 2 n.1 0xFF 0x20D 1) ∧
    (∀ x : Identity, x.binFuse.toNat ≤ 2 → x.fwFamily.toNat ≤ 1 →
      ∃ t, exec (.identityRead n (some x)) s = .next t ∧ t.acc[n].ident = some x ∧
        t.acc[n].bin = ((serialEntries s x.serial).filter fun e => e.kind == 7).foldl (fun b e => max b e.bin)
          x.binFuse.toNat ∧
        t.bup.acc[n].standing = standingOf s x ∧ t.crz.chan[accChan n].fault = s.crz.chan[accChan n].fault)) ∧
  (∀ (r : Rail) (s : State), s.crz.rail[r].stable = false → s.crz.rail[r].pg = true →
    (driven r = true → s.crz.rail[r].en = true) → stableAt s r < cyclesNow s → afterWindow s r = false →
    ∃ t, exec (.railStable r) s = .next t ∧ t.crz.rail[r].stable = true ∧ t.crz.rail[r].off = false ∧
      t.crz.rail[r].pg = true ∧ t.crz.rail[r].en = s.crz.rail[r].en) ∧
  (∀ (r : Rail) (level : Bool) (y : Fin 250) (s : State), s.crz.rail[r].pg ≠ level →
    let now := 250 * s.sys.tick + y.1
    let l := now :: s.crz.rail[r].trans.filter fun t => decide (now ≤ t + 250 * railWindow s r)
    let watched := s.crz.rail[r].en && declared s r
    (watched = false ∨ l.length < 5) → exec (.railPgChange r level y) s = .next { s with crz := { s.crz with
      rail := s.crz.rail.set r { s.crz.rail[r] with
        pg := level, pgAt := now, trans := if watched then l else s.crz.rail[r].trans } } })

/-- Faults of rails. The fifth transition within a window, a step window that ends, a stable rail whose input has been low for 32 us and
two samples outside the window are confirmed with codes 2, 1, 3 and 4 (04 R100 to R104; 05 R135). RAIL_OFF, for a rail that its samples
or its power-good input show to be off (`countsOff`), counts a disabled one as off, and one still enabled in a power-down as collapsed
(04 R92, R107). OFF_TIMEOUT opens the e-fuse of an accelerator with every enable off and S0
(04 R108), and faults the tray channel, but for NET (04 R110); EFUSE_FAULT and what TRAYFLT_N does take the tray down (04 R108, R114,
R115). -/
def Obligations.RailFaultRows : Prop :=
  (∀ (i : Instr) (r : Rail) (code detail : Nat) (s : State),
    ((∃ (level : Bool) (y : Fin 250), i = .railPgChange r level y ∧ code = 2 ∧ s.crz.rail[r].pg ≠ level ∧
        s.crz.rail[r].en = true ∧ declared s r = true ∧ 5 ≤ detail ∧
        detail = (s.crz.rail[r].trans.filter fun t =>
          decide (250 * s.sys.tick + y.1 ≤ t + 250 * railWindow s r)).length + 1) ∨
      (i = .pgTimeout r ∧ code = 1 ∧ windowOver s (chanOf r) = true ∧ detail = s.crz.chan[chanOf r].state ∧
        railState s r = detail ∧ s.crz.rail[r].stable = false ∧ s.crz.rail[r].removing = false ∧
        (s.crz.rail[r].pg = false ∨ s.crz.rail[r].en = false ∨ afterWindow s r = true)) ∨
      (i = .pgLost r ∧ code = 3 ∧ s.crz.rail[r].stable = true ∧ s.crz.rail[r].pg = false ∧ declared s r = true ∧
        (driven r = true → s.crz.rail[r].en = true) ∧ steadyAt s r < cyclesNow s ∧ detail = s.crz.chan[chanOf r].state) ∨
      (i = .window r ∧ code = 4 ∧ 2 ≤ s.sup.entry[r].outRun ∧ detail = s.crz.chan[chanOf r].state)) →
    ∃ t, exec i s = .next t ∧ RailFaulted r code detail s t) ∧
  (∀ (r : Rail) (s : State), s.crz.rail[r].off = false → countsOff s r = true →
    (s.crz.rail[r].en = false → ∃ t, exec (.railOff r) s = .next t ∧ t.crz.rail[r].off = true ∧
      t.crz.rail[r].removing = false) ∧
    (s.crz.rail[r].en = true → s.crz.chan[chanOf r].dir = 2 → ∃ t, exec (.railOff r) s = .next t ∧
      Raised t 2 (chanOf r).1 r.1 0x207 (s.crz.chan[chanOf r].state % 65536) ∧ t.crz.rail[r].en = false ∧
      t.crz.rail[r].off = true ∧ t.crz.rail[r].collapsed = true)) ∧
  (∀ (r : Rail) (s : State), s.crz.rail[r].en = false → s.crz.rail[r].off = false → s.crz.rail[r].offLate = false →
    driven r = true → s.crz.rail[r].disTick + 5000 ≤ s.sys.tick →
    ∃ t, exec (.offTimeout r) s = .next t ∧
      Raised t 2 (chanOf r).1 r.1 0x208 (s.crz.chan[chanOf r].state % 65536) ∧
      (∀ n : Acc, accOfRail r = some n → HostDue t 6 ∧ t.crz.chan[accChan n].state = 0 ∧ t.crz.chan[accChan n].fault = true ∧
        t.crz.chan[accChan n].efuseOpen = true ∧ t.acc[n].efuseOn = false ∧
        ∀ i : Fin 14, t.crz.rail[railOf n i].en = false) ∧
      (accOfRail r = none → r.1 ≠ 116 → HostDue t 6 ∧ t.crz.chan[trayChan].fault = true) ∧
      (r.1 = 116 → t.crz.chan[trayChan].fault = s.crz.chan[trayChan].fault)) ∧
  (∀ (n : Acc) (x : Nat) (s : State), s.crz.chan[accChan n].efuseOpenTick = some x → x + 10000 ≤ s.sys.tick →
    (∃ i : Fin 14, s.crz.rail[railOf n i].off = false) →
    ∃ t, exec (.efuseFault n) s = .next t ∧ Raised t 2 n.1 0xFF 0x209 (chState s n % 65536) ∧
      t.rack.trayfltDrive = true ∧ TrayDown s t)

/-! Alerts, drains and supervision (01 R18, R26; 03 R70 to R81; 05 R133 to R151; 13 R404 to R407). -/

/-- Alert inputs and drains. THERMTRIP of 1 us or more, armed, or still low when armed, and a core outside its fast window for FILTER x 200 ns are emergency
shutdowns; unarmed it is recorded, a shorter pulse counted (03 R70, R72, R552; 05 R140; 04 R106). ALERT_ARMING, VRALERT_FALL, VRALERT_RISE and HOLDOFF_END run the level-0
demand and its 1 ms holdoff (01 R18, R26). A drain that found XNET_IDLE high ends its command OK and carries its goal out, one that
did not in 5,000 ticks answers ROUTE_BUSY and waits 10 s for a decision, whose end aborts it (03 R74, R75). -/
def Obligations.AlertAndDrainRows : Prop :=
  (∀ (i : Instr) (n : Acc) (code obj : Nat) (s : State),
    ((∃ ns, i = .thermtrip n ns ∧ 1000 ≤ ns ∧ chState s n ≠ 0 ∧ s.acc[n].thermArmed = true ∧ code = 6 ∧ obj = 0xFF) ∨
      (∃ ns, i = .alertArming n (.thermtrip ns) ∧ 1000 ≤ ns ∧ chState s n ≠ 0 ∧ s.acc[n].thermArmed = false ∧
        s.crz.rail[railOf n 0].stable = true ∧ s.acc[n].auxTick + 100 ≤ s.sys.tick ∧ code = 6 ∧ obj = 0xFF) ∨
      (∃ (k : Fin 2) (w : Fin 16) (level ns : Nat), i = .coreWindow w level ns ∧ w.1 = 2 * n.1 + k.1 ∧
        s.crz.rail[coreRail n k].en = true ∧ s.crz.rail[coreRail n k].stable = true ∧
        ((level : Int) < (fastWindow s w).1 ∨ (fastWindow s w).2 < level) ∧ 200 * fld s.sup.fwc[w] 16 4 ≤ ns ∧
        code = 5 ∧ obj = (coreRail n k).1)) →
    ∃ t, exec i s = .next t ∧ EmergencyStopped n code obj s t) ∧
  (∀ (w : Fin 16) (n : Acc) (k : Fin 2) (level ns : Nat) (s : State), w.1 = 2 * n.1 + k.1 →
    (((fastWindow s w).1 ≤ level ∧ (level : Int) ≤ (fastWindow s w).2) → exec (.coreWindow w level ns) s = .next s) ∧
    (s.crz.rail[coreRail n k].en = true → s.crz.rail[coreRail n k].stable = true →
      ((level : Int) < (fastWindow s w).1 ∨ (fastWindow s w).2 < level) → ns < 200 * fld s.sup.fwc[w] 16 4 →
      exec (.coreWindow w level ns) s = .next { s with sup := { s.sup with
        entry := s.sup.entry.set (coreRail n k) { s.sup.entry[coreRail n k] with fastOut := true } } })) ∧
  (∀ (n : Acc) (ns : Nat) (s : State),
    (ns < 1000 → exec (.thermtrip n ns) s = .next { s with
      acc := s.acc.set n { s.acc[n] with thermShort := s.acc[n].thermShort + 1 } }) ∧
    (1000 ≤ ns → chState s n ≠ 0 → s.acc[n].thermArmed = false →
      ∃ t, exec (.thermtrip n ns) s = .next t ∧ Raised t 3 n.1 0xFF 0x0302 0 ∧ t = { s with rcd := t.rcd })) ∧
  (∀ (n : Acc) (s : State),
    (∀ ns, s.crz.rail[railOf n 0].stable = true → s.acc[n].thermArmed = false → s.acc[n].auxTick + 100 ≤ s.sys.tick →
      ns < 1000 → exec (.alertArming n (.thermtrip ns)) s = .next { s with
        acc := s.acc.set n { s.acc[n] with thermArmed := true } }) ∧
    ((s.crz.rail[coreRail n 0].stable = true ∨ s.crz.rail[coreRail n 1].stable = true) → s.acc[n].vrArmed = false →
      s.acc[n].coreTick + 100 ≤ s.sys.tick → exec (.alertArming n .vralert) s = .next { s with
        acc := s.acc.set n { s.acc[n] with vrArmed := true, forceL0 := s.acc[n].forceL0 || !s.acc[n].vrAlertN } }) ∧
    (s.acc[n].vrAlertN = true → chState s n ≠ 0 → ∃ t, exec (.vralertFall n) s = .next t ∧
      Raised t 3 n.1 0xFF 0x0301 (if s.acc[n].vrArmed then 1 else 3) ∧
      t = { s with rcd := t.rcd, acc := s.acc.set n (if s.acc[n].vrArmed then
        { s.acc[n] with vrAlertN := false, forceL0 := true, holdUntil := none } else
        { s.acc[n] with vrAlertN := false }) }) ∧
    (s.acc[n].vrAlertN = false → chState s n ≠ 0 → s.acc[n].vrArmed = true → ∃ t, exec (.vralertRise n) s = .next t ∧
      Raised t 3 n.1 0xFF 0x0301 0 ∧ t = { s with rcd := t.rcd, acc := s.acc.set n { s.acc[n] with
        vrAlertN := true, holdUntil := if s.acc[n].forceL0 then some (s.sys.tick + 100) else none } }) ∧
    (∀ x, s.acc[n].holdUntil = some x → x ≤ s.sys.tick →
      exec (.holdoffEnd n) s = .next { s with acc := s.acc.set n { s.acc[n] with holdUntil := none } })) ∧
  (∀ (n : Acc) (d : Drain) (s : State), s.acc[n].drain = some d → d.idle = true →
    ∃ t, exec (.drainSuccess n) s = .next t ∧ t.acc[n].drain = none ∧
      (∃ q ∈ t.rcd.replies, q.src = d.reply.src ∧ q.seq = d.reply.seq ∧ q.result = .ok) ∧
      (∀ w, d.goal = .reset w → t.acc[n].testWanted = w ∧ t.crz.chan[accChan n].target = 12) ∧
      (∀ f, d.goal = .powerOff f → t.crz.chan[accChan n].setOff = true ∧
        t.crz.chan[accChan n].target = min s.crz.chan[accChan n].target (if f then 0 else 3))) ∧
  (∀ (n : Acc) (d : Drain) (s : State), s.acc[n].drain = some d → d.idle = false → d.start + 5000 ≤ s.sys.tick →
    ∃ t, exec (.drainTimeout n) s = .next t ∧ HostDue t 9 ∧
      (∃ q ∈ t.rcd.replies, q.src = d.reply.src ∧ q.seq = d.reply.seq ∧ q.result = .routeBusy) ∧
      t = { s with rcd := t.rcd, mbx := { s.mbx with evtDue := t.mbx.evtDue }, acc := s.acc.set n { s.acc[n] with
        drain := none, decision := some (d.goal, s.sys.tick + 1000000) } }) ∧
  (∀ (n : Acc) (g : DrainFor) (x : Nat) (s : State), s.acc[n].decision = some (g, x) → x ≤ s.sys.tick →
    ∃ t, exec (.routeAbort n) s = .next t ∧ Raised t 7 n.1 0xFF 0x0303 0 ∧
      t = { s with rcd := t.rcd, acc := s.acc.set n { s.acc[n] with xnetDrain := false, decision := none } })

/-- Converters, margins, readbacks and core set-points. Two failing scans make a converter faulty and SAF_STATUS degraded, 16 passing
ones clear it (05 R133, 17 R515); a margin moves one step once its last has settled (05 R151); a readback without an answer for
three periods, or whose current is without one, is stale (05 R146); a set-point change ends when both cores read within 5 mV, and each that does not within 1 ms is
recorded (03 R81). AVSBUS_READ, once in each frame of 100 us, keeps both readbacks, the currents and the core power, and counts silence; three
silent frames fail the port; a write that is refused or damaged is repeated three times in all, a damaged answer is counted, an alert
in a good one recorded (13 R390, R404 to R407). -/
def Obligations.SupervisionRows : Prop :=
  (∀ (c : Fin 2) (s : State), s.sup.scFault[c] = false → 2 ≤ s.sup.scRun[c] →
    ∃ t, exec (.convFault c) s = .next t ∧ t.sup.scFault[c] = true ∧ t.sup.scRun[c] = 0 ∧ t.saf.degraded = true ∧
      Raised t 2 9 c.1 0x0501 1 ∧ (s.saf.degraded = false → Raised t 2 9 0xFF 0x1105 1) ∧
      t = { s with rcd := t.rcd, sup := t.sup, saf := t.saf }) ∧
  (∀ (c : Fin 2) (s : State), s.sup.scFault[c] = true → 16 ≤ s.sup.scRun[c] →
    ∃ t, exec (.convFaultClear c) s = .next t ∧ t.sup.scFault[c] = false ∧ t.sup.scFault[1 - c] = s.sup.scFault[1 - c] ∧
      t.saf.degraded = s.sup.scFault[1 - c] ∧ Raised t 2 9 c.1 0x0501 0 ∧
      t = { s with rcd := t.rcd, sup := t.sup, saf := t.saf }) ∧
  (∀ (r : Rail) (n : Acc) (s : State), accOfRail r = some n → s.sup.marginNow[r] ≠ s.sup.marginTgt[r] →
    s.sup.marginTick[r] + 100 ≤ s.sys.tick → marginSettled s r = true → s.sup.entry[r].stale = false →
    ∃ t, exec (.marginStep r) s = .next t ∧ t.sup.marginTick[r] = s.sys.tick ∧
      t.sup.marginNow[r] = (if s.sup.marginNow[r] < s.sup.marginTgt[r] then s.sup.marginNow[r] + 1
        else s.sup.marginNow[r] - 1) ∧
      Raised t 7 n.1 r.1 0x0505 (twos 16 t.sup.marginNow[r]) ∧ t.crz = s.crz ∧ t.acc = s.acc) ∧
  (∀ s : State, ∃ t, exec .readbackStale s = .next t ∧ t = { s with rcd := t.rcd, sup := { s.sup with entry := t.sup.entry } } ∧
    ∀ r : Rail, let core := r.1 % 14 = 11 ∨ r.1 % 14 = 12
      ((r.1 < 112 ∧ r.1 % 14 ≠ 8 ∧ s.sup.entry[r].stale = false ∧
          (s.sup.entry[r].readTick + (if core then 30 else 3000) < s.sys.tick ∨
            s.sup.entry[r].curTick + (if core then 30 else 3000) < s.sys.tick)) →
        t.sup.entry[r] = { s.sup.entry[r] with stale := true } ∧
        Raised t 3 (r.1 / 14) r.1 0x0504 (if core then 0 else 1)) ∧
      (¬(r.1 < 112 ∧ r.1 % 14 ≠ 8 ∧ s.sup.entry[r].stale = false ∧
          (s.sup.entry[r].readTick + (if core then 30 else 3000) < s.sys.tick ∨
            s.sup.entry[r].curTick + (if core then 30 else 3000) < s.sys.tick)) → t.sup.entry[r] = s.sup.entry[r])) ∧
  (∀ (n : Acc) (c : SetChange) (s : State), s.acc[n].change = some c →
    (coresNear s n = true → chState s n ≠ 7 → ∃ t, exec (.setpointReached n) s = .next t ∧ t.acc[n].change = none ∧
      (s.str.acc[n].park = .unparking → t.str.acc[n].park = .no) ∧
      (s.str.acc[n].park ≠ .parked → t.srs.link[n].cOpp = c.opp ∧ t.str.acc[n].fmaxBands = [c.band] ∧
        t.str.acc[n].feltCaps = [c.felt])) ∧
    (coresNear s n = false → c.start + 100 ≤ s.sys.tick → ∃ t, exec (.setpointTimeout n) s = .next t ∧
      t = { s with rcd := t.rcd } ∧ ∀ k : Fin 2, coreNear s n k = false →
        Raised t 3 n.1 (coreRail n k).1 0x0506 (twos 16 (match s.twb.avs[n].rb[k] with
          | some v => (v : Int) - s.twb.avs[n].mv[k]
          | none => -(s.twb.avs[n].mv[k] : Int))))) ∧
  (∀ (n : Acc) (a b : AvsRead) (s : State),
    (s.twb.avs[n].frame = some (s.sys.tick / 10) → exec (.avsbusRead n a b) s = .next s) ∧
    (s.twb.avs[n].frame ≠ some (s.sys.tick / 10) → a.answered = true → a.crcOk = true → b.answered = true → b.crcOk = true →
      ∃ t, exec (.avsbusRead n a b) s = .next t ∧ t.twb.avs[n].rb[(0 : Fin 2)] = some a.mv ∧
        t.twb.avs[n].rb[(1 : Fin 2)] = some b.mv ∧ t.twb.avs[n].noRun = 0 ∧ t.twb.avs[n].failed = false ∧
        t.twb.avs[n].frame = some (s.sys.tick / 10) ∧
        t.sup.entry[coreRail n 0].i = a.current.toNat * fld s.twb.avs[n].cfg 16 16 ∧
        t.sup.entry[coreRail n 1].i = b.current.toNat * fld s.twb.avs[n].cfg 16 16 ∧
        t.sup.entry[coreRail n 0].rb = some (10 * a.mv) ∧ t.sup.entry[coreRail n 1].rb = some (10 * b.mv) ∧
        t.brm.pCore[n] = toReport (((a.mv * a.current.toNat + b.mv * b.current.toNat) *
          fld s.twb.avs[n].cfg 16 16 : Nat) / 1000 : Rat) ∧ t.brm.gotA[n] = true ∧ t.crz = s.crz ∧ t.acc = s.acc) ∧
    (s.twb.avs[n].frame ≠ some (s.sys.tick / 10) → a.answered = false → b.answered = false → exec (.avsbusRead n a b) s = .next { s with
      twb := { s.twb with avs := s.twb.avs.set n { s.twb.avs[n] with
        frame := some (s.sys.tick / 10),
        noResp := min 0xFFFF (s.twb.avs[n].noResp + 1), noRun := s.twb.avs[n].noRun + 1 } } }) ∧
    (s.twb.avs[n].failed = false → 3 ≤ s.twb.avs[n].noRun → ∃ t, exec (.avsNoResp n) s = .next t ∧
      Raised t 3 n.1 (coreRail n 0).1 0x0D07 2 ∧ t = { s with rcd := t.rcd, twb := { s.twb with
        avs := s.twb.avs.set n { s.twb.avs[n] with failed := true, rb := Vector.replicate 2 none } } })) ∧
  (∀ (n : Acc) (k : Fin 2) (mv tries : Nat) (s : State), s.twb.avs[n].pend[k] = some (mv, tries) →
    (∀ r : AvsWrite, r.crcOk = true → r.accepted = true → r.alert = false →
      exec (.avsWriteResponse n k r) s = .next { s with twb := { s.twb with
        avs := s.twb.avs.set n { s.twb.avs[n] with pend := s.twb.avs[n].pend.set k none } } }) ∧
    (∀ r : AvsWrite, r.crcOk = true → r.accepted = true → r.alert = true →
      ∃ t, exec (.avsWriteResponse n k r) s = .next t ∧ Raised t 3 n.1 (coreRail n k).1 0x0503 r.status.toNat ∧
      t = { s with rcd := t.rcd, twb := { s.twb with
        avs := s.twb.avs.set n { s.twb.avs[n] with pend := s.twb.avs[n].pend.set k none } } }) ∧
    (∀ r : AvsWrite, r.crcOk = false → tries < 3 → exec (.avsWriteResponse n k r) s = .next { s with
      out := .avs n k mv :: s.out,
      twb := { s.twb with avs := s.twb.avs.set n { s.twb.avs[n] with
        crcErr := min 0xFFFF (s.twb.avs[n].crcErr + 1),
        pend := s.twb.avs[n].pend.set k (some (mv, tries + 1)) } } }) ∧
    (∀ r : AvsWrite, r.crcOk = true → r.accepted = false → r.alert = false → tries < 3 →
      exec (.avsWriteResponse n k r) s = .next { s with
        out := .avs n k mv :: s.out,
        twb := { s.twb with avs := s.twb.avs.set n { s.twb.avs[n] with
          pend := s.twb.avs[n].pend.set k (some (mv, tries + 1)) } } }) ∧
    (∀ r : AvsWrite, r.crcOk = true → r.accepted = false → 3 ≤ tries →
      ∃ t, exec (.avsWriteResponse n k r) s = .next t ∧ Raised t 3 n.1 (coreRail n k).1 0x0D07 1 ∧
      t = { s with rcd := t.rcd, twb := { s.twb with
        avs := s.twb.avs.set n { s.twb.avs[n] with pend := s.twb.avs[n].pend.set k none } } }))

/-! The two-wire ports (13 R383 to R403). -/

/-- Scheduled reads, each once in its frame (13 R386 to R391, R395). A plausible READ_PIN of an e-fuse or of the tray monitor is
Brim's reading, an implausible one counts; a failed read counts its NACK; lost arbitrations are counted and the last one kept; slot B
reads VIN, STATUS_WORD in turn or after an alert, and, while an e-fuse closes, VOUT, whose 40 V complete the close (04 R87); the tray's
slot B reads the fan-group currents (12 R359); a regulator's READ_IOUT in a burst is the rail's current. -/
def Obligations.ScheduledReadRows : Prop :=
  (∀ (n : Acc) (rd : BusRead) (s : State), s.twb.port[mainPort n].frameA = some (s.sys.tick / 10) →
    exec (.efuseReadPin n rd) s = .next s) ∧
  (∀ (n : Acc) (w : BitVec 16) (s : State), busDown s (.efuse n) = false →
    s.twb.port[mainPort n].frameA ≠ some (s.sys.tick / 10) →
    (0 ≤ linear11 w → linear11 w ≤ 10000 → exec (.efuseReadPin n (.ok w)) s = .next { s with
      twb := { s.twb with port := s.twb.port.set (mainPort n) { s.twb.port[mainPort n] with
        frameA := some (s.sys.tick / 10) } },
      brm := { s.brm with
        pMeas := s.brm.pMeas.set n (toReport (1000 * linear11 w)), gotP := s.brm.gotP.set n true,
        workHist := s.brm.workHist.set n ((s.sys.tick, toReport (1000 * linear11 w) - 1000 * (s.brm.bal[n] : Int)) ::
          s.brm.workHist[n].filter fun x => decide (s.sys.tick < x.1 + 200)) } }) ∧
    ((linear11 w < 0 ∨ 10000 < linear11 w) → exec (.efuseReadPin n (.ok w)) s = .next { s with twb := { s.twb with
      port := s.twb.port.set (mainPort n) { s.twb.port[mainPort n] with
        frameA := some (s.sys.tick / 10), pec := min 255 (s.twb.port[mainPort n].pec + 1) } } }) ∧
    (exec (.efuseReadPin n .nack) s = .next { s with twb := { s.twb with
      port := s.twb.port.set (mainPort n) { s.twb.port[mainPort n] with
        frameA := some (s.sys.tick / 10), nack := min 255 (s.twb.port[mainPort n].nack + 1) } } })) ∧
  (∀ (w : BitVec 16) (s : State), busDown s (.port 8) = false → s.twb.port[(8 : Port)].frameA ≠ some (s.sys.tick / 10) →
    0 ≤ linear11 w → linear11 w ≤ 40000 →
    (exec (.trayReadPin (.ok w)) s = .next { s with
      twb := { s.twb with port := s.twb.port.set (8 : Port) { s.twb.port[(8 : Port)] with
        frameA := some (s.sys.tick / 10) } },
      brm := { s.brm with bulk := toReport (1000 * linear11 w), gotT := true } }) ∧
    (∀ (k : Nat) (byte : Byte) (bit : BitVec 3), k ≠ 0 →
      exec (.trayReadPin (.lost k byte bit (some w))) s = .next { s with
        twb := { s.twb with port := s.twb.port.set (8 : Port) { s.twb.port[(8 : Port)] with
          frameA := some (s.sys.tick / 10), arbLost := min 255 (s.twb.port[(8 : Port)].arbLost + k),
          arb := BitVec.ofNat 32 (0x40 * 2 ^ 16 + byte.toNat * 2 ^ 8 + bit.toNat) } },
        brm := { s.brm with bulk := toReport (1000 * linear11 w), gotT := true } }) ∧
    (∀ (k : Nat) (byte : Byte) (bit : BitVec 3), k ≠ 0 →
      exec (.trayReadPin (.lost k byte bit none)) s = .next { s with
        twb := { s.twb with port := s.twb.port.set (8 : Port) { s.twb.port[(8 : Port)] with
          frameA := some (s.sys.tick / 10), arbLost := min 255 (s.twb.port[(8 : Port)].arbLost + k),
          arb := BitVec.ofNat 32 (0x40 * 2 ^ 16 + byte.toNat * 2 ^ 8 + bit.toNat) } } })) ∧
  (∀ (n : Acc) (w : BitVec 16) (s : State), busDown s (.efuse n) = false →
    s.twb.port[mainPort n].frameB ≠ some (s.sys.tick / 10) →
    (s.crz.chan[accChan n].efuseClose ≠ none → s.crz.chan[accChan n].efuseGood = false → 40 ≤ linear11 w →
      ∃ t, exec (.efuseSlotBRead n (.ok w)) s = .next t ∧ t.crz.chan[accChan n].efuseGood = true ∧
        t.crz.chan[accChan n].efuseClose = none) ∧
    (s.crz.chan[accChan n].efuseClose = none → s.twb.port[mainPort n].repeatOf = none →
      s.twb.port[mainPort n].efbAlert = false → s.sys.tick / 10 % 100 ≠ 0 →
      exec (.efuseSlotBRead n (.ok w)) s = .next { s with twb := { s.twb with
        port := s.twb.port.set (mainPort n) { s.twb.port[mainPort n] with frameB := some (s.sys.tick / 10) },
        vin := s.twb.vin.set n (some (toReport (1000 * linear11 w)).toNat) } }) ∧
    (s.crz.chan[accChan n].efuseClose = none → s.twb.port[mainPort n].repeatOf = none →
      (s.twb.port[mainPort n].efbAlert = true ∨ s.sys.tick / 10 % 100 = 0) → statusFault w = true →
      exec (.efuseSlotBRead n (.ok w)) s = .next { s with twb := { s.twb with
        port := s.twb.port.set (mainPort n) { s.twb.port[mainPort n] with
          frameB := some (s.sys.tick / 10), efbAlert := false, repeatOf := some w } } }) ∧
    (s.crz.chan[accChan n].efuseClose = none → s.twb.port[mainPort n].repeatOf = some w →
      ∃ t, exec (.efuseSlotBRead n (.ok w)) s = .next t ∧ Raised t 3 n.1 0xFF 0x0503 w.toNat ∧
        t = { s with rcd := t.rcd, out := .clearFaults (mainPort n) 0x44 :: s.out, twb := { s.twb with
          port := s.twb.port.set (mainPort n) { s.twb.port[mainPort n] with
            frameB := some (s.sys.tick / 10), repeatOf := none } } })) ∧
  (∀ (w : BitVec 16) (g : Fin 4) (s : State), busDown s (.port 8) = false → s.sys.tick / 10 % 100 = g.1 + 1 →
    s.twb.port[(8 : Port)].frameB ≠ some (s.sys.tick / 10) → 0 ≤ linear11 w → linear11 w ≤ 200 →
    exec (.traySlotBRead (.ok w)) s = .next { s with
      twb := { s.twb with port := s.twb.port.set (8 : Port) { s.twb.port[(8 : Port)] with
        frameB := some (s.sys.tick / 10) } },
      cool := { s.cool with
        groupCur := s.cool.groupCur.set g (((s.sys.tick, (toReport (1000 * linear11 w)).toNat) :: s.cool.groupCur[g]).take 301) } }) ∧
  (∀ (w : BitVec 16) (s : State), busDown s (.port 8) = false →
    s.twb.port[(8 : Port)].frameB ≠ some (s.sys.tick / 10) →
    (s.sys.tick / 10 % 100 = 0 ∨ (5 ≤ s.sys.tick / 10 % 100 ∧ s.sys.tick / 10 % 100 ≤ 8)) → statusFault w = true →
    exec (.traySlotBRead (.ok w)) s = .next { s with twb := { s.twb with
      port := s.twb.port.set (8 : Port) { s.twb.port[(8 : Port)] with frameB := some (s.sys.tick / 10) },
      trayRepeat := s.twb.trayRepeat ++
        [(if s.sys.tick / 10 % 100 = 0 then 0x40 else 0x48 + (s.sys.tick / 10 % 100 - 5), w)] } }) ∧
  (∀ (n : Acc) (i : Fin 14) (g : RegRead) (w : BitVec 16) (s : State), busDown s (.port (mainPort n)) = false →
    s.twb.port[mainPort n].burst ≠ some (s.sys.tick / 1000) → g.rail = i.1 → i.1 ≠ 8 → g.iout = .ok w →
    ∃ t, exec (.mainBusBurst n [g]) s = .next t ∧
      t.sup.entry[railOf n i].i = (toReport (1000 * linear11 w)).toNat ∧
      t.twb.port[mainPort n].burst = some (s.sys.tick / 1000) ∧
      t = { s with rcd := t.rcd, out := t.out, twb := t.twb, sup := { s.sup with entry := t.sup.entry } } ∧
      (∀ r : Rail, r ≠ railOf n i → t.sup.entry[r] = s.sup.entry[r]) ∧
      (∀ v, g.vout = .ok v → t.twb.formatFault[railOf n i] = false →
        t.sup.entry[railOf n i].rb =
          some (toReport (10000 * linear16 (t.twb.voutMode[railOf n i].getD 0) v)).toNat))

/-- Alerts and stuck buses (13 R397 to R401). An alert cycle answered by a PMBus device reads its STATUS_WORD and clears its faults,
another responder is recorded; no answer counts; a line that nothing answered, or that is low after sixteen cycles, is masked for 1 s.
SDA low for 100 us with SCL high starts the recovery: freed, the bus resumes with BUS_RECOVERED; held, SEG_STUCK is recorded once and the
isolation switch of a main bus opens; SCL low for 35 ms is a hung clock, which waits for its release; a stuck bus is tried again every
second. -/
def Obligations.TwoWireFaultRows : Prop :=
  (∀ (p : Port) (w : BitVec 16) (s : State), fldB s.twb.port[p].cfg 10 = true → s.twb.port[p].alertMasked = false →
    busDown s (.port p) = false →
    (∀ low : Bool, exec (.twbAlert p none w low) s = .next { s with twb := { s.twb with
      port := s.twb.port.set p { s.twb.port[p] with
        alertLine := true, cycles := s.twb.port[p].cycles + 1, araNack := true, nack := min 255 (s.twb.port[p].nack + 1) } } }) ∧
    (∀ (a : BitVec 7) (low : Bool), ∃ t, exec (.twbAlert p (some a) w low) s = .next t ∧
      t = { s with rcd := t.rcd, out := t.out, twb := { s.twb with port := s.twb.port.set p { s.twb.port[p] with
        alertLine := low, cycles := if low then s.twb.port[p].cycles + 1 else 0, araNack := false } } } ∧
      (∀ x, alerter p a.toNat = some x → t.out = .clearFaults p a.toNat :: s.out ∧
        (statusFault w = true → Raised t 3 x.1 x.2 0x0503 w.toNat)) ∧
      (alerter p a.toNat = none → Raised t 3 (portUnit p) p.1 0x0D06 a.toNat ∧ t.out = s.out))) ∧
  (∀ (p : Port) (x : Nat) (s : State), fldB s.twb.port[p].cfg 10 = true → s.twb.port[p].alertMasked = false →
    s.twb.port[p].alertLine = true →
    ((s.twb.port[p].araNack = true ∧ x = 1) ∨ (s.twb.port[p].araNack = false ∧ 16 ≤ s.twb.port[p].cycles ∧ x = 2)) →
    ∃ t, exec (.alertStuck p) s = .next t ∧ Raised t 3 (portUnit p) p.1 0x0D05 x ∧
      t = { s with rcd := t.rcd, twb := { s.twb with port := s.twb.port.set p { s.twb.port[p] with
        alertMasked := true, maskTick := s.sys.tick, cycles := 0, araNack := false } } }) ∧
  (∀ (p : Port) (s : State), s.twb.port[p].alertMasked = true → s.twb.port[p].maskTick + 100000 ≤ s.sys.tick →
    exec (.alertUnmask p) s = .next { s with twb := { s.twb with
      port := s.twb.port.set p { s.twb.port[p] with alertMasked := false } } }) ∧
  (∀ (n : Acc) (s : State), exec (.efbAlert n) s = .next { s with twb := { s.twb with
    port := s.twb.port.set (mainPort n) { s.twb.port[mainPort n] with efbAlert := true } } }) ∧
  (∀ (i : Instr) (b : Bus) (k : Fin 10) (s : State),
    ((i = .stuckDataLine b (.freed k) ∧ busStuck s b = false ∧ busHung s b = false ∧
        10 ≤ sdaRunOf s b) ∨
      (i = .sclReleased b (.freed k) ∧ busHung s b = true ∧ sclRunOf s b = 0) ∨
      (i = .segRetry b (.freed k) ∧ busStuck s b = true ∧ busTried s b + 100000 ≤ s.sys.tick)) →
    ∃ t, exec i s = .next t ∧ busStuck t b = false ∧ busHung t b = false ∧
      Raised t 3 (portUnit (busPort b)) (busObject b) 0x0D02 k.1 ∧ t.crz = s.crz) ∧
  (∀ (i : Instr) (b : Bus) (side : Bool) (s : State),
    ((i = .stuckDataLine b (.stuck side) ∧ busStuck s b = false ∧ busHung s b = false ∧
        10 ≤ sdaRunOf s b) ∨
      (i = .sclReleased b (.stuck side) ∧ busHung s b = true ∧ sclRunOf s b = 0) ∨
      (i = .segRetry b (.stuck side) ∧ busStuck s b = true ∧ busTried s b + 100000 ≤ s.sys.tick)) →
    ∃ t, exec i s = .next t ∧ busStuck t b = true ∧ busTried t b = s.sys.tick ∧ t.crz = s.crz ∧
      (∀ n, busAcc b = some n → t.acc = s.acc.set n { s.acc[n] with isoEn := false }) ∧
      (busStuck s b = false → Raised t 3 (portUnit (busPort b)) (busObject b) 0x0D01
        (if side = true ∧ busAcc b ≠ none then 1 else 2))) ∧
  (∀ (b : Bus) (s : State), busHung s b = false → 3500 ≤ sclRunOf s b → ∃ t, exec (.clkTimeout b) s = .next t ∧ busHung t b = true ∧
    Raised t 3 (portUnit (busPort b)) (busObject b) 0x0D03 0 ∧ t = { s with rcd := t.rcd, twb := { s.twb with
      port := s.twb.port.set (busPort b) t.twb.port[busPort b] } } ∧
    t.twb.port[busPort b].timeouts = min 255 (s.twb.port[busPort b].timeouts + 1))

/-! Steering, Brim, the Ledger and Frond (06, 07, 08, 09). -/

/-- The periodic evaluations. The steering loop of T settles the tray-wide mode and its cause (06 R190, R192) and requests an OPP of 0
to 15 for the accelerators above S8 and none below (06 R160), once, before T + 90; while a command stamped up to T waits for its release,
so does the loop (06 R157); a loop not complete by T + 90 is counted (06 R159). Brim holds the throttle at 64 and every ballast at 0 while
inactive (07 R196); with a formed P it keeps 1 to 64 of throttle, ballast within each capacity, and the upper line one tolerance above the
line (07 R203 to R209); a period without P leaves line, throttle and ballast, but for the ballast of an accelerator that is no longer
eligible (07 R200, R207); 10 such periods are blind (07 R200). -/
def Obligations.SteeringAndBrimRows : Prop :=
  (∀ (cause : Nat) (s : State), loopDue (loopTick s) s = true → reqWaits (loopTick s) s = false →
    cause = (if 5 ≤ s.rack.state.1 ∧ s.rack.state.1 ≤ 7 then 1 else if fldB s.str.ctrl 0 then 2
      else if loopTick s < s.str.recoveryEnd then 3 else 0) →
    ∃ t, exec .steeringLoop s = .next t ∧ t.str.lastLoop = loopTick s ∧ t.str.felting = decide (cause ≠ 0) ∧
      t.str.feltCause = cause ∧ t.crz = s.crz ∧ t.sys = s.sys ∧
      (s.str.felting ≠ decide (cause ≠ 0) → Raised t 7 8 0xFF 0x0601 ((if cause = 0 then 0 else 1) + 2 * cause)) ∧
      ∀ n : Acc, (chState s n < 9 → t.acc[n].oppReq = s.acc[n].oppReq) ∧
        (t.acc[n].oppReq = s.acc[n].oppReq ∨ t.acc[n].oppReq ≤ 15)) ∧
  (∀ s : State, loopDue (loopTick s) s = false → exec .steeringLoop s = .next s) ∧
  (∀ s : State, loopDue (loopTick s) s = true → reqWaits (loopTick s) s = true →
    ∃ t, exec .steeringLoop s = .next t ∧ t = { s with rcd := { s.rcd with merger := t.rcd.merger } } ∧
      ∃ w ∈ t.rcd.merger, w.item = .loop ∧ w.stamp = loopTick s) ∧
  (∀ s : State, s.sys.tick % 100 = 90 → s.str.lastLoop < s.sys.tick - 90 → s.sys.boot = .running →
    ∃ t, exec .loopOverrun s = .next t ∧ Raised t 7 8 0xFF 0x0609 ((s.sys.tick - 90) % 65536) ∧
      t = { s with rcd := t.rcd, str := { s.str with overruns := min 255 (s.str.overruns + 1) } }) ∧
  (∀ s : State, s.sys.tick % 10 = 0 → brimActive s = false →
    ∃ t, exec .brimEvaluation s = .next t ∧ t.brm.active = false ∧ t.brm.theta = 64 ∧
      t.brm.bal = Vector.replicate 8 0 ∧ t.brm.set = s.brm.set ∧ t.crz = s.crz ∧ t.rcd = s.rcd ∧
      (∀ n : Acc, t.acc[n] = { s.acc[n] with forceBrim := false })) ∧
  (∀ (p : Int) (s : State), s.sys.tick % 10 = 0 → brimActive s = true → trayPower (brimSubst (brimAge s)) = some p →
    ∃ t, exec .brimEvaluation s = .next t ∧ t.brm.active = true ∧ t.brm.trayP = p ∧ t.brm.blindRun = 0 ∧
      t.brm.formedRun = s.brm.formedRun + 1 ∧ t.brm.upper = t.brm.line + tolMw s ∧ t.brm.set = s.brm.set ∧ t.crz = s.crz ∧
      (∀ n : Acc, t.brm.bal[n] ≤ t.brm.balCap[n]) ∧
      (1 ≤ s.brm.theta → s.brm.theta ≤ 64 → 1 ≤ t.brm.theta ∧ t.brm.theta ≤ 64)) ∧
  (∀ s : State, s.sys.tick % 10 = 0 → brimActive s = true → trayPower (brimSubst (brimAge s)) = none →
    ∃ t, exec .brimEvaluation s = .next t ∧ t.brm.active = true ∧ t.brm.trayP = s.brm.trayP ∧ t.brm.formedRun = 0 ∧
      t.brm.blindRun = s.brm.blindRun + 1 ∧ t.brm.calmRun = 0 ∧
      ((∀ n : Acc, s.brm.bal[n] = 0 ∨ ballastOk s n = true) → t.brm.bal = s.brm.bal) ∧
      ((∃ n : Acc, s.brm.bal[n] ≠ 0 ∧ ballastOk s n = false) → t.brm.bal = ballastWords s (ballastMw s)) ∧ t.brm.theta = s.brm.theta ∧ t.brm.line = s.brm.line ∧
      t.crz = s.crz) ∧
  (∀ s : State, 10 ≤ s.brm.blindRun → s.brm.blind = false → s.brm.active = true →
    ∃ t, exec .brimBlind s = .next t ∧ Raised t 3 8 0xFF 0x0704 1 ∧ (∀ n : Acc, t.acc[n] = { s.acc[n] with forceBrim := true }) ∧
      t = { s with rcd := t.rcd, acc := t.acc, brm := { s.brm with blind := true, blindSeen := true } })

/-- The Ledger (08 R223 to R242). A step takes the frames stamped before it that wait on each accelerator and adds Brim's reading to its energy; a
posting closes interval j = T / 1,000 with a record in which, for each accelerator and for the tray, what is posted and the overhead
add up to the measured energy, whole microjoules of which leave the running sum; an interval is posted once, and before the step of its tick, which belongs to the
next one. -/
def Obligations.LedgerRows : Prop :=
  (∀ s : State, s.sys.tick % 10 = 0 → (s.sys.tick % 1000 ≠ 0 ∨ s.ldg.last = s.sys.tick / 1000) →
    ∃ t, exec .ledgerStep s = .next t ∧ t = { s with rcd := t.rcd, ldg := t.ldg } ∧
      t.ldg.changes = (s.ldg.changes.filter fun x => decide (s.sys.tick < x.at_)) ∧
      t.ldg.trayMeas = s.ldg.trayMeas + s.brm.trayP ∧
      ∀ n : Acc, t.ldg.acc[n].pend = (s.ldg.acc[n].pend.filter fun f => decide (s.sys.tick ≤ f.stamp)) ∧
        t.ldg.acc[n].opp = oppSeen s n ∧ t.ldg.acc[n].band = bandOf s n ∧
        t.ldg.acc[n].meas = s.ldg.acc[n].meas + (accPower s n).getD (s.brm.pCore[n] + s.brm.delta[n])) ∧
  (∀ s t : State, exec .ledgerPosting s = .next t → exec .ledgerStep s = exec .ledgerStep t) ∧
  (∀ s : State, (s.sys.tick % 1000 ≠ 0 ∨ s.ldg.last = s.sys.tick / 1000) → exec .ledgerPosting s = .next s) ∧
  (∀ s : State, s.sys.tick % 1000 = 0 → s.ldg.last ≠ s.sys.tick / 1000 →
    ∃ (t : State) (r : IntervalRec), exec .ledgerPosting s = .next t ∧
      t = { s with rcd := t.rcd, ldg := t.ldg, mbx := { s.mbx with evtDue := t.mbx.evtDue } } ∧
      t.ldg.last = s.sys.tick / 1000 ∧ t.ldg.ring = (r :: s.ldg.ring).take 16384 ∧ r.number = s.sys.tick / 1000 ∧
      r.trayE = s.ldg.trayMeas / 10 ∧ t.ldg.trayMeas = s.ldg.trayMeas - 10 * r.trayE ∧
      r.trayE = (r.accs.map (·.eMeas)).sum + r.trayOvh ∧ r.accs.length = 8 ∧
      (∀ (n : Acc) (e : IntervalAcc), r.accs[n.1]? = some e →
        e.eMeas = e.eOvh + e.eBal + e.eUnbound + ((((r.slotUj.drop (48 * n.1)).take 48).sum : Nat) : Int)) ∧
      ∀ n : Acc, t.ldg.acc[n].meas = s.ldg.acc[n].meas - 10 * (s.ldg.acc[n].meas / 10) ∧ t.ldg.acc[n].segs = [] ∧
        t.ldg.acc[n].steps = 0)

/-- Frond (09 R267 to R277; 15 R460). A launch at the slot's offset latches a capture into the run of the resident model and
takes a staged offset into force, or counts a skip while one runs; a run ends only when its turn in the order of work has come, and its end keeps the model's outputs and ends the command that waited; a reload that passes the checks seats the flash copy, one
that fails leaves the slot empty with its reason; a persisted model goes to flash, and its version bounds later ones. -/
def Obligations.FrondRows : Prop :=
  (∀ (x : Slot) (b : List Byte) (s : State), s.frd.slot[x].model = some b → s.frd.slot[x].next = none →
    s.frd.slot[x].state = 2 → (frcHeader b).period ≠ 0 → pstate s ≠ .safe → s.nv.frondEng ≠ 0 →
    s.sys.tick % (frcHeader b).period =
      fld s.frd.sched (8 * x.1) 8 % (frcHeader b).period →
    (∀ r, s.frd.slot[x].run = some r → ∃ t, exec (.frondLaunch x) s = .next t ∧
      t.frd.slot[x] = { s.frd.slot[x] with skips := min 0xFFFF (s.frd.slot[x].skips + 1), skipGen := true } ∧
      Raised t 7 9 x.1 0x0904 (min 0xFFFF (s.frd.slot[x].skips + 1)) ∧
      t = { s with rcd := t.rcd, frd := t.frd }) ∧
    (s.frd.slot[x].run = none → ∃ t r, exec (.frondLaunch x) s = .next t ∧ t.frd.slot[x].run = some r ∧
      r.launch = s.sys.tick ∧ r.reply = none ∧ r.staleIn = captureStale s b ∧
      fld t.frd.sched (8 * x.1) 8 = (s.frd.nextOffset[x].getD (fld s.frd.sched (8 * x.1) 8)) % 256 ∧
      t.frd.nextOffset = s.frd.nextOffset.set x none ∧
      t.frd.slot[x].captures = (((List.range (frcHeader b).inCount).map fun i =>
        sourceValue s s.frd.slot[x] (frcIn b (frcHeader b) i)) :: s.frd.slot[x].captures).take 16 ∧
      t = { s with frd := t.frd })) ∧
  (∀ (x : Slot) (b : List Byte) (r : FrondRun) (s : State), s.frd.slot[x].model = some b → s.frd.slot[x].run = some r →
    s.frd.slot[x].queue = [] → s.frd.slot[x].afterReset = false → s.frd.slot[x].afterUnload = none →
    (mayEnd (.slot x) s = false → exec (.frondRunDone x) s = .next s) ∧
    (mayEnd (.slot x) s = true →
    ∃ t, exec (.frondRunDone x) s = .next t ∧ t = { s with rcd := t.rcd, frd := t.frd } ∧
      t.frd.slot[x] = { s.frd.slot[x] with
        run := none, outs := (runModel b s.frd.slot[x].captures s.frd.slot[x].leaky).1, doneTick := s.sys.tick,
        staleIn := r.staleIn, clamped := (runModel b s.frd.slot[x].captures s.frd.slot[x].leaky).2.1,
        leaky := (runModel b s.frd.slot[x].captures s.frd.slot[x].leaky).2.2,
        runsGen := s.frd.slot[x].runsGen + 1 } ∧
      (∀ q, r.reply = some q → ∃ p ∈ t.rcd.replies, p.src = q.src ∧ p.seq = q.seq ∧ p.result = .ok ∧
        p.data = outputBlock t.frd.slot[x]))) ∧
  (∀ (x : Slot) (s : State), s.frd.slot[x].state = 1 ∨ s.frd.slot[x].state = 3 → s.frd.slot[x].model = none →
    (s.nv.frdFlash[x] = none → exec (.frondReloadDone x) s = .next { s with frd := { s.frd with
      slot := s.frd.slot.set x { s.frd.slot[x] with state := 0 } } }) ∧
    (∀ b, s.nv.frdFlash[x] = some b → loadReason s x b true = 0 → ∃ t, exec (.frondReloadDone x) s = .next t ∧
      t.frd.slot[x].model = some b ∧ t.frd.slot[x].state = 2 ∧ t.frd.slot[x].reject = 0 ∧ HostDue t 11 ∧
      Raised t 7 9 x.1 0x0901 ((frcHeader b).version % 65536)) ∧
    (∀ b, s.nv.frdFlash[x] = some b → loadReason s x b true ≠ 0 → ∃ t, exec (.frondReloadDone x) s = .next t ∧
      t.frd.slot[x] = { s.frd.slot[x] with state := 0, reject := loadReason s x b true } ∧ HostDue t 11 ∧
      Raised t 7 9 x.1 0x0902 (loadReason s x b true))) ∧
  (∀ (x : Slot) (b : List Byte) (s : State), s.frd.slot[x].persist = some b →
    exec (.frondPersistDone x) s = .next { s with
      frd := { s.frd with slot := s.frd.slot.set x { s.frd.slot[x] with persist := none } },
      nv := { s.nv with
        frdFlash := s.nv.frdFlash.set x (some b),
        modelMin := ((frcHeader b).modelId, max (frcHeader b).version (modelFloor s (frcHeader b).modelId)) ::
          s.nv.modelMin.filter fun p => p.1 ≠ (frcHeader b).modelId } })

/-! Cooling (12 R353 to R378). -/

/-- Fans and pumps (12 R354 to R363). The cooling loop puts the staged settings in force, keeps the outlet history and drives every
running fan at its demand, up at once and down by at most the slew, under the table or the override at once; a group is kicked in its
turn; two edges end a kick in running, 5 s without them in a stall; 1 s without an edge, and 3 s below 1,000 rpm, are stalls, or a tach
fault where the group's current did not fall; 10 s of edges end the fault; a stalled fan is kicked again after 30 s; a pump without flow
or tach hands over to the other one. -/
def Obligations.CoolingDriveRows : Prop :=
  (∀ (u s : State), s.sys.tick % 1000 = 0 → running s = true → u = takeStaged s →
    ∃ t, exec .coolingLoop s = .next t ∧ t.cool.staged = [] ∧
      t = { s with rcd := t.rcd, cool := t.cool, mbx := { s.mbx with evtDue := t.mbx.evtDue } } ∧
      t.cool.outHist = (tOut u :: s.cool.outHist).take 100 ∧ t.cool.loopDone = (tableCause u).isNone ∧
      t.cool.table = s.cool.table ∧
      ∀ f : Fan, t.cool.fan[f].state = u.cool.fan[f].state ∧
        ((u.cool.fan[f].state = 2 ∨ u.cool.fan[f].state = 3 ∨ u.cool.fan[f].state = 4) →
          t.cool.fan[f].duty = slew t u.cool.fan[f].duty (fanWant t f) (fallStep u) ∧
          (u.cool.table = false → overridden u = false → u.cool.fan[f].duty - fallStep u ≤ t.cool.fan[f].duty))) ∧
  (∀ (g : Fin 5) (x : Nat) (s : State), s.cool.fanTick = some x → s.cool.kicked = g.1 → g.1 < 4 → x + 10000 * g.1 ≤ s.sys.tick →
    ∃ t, exec (.fanGroupKick g) s = .next t ∧ t.cool.kicked = g.1 + 1 ∧
      t = { s with cool := { s.cool with fan := t.cool.fan, kicked := t.cool.kicked } } ∧
      ∀ f : Fan, (f.1 / 4 ≠ g.1 → t.cool.fan[f] = s.cool.fan[f]) ∧
        (f.1 / 4 = g.1 → fanUsed s f = true →
          t.cool.fan[f] = { s.cool.fan[f] with state := 1, duty := 100, tick := s.sys.tick, tach := {} }) ∧
        (f.1 / 4 = g.1 → fanUsed s f = false → t.cool.fan[f].state = 5)) ∧
  (∀ (f : Fan) (s : State), s.cool.fan[f].state = 1 → 2 ≤ s.cool.fan[f].tach.edges →
    ∃ t, exec (.fanKickDone f) s = .next t ∧ t.cool.fan[f].state = 2 ∧ t.cool.fan[f].stalled = false ∧
      t.cool.fan[f].rpm = s.cool.fan[f].rpm ∧ t.cool.fan[f].duty = fanWant t f ∧
      (s.cool.fan[f].stalled = true → Raised t 4 8 f.1 0x0C03 (s.cool.fan[f].rpm % 65536)) ∧
      t = { s with rcd := t.rcd, cool := { s.cool with fan := s.cool.fan.set f t.cool.fan[f] } }) ∧
  (∀ (i : Instr) (f : Fan) (d : Nat) (s : State),
    ((i = .fanKickTimeout f ∧ d = 1 ∧ s.cool.fan[f].state = 1 ∧ s.cool.fan[f].stalled = false ∧
        s.cool.fan[f].tach.edges < 2 ∧ s.cool.fan[f].tick + 500000 ≤ s.sys.tick) ∨
      (i = .fanTachLoss f ∧ d = 2 ∧ s.cool.fan[f].state = 2 ∧ 20 ≤ s.cool.fan[f].duty ∧
        tachLost s.sys.tick s.cool.fan[f].tach = true ∧
        (fldB s.cool.cfg 0 = false ∨ s.twb.port[(8 : Port)].stuck = true)) ∨
      (i = .fanSlow f ∧ d = 3 ∧ s.cool.fan[f].state = 2 ∧ 20 ≤ s.cool.fan[f].duty ∧ s.cool.fan[f].rpm < 1000 ∧
        ∃ x, s.cool.fan[f].tach.slowSince = some x ∧ x + 300000 ≤ s.sys.tick)) →
    ∃ t, exec i s = .next t ∧ t.cool.fan[f].state = 3 ∧ t.cool.fan[f].stalled = true ∧ t.cool.fan[f].tick = s.sys.tick ∧
      Raised t 4 8 f.1 0x0C02 d ∧
      t = { s with rcd := t.rcd, cool := { s.cool with fan := t.cool.fan, pump := t.cool.pump } }) ∧
  (∀ (f : Fan) (g : Fin 4) (now old k : Nat) (s : State), s.cool.fan[f].state = 2 → 20 ≤ s.cool.fan[f].duty →
    fldB s.cool.cfg 0 = true → s.twb.port[(8 : Port)].stuck = false → g.1 = f.1 / 4 →
    tachLost s.sys.tick s.cool.fan[f].tach = true → now = ((s.cool.groupCur[g].head?).map (·.2)).getD 0 →
    old = groupBefore s.cool.groupCur[g] (s.cool.fan[f].tach.edge.getD 0) →
    k = ((List.finRange 16).filter fun (y : Fan) => y.1 / 4 == g.1 &&
      (s.cool.fan[y].state == 2 || s.cool.fan[y].state == 4)).length →
    ∃ t, exec (.fanTachLoss f) s = .next t ∧
      (old ≤ 2 * k * (old - now) → t.cool.fan[f].state = 3 ∧ t.cool.fan[f].stalled = true ∧ Raised t 4 8 f.1 0x0C02 2) ∧
      (2 * k * (old - now) < old → t.cool.fan[f] = { s.cool.fan[f] with state := 4 } ∧ Raised t 4 8 f.1 0x0C04 1)) ∧
  (∀ (f : Fan) (s : State),
    (∀ x, s.cool.fan[f].state = 4 → s.cool.fan[f].tach.runSince = some x → x + 1000000 ≤ s.sys.tick →
      ∃ t, exec (.tachFaultClear f) s = .next t ∧ Raised t 4 8 f.1 0x0C04 0 ∧
      t = { s with rcd := t.rcd, cool := { s.cool with fan := s.cool.fan.set f { s.cool.fan[f] with state := 2 } } }) ∧
    (s.cool.fan[f].state = 3 → s.cool.fan[f].tick + 3000000 ≤ s.sys.tick → exec (.fanRekick f) s = .next { s with
      cool := { s.cool with fan := s.cool.fan.set f { s.cool.fan[f] with
        state := 1, duty := 100, tick := s.sys.tick, tach := {} } } })) ∧
  (∀ (p : Pump) (l : Loop) (s : State), s.cool.pump[p].state = 1 → 2 ≤ s.cool.pump[p].tach.edges → l.1 = p.1 / 2 →
    ∃ t, exec (.pumpKickDone p) s = .next t ∧ t.cool.pump[p].state = 2 ∧ t.cool.pump[p].duty = pumpWant t l ∧
      t = { s with cool := { s.cool with pump := s.cool.pump.set p t.cool.pump[p],
                                         loop := s.cool.loop.set l t.cool.loop[l] } }) ∧
  (∀ (i : Instr) (l : Loop) (d : Nat) (s : State), loopUsed s l = true → s.cool.pump[otherPump s l].state ≠ 4 →
    ((i = .flowLow l ∧ d = 1 ∧ flowLow s l = true ∧ s.cool.pump[activePump s l].state = 2 ∧
        s.cool.loop[l].switched = none) ∨
      (i = .pumpTachLoss l ∧ d = 2 ∧ ((s.cool.pump[activePump s l].state = 2 ∧ 0 < s.cool.pump[activePump s l].duty ∧
          tachLost s.sys.tick s.cool.pump[activePump s l].tach = true) ∨
        (s.cool.pump[activePump s l].state = 1 ∧ s.cool.pump[activePump s l].tach.edges < 2 ∧ s.cool.pump[activePump s l].tick + 500000 ≤ s.sys.tick)))) →
    ∃ t, exec i s = .next t ∧ activePump t l = otherPump s l ∧ t.cool.pump[activePump s l].state = 4 ∧
      t.cool.pump[activePump s l].duty = 0 ∧ t.cool.pump[otherPump s l].state = 1 ∧
      t.cool.pump[otherPump s l].duty = 100 ∧ t.cool.loop[l].switched = some s.sys.tick ∧
      Raised t 4 8 (activePump s l).1 0x0C05 d ∧
      t = { s with rcd := t.rcd, cool := { s.cool with pump := t.cool.pump, loop := t.cool.loop } })

/-- Flow, cooling established and table mode (12 R361 to R370). Flow lost 2 s after the switch, or without a second pump, forces the
accelerators of the loop to S3 with FORCEMIN_N until 10 s of flow; a sensor 50 ms out of range has failed; low pressure for 1 s is
reported; cooling established takes the tray channel from T3 to T4, with REFCLK back for 100 ms and not in HOLD, and 30 s without it is reported; the heartbeat that stops brings
table mode, and a firmware loop without a cause ends it. -/
def Obligations.FlowAndModeRows : Prop :=
  (∀ (l : Loop) (s : State), loopUsed s l = true → s.cool.loop[l].lost = false →
    ((∃ x, s.cool.loop[l].switched = some x ∧ x + 200000 ≤ s.sys.tick) ∨
      ((s.cool.pump[otherPump s l].state = 4 ∨ s.cool.pump[activePump s l].state = 4) ∧ flowLow s l = true)) →
    ∃ t, exec (.flowLost l) s = .next t ∧ t.cool.loop[l].lost = true ∧ HostDue t 7 ∧ Raised t 4 8 l.1 0x0C06 l.1 ∧
      ∀ n : Acc, (fld s.cool.loop[l].cfg 16 8).testBit n.1 = true → t.acc[n].forceSaf = true ∧
        t.crz.chan[accChan n].target = min s.crz.chan[accChan n].target 3) ∧
  (∀ (l : Loop) (x : Nat) (s : State), s.cool.loop[l].okSince = some x → s.cool.loop[l].lost = true → x + 1000000 ≤ s.sys.tick →
    ∃ t, exec (.flowHoldEnd l) s = .next t ∧ t.cool.loop[l].lost = false ∧
      (∀ n : Acc, t.acc[n] = { s.acc[n] with forceSaf := s.saf.safe || flowLostFor t n || zoneWet s n }) ∧
      t = { s with acc := t.acc, cool := { s.cool with
        loop := s.cool.loop.set l { s.cool.loop[l] with lost := false } } }) ∧
  (∀ (ch : Fin 6) (x : Nat) (s : State), s.cool.chanOut[ch] = some x → x + 5000 ≤ s.sys.tick →
    exec (.flowPressureFailed ch) s = .next { s with cool := { s.cool with
      chanFailed := s.cool.chanFailed.set ch true } }) ∧
  (∀ (l : Loop) (x : Nat) (s : State), s.cool.loop[l].pressSince = some x → s.cool.loop[l].pressLow = false →
    x + 100000 ≤ s.sys.tick →
    ∃ t, exec (.pressLow l) s = .next t ∧ HostDue t 7 ∧
      Raised t 4 8 l.1 0x0C0E ((toReport (pressOf (slowOf s l.1 13))).toNat % 65536) ∧
      t = { s with rcd := t.rcd, mbx := { s.mbx with evtDue := t.mbx.evtDue }, cool := { s.cool with
        loop := s.cool.loop.set l { s.cool.loop[l] with pressLow := true } } }) ∧
  (∀ s : State, inT3 s = true →
    ((coolReady s = false ∨ s.sys.refclkSettled = false ∨ rackHolds s = true) → exec .coolEst s = .next s) ∧
    (coolReady s = true → s.sys.refclkSettled = true → rackHolds s = false → ∃ t, exec .coolEst s = .next t ∧ Raised t 4 8 0xFF 0x0C0D 1 ∧
      t = { s with rcd := t.rcd, cool := { s.cool with est := true }, crz := { s.crz with
        chan := s.crz.chan.set trayChan { s.crz.chan[trayChan] with
          state := 4, chTick := s.sys.tick, dir := 0, waiting := false } } }) ∧
    (s.cool.estLate = false → s.cool.t3Tick + 3000000 ≤ s.sys.tick →
      ∃ t, exec .coolEstTimeout s = .next t ∧ Raised t 4 8 0xFF 0x0C0D 2 ∧
        t = { s with rcd := t.rcd, cool := { s.cool with estLate := true } })) ∧
  (∀ s : State, (∀ w ∈ s.rcd.merger, ∀ q, w.item ≠ .req q) → s.cool.hbLost = false →
    s.cool.hbTick + 100000 * fld s.cool.cfg 24 8 ≤ s.sys.tick →
    ∃ t, exec .heartbeatTimeout s = .next t ∧ t.cool.hbLost = true ∧ t.crz = s.crz ∧ t.acc = s.acc ∧
      (s.cool.table = false → s.saf.started = true → t.cool.table = true ∧ t.cool.cause = 1 ∧ HostDue t 7 ∧
        Raised t 4 8 0xFF 0x0C0C 1)) ∧
  (∀ s : State, s.cool.table = true → tableCause s = none → s.sys.fwRunning = true → s.cool.loopDone = true →
    ∃ t, exec .tableModeExit s = .next t ∧ Raised t 4 8 0xFF 0x0C0C 0 ∧
      t = { s with rcd := t.rcd, cool := { s.cool with table := false, cause := 0 } })

/-- Sensors, the critical shutdown and leaks (12 R351 to R353, R371 to R378). A thermistor 50 ms out of range has failed, 10 s in range
brings it back; on-die temperatures failed for 100 ms mean table maximum; a due refresh request is written, and tried again 10 ms after a failure; the critical vote latches
the shutdown and takes the tray down; four wet evaluations of a leak channel drain the accelerator of a zone to S0 with FORCEMIN_N, and
a tray channel, or a second wet zone, stops the pumps and takes the rack actions of RACKFLT_N. -/
def Obligations.SensorAndLeakRows : Prop :=
  (∀ (i : Fin 24) (x : Nat) (s : State),
    (s.cool.thm[i].outSince = some x → roleOf s i ≠ 0 → s.cool.thm[i].failed = false → x + 5000 ≤ s.sys.tick →
      ∃ t, exec (.thmFault i) s = .next t ∧ Raised t 4 8 i.1 0x0C07 1 ∧ t = { s with rcd := t.rcd, cool := { s.cool with
        thm := s.cool.thm.set i { s.cool.thm[i] with failed := true } } }) ∧
    (s.cool.thm[i].inSince = some x → s.cool.thm[i].failed = true → x + 1000000 ≤ s.sys.tick →
      ∃ t, exec (.thmRecover i) s = .next t ∧ Raised t 4 8 i.1 0x0C07 0 ∧ t = { s with rcd := t.rcd, cool := { s.cool with
        thm := s.cool.thm.set i { s.cool.thm[i] with failed := false } } })) ∧
  (∀ (n : Acc) (s : State),
    (s.cool.acc[n].failed = true → s.cool.acc[n].tableMax = false → s.cool.acc[n].failTick + 10000 ≤ s.sys.tick →
      exec (.onDieFault n) s = .next { s with cool := { s.cool with
        acc := s.cool.acc.set n { s.cool.acc[n] with tableMax := true } } }) ∧
    (∀ w, s.acc[n].isoEn = true → 1 ≤ chState s n → s.twb.port[mainPort n].stuck = false → s.cool.acc[n].retryTick ≤ s.sys.tick →
      (((s.cool.acc[n].refreshed = false ∨ s.cool.acc[n].refresh < refreshFor s.cool.acc[n].band) ∧
          w = refreshFor s.cool.acc[n].band) ∨
        (s.cool.acc[n].refreshed = true ∧ s.cool.acc[n].band ≤ 2 ∧ 0 < s.cool.acc[n].refresh ∧
          s.cool.acc[n].calmSince + 100000 ≤ s.sys.tick ∧ w = 0) ∨
        (s.cool.acc[n].refreshed = true ∧ s.cool.acc[n].band = 3 ∧ 1 < s.cool.acc[n].refresh ∧
          s.cool.acc[n].mildSince + 100000 ≤ s.sys.tick ∧ w = 1)) →
      exec (.refreshRequest n true) s = .next { s with
        out := .refresh n w :: s.out,
        cool := { s.cool with acc := s.cool.acc.set n { s.cool.acc[n] with refresh := w, refreshed := true } } } ∧
      exec (.refreshRequest n false) s = .next { s with
        cool := { s.cool with acc := s.cool.acc.set n { s.cool.acc[n] with retryTick := s.sys.tick + 1000 } } })) ∧
  (∀ s : State, critVote s ≠ 0 → s.cool.crit = false → s.saf.started = true →
    ∃ t, exec .critTemp s = .next t ∧ t.cool.crit = true ∧ t.rack.shdn = true ∧ t.rack.trayfltDrive = true ∧ HostDue t 8 ∧
      Raised t 1 8 0xFF 0x0C0A (critVote s) ∧ TrayDown s t) ∧
  (∀ (ohms : Vector Nat 10) (s : State), s.sys.tick % 5000 = 0 →
    ∃ t, exec (.leakEvaluation ohms) s = .next t ∧ t = { s with cool := { s.cool with leak := t.cool.leak } } ∧
      ∀ c : Fin 10, (leakUsed s c = false → t.cool.leak[c] = s.cool.leak[c]) ∧
        (leakUsed s c = true → t.cool.leak[c].res = min 0xFFF (ohms[c] / 100) ∧
          t.cool.leak[c].reading = (if ohms[c] < 5000 then 1 else if 20000 < ohms[c] then 2 else 0) ∧
          t.cool.leak[c].wetRun = (if ohms[c] < 5000 then s.cool.leak[c].wetRun + 1 else 0))) ∧
  (∀ (c : Fin 10) (s : State), leakUsed s c = true → s.cool.leak[c].confirmed = false → 4 ≤ s.cool.leak[c].wetRun →
    ∃ t, exec (.leakWet c) s = .next t ∧ t.cool.leak[c].confirmed = true ∧ t.cool.leakSeen = true ∧ HostDue t 8 ∧
      Raised t 1 8 c.1 0x0C09 (s.cool.leak[c].res % 65536) ∧
      (∀ n : Acc, c.1 = n.1 → t.cool.leak[c].latch = true ∧ t.acc[n].forceSaf = true ∧
        t.crz.chan[accChan n].target = 0) ∧
      ((8 ≤ c.1 ∨ ∃ m : Acc, m.1 ≠ c.1 ∧ zoneWet s m = true) → t.rack.rackfltDrive = true ∧ t.cool.pumpsOff = true ∧
        t.rack.detached = true ∧ t.rack.state = 11 ∧ t.crz.rail[trayRail 2].en = false ∧
        ∀ p : Pump, t.cool.pump[p].duty = 0)) ∧
  (∀ (c : Fin 10) (s : State),
    (leakUsed s c = true → s.cool.leak[c].failed = false → 31 ≤ s.cool.leak[c].openRun →
      ∃ t, exec (.leakSensor c) s = .next t ∧ Raised t 4 8 c.1 0x0C08 1 ∧ t = { s with rcd := t.rcd, cool := { s.cool with
        leak := s.cool.leak.set c { s.cool.leak[c] with failed := true } } }) ∧
    (leakUsed s c = true → s.cool.leak[c].failed = true → 201 ≤ s.cool.leak[c].dryRun →
      ∃ t, exec (.leakSensorRecover c) s = .next t ∧ Raised t 4 8 c.1 0x0C08 0 ∧ t = { s with rcd := t.rcd, cool := { s.cool with
        leak := s.cool.leak.set c { s.cool.leak[c] with failed := false } } }))

/-! SAFE, the shared fault lines, and the links (01 R16, R17; 04 R114 to R116; 17 R510 to R519; 18 R535 to R549). -/

/-- Causes of SAFE and what takes the tray down (17 R510 to R519; 04 R114, R116). Each cause latches SAFE once with its number, detached,
with every accelerator's FORCEMIN_N and a target of S0; an accelerator still above S0 a second later brings TRAYFLT_N; the shared line
TRAYFLT_N takes the tray down at once, RACKFLT_N through rack states 11 to 14 without stagger, with power state OFF; two low samples of
a ring at 0.85 V are recorded once while they last, and outputs that agree within 500 us are no divergence. -/
def Obligations.SafeAndFaultLineRows : Prop :=
  (∀ (i : Instr) (cause : Nat) (s : State), s.saf.safe = false →
    ((i = .paceLow ∧ cause = 3 ∧ s.saf.ringTwice ≠ 0 ∧ s.saf.ringLow = false) ∨
      (i = .paceLow ∧ cause = 3 ∧ s.saf.ringLow = true ∧ s.sys.paceLow = true) ∨
      (∃ d, i = .lockstepDivergence d ∧ diverges d = true ∧ cause = 1 ∧ s.saf.started = true) ∨
      (i = .islandSramError ∧ cause = 2) ∨
      (∃ x, i = .convertersBothFault ∧ cause = 5 ∧ s.saf.bothSince = some x ∧ x + 10000 ≤ s.sys.tick ∧
        ∃ n, chState s n ≠ 0)) →
    ∃ t, exec i s = .next t ∧ t.saf.safe = true ∧ t.saf.cause = cause ∧ t.saf.causeTick = s.sys.tick ∧
      t.rack.detached = true ∧ (∀ n : Acc, t.acc[n].forceSaf = true ∧ t.crz.chan[accChan n].target = 0) ∧
      Raised t 1 9 0xFF 0x1101 cause) ∧
  (∀ s : State, s.saf.ringTwice ≠ 0 → s.saf.ringLow = false →
    ∃ t, exec .paceLow s = .next t ∧ t.sys = { s.sys with paceLow := true } ∧ t.saf.ringLow = true ∧
      Raised t 1 9 0xFF 0x0101 s.saf.ringTwice.toNat) ∧
  (∀ s : State, ((s.saf.ringLow = true ∧ s.saf.safe = true) ∨ (s.saf.ringLow = false ∧ s.saf.ringTwice = 0)) →
    exec .paceLow s = .next s) ∧
  (∀ (us : Nat) (s : State), us < 500 → exec (.lockstepDivergence (.unmatched us)) s = .next s ∧
    exec (.lockstepDivergence (.silent us)) s = .next s) ∧
  (∀ (d : Divergence) (s : State), s.saf.started = true → diverges d = true →
    ∃ t, exec (.lockstepDivergence d) s = .next t ∧ t.sys = { s.sys with safOk := false }) ∧
  (∀ s : State, ∃ t, exec .islandSramError s = .next t ∧
    t.sys = { s.sys with memEccUe := true, eccUe := s.sys.eccUe + 1 } ∧ t.saf.safe = true) ∧
  (∀ s : State, s.saf.safe = true → s.rack.trayfltDrive = false → s.saf.causeTick + 100000 ≤ s.sys.tick →
    (∃ n, chState s n ≠ 0) → ∃ t, exec .safeTrayflt s = .next t ∧ t.rack.trayfltDrive = true ∧ TrayDown s t) ∧
  (∀ s : State, ∃ t, exec .trayflt s = .next t ∧ TrayDown s t ∧ t.rack.trayfltDrive = s.rack.trayfltDrive) ∧
  (∀ s : State, s.rack.rackfltDrive = false → ∃ t, exec .rackflt s = .next t ∧ t.rack.state = 11 ∧ t.rack.detached = true ∧
    t.rack.faultDetached = true ∧ t.rack.offLatch = true ∧ t.rack.fastDown = true ∧ HostDue t 8 ∧
    Raised t 1 8 0xFF 0x20C (s.crz.chan[trayChan].state % 65536) ∧
    ∀ n : Acc, t.crz.chan[accChan n].target = min s.crz.chan[accChan n].target 3)

/-- Clock, memory and external links (01 R17, R29, R551; 02 R37; 18 R535 to R549). Loss of REFCLK takes every link down and puts
LPDDR5X into self-refresh; its return lets PCIe and the lanes of channels in S2 or above train again; 100 ms later power-up steps may
start; Crozier keeps its state. PERST_N resets the CXL controller, its configuration space and MSI-X only. A configuration request is
retried until the configuration is loaded; a read then returns the class code 050210H in its place, and else what the CXL standard
leaves free (notes/assumptions/6.md). A message to a port is answered from its addresses. -/
def Obligations.ClockAndLinkRows : Prop :=
  (∀ s : State, s.sys.refclkLost = false →
    ∃ t, exec .refclkLost s = .next t ∧ t.sys = { s.sys with
        refclkLost := true, refclkWasLost := true, refclkSettled := false, memSelfRefresh := true } ∧
      (∀ n : Acc, t.srs.link[n].state = 0) ∧ t.link.rate = 0 ∧ t.link.training = false ∧ t.link.mediaReady = false ∧
      (∀ p : Fin 2, t.net.rate[p] = 0) ∧ t.crz = s.crz ∧ t.mbx = s.mbx ∧ t.nv = s.nv ∧ Raised t 1 9 0xFF 0x0102 1) ∧
  (∀ s : State, s.sys.refclkLost = true →
    ∃ t, exec .refclkReturn s = .next t ∧ t.sys = { s.sys with
        refclkLost := false, refclkTick := s.sys.tick, memSelfRefresh := false } ∧
      (∀ n : Acc, 2 ≤ chState s n → s.srs.link[n].state = 0 → t.srs.link[n].state = 1) ∧
      t.link = { s.link with mediaReady := s.sys.memTrained, training := s.link.perstN } ∧ t.crz = s.crz ∧ t.mbx = s.mbx ∧
      t.nv = s.nv ∧ Raised t 1 9 0xFF 0x0102 0) ∧
  (∀ s : State, s.sys.refclkLost = false → s.sys.refclkTick + 10000 ≤ s.sys.tick →
    exec .refclkSettled s = .next { s with sys := { s.sys with refclkSettled := true } }) ∧
  (∀ s : State, ∃ t, exec .perstNAssert s = .next t ∧ t.link.perstN = false ∧ t.link.training = false ∧ t.link.rate = 0 ∧
    t.link.config = [] ∧ t.link.ideKeys = [] ∧ t.mbx.msixEnable = false ∧ t.mbx.vecMask = 0xFFFF ∧ t.mbx.pba = 0 ∧
    t.mbx.evt = s.mbx.evt ∧ t.mbx.box = s.mbx.box ∧ t = { s with rcd := t.rcd, link := t.link, mbx := t.mbx } ∧
    (s.link.rate ≠ 0 → Raised t 7 9 0xFF 0x1202 0)) ∧
  (∀ s : State, s.link.perstN = false → exec .perstNDeassert s = .next { s with link := { s.link with
    perstN := true, training := s.sys.boot != .porst && !s.sys.refclkLost } }) ∧
  (∀ s : State, s.sys.boot ≠ .porst → exec .cxlConfigurationLoaded s = .next { s with
    link := { s.link with configLoaded := true } }) ∧
  (∀ (r : Fin 7) (w : Fin 5) (fl : Bool) (s : State), 1 ≤ r.1 → r.1 ≤ 4 → w ≠ 0 → s.link.perstN = true →
    s.sys.refclkLost = false → s.sys.boot ≠ .porst → s.link.rate = 0 →
    ∃ t, exec (.cxlLinkUp r w fl) s = .next t ∧ Raised t 7 9 0xFF 0x1202 (16 * r.1 + w.1) ∧
      t = { s with rcd := t.rcd, out := t.out, mbx := { s.mbx with pba := t.mbx.pba }, link := { s.link with
        rate := r.1, width := w.1, flit256 := fl, training := false } }) ∧
  (∀ s : State, s.link.rate ≠ 0 → ∃ t, exec .cxlLinkDown s = .next t ∧ Raised t 7 9 0xFF 0x1202 0 ∧
    t = { s with rcd := t.rcd, link := { s.link with
      rate := 0, width := 0, flit256 := false, ide := false, ideKeys := [],
      downCount := min 255 (s.link.downCount + 1), training := s.link.perstN && !s.sys.refclkLost } }) ∧
  (∀ (req : ConfigRequest) (s : State), s.link.rate ≠ 0 →
    (s.link.configLoaded = false → exec (.configurationRequest req) s = .next { s with out := .config none :: s.out }) ∧
    (s.link.configLoaded = true → ∃ t, exec (.configurationRequest req) s = .next t ∧
      (∀ o, req = .read o → t = { s with free := s.free + 1, out := t.out } ∧
        ∃ v : BitVec 32, t.out = .config (some v) :: s.out ∧ (o.toNat / 4 = 2 → v.toNat / 256 = 0x050210)) ∧
      (∀ o d, req = .write o d → t = { s with out := .config (some 0) :: s.out, link := { s.link with
        config := cellsWrite (o.toNat / 4 * 4) (leBytes 4 d.toNat) s.link.config } }) ∧
      (∀ e m, req = .msixEnable e m → t = { s with out := t.out, mbx := { s.mbx with
        msixEnable := e, msixMask := m, pba := t.mbx.pba } }) ∧
      (∀ v m, req = .vectorMask v m → t.mbx.vecMask.getLsbD v.1 = m ∧ t = { s with out := t.out, mbx := { s.mbx with
        vecMask := t.mbx.vecMask, pba := t.mbx.pba } }))) ∧
  (∀ (p : Fin 2) (s : State),
    (∀ fast : Bool, s.sys.refclkLost = false → s.sys.boot ≠ .porst → ∃ t, exec (.ethLinkUp p fast) s = .next t ∧
      t.net.rate[p] = (if fast then 2 else 1) ∧ t = { s with rcd := t.rcd, net := { s.net with
        rate := s.net.rate.set p t.net.rate[p] } } ∧
      (s.net.rate[p] ≠ t.net.rate[p] → Raised t 7 9 p.1 0x1203 t.net.rate[p])) ∧
    (∃ t, exec (.ethLinkDown p) s = .next t ∧ t.net.rate[p] = 0 ∧ (s.net.rate[p] ≠ 0 → Raised t 7 9 p.1 0x1203 0) ∧
      t = { s with rcd := t.rcd, net := { s.net with rate := s.net.rate.set p 0 } }) ∧
    (∀ (i : Instr) (m : List Byte), (i = .neighbourDiscovery p m ∨ i = .icmpv6Echo p m) → s.net.rate[p] ≠ 0 →
      exec i s = .next { s with out := .answer (Config.standardAnswer (leBytes 6 (portMac s p).toNat ++
        (portAddrs s p).flatMap (fun a => leBytes 16 a.toNat) ++ m)) :: s.out })) ∧
  (∀ (g : BitVec 6) (s : State), s.sys.memTrained = false → s.sys.boot ≠ .porst →
    exec (.lpddr5xTrained g) s = .next { s with
      sys := { s.sys with memTrained := true, memGib := g.toNat, memShort := decide (g.toNat < 4) },
      link := { s.link with mediaReady := !s.sys.memSelfRefresh } }) ∧
  (∀ (k : NetDrop) (s : State),
    (k ≠ .stopped → exec (.networkFrameDropped k) s = .next { s with net := { s.net with
      frameErr := min 255 (s.net.frameErr + 1) } }) ∧
    (k = .stopped → running s = false → exec (.networkFrameDropped k) s = .next { s with net := { s.net with
      dropped := min 255 (s.net.dropped + 1) } }) ∧
    exec .ipv6ReassemblyTimeout s = .next s) ∧
  (∀ (h : Bool) (s : State), s.link.hot = h → (h = false → 16 ≤ s.link.hotRun) → (h = true → 16 ≤ s.link.coolRun) →
    ∃ t, exec .ctrlHot s = .next t ∧ Raised t 4 9 0xFF 0x1204 (if h then 0 else 1) ∧
      t = { s with rcd := t.rcd, link := { s.link with hot := !h } })

/-! MCTP, SPDM, IDE and PLDM (13 R409, R410; 16 R477, R478, R492; 18 R541). -/

/-- The SPDM responder and IDE key management (16 R477, R478; 18 R541): the requests in their order, with the digest of the certificate
chain, its bytes from an offset, the measurements and the signature of the Alias key over the transcript; a session by key exchange on
the mailbox only, and IDE keys only within an established session. -/
def Obligations.SpdmRows : Prop :=
  (∀ (p : SpdmPath) (s : State), spdmReady p s = true →
    let x := s.sec.spdm[pathIx p]
    let v := asciiBytes "GET_VERSION"
    let c := asciiBytes "GET_CAPABILITIES"
    let n := asciiBytes "NEGOTIATE_ALGORITHMS"
    let entry : List Byte := 0x04 :: leBytes 4 Config.enterpriseId.toNat ++ leBytes 2 1
    exec (.spdmGetVersion p) s = .next { s with
      out := .answer (Config.standardAnswer v) :: s.out,
      sec := { s.sec with spdm := s.sec.spdm.set (pathIx p) { version := true, transcript := v ++ Config.standardAnswer v } } } ∧
    (x.version = true → ∃ t, exec (.spdmGetCapabilities p) s = .next t ∧ SpdmAnswered p c (Config.standardAnswer c) s t ∧
      t.sec.spdm[pathIx p].caps = true ∧ t.free = s.free) ∧
    (x.caps = true → ∃ t, exec (.spdmNegotiateAlgorithms p) s = .next t ∧
      SpdmAnswered p n (Config.standardAnswer (n ++ entry)) s t ∧ t.sec.spdm[pathIx p].algs = true ∧ t.free = s.free)) ∧
  (∀ (p : SpdmPath) (s : State), spdmReady p s = true → s.sec.spdm[pathIx p].algs = true →
    (let r := asciiBytes "GET_DIGESTS"
     ∃ t, exec (.spdmGetDigests p) s = .next t ∧
      SpdmAnswered p r (Config.standardAnswer r ++ bytes32 (Config.sha3 (certChain s))) s t) ∧
    (∀ o l : BitVec 16, let r := asciiBytes "GET_CERTIFICATE" ++ [0] ++ leBytes 2 o.toNat ++ leBytes 2 l.toNat
      ∃ t, exec (.spdmGetCertificate p 0 o l) s = .next t ∧
        SpdmAnswered p r (Config.standardAnswer r ++ slice (certChain s) o.toNat l.toNat) s t) ∧
    (∀ nonce : BitVec 256, let r := asciiBytes "CHALLENGE" ++ [0] ++ bytes32 nonce
      let b := Config.standardAnswer r ++ bytes32 (Config.sha3 (certChain s))
      ∃ t, exec (.spdmChallenge p 0 nonce) s = .next t ∧ SpdmAnswered p r (b ++ aliasSign s p r b) s t) ∧
    (∀ (ix : Byte) (nonce : BitVec 256) (sign : Bool),
      (ix = 0 ∨ ix = 0xFF ∨ (measurement s ix.toNat).isSome = true) →
      let r := asciiBytes "GET_MEASUREMENTS" ++ [ix] ++ bytes32 nonce ++ [if sign then 1 else 0]
      let b := Config.standardAnswer r ++ measured s ix.toNat
      ∃ t, exec (.spdmGetMeasurements p ix nonce sign) s = .next t ∧
        SpdmAnswered p r (b ++ if sign then aliasSign s p r b else []) s t) ∧
    (∀ (k : BitVec 256) (e : Bool), s.sec.spdm[pathIx p].session = some (k, e) →
      (e = false → ∃ t, exec (.spdmFinish p true) s = .next t ∧ t.sec.spdm[pathIx p].session = some (k, true) ∧
        SpdmAnswered p (asciiBytes "FINISH") (Config.standardAnswer (asciiBytes "FINISH")) s t) ∧
      (e = false → ∃ t, exec (.spdmFinish p false) s = .next t ∧ t.sec.spdm[pathIx p].session = none) ∧
      (e = true → ∃ t, exec (.spdmEndSession p) s = .next t ∧ t.sec.spdm[pathIx p].session = none ∧
        SpdmAnswered p (asciiBytes "END_SESSION") (Config.standardAnswer (asciiBytes "END_SESSION")) s t))) ∧
  (∀ (share : List Byte) (s : State), spdmReady .doe s = true → s.sec.spdm[(1 : Fin 2)].algs = true →
    ∃ t, exec (.spdmKeyExchange .doe share) s = .next t ∧ t.free = s.free + 1 ∧
      t.sec.spdm[(1 : Fin 2)].session = some (Config.sessionKey (Config.freeValue s.free) share, false)) ∧
  (∀ (share : List Byte) (s : State), spdmReady .mctp s = true →
    exec (.spdmKeyExchange .mctp share) s = .next { s with
      out := .answer (Config.standardAnswer (asciiBytes "ERROR")) :: s.out }) ∧
  (∀ (k : BitVec 256) (s : State), spdmReady .doe s = true → s.sec.spdm[(1 : Fin 2)].session = some (k, true) →
    let o := Out.answer (Config.standardAnswer (asciiBytes "IDE_KM")) :: s.out
    (∀ key, exec (.ideKeyManagement (.keyProg key)) s = .next { s with out := o, link := { s.link with
      ideKeys := s.link.ideKeys ++ [key] } }) ∧
    exec (.ideKeyManagement .setGo) s = .next { s with out := o, link := { s.link with ide := s.link.ideKeys != [] } } ∧
    exec (.ideKeyManagement .setStop) s = .next { s with out := o, link := { s.link with ide := false } })

/-- MCTP and PLDM (13 R409, R410; 16 R492; 18 R537): the endpoint ID, the vendor's message support, a message whose parts never come,
and the PLDM requests, each with the effect of the command it stands for; a message to the stopped cluster is dropped and counted. -/
def Obligations.MctpAndPldmRows : Prop :=
  (∀ (e : Byte) (s : State), running s = true →
    ∃ t, exec (.mctpSetEndpointId e) s = .next t ∧ Raised t 7 9 10 0x0D09 e.toNat ∧
      t = { s with rcd := t.rcd, twb := { s.twb with eid := e }, out := .answer (Config.standardAnswer [e]) :: s.out }) ∧
  (∀ s : State, running s = true → exec .getVendorDefinedMessageSupport s = .next { s with
    out := .answer (leBytes 4 Config.enterpriseId.toNat) :: s.out }) ∧
  (∀ s : State, exec .mctpReassemblyTimeout s = .next { s with
    twb := { s.twb with dropped := min 255 (s.twb.dropped + 1) },
    net := { s.net with frameErr := min 255 (s.net.frameErr + 1) } }) ∧
  (∀ (req : List Byte) (s : State), running s = true → s.twb.eid ≠ 0 →
    exec (.pldmMonitoring req) s = .next { s with out := .answer (Config.standardAnswer req) :: s.out }) ∧
  (∀ (i : Instr) (s : State), running s = false →
    ((∃ e, i = .mctpSetEndpointId e) ∨ i = .getVendorDefinedMessageSupport ∨ (∃ r, i = .pldmMonitoring r) ∨
      (∃ b, i = .pldmVerifyComplete b) ∨ (∃ b k, i = .pldmActivateFirmware b k) ∨
      (∃ b f o n d, i = .pldmFwTransfer b f o n d)) →
    exec i s = .next { s with net := { s.net with dropped := min 255 (s.net.dropped + 1) } }) ∧
  (∀ (k : Fin 3) (b : Byte) (first : Bool) (o n : Word) (d : List Byte) (c : Cmd) (s : State), running s = true →
    s.twb.eid ≠ 0 → s.nv.lc ≠ 4 → b.toNat = k.1 → c = .fwStage b (if first then 1 else 0) o n d →
    present s c = true → paramsOk s c = true → pldmReason s c = none →
    ∃ t, exec (.pldmFwTransfer b first o n d) s = .next t ∧
      t.sec = { s.sec with stage := s.sec.stage.set k {
        verified := s.sec.stage[k].verified && !first, total := n.toNat,
        data := (if first then [] else s.sec.stage[k].data) ++ d } } ∧ t.nv = s.nv ∧ t.crz = s.crz) ∧
  (∀ (k : Fin 3) (b : Byte) (s : State), running s = true → s.twb.eid ≠ 0 → s.nv.lc ≠ 4 → b.toNat = k.1 →
    present s (.fwVerify b) = true → paramsOk s (.fwVerify b) = true → pldmReason s (.fwVerify b) = none →
    stageFull s.sec.stage[k] = true → verifyImage s k.1 s.sec.stage[k].data = 1 →
    imgEpochMin s.sec.stage[k].data ≤ s.sec.committed → s.sec.committed ≤ imgEpochMax s.sec.stage[k].data →
    versionOk s k.1 s.sec.stage[k].data = true →
    ∃ t, exec (.pldmVerifyComplete b) s = .next t ∧ Raised t 7 9 k.1 0x1003 1 ∧ HostDue t 12 ∧ t.nv = s.nv ∧ t.crz = s.crz ∧
      t.sec = { s.sec with stage := s.sec.stage.set k { s.sec.stage[k] with verified := true } }) ∧
  (∀ (sl : Byte) (s : State), running s = true → s.twb.eid ≠ 0 → s.nv.lc ≠ 4 →
    present s (.fwActivate 0 sl 0) = true → paramsOk s (.fwActivate 0 sl 0) = true →
    pldmReason s (.fwActivate 0 sl 0) = none → s.sec.stage[(0 : Fin 3)].verified = true → s.sec.bootSlot ≠ sl.toNat →
    inTrial s = false → s.sec.goldenBad[(0 : Fin 3)] = false → activating s = false →
    ∃ t, exec (.pldmActivateFirmware 0 sl) s = .next t ∧ t = { s with out := t.out, sec := { s.sec with
      activate := some { slot := sl.toNat, image := s.sec.stage[(0 : Fin 3)].data, golden := false } } })

/-! What every step keeps. -/

/-- Every step that answers a next state keeps the invariant, from every state that has it: memories in canonical form, the VID_PWM
duty within 96 to 224 (18 R532), GEN_DIV at most 1,000 (14 R419). -/
def Obligations.EveryStepKeepsTheInvariant : Prop :=
  ∀ s t : State, Invariant s → step s = .next t → Invariant t

/-- The machine right after reset has the invariant. -/
def Obligations.ResetHasTheInvariant : Prop := Invariant State.reset
end

