-- ==== Sys2Proof/Laws/State.lean ====
section
/-! SUPPORT. What an update of one block leaves of the state: one lemma a field, so that no proof unfolds an update of
Machine/Ops.lean. -/

namespace Sys2Proof.Machine

open Sys2Proof

/-! `State.modStr`. -/

@[simp] theorem State.modStr_sys (f : StrState → StrState) (s : State) : (s.modStr f).sys = s.sys := rfl
@[simp] theorem State.modStr_rcd (f : StrState → StrState) (s : State) : (s.modStr f).rcd = s.rcd := rfl
@[simp] theorem State.modStr_mbx (f : StrState → StrState) (s : State) : (s.modStr f).mbx = s.mbx := rfl
@[simp] theorem State.modStr_net (f : StrState → StrState) (s : State) : (s.modStr f).net = s.net := rfl
@[simp] theorem State.modStr_twb (f : StrState → StrState) (s : State) : (s.modStr f).twb = s.twb := rfl
@[simp] theorem State.modStr_acc (f : StrState → StrState) (s : State) : (s.modStr f).acc = s.acc := rfl
@[simp] theorem State.modStr_crz (f : StrState → StrState) (s : State) : (s.modStr f).crz = s.crz := rfl
@[simp] theorem State.modStr_rack (f : StrState → StrState) (s : State) : (s.modStr f).rack = s.rack := rfl
@[simp] theorem State.modStr_sup (f : StrState → StrState) (s : State) : (s.modStr f).sup = s.sup := rfl
@[simp] theorem State.modStr_str (f : StrState → StrState) (s : State) : (s.modStr f).str = f s.str := rfl
@[simp] theorem State.modStr_brm (f : StrState → StrState) (s : State) : (s.modStr f).brm = s.brm := rfl
@[simp] theorem State.modStr_ldg (f : StrState → StrState) (s : State) : (s.modStr f).ldg = s.ldg := rfl
@[simp] theorem State.modStr_frd (f : StrState → StrState) (s : State) : (s.modStr f).frd = s.frd := rfl
@[simp] theorem State.modStr_srs (f : StrState → StrState) (s : State) : (s.modStr f).srs = s.srs := rfl
@[simp] theorem State.modStr_bup (f : StrState → StrState) (s : State) : (s.modStr f).bup = s.bup := rfl
@[simp] theorem State.modStr_cool (f : StrState → StrState) (s : State) : (s.modStr f).cool = s.cool := rfl
@[simp] theorem State.modStr_sec (f : StrState → StrState) (s : State) : (s.modStr f).sec = s.sec := rfl
@[simp] theorem State.modStr_saf (f : StrState → StrState) (s : State) : (s.modStr f).saf = s.saf := rfl
@[simp] theorem State.modStr_link (f : StrState → StrState) (s : State) : (s.modStr f).link = s.link := rfl
@[simp] theorem State.modStr_nv (f : StrState → StrState) (s : State) : (s.modStr f).nv = s.nv := rfl
@[simp] theorem State.modStr_free (f : StrState → StrState) (s : State) : (s.modStr f).free = s.free := rfl
@[simp] theorem State.modStr_out (f : StrState → StrState) (s : State) : (s.modStr f).out = s.out := rfl
@[simp] theorem State.modStr_pending (f : StrState → StrState) (s : State) : (s.modStr f).pending = s.pending := rfl

/-! `State.modBrm`. -/

@[simp] theorem State.modBrm_sys (f : BrmState → BrmState) (s : State) : (s.modBrm f).sys = s.sys := rfl
@[simp] theorem State.modBrm_rcd (f : BrmState → BrmState) (s : State) : (s.modBrm f).rcd = s.rcd := rfl
@[simp] theorem State.modBrm_mbx (f : BrmState → BrmState) (s : State) : (s.modBrm f).mbx = s.mbx := rfl
@[simp] theorem State.modBrm_net (f : BrmState → BrmState) (s : State) : (s.modBrm f).net = s.net := rfl
@[simp] theorem State.modBrm_twb (f : BrmState → BrmState) (s : State) : (s.modBrm f).twb = s.twb := rfl
@[simp] theorem State.modBrm_acc (f : BrmState → BrmState) (s : State) : (s.modBrm f).acc = s.acc := rfl
@[simp] theorem State.modBrm_crz (f : BrmState → BrmState) (s : State) : (s.modBrm f).crz = s.crz := rfl
@[simp] theorem State.modBrm_rack (f : BrmState → BrmState) (s : State) : (s.modBrm f).rack = s.rack := rfl
@[simp] theorem State.modBrm_sup (f : BrmState → BrmState) (s : State) : (s.modBrm f).sup = s.sup := rfl
@[simp] theorem State.modBrm_str (f : BrmState → BrmState) (s : State) : (s.modBrm f).str = s.str := rfl
@[simp] theorem State.modBrm_brm (f : BrmState → BrmState) (s : State) : (s.modBrm f).brm = f s.brm := rfl
@[simp] theorem State.modBrm_ldg (f : BrmState → BrmState) (s : State) : (s.modBrm f).ldg = s.ldg := rfl
@[simp] theorem State.modBrm_frd (f : BrmState → BrmState) (s : State) : (s.modBrm f).frd = s.frd := rfl
@[simp] theorem State.modBrm_srs (f : BrmState → BrmState) (s : State) : (s.modBrm f).srs = s.srs := rfl
@[simp] theorem State.modBrm_bup (f : BrmState → BrmState) (s : State) : (s.modBrm f).bup = s.bup := rfl
@[simp] theorem State.modBrm_cool (f : BrmState → BrmState) (s : State) : (s.modBrm f).cool = s.cool := rfl
@[simp] theorem State.modBrm_sec (f : BrmState → BrmState) (s : State) : (s.modBrm f).sec = s.sec := rfl
@[simp] theorem State.modBrm_saf (f : BrmState → BrmState) (s : State) : (s.modBrm f).saf = s.saf := rfl
@[simp] theorem State.modBrm_link (f : BrmState → BrmState) (s : State) : (s.modBrm f).link = s.link := rfl
@[simp] theorem State.modBrm_nv (f : BrmState → BrmState) (s : State) : (s.modBrm f).nv = s.nv := rfl
@[simp] theorem State.modBrm_free (f : BrmState → BrmState) (s : State) : (s.modBrm f).free = s.free := rfl
@[simp] theorem State.modBrm_out (f : BrmState → BrmState) (s : State) : (s.modBrm f).out = s.out := rfl
@[simp] theorem State.modBrm_pending (f : BrmState → BrmState) (s : State) : (s.modBrm f).pending = s.pending := rfl

/-! `State.modLdg`. -/

@[simp] theorem State.modLdg_sys (f : LdgState → LdgState) (s : State) : (s.modLdg f).sys = s.sys := rfl
@[simp] theorem State.modLdg_rcd (f : LdgState → LdgState) (s : State) : (s.modLdg f).rcd = s.rcd := rfl
@[simp] theorem State.modLdg_mbx (f : LdgState → LdgState) (s : State) : (s.modLdg f).mbx = s.mbx := rfl
@[simp] theorem State.modLdg_net (f : LdgState → LdgState) (s : State) : (s.modLdg f).net = s.net := rfl
@[simp] theorem State.modLdg_twb (f : LdgState → LdgState) (s : State) : (s.modLdg f).twb = s.twb := rfl
@[simp] theorem State.modLdg_acc (f : LdgState → LdgState) (s : State) : (s.modLdg f).acc = s.acc := rfl
@[simp] theorem State.modLdg_crz (f : LdgState → LdgState) (s : State) : (s.modLdg f).crz = s.crz := rfl
@[simp] theorem State.modLdg_rack (f : LdgState → LdgState) (s : State) : (s.modLdg f).rack = s.rack := rfl
@[simp] theorem State.modLdg_sup (f : LdgState → LdgState) (s : State) : (s.modLdg f).sup = s.sup := rfl
@[simp] theorem State.modLdg_str (f : LdgState → LdgState) (s : State) : (s.modLdg f).str = s.str := rfl
@[simp] theorem State.modLdg_brm (f : LdgState → LdgState) (s : State) : (s.modLdg f).brm = s.brm := rfl
@[simp] theorem State.modLdg_ldg (f : LdgState → LdgState) (s : State) : (s.modLdg f).ldg = f s.ldg := rfl
@[simp] theorem State.modLdg_frd (f : LdgState → LdgState) (s : State) : (s.modLdg f).frd = s.frd := rfl
@[simp] theorem State.modLdg_srs (f : LdgState → LdgState) (s : State) : (s.modLdg f).srs = s.srs := rfl
@[simp] theorem State.modLdg_bup (f : LdgState → LdgState) (s : State) : (s.modLdg f).bup = s.bup := rfl
@[simp] theorem State.modLdg_cool (f : LdgState → LdgState) (s : State) : (s.modLdg f).cool = s.cool := rfl
@[simp] theorem State.modLdg_sec (f : LdgState → LdgState) (s : State) : (s.modLdg f).sec = s.sec := rfl
@[simp] theorem State.modLdg_saf (f : LdgState → LdgState) (s : State) : (s.modLdg f).saf = s.saf := rfl
@[simp] theorem State.modLdg_link (f : LdgState → LdgState) (s : State) : (s.modLdg f).link = s.link := rfl
@[simp] theorem State.modLdg_nv (f : LdgState → LdgState) (s : State) : (s.modLdg f).nv = s.nv := rfl
@[simp] theorem State.modLdg_free (f : LdgState → LdgState) (s : State) : (s.modLdg f).free = s.free := rfl
@[simp] theorem State.modLdg_out (f : LdgState → LdgState) (s : State) : (s.modLdg f).out = s.out := rfl
@[simp] theorem State.modLdg_pending (f : LdgState → LdgState) (s : State) : (s.modLdg f).pending = s.pending := rfl

/-! `State.modFrd`. -/

@[simp] theorem State.modFrd_sys (f : FrdState → FrdState) (s : State) : (s.modFrd f).sys = s.sys := rfl
@[simp] theorem State.modFrd_rcd (f : FrdState → FrdState) (s : State) : (s.modFrd f).rcd = s.rcd := rfl
@[simp] theorem State.modFrd_mbx (f : FrdState → FrdState) (s : State) : (s.modFrd f).mbx = s.mbx := rfl
@[simp] theorem State.modFrd_net (f : FrdState → FrdState) (s : State) : (s.modFrd f).net = s.net := rfl
@[simp] theorem State.modFrd_twb (f : FrdState → FrdState) (s : State) : (s.modFrd f).twb = s.twb := rfl
@[simp] theorem State.modFrd_acc (f : FrdState → FrdState) (s : State) : (s.modFrd f).acc = s.acc := rfl
@[simp] theorem State.modFrd_crz (f : FrdState → FrdState) (s : State) : (s.modFrd f).crz = s.crz := rfl
@[simp] theorem State.modFrd_rack (f : FrdState → FrdState) (s : State) : (s.modFrd f).rack = s.rack := rfl
@[simp] theorem State.modFrd_sup (f : FrdState → FrdState) (s : State) : (s.modFrd f).sup = s.sup := rfl
@[simp] theorem State.modFrd_str (f : FrdState → FrdState) (s : State) : (s.modFrd f).str = s.str := rfl
@[simp] theorem State.modFrd_brm (f : FrdState → FrdState) (s : State) : (s.modFrd f).brm = s.brm := rfl
@[simp] theorem State.modFrd_ldg (f : FrdState → FrdState) (s : State) : (s.modFrd f).ldg = s.ldg := rfl
@[simp] theorem State.modFrd_frd (f : FrdState → FrdState) (s : State) : (s.modFrd f).frd = f s.frd := rfl
@[simp] theorem State.modFrd_srs (f : FrdState → FrdState) (s : State) : (s.modFrd f).srs = s.srs := rfl
@[simp] theorem State.modFrd_bup (f : FrdState → FrdState) (s : State) : (s.modFrd f).bup = s.bup := rfl
@[simp] theorem State.modFrd_cool (f : FrdState → FrdState) (s : State) : (s.modFrd f).cool = s.cool := rfl
@[simp] theorem State.modFrd_sec (f : FrdState → FrdState) (s : State) : (s.modFrd f).sec = s.sec := rfl
@[simp] theorem State.modFrd_saf (f : FrdState → FrdState) (s : State) : (s.modFrd f).saf = s.saf := rfl
@[simp] theorem State.modFrd_link (f : FrdState → FrdState) (s : State) : (s.modFrd f).link = s.link := rfl
@[simp] theorem State.modFrd_nv (f : FrdState → FrdState) (s : State) : (s.modFrd f).nv = s.nv := rfl
@[simp] theorem State.modFrd_free (f : FrdState → FrdState) (s : State) : (s.modFrd f).free = s.free := rfl
@[simp] theorem State.modFrd_out (f : FrdState → FrdState) (s : State) : (s.modFrd f).out = s.out := rfl
@[simp] theorem State.modFrd_pending (f : FrdState → FrdState) (s : State) : (s.modFrd f).pending = s.pending := rfl

/-! `State.modSrs`. -/

@[simp] theorem State.modSrs_sys (f : SrsState → SrsState) (s : State) : (s.modSrs f).sys = s.sys := rfl
@[simp] theorem State.modSrs_rcd (f : SrsState → SrsState) (s : State) : (s.modSrs f).rcd = s.rcd := rfl
@[simp] theorem State.modSrs_mbx (f : SrsState → SrsState) (s : State) : (s.modSrs f).mbx = s.mbx := rfl
@[simp] theorem State.modSrs_net (f : SrsState → SrsState) (s : State) : (s.modSrs f).net = s.net := rfl
@[simp] theorem State.modSrs_twb (f : SrsState → SrsState) (s : State) : (s.modSrs f).twb = s.twb := rfl
@[simp] theorem State.modSrs_acc (f : SrsState → SrsState) (s : State) : (s.modSrs f).acc = s.acc := rfl
@[simp] theorem State.modSrs_crz (f : SrsState → SrsState) (s : State) : (s.modSrs f).crz = s.crz := rfl
@[simp] theorem State.modSrs_rack (f : SrsState → SrsState) (s : State) : (s.modSrs f).rack = s.rack := rfl
@[simp] theorem State.modSrs_sup (f : SrsState → SrsState) (s : State) : (s.modSrs f).sup = s.sup := rfl
@[simp] theorem State.modSrs_str (f : SrsState → SrsState) (s : State) : (s.modSrs f).str = s.str := rfl
@[simp] theorem State.modSrs_brm (f : SrsState → SrsState) (s : State) : (s.modSrs f).brm = s.brm := rfl
@[simp] theorem State.modSrs_ldg (f : SrsState → SrsState) (s : State) : (s.modSrs f).ldg = s.ldg := rfl
@[simp] theorem State.modSrs_frd (f : SrsState → SrsState) (s : State) : (s.modSrs f).frd = s.frd := rfl
@[simp] theorem State.modSrs_srs (f : SrsState → SrsState) (s : State) : (s.modSrs f).srs = f s.srs := rfl
@[simp] theorem State.modSrs_bup (f : SrsState → SrsState) (s : State) : (s.modSrs f).bup = s.bup := rfl
@[simp] theorem State.modSrs_cool (f : SrsState → SrsState) (s : State) : (s.modSrs f).cool = s.cool := rfl
@[simp] theorem State.modSrs_sec (f : SrsState → SrsState) (s : State) : (s.modSrs f).sec = s.sec := rfl
@[simp] theorem State.modSrs_saf (f : SrsState → SrsState) (s : State) : (s.modSrs f).saf = s.saf := rfl
@[simp] theorem State.modSrs_link (f : SrsState → SrsState) (s : State) : (s.modSrs f).link = s.link := rfl
@[simp] theorem State.modSrs_nv (f : SrsState → SrsState) (s : State) : (s.modSrs f).nv = s.nv := rfl
@[simp] theorem State.modSrs_free (f : SrsState → SrsState) (s : State) : (s.modSrs f).free = s.free := rfl
@[simp] theorem State.modSrs_out (f : SrsState → SrsState) (s : State) : (s.modSrs f).out = s.out := rfl
@[simp] theorem State.modSrs_pending (f : SrsState → SrsState) (s : State) : (s.modSrs f).pending = s.pending := rfl

/-! `State.modBup`. -/

@[simp] theorem State.modBup_sys (f : BupState → BupState) (s : State) : (s.modBup f).sys = s.sys := rfl
@[simp] theorem State.modBup_rcd (f : BupState → BupState) (s : State) : (s.modBup f).rcd = s.rcd := rfl
@[simp] theorem State.modBup_mbx (f : BupState → BupState) (s : State) : (s.modBup f).mbx = s.mbx := rfl
@[simp] theorem State.modBup_net (f : BupState → BupState) (s : State) : (s.modBup f).net = s.net := rfl
@[simp] theorem State.modBup_twb (f : BupState → BupState) (s : State) : (s.modBup f).twb = s.twb := rfl
@[simp] theorem State.modBup_acc (f : BupState → BupState) (s : State) : (s.modBup f).acc = s.acc := rfl
@[simp] theorem State.modBup_crz (f : BupState → BupState) (s : State) : (s.modBup f).crz = s.crz := rfl
@[simp] theorem State.modBup_rack (f : BupState → BupState) (s : State) : (s.modBup f).rack = s.rack := rfl
@[simp] theorem State.modBup_sup (f : BupState → BupState) (s : State) : (s.modBup f).sup = s.sup := rfl
@[simp] theorem State.modBup_str (f : BupState → BupState) (s : State) : (s.modBup f).str = s.str := rfl
@[simp] theorem State.modBup_brm (f : BupState → BupState) (s : State) : (s.modBup f).brm = s.brm := rfl
@[simp] theorem State.modBup_ldg (f : BupState → BupState) (s : State) : (s.modBup f).ldg = s.ldg := rfl
@[simp] theorem State.modBup_frd (f : BupState → BupState) (s : State) : (s.modBup f).frd = s.frd := rfl
@[simp] theorem State.modBup_srs (f : BupState → BupState) (s : State) : (s.modBup f).srs = s.srs := rfl
@[simp] theorem State.modBup_bup (f : BupState → BupState) (s : State) : (s.modBup f).bup = f s.bup := rfl
@[simp] theorem State.modBup_cool (f : BupState → BupState) (s : State) : (s.modBup f).cool = s.cool := rfl
@[simp] theorem State.modBup_sec (f : BupState → BupState) (s : State) : (s.modBup f).sec = s.sec := rfl
@[simp] theorem State.modBup_saf (f : BupState → BupState) (s : State) : (s.modBup f).saf = s.saf := rfl
@[simp] theorem State.modBup_link (f : BupState → BupState) (s : State) : (s.modBup f).link = s.link := rfl
@[simp] theorem State.modBup_nv (f : BupState → BupState) (s : State) : (s.modBup f).nv = s.nv := rfl
@[simp] theorem State.modBup_free (f : BupState → BupState) (s : State) : (s.modBup f).free = s.free := rfl
@[simp] theorem State.modBup_out (f : BupState → BupState) (s : State) : (s.modBup f).out = s.out := rfl
@[simp] theorem State.modBup_pending (f : BupState → BupState) (s : State) : (s.modBup f).pending = s.pending := rfl

/-! `State.modCool`. -/

@[simp] theorem State.modCool_sys (f : CoolState → CoolState) (s : State) : (s.modCool f).sys = s.sys := rfl
@[simp] theorem State.modCool_rcd (f : CoolState → CoolState) (s : State) : (s.modCool f).rcd = s.rcd := rfl
@[simp] theorem State.modCool_mbx (f : CoolState → CoolState) (s : State) : (s.modCool f).mbx = s.mbx := rfl
@[simp] theorem State.modCool_net (f : CoolState → CoolState) (s : State) : (s.modCool f).net = s.net := rfl
@[simp] theorem State.modCool_twb (f : CoolState → CoolState) (s : State) : (s.modCool f).twb = s.twb := rfl
@[simp] theorem State.modCool_acc (f : CoolState → CoolState) (s : State) : (s.modCool f).acc = s.acc := rfl
@[simp] theorem State.modCool_crz (f : CoolState → CoolState) (s : State) : (s.modCool f).crz = s.crz := rfl
@[simp] theorem State.modCool_rack (f : CoolState → CoolState) (s : State) : (s.modCool f).rack = s.rack := rfl
@[simp] theorem State.modCool_sup (f : CoolState → CoolState) (s : State) : (s.modCool f).sup = s.sup := rfl
@[simp] theorem State.modCool_str (f : CoolState → CoolState) (s : State) : (s.modCool f).str = s.str := rfl
@[simp] theorem State.modCool_brm (f : CoolState → CoolState) (s : State) : (s.modCool f).brm = s.brm := rfl
@[simp] theorem State.modCool_ldg (f : CoolState → CoolState) (s : State) : (s.modCool f).ldg = s.ldg := rfl
@[simp] theorem State.modCool_frd (f : CoolState → CoolState) (s : State) : (s.modCool f).frd = s.frd := rfl
@[simp] theorem State.modCool_srs (f : CoolState → CoolState) (s : State) : (s.modCool f).srs = s.srs := rfl
@[simp] theorem State.modCool_bup (f : CoolState → CoolState) (s : State) : (s.modCool f).bup = s.bup := rfl
@[simp] theorem State.modCool_cool (f : CoolState → CoolState) (s : State) : (s.modCool f).cool = f s.cool := rfl
@[simp] theorem State.modCool_sec (f : CoolState → CoolState) (s : State) : (s.modCool f).sec = s.sec := rfl
@[simp] theorem State.modCool_saf (f : CoolState → CoolState) (s : State) : (s.modCool f).saf = s.saf := rfl
@[simp] theorem State.modCool_link (f : CoolState → CoolState) (s : State) : (s.modCool f).link = s.link := rfl
@[simp] theorem State.modCool_nv (f : CoolState → CoolState) (s : State) : (s.modCool f).nv = s.nv := rfl
@[simp] theorem State.modCool_free (f : CoolState → CoolState) (s : State) : (s.modCool f).free = s.free := rfl
@[simp] theorem State.modCool_out (f : CoolState → CoolState) (s : State) : (s.modCool f).out = s.out := rfl
@[simp] theorem State.modCool_pending (f : CoolState → CoolState) (s : State) : (s.modCool f).pending = s.pending := rfl

/-! `State.modTwb`. -/

@[simp] theorem State.modTwb_sys (f : TwbState → TwbState) (s : State) : (s.modTwb f).sys = s.sys := rfl
@[simp] theorem State.modTwb_rcd (f : TwbState → TwbState) (s : State) : (s.modTwb f).rcd = s.rcd := rfl
@[simp] theorem State.modTwb_mbx (f : TwbState → TwbState) (s : State) : (s.modTwb f).mbx = s.mbx := rfl
@[simp] theorem State.modTwb_net (f : TwbState → TwbState) (s : State) : (s.modTwb f).net = s.net := rfl
@[simp] theorem State.modTwb_twb (f : TwbState → TwbState) (s : State) : (s.modTwb f).twb = f s.twb := rfl
@[simp] theorem State.modTwb_acc (f : TwbState → TwbState) (s : State) : (s.modTwb f).acc = s.acc := rfl
@[simp] theorem State.modTwb_crz (f : TwbState → TwbState) (s : State) : (s.modTwb f).crz = s.crz := rfl
@[simp] theorem State.modTwb_rack (f : TwbState → TwbState) (s : State) : (s.modTwb f).rack = s.rack := rfl
@[simp] theorem State.modTwb_sup (f : TwbState → TwbState) (s : State) : (s.modTwb f).sup = s.sup := rfl
@[simp] theorem State.modTwb_str (f : TwbState → TwbState) (s : State) : (s.modTwb f).str = s.str := rfl
@[simp] theorem State.modTwb_brm (f : TwbState → TwbState) (s : State) : (s.modTwb f).brm = s.brm := rfl
@[simp] theorem State.modTwb_ldg (f : TwbState → TwbState) (s : State) : (s.modTwb f).ldg = s.ldg := rfl
@[simp] theorem State.modTwb_frd (f : TwbState → TwbState) (s : State) : (s.modTwb f).frd = s.frd := rfl
@[simp] theorem State.modTwb_srs (f : TwbState → TwbState) (s : State) : (s.modTwb f).srs = s.srs := rfl
@[simp] theorem State.modTwb_bup (f : TwbState → TwbState) (s : State) : (s.modTwb f).bup = s.bup := rfl
@[simp] theorem State.modTwb_cool (f : TwbState → TwbState) (s : State) : (s.modTwb f).cool = s.cool := rfl
@[simp] theorem State.modTwb_sec (f : TwbState → TwbState) (s : State) : (s.modTwb f).sec = s.sec := rfl
@[simp] theorem State.modTwb_saf (f : TwbState → TwbState) (s : State) : (s.modTwb f).saf = s.saf := rfl
@[simp] theorem State.modTwb_link (f : TwbState → TwbState) (s : State) : (s.modTwb f).link = s.link := rfl
@[simp] theorem State.modTwb_nv (f : TwbState → TwbState) (s : State) : (s.modTwb f).nv = s.nv := rfl
@[simp] theorem State.modTwb_free (f : TwbState → TwbState) (s : State) : (s.modTwb f).free = s.free := rfl
@[simp] theorem State.modTwb_out (f : TwbState → TwbState) (s : State) : (s.modTwb f).out = s.out := rfl
@[simp] theorem State.modTwb_pending (f : TwbState → TwbState) (s : State) : (s.modTwb f).pending = s.pending := rfl

/-! `State.modCrz`. -/

@[simp] theorem State.modCrz_sys (f : CrzState → CrzState) (s : State) : (s.modCrz f).sys = s.sys := rfl
@[simp] theorem State.modCrz_rcd (f : CrzState → CrzState) (s : State) : (s.modCrz f).rcd = s.rcd := rfl
@[simp] theorem State.modCrz_mbx (f : CrzState → CrzState) (s : State) : (s.modCrz f).mbx = s.mbx := rfl
@[simp] theorem State.modCrz_net (f : CrzState → CrzState) (s : State) : (s.modCrz f).net = s.net := rfl
@[simp] theorem State.modCrz_twb (f : CrzState → CrzState) (s : State) : (s.modCrz f).twb = s.twb := rfl
@[simp] theorem State.modCrz_acc (f : CrzState → CrzState) (s : State) : (s.modCrz f).acc = s.acc := rfl
@[simp] theorem State.modCrz_crz (f : CrzState → CrzState) (s : State) : (s.modCrz f).crz = f s.crz := rfl
@[simp] theorem State.modCrz_rack (f : CrzState → CrzState) (s : State) : (s.modCrz f).rack = s.rack := rfl
@[simp] theorem State.modCrz_sup (f : CrzState → CrzState) (s : State) : (s.modCrz f).sup = s.sup := rfl
@[simp] theorem State.modCrz_str (f : CrzState → CrzState) (s : State) : (s.modCrz f).str = s.str := rfl
@[simp] theorem State.modCrz_brm (f : CrzState → CrzState) (s : State) : (s.modCrz f).brm = s.brm := rfl
@[simp] theorem State.modCrz_ldg (f : CrzState → CrzState) (s : State) : (s.modCrz f).ldg = s.ldg := rfl
@[simp] theorem State.modCrz_frd (f : CrzState → CrzState) (s : State) : (s.modCrz f).frd = s.frd := rfl
@[simp] theorem State.modCrz_srs (f : CrzState → CrzState) (s : State) : (s.modCrz f).srs = s.srs := rfl
@[simp] theorem State.modCrz_bup (f : CrzState → CrzState) (s : State) : (s.modCrz f).bup = s.bup := rfl
@[simp] theorem State.modCrz_cool (f : CrzState → CrzState) (s : State) : (s.modCrz f).cool = s.cool := rfl
@[simp] theorem State.modCrz_sec (f : CrzState → CrzState) (s : State) : (s.modCrz f).sec = s.sec := rfl
@[simp] theorem State.modCrz_saf (f : CrzState → CrzState) (s : State) : (s.modCrz f).saf = s.saf := rfl
@[simp] theorem State.modCrz_link (f : CrzState → CrzState) (s : State) : (s.modCrz f).link = s.link := rfl
@[simp] theorem State.modCrz_nv (f : CrzState → CrzState) (s : State) : (s.modCrz f).nv = s.nv := rfl
@[simp] theorem State.modCrz_free (f : CrzState → CrzState) (s : State) : (s.modCrz f).free = s.free := rfl
@[simp] theorem State.modCrz_out (f : CrzState → CrzState) (s : State) : (s.modCrz f).out = s.out := rfl
@[simp] theorem State.modCrz_pending (f : CrzState → CrzState) (s : State) : (s.modCrz f).pending = s.pending := rfl

/-! `State.modRack`. -/

@[simp] theorem State.modRack_sys (f : RackState → RackState) (s : State) : (s.modRack f).sys = s.sys := rfl
@[simp] theorem State.modRack_rcd (f : RackState → RackState) (s : State) : (s.modRack f).rcd = s.rcd := rfl
@[simp] theorem State.modRack_mbx (f : RackState → RackState) (s : State) : (s.modRack f).mbx = s.mbx := rfl
@[simp] theorem State.modRack_net (f : RackState → RackState) (s : State) : (s.modRack f).net = s.net := rfl
@[simp] theorem State.modRack_twb (f : RackState → RackState) (s : State) : (s.modRack f).twb = s.twb := rfl
@[simp] theorem State.modRack_acc (f : RackState → RackState) (s : State) : (s.modRack f).acc = s.acc := rfl
@[simp] theorem State.modRack_crz (f : RackState → RackState) (s : State) : (s.modRack f).crz = s.crz := rfl
@[simp] theorem State.modRack_rack (f : RackState → RackState) (s : State) : (s.modRack f).rack = f s.rack := rfl
@[simp] theorem State.modRack_sup (f : RackState → RackState) (s : State) : (s.modRack f).sup = s.sup := rfl
@[simp] theorem State.modRack_str (f : RackState → RackState) (s : State) : (s.modRack f).str = s.str := rfl
@[simp] theorem State.modRack_brm (f : RackState → RackState) (s : State) : (s.modRack f).brm = s.brm := rfl
@[simp] theorem State.modRack_ldg (f : RackState → RackState) (s : State) : (s.modRack f).ldg = s.ldg := rfl
@[simp] theorem State.modRack_frd (f : RackState → RackState) (s : State) : (s.modRack f).frd = s.frd := rfl
@[simp] theorem State.modRack_srs (f : RackState → RackState) (s : State) : (s.modRack f).srs = s.srs := rfl
@[simp] theorem State.modRack_bup (f : RackState → RackState) (s : State) : (s.modRack f).bup = s.bup := rfl
@[simp] theorem State.modRack_cool (f : RackState → RackState) (s : State) : (s.modRack f).cool = s.cool := rfl
@[simp] theorem State.modRack_sec (f : RackState → RackState) (s : State) : (s.modRack f).sec = s.sec := rfl
@[simp] theorem State.modRack_saf (f : RackState → RackState) (s : State) : (s.modRack f).saf = s.saf := rfl
@[simp] theorem State.modRack_link (f : RackState → RackState) (s : State) : (s.modRack f).link = s.link := rfl
@[simp] theorem State.modRack_nv (f : RackState → RackState) (s : State) : (s.modRack f).nv = s.nv := rfl
@[simp] theorem State.modRack_free (f : RackState → RackState) (s : State) : (s.modRack f).free = s.free := rfl
@[simp] theorem State.modRack_out (f : RackState → RackState) (s : State) : (s.modRack f).out = s.out := rfl
@[simp] theorem State.modRack_pending (f : RackState → RackState) (s : State) : (s.modRack f).pending = s.pending := rfl

/-! `State.modSup`. -/

@[simp] theorem State.modSup_sys (f : SupState → SupState) (s : State) : (s.modSup f).sys = s.sys := rfl
@[simp] theorem State.modSup_rcd (f : SupState → SupState) (s : State) : (s.modSup f).rcd = s.rcd := rfl
@[simp] theorem State.modSup_mbx (f : SupState → SupState) (s : State) : (s.modSup f).mbx = s.mbx := rfl
@[simp] theorem State.modSup_net (f : SupState → SupState) (s : State) : (s.modSup f).net = s.net := rfl
@[simp] theorem State.modSup_twb (f : SupState → SupState) (s : State) : (s.modSup f).twb = s.twb := rfl
@[simp] theorem State.modSup_acc (f : SupState → SupState) (s : State) : (s.modSup f).acc = s.acc := rfl
@[simp] theorem State.modSup_crz (f : SupState → SupState) (s : State) : (s.modSup f).crz = s.crz := rfl
@[simp] theorem State.modSup_rack (f : SupState → SupState) (s : State) : (s.modSup f).rack = s.rack := rfl
@[simp] theorem State.modSup_sup (f : SupState → SupState) (s : State) : (s.modSup f).sup = f s.sup := rfl
@[simp] theorem State.modSup_str (f : SupState → SupState) (s : State) : (s.modSup f).str = s.str := rfl
@[simp] theorem State.modSup_brm (f : SupState → SupState) (s : State) : (s.modSup f).brm = s.brm := rfl
@[simp] theorem State.modSup_ldg (f : SupState → SupState) (s : State) : (s.modSup f).ldg = s.ldg := rfl
@[simp] theorem State.modSup_frd (f : SupState → SupState) (s : State) : (s.modSup f).frd = s.frd := rfl
@[simp] theorem State.modSup_srs (f : SupState → SupState) (s : State) : (s.modSup f).srs = s.srs := rfl
@[simp] theorem State.modSup_bup (f : SupState → SupState) (s : State) : (s.modSup f).bup = s.bup := rfl
@[simp] theorem State.modSup_cool (f : SupState → SupState) (s : State) : (s.modSup f).cool = s.cool := rfl
@[simp] theorem State.modSup_sec (f : SupState → SupState) (s : State) : (s.modSup f).sec = s.sec := rfl
@[simp] theorem State.modSup_saf (f : SupState → SupState) (s : State) : (s.modSup f).saf = s.saf := rfl
@[simp] theorem State.modSup_link (f : SupState → SupState) (s : State) : (s.modSup f).link = s.link := rfl
@[simp] theorem State.modSup_nv (f : SupState → SupState) (s : State) : (s.modSup f).nv = s.nv := rfl
@[simp] theorem State.modSup_free (f : SupState → SupState) (s : State) : (s.modSup f).free = s.free := rfl
@[simp] theorem State.modSup_out (f : SupState → SupState) (s : State) : (s.modSup f).out = s.out := rfl
@[simp] theorem State.modSup_pending (f : SupState → SupState) (s : State) : (s.modSup f).pending = s.pending := rfl

/-! `State.modSec`. -/

@[simp] theorem State.modSec_sys (f : SecState → SecState) (s : State) : (s.modSec f).sys = s.sys := rfl
@[simp] theorem State.modSec_rcd (f : SecState → SecState) (s : State) : (s.modSec f).rcd = s.rcd := rfl
@[simp] theorem State.modSec_mbx (f : SecState → SecState) (s : State) : (s.modSec f).mbx = s.mbx := rfl
@[simp] theorem State.modSec_net (f : SecState → SecState) (s : State) : (s.modSec f).net = s.net := rfl
@[simp] theorem State.modSec_twb (f : SecState → SecState) (s : State) : (s.modSec f).twb = s.twb := rfl
@[simp] theorem State.modSec_acc (f : SecState → SecState) (s : State) : (s.modSec f).acc = s.acc := rfl
@[simp] theorem State.modSec_crz (f : SecState → SecState) (s : State) : (s.modSec f).crz = s.crz := rfl
@[simp] theorem State.modSec_rack (f : SecState → SecState) (s : State) : (s.modSec f).rack = s.rack := rfl
@[simp] theorem State.modSec_sup (f : SecState → SecState) (s : State) : (s.modSec f).sup = s.sup := rfl
@[simp] theorem State.modSec_str (f : SecState → SecState) (s : State) : (s.modSec f).str = s.str := rfl
@[simp] theorem State.modSec_brm (f : SecState → SecState) (s : State) : (s.modSec f).brm = s.brm := rfl
@[simp] theorem State.modSec_ldg (f : SecState → SecState) (s : State) : (s.modSec f).ldg = s.ldg := rfl
@[simp] theorem State.modSec_frd (f : SecState → SecState) (s : State) : (s.modSec f).frd = s.frd := rfl
@[simp] theorem State.modSec_srs (f : SecState → SecState) (s : State) : (s.modSec f).srs = s.srs := rfl
@[simp] theorem State.modSec_bup (f : SecState → SecState) (s : State) : (s.modSec f).bup = s.bup := rfl
@[simp] theorem State.modSec_cool (f : SecState → SecState) (s : State) : (s.modSec f).cool = s.cool := rfl
@[simp] theorem State.modSec_sec (f : SecState → SecState) (s : State) : (s.modSec f).sec = f s.sec := rfl
@[simp] theorem State.modSec_saf (f : SecState → SecState) (s : State) : (s.modSec f).saf = s.saf := rfl
@[simp] theorem State.modSec_link (f : SecState → SecState) (s : State) : (s.modSec f).link = s.link := rfl
@[simp] theorem State.modSec_nv (f : SecState → SecState) (s : State) : (s.modSec f).nv = s.nv := rfl
@[simp] theorem State.modSec_free (f : SecState → SecState) (s : State) : (s.modSec f).free = s.free := rfl
@[simp] theorem State.modSec_out (f : SecState → SecState) (s : State) : (s.modSec f).out = s.out := rfl
@[simp] theorem State.modSec_pending (f : SecState → SecState) (s : State) : (s.modSec f).pending = s.pending := rfl

/-! `State.modSaf`. -/

@[simp] theorem State.modSaf_sys (f : SafState → SafState) (s : State) : (s.modSaf f).sys = s.sys := rfl
@[simp] theorem State.modSaf_rcd (f : SafState → SafState) (s : State) : (s.modSaf f).rcd = s.rcd := rfl
@[simp] theorem State.modSaf_mbx (f : SafState → SafState) (s : State) : (s.modSaf f).mbx = s.mbx := rfl
@[simp] theorem State.modSaf_net (f : SafState → SafState) (s : State) : (s.modSaf f).net = s.net := rfl
@[simp] theorem State.modSaf_twb (f : SafState → SafState) (s : State) : (s.modSaf f).twb = s.twb := rfl
@[simp] theorem State.modSaf_acc (f : SafState → SafState) (s : State) : (s.modSaf f).acc = s.acc := rfl
@[simp] theorem State.modSaf_crz (f : SafState → SafState) (s : State) : (s.modSaf f).crz = s.crz := rfl
@[simp] theorem State.modSaf_rack (f : SafState → SafState) (s : State) : (s.modSaf f).rack = s.rack := rfl
@[simp] theorem State.modSaf_sup (f : SafState → SafState) (s : State) : (s.modSaf f).sup = s.sup := rfl
@[simp] theorem State.modSaf_str (f : SafState → SafState) (s : State) : (s.modSaf f).str = s.str := rfl
@[simp] theorem State.modSaf_brm (f : SafState → SafState) (s : State) : (s.modSaf f).brm = s.brm := rfl
@[simp] theorem State.modSaf_ldg (f : SafState → SafState) (s : State) : (s.modSaf f).ldg = s.ldg := rfl
@[simp] theorem State.modSaf_frd (f : SafState → SafState) (s : State) : (s.modSaf f).frd = s.frd := rfl
@[simp] theorem State.modSaf_srs (f : SafState → SafState) (s : State) : (s.modSaf f).srs = s.srs := rfl
@[simp] theorem State.modSaf_bup (f : SafState → SafState) (s : State) : (s.modSaf f).bup = s.bup := rfl
@[simp] theorem State.modSaf_cool (f : SafState → SafState) (s : State) : (s.modSaf f).cool = s.cool := rfl
@[simp] theorem State.modSaf_sec (f : SafState → SafState) (s : State) : (s.modSaf f).sec = s.sec := rfl
@[simp] theorem State.modSaf_saf (f : SafState → SafState) (s : State) : (s.modSaf f).saf = f s.saf := rfl
@[simp] theorem State.modSaf_link (f : SafState → SafState) (s : State) : (s.modSaf f).link = s.link := rfl
@[simp] theorem State.modSaf_nv (f : SafState → SafState) (s : State) : (s.modSaf f).nv = s.nv := rfl
@[simp] theorem State.modSaf_free (f : SafState → SafState) (s : State) : (s.modSaf f).free = s.free := rfl
@[simp] theorem State.modSaf_out (f : SafState → SafState) (s : State) : (s.modSaf f).out = s.out := rfl
@[simp] theorem State.modSaf_pending (f : SafState → SafState) (s : State) : (s.modSaf f).pending = s.pending := rfl

/-! `State.modNv`. -/

@[simp] theorem State.modNv_sys (f : NvState → NvState) (s : State) : (s.modNv f).sys = s.sys := rfl
@[simp] theorem State.modNv_rcd (f : NvState → NvState) (s : State) : (s.modNv f).rcd = s.rcd := rfl
@[simp] theorem State.modNv_mbx (f : NvState → NvState) (s : State) : (s.modNv f).mbx = s.mbx := rfl
@[simp] theorem State.modNv_net (f : NvState → NvState) (s : State) : (s.modNv f).net = s.net := rfl
@[simp] theorem State.modNv_twb (f : NvState → NvState) (s : State) : (s.modNv f).twb = s.twb := rfl
@[simp] theorem State.modNv_acc (f : NvState → NvState) (s : State) : (s.modNv f).acc = s.acc := rfl
@[simp] theorem State.modNv_crz (f : NvState → NvState) (s : State) : (s.modNv f).crz = s.crz := rfl
@[simp] theorem State.modNv_rack (f : NvState → NvState) (s : State) : (s.modNv f).rack = s.rack := rfl
@[simp] theorem State.modNv_sup (f : NvState → NvState) (s : State) : (s.modNv f).sup = s.sup := rfl
@[simp] theorem State.modNv_str (f : NvState → NvState) (s : State) : (s.modNv f).str = s.str := rfl
@[simp] theorem State.modNv_brm (f : NvState → NvState) (s : State) : (s.modNv f).brm = s.brm := rfl
@[simp] theorem State.modNv_ldg (f : NvState → NvState) (s : State) : (s.modNv f).ldg = s.ldg := rfl
@[simp] theorem State.modNv_frd (f : NvState → NvState) (s : State) : (s.modNv f).frd = s.frd := rfl
@[simp] theorem State.modNv_srs (f : NvState → NvState) (s : State) : (s.modNv f).srs = s.srs := rfl
@[simp] theorem State.modNv_bup (f : NvState → NvState) (s : State) : (s.modNv f).bup = s.bup := rfl
@[simp] theorem State.modNv_cool (f : NvState → NvState) (s : State) : (s.modNv f).cool = s.cool := rfl
@[simp] theorem State.modNv_sec (f : NvState → NvState) (s : State) : (s.modNv f).sec = s.sec := rfl
@[simp] theorem State.modNv_saf (f : NvState → NvState) (s : State) : (s.modNv f).saf = s.saf := rfl
@[simp] theorem State.modNv_link (f : NvState → NvState) (s : State) : (s.modNv f).link = s.link := rfl
@[simp] theorem State.modNv_nv (f : NvState → NvState) (s : State) : (s.modNv f).nv = f s.nv := rfl
@[simp] theorem State.modNv_free (f : NvState → NvState) (s : State) : (s.modNv f).free = s.free := rfl
@[simp] theorem State.modNv_out (f : NvState → NvState) (s : State) : (s.modNv f).out = s.out := rfl
@[simp] theorem State.modNv_pending (f : NvState → NvState) (s : State) : (s.modNv f).pending = s.pending := rfl

/-! `State.modRcd`. -/

@[simp] theorem State.modRcd_sys (f : RecState → RecState) (s : State) : (s.modRcd f).sys = s.sys := rfl
@[simp] theorem State.modRcd_rcd (f : RecState → RecState) (s : State) : (s.modRcd f).rcd = f s.rcd := rfl
@[simp] theorem State.modRcd_mbx (f : RecState → RecState) (s : State) : (s.modRcd f).mbx = s.mbx := rfl
@[simp] theorem State.modRcd_net (f : RecState → RecState) (s : State) : (s.modRcd f).net = s.net := rfl
@[simp] theorem State.modRcd_twb (f : RecState → RecState) (s : State) : (s.modRcd f).twb = s.twb := rfl
@[simp] theorem State.modRcd_acc (f : RecState → RecState) (s : State) : (s.modRcd f).acc = s.acc := rfl
@[simp] theorem State.modRcd_crz (f : RecState → RecState) (s : State) : (s.modRcd f).crz = s.crz := rfl
@[simp] theorem State.modRcd_rack (f : RecState → RecState) (s : State) : (s.modRcd f).rack = s.rack := rfl
@[simp] theorem State.modRcd_sup (f : RecState → RecState) (s : State) : (s.modRcd f).sup = s.sup := rfl
@[simp] theorem State.modRcd_str (f : RecState → RecState) (s : State) : (s.modRcd f).str = s.str := rfl
@[simp] theorem State.modRcd_brm (f : RecState → RecState) (s : State) : (s.modRcd f).brm = s.brm := rfl
@[simp] theorem State.modRcd_ldg (f : RecState → RecState) (s : State) : (s.modRcd f).ldg = s.ldg := rfl
@[simp] theorem State.modRcd_frd (f : RecState → RecState) (s : State) : (s.modRcd f).frd = s.frd := rfl
@[simp] theorem State.modRcd_srs (f : RecState → RecState) (s : State) : (s.modRcd f).srs = s.srs := rfl
@[simp] theorem State.modRcd_bup (f : RecState → RecState) (s : State) : (s.modRcd f).bup = s.bup := rfl
@[simp] theorem State.modRcd_cool (f : RecState → RecState) (s : State) : (s.modRcd f).cool = s.cool := rfl
@[simp] theorem State.modRcd_sec (f : RecState → RecState) (s : State) : (s.modRcd f).sec = s.sec := rfl
@[simp] theorem State.modRcd_saf (f : RecState → RecState) (s : State) : (s.modRcd f).saf = s.saf := rfl
@[simp] theorem State.modRcd_link (f : RecState → RecState) (s : State) : (s.modRcd f).link = s.link := rfl
@[simp] theorem State.modRcd_nv (f : RecState → RecState) (s : State) : (s.modRcd f).nv = s.nv := rfl
@[simp] theorem State.modRcd_free (f : RecState → RecState) (s : State) : (s.modRcd f).free = s.free := rfl
@[simp] theorem State.modRcd_out (f : RecState → RecState) (s : State) : (s.modRcd f).out = s.out := rfl
@[simp] theorem State.modRcd_pending (f : RecState → RecState) (s : State) : (s.modRcd f).pending = s.pending := rfl

/-! `State.modMbx`. -/

@[simp] theorem State.modMbx_sys (f : MbxState → MbxState) (s : State) : (s.modMbx f).sys = s.sys := rfl
@[simp] theorem State.modMbx_rcd (f : MbxState → MbxState) (s : State) : (s.modMbx f).rcd = s.rcd := rfl
@[simp] theorem State.modMbx_mbx (f : MbxState → MbxState) (s : State) : (s.modMbx f).mbx = f s.mbx := rfl
@[simp] theorem State.modMbx_net (f : MbxState → MbxState) (s : State) : (s.modMbx f).net = s.net := rfl
@[simp] theorem State.modMbx_twb (f : MbxState → MbxState) (s : State) : (s.modMbx f).twb = s.twb := rfl
@[simp] theorem State.modMbx_acc (f : MbxState → MbxState) (s : State) : (s.modMbx f).acc = s.acc := rfl
@[simp] theorem State.modMbx_crz (f : MbxState → MbxState) (s : State) : (s.modMbx f).crz = s.crz := rfl
@[simp] theorem State.modMbx_rack (f : MbxState → MbxState) (s : State) : (s.modMbx f).rack = s.rack := rfl
@[simp] theorem State.modMbx_sup (f : MbxState → MbxState) (s : State) : (s.modMbx f).sup = s.sup := rfl
@[simp] theorem State.modMbx_str (f : MbxState → MbxState) (s : State) : (s.modMbx f).str = s.str := rfl
@[simp] theorem State.modMbx_brm (f : MbxState → MbxState) (s : State) : (s.modMbx f).brm = s.brm := rfl
@[simp] theorem State.modMbx_ldg (f : MbxState → MbxState) (s : State) : (s.modMbx f).ldg = s.ldg := rfl
@[simp] theorem State.modMbx_frd (f : MbxState → MbxState) (s : State) : (s.modMbx f).frd = s.frd := rfl
@[simp] theorem State.modMbx_srs (f : MbxState → MbxState) (s : State) : (s.modMbx f).srs = s.srs := rfl
@[simp] theorem State.modMbx_bup (f : MbxState → MbxState) (s : State) : (s.modMbx f).bup = s.bup := rfl
@[simp] theorem State.modMbx_cool (f : MbxState → MbxState) (s : State) : (s.modMbx f).cool = s.cool := rfl
@[simp] theorem State.modMbx_sec (f : MbxState → MbxState) (s : State) : (s.modMbx f).sec = s.sec := rfl
@[simp] theorem State.modMbx_saf (f : MbxState → MbxState) (s : State) : (s.modMbx f).saf = s.saf := rfl
@[simp] theorem State.modMbx_link (f : MbxState → MbxState) (s : State) : (s.modMbx f).link = s.link := rfl
@[simp] theorem State.modMbx_nv (f : MbxState → MbxState) (s : State) : (s.modMbx f).nv = s.nv := rfl
@[simp] theorem State.modMbx_free (f : MbxState → MbxState) (s : State) : (s.modMbx f).free = s.free := rfl
@[simp] theorem State.modMbx_out (f : MbxState → MbxState) (s : State) : (s.modMbx f).out = s.out := rfl
@[simp] theorem State.modMbx_pending (f : MbxState → MbxState) (s : State) : (s.modMbx f).pending = s.pending := rfl

/-! `State.modNet`. -/

@[simp] theorem State.modNet_sys (f : NetState → NetState) (s : State) : (s.modNet f).sys = s.sys := rfl
@[simp] theorem State.modNet_rcd (f : NetState → NetState) (s : State) : (s.modNet f).rcd = s.rcd := rfl
@[simp] theorem State.modNet_mbx (f : NetState → NetState) (s : State) : (s.modNet f).mbx = s.mbx := rfl
@[simp] theorem State.modNet_net (f : NetState → NetState) (s : State) : (s.modNet f).net = f s.net := rfl
@[simp] theorem State.modNet_twb (f : NetState → NetState) (s : State) : (s.modNet f).twb = s.twb := rfl
@[simp] theorem State.modNet_acc (f : NetState → NetState) (s : State) : (s.modNet f).acc = s.acc := rfl
@[simp] theorem State.modNet_crz (f : NetState → NetState) (s : State) : (s.modNet f).crz = s.crz := rfl
@[simp] theorem State.modNet_rack (f : NetState → NetState) (s : State) : (s.modNet f).rack = s.rack := rfl
@[simp] theorem State.modNet_sup (f : NetState → NetState) (s : State) : (s.modNet f).sup = s.sup := rfl
@[simp] theorem State.modNet_str (f : NetState → NetState) (s : State) : (s.modNet f).str = s.str := rfl
@[simp] theorem State.modNet_brm (f : NetState → NetState) (s : State) : (s.modNet f).brm = s.brm := rfl
@[simp] theorem State.modNet_ldg (f : NetState → NetState) (s : State) : (s.modNet f).ldg = s.ldg := rfl
@[simp] theorem State.modNet_frd (f : NetState → NetState) (s : State) : (s.modNet f).frd = s.frd := rfl
@[simp] theorem State.modNet_srs (f : NetState → NetState) (s : State) : (s.modNet f).srs = s.srs := rfl
@[simp] theorem State.modNet_bup (f : NetState → NetState) (s : State) : (s.modNet f).bup = s.bup := rfl
@[simp] theorem State.modNet_cool (f : NetState → NetState) (s : State) : (s.modNet f).cool = s.cool := rfl
@[simp] theorem State.modNet_sec (f : NetState → NetState) (s : State) : (s.modNet f).sec = s.sec := rfl
@[simp] theorem State.modNet_saf (f : NetState → NetState) (s : State) : (s.modNet f).saf = s.saf := rfl
@[simp] theorem State.modNet_link (f : NetState → NetState) (s : State) : (s.modNet f).link = s.link := rfl
@[simp] theorem State.modNet_nv (f : NetState → NetState) (s : State) : (s.modNet f).nv = s.nv := rfl
@[simp] theorem State.modNet_free (f : NetState → NetState) (s : State) : (s.modNet f).free = s.free := rfl
@[simp] theorem State.modNet_out (f : NetState → NetState) (s : State) : (s.modNet f).out = s.out := rfl
@[simp] theorem State.modNet_pending (f : NetState → NetState) (s : State) : (s.modNet f).pending = s.pending := rfl

/-! `State.modSys`. -/

@[simp] theorem State.modSys_sys (f : SysState → SysState) (s : State) : (s.modSys f).sys = f s.sys := rfl
@[simp] theorem State.modSys_rcd (f : SysState → SysState) (s : State) : (s.modSys f).rcd = s.rcd := rfl
@[simp] theorem State.modSys_mbx (f : SysState → SysState) (s : State) : (s.modSys f).mbx = s.mbx := rfl
@[simp] theorem State.modSys_net (f : SysState → SysState) (s : State) : (s.modSys f).net = s.net := rfl
@[simp] theorem State.modSys_twb (f : SysState → SysState) (s : State) : (s.modSys f).twb = s.twb := rfl
@[simp] theorem State.modSys_acc (f : SysState → SysState) (s : State) : (s.modSys f).acc = s.acc := rfl
@[simp] theorem State.modSys_crz (f : SysState → SysState) (s : State) : (s.modSys f).crz = s.crz := rfl
@[simp] theorem State.modSys_rack (f : SysState → SysState) (s : State) : (s.modSys f).rack = s.rack := rfl
@[simp] theorem State.modSys_sup (f : SysState → SysState) (s : State) : (s.modSys f).sup = s.sup := rfl
@[simp] theorem State.modSys_str (f : SysState → SysState) (s : State) : (s.modSys f).str = s.str := rfl
@[simp] theorem State.modSys_brm (f : SysState → SysState) (s : State) : (s.modSys f).brm = s.brm := rfl
@[simp] theorem State.modSys_ldg (f : SysState → SysState) (s : State) : (s.modSys f).ldg = s.ldg := rfl
@[simp] theorem State.modSys_frd (f : SysState → SysState) (s : State) : (s.modSys f).frd = s.frd := rfl
@[simp] theorem State.modSys_srs (f : SysState → SysState) (s : State) : (s.modSys f).srs = s.srs := rfl
@[simp] theorem State.modSys_bup (f : SysState → SysState) (s : State) : (s.modSys f).bup = s.bup := rfl
@[simp] theorem State.modSys_cool (f : SysState → SysState) (s : State) : (s.modSys f).cool = s.cool := rfl
@[simp] theorem State.modSys_sec (f : SysState → SysState) (s : State) : (s.modSys f).sec = s.sec := rfl
@[simp] theorem State.modSys_saf (f : SysState → SysState) (s : State) : (s.modSys f).saf = s.saf := rfl
@[simp] theorem State.modSys_link (f : SysState → SysState) (s : State) : (s.modSys f).link = s.link := rfl
@[simp] theorem State.modSys_nv (f : SysState → SysState) (s : State) : (s.modSys f).nv = s.nv := rfl
@[simp] theorem State.modSys_free (f : SysState → SysState) (s : State) : (s.modSys f).free = s.free := rfl
@[simp] theorem State.modSys_out (f : SysState → SysState) (s : State) : (s.modSys f).out = s.out := rfl
@[simp] theorem State.modSys_pending (f : SysState → SysState) (s : State) : (s.modSys f).pending = s.pending := rfl

/-! `State.modLk`. -/

@[simp] theorem State.modLk_sys (f : LinkBlock → LinkBlock) (s : State) : (s.modLk f).sys = s.sys := rfl
@[simp] theorem State.modLk_rcd (f : LinkBlock → LinkBlock) (s : State) : (s.modLk f).rcd = s.rcd := rfl
@[simp] theorem State.modLk_mbx (f : LinkBlock → LinkBlock) (s : State) : (s.modLk f).mbx = s.mbx := rfl
@[simp] theorem State.modLk_net (f : LinkBlock → LinkBlock) (s : State) : (s.modLk f).net = s.net := rfl
@[simp] theorem State.modLk_twb (f : LinkBlock → LinkBlock) (s : State) : (s.modLk f).twb = s.twb := rfl
@[simp] theorem State.modLk_acc (f : LinkBlock → LinkBlock) (s : State) : (s.modLk f).acc = s.acc := rfl
@[simp] theorem State.modLk_crz (f : LinkBlock → LinkBlock) (s : State) : (s.modLk f).crz = s.crz := rfl
@[simp] theorem State.modLk_rack (f : LinkBlock → LinkBlock) (s : State) : (s.modLk f).rack = s.rack := rfl
@[simp] theorem State.modLk_sup (f : LinkBlock → LinkBlock) (s : State) : (s.modLk f).sup = s.sup := rfl
@[simp] theorem State.modLk_str (f : LinkBlock → LinkBlock) (s : State) : (s.modLk f).str = s.str := rfl
@[simp] theorem State.modLk_brm (f : LinkBlock → LinkBlock) (s : State) : (s.modLk f).brm = s.brm := rfl
@[simp] theorem State.modLk_ldg (f : LinkBlock → LinkBlock) (s : State) : (s.modLk f).ldg = s.ldg := rfl
@[simp] theorem State.modLk_frd (f : LinkBlock → LinkBlock) (s : State) : (s.modLk f).frd = s.frd := rfl
@[simp] theorem State.modLk_srs (f : LinkBlock → LinkBlock) (s : State) : (s.modLk f).srs = s.srs := rfl
@[simp] theorem State.modLk_bup (f : LinkBlock → LinkBlock) (s : State) : (s.modLk f).bup = s.bup := rfl
@[simp] theorem State.modLk_cool (f : LinkBlock → LinkBlock) (s : State) : (s.modLk f).cool = s.cool := rfl
@[simp] theorem State.modLk_sec (f : LinkBlock → LinkBlock) (s : State) : (s.modLk f).sec = s.sec := rfl
@[simp] theorem State.modLk_saf (f : LinkBlock → LinkBlock) (s : State) : (s.modLk f).saf = s.saf := rfl
@[simp] theorem State.modLk_link (f : LinkBlock → LinkBlock) (s : State) : (s.modLk f).link = f s.link := rfl
@[simp] theorem State.modLk_nv (f : LinkBlock → LinkBlock) (s : State) : (s.modLk f).nv = s.nv := rfl
@[simp] theorem State.modLk_free (f : LinkBlock → LinkBlock) (s : State) : (s.modLk f).free = s.free := rfl
@[simp] theorem State.modLk_out (f : LinkBlock → LinkBlock) (s : State) : (s.modLk f).out = s.out := rfl
@[simp] theorem State.modLk_pending (f : LinkBlock → LinkBlock) (s : State) : (s.modLk f).pending = s.pending := rfl

/-! `State.setStr`. -/

@[simp] theorem State.setStr_sys (i : Acc) (f : StrAcc → StrAcc) (s : State) : (s.setStr i f).sys = s.sys := rfl
@[simp] theorem State.setStr_rcd (i : Acc) (f : StrAcc → StrAcc) (s : State) : (s.setStr i f).rcd = s.rcd := rfl
@[simp] theorem State.setStr_mbx (i : Acc) (f : StrAcc → StrAcc) (s : State) : (s.setStr i f).mbx = s.mbx := rfl
@[simp] theorem State.setStr_net (i : Acc) (f : StrAcc → StrAcc) (s : State) : (s.setStr i f).net = s.net := rfl
@[simp] theorem State.setStr_twb (i : Acc) (f : StrAcc → StrAcc) (s : State) : (s.setStr i f).twb = s.twb := rfl
@[simp] theorem State.setStr_acc (i : Acc) (f : StrAcc → StrAcc) (s : State) : (s.setStr i f).acc = s.acc := rfl
@[simp] theorem State.setStr_crz (i : Acc) (f : StrAcc → StrAcc) (s : State) : (s.setStr i f).crz = s.crz := rfl
@[simp] theorem State.setStr_rack (i : Acc) (f : StrAcc → StrAcc) (s : State) : (s.setStr i f).rack = s.rack := rfl
@[simp] theorem State.setStr_sup (i : Acc) (f : StrAcc → StrAcc) (s : State) : (s.setStr i f).sup = s.sup := rfl
@[simp] theorem State.setStr_str (i : Acc) (f : StrAcc → StrAcc) (s : State) : (s.setStr i f).str = { s.str with acc := s.str.acc.set i (f s.str.acc[i]) } := rfl
@[simp] theorem State.setStr_brm (i : Acc) (f : StrAcc → StrAcc) (s : State) : (s.setStr i f).brm = s.brm := rfl
@[simp] theorem State.setStr_ldg (i : Acc) (f : StrAcc → StrAcc) (s : State) : (s.setStr i f).ldg = s.ldg := rfl
@[simp] theorem State.setStr_frd (i : Acc) (f : StrAcc → StrAcc) (s : State) : (s.setStr i f).frd = s.frd := rfl
@[simp] theorem State.setStr_srs (i : Acc) (f : StrAcc → StrAcc) (s : State) : (s.setStr i f).srs = s.srs := rfl
@[simp] theorem State.setStr_bup (i : Acc) (f : StrAcc → StrAcc) (s : State) : (s.setStr i f).bup = s.bup := rfl
@[simp] theorem State.setStr_cool (i : Acc) (f : StrAcc → StrAcc) (s : State) : (s.setStr i f).cool = s.cool := rfl
@[simp] theorem State.setStr_sec (i : Acc) (f : StrAcc → StrAcc) (s : State) : (s.setStr i f).sec = s.sec := rfl
@[simp] theorem State.setStr_saf (i : Acc) (f : StrAcc → StrAcc) (s : State) : (s.setStr i f).saf = s.saf := rfl
@[simp] theorem State.setStr_link (i : Acc) (f : StrAcc → StrAcc) (s : State) : (s.setStr i f).link = s.link := rfl
@[simp] theorem State.setStr_nv (i : Acc) (f : StrAcc → StrAcc) (s : State) : (s.setStr i f).nv = s.nv := rfl
@[simp] theorem State.setStr_free (i : Acc) (f : StrAcc → StrAcc) (s : State) : (s.setStr i f).free = s.free := rfl
@[simp] theorem State.setStr_out (i : Acc) (f : StrAcc → StrAcc) (s : State) : (s.setStr i f).out = s.out := rfl
@[simp] theorem State.setStr_pending (i : Acc) (f : StrAcc → StrAcc) (s : State) : (s.setStr i f).pending = s.pending := rfl

/-! `State.setLdg`. -/

@[simp] theorem State.setLdg_sys (i : Acc) (f : LdgAcc → LdgAcc) (s : State) : (s.setLdg i f).sys = s.sys := rfl
@[simp] theorem State.setLdg_rcd (i : Acc) (f : LdgAcc → LdgAcc) (s : State) : (s.setLdg i f).rcd = s.rcd := rfl
@[simp] theorem State.setLdg_mbx (i : Acc) (f : LdgAcc → LdgAcc) (s : State) : (s.setLdg i f).mbx = s.mbx := rfl
@[simp] theorem State.setLdg_net (i : Acc) (f : LdgAcc → LdgAcc) (s : State) : (s.setLdg i f).net = s.net := rfl
@[simp] theorem State.setLdg_twb (i : Acc) (f : LdgAcc → LdgAcc) (s : State) : (s.setLdg i f).twb = s.twb := rfl
@[simp] theorem State.setLdg_acc (i : Acc) (f : LdgAcc → LdgAcc) (s : State) : (s.setLdg i f).acc = s.acc := rfl
@[simp] theorem State.setLdg_crz (i : Acc) (f : LdgAcc → LdgAcc) (s : State) : (s.setLdg i f).crz = s.crz := rfl
@[simp] theorem State.setLdg_rack (i : Acc) (f : LdgAcc → LdgAcc) (s : State) : (s.setLdg i f).rack = s.rack := rfl
@[simp] theorem State.setLdg_sup (i : Acc) (f : LdgAcc → LdgAcc) (s : State) : (s.setLdg i f).sup = s.sup := rfl
@[simp] theorem State.setLdg_str (i : Acc) (f : LdgAcc → LdgAcc) (s : State) : (s.setLdg i f).str = s.str := rfl
@[simp] theorem State.setLdg_brm (i : Acc) (f : LdgAcc → LdgAcc) (s : State) : (s.setLdg i f).brm = s.brm := rfl
@[simp] theorem State.setLdg_ldg (i : Acc) (f : LdgAcc → LdgAcc) (s : State) : (s.setLdg i f).ldg = { s.ldg with acc := s.ldg.acc.set i (f s.ldg.acc[i]) } := rfl
@[simp] theorem State.setLdg_frd (i : Acc) (f : LdgAcc → LdgAcc) (s : State) : (s.setLdg i f).frd = s.frd := rfl
@[simp] theorem State.setLdg_srs (i : Acc) (f : LdgAcc → LdgAcc) (s : State) : (s.setLdg i f).srs = s.srs := rfl
@[simp] theorem State.setLdg_bup (i : Acc) (f : LdgAcc → LdgAcc) (s : State) : (s.setLdg i f).bup = s.bup := rfl
@[simp] theorem State.setLdg_cool (i : Acc) (f : LdgAcc → LdgAcc) (s : State) : (s.setLdg i f).cool = s.cool := rfl
@[simp] theorem State.setLdg_sec (i : Acc) (f : LdgAcc → LdgAcc) (s : State) : (s.setLdg i f).sec = s.sec := rfl
@[simp] theorem State.setLdg_saf (i : Acc) (f : LdgAcc → LdgAcc) (s : State) : (s.setLdg i f).saf = s.saf := rfl
@[simp] theorem State.setLdg_link (i : Acc) (f : LdgAcc → LdgAcc) (s : State) : (s.setLdg i f).link = s.link := rfl
@[simp] theorem State.setLdg_nv (i : Acc) (f : LdgAcc → LdgAcc) (s : State) : (s.setLdg i f).nv = s.nv := rfl
@[simp] theorem State.setLdg_free (i : Acc) (f : LdgAcc → LdgAcc) (s : State) : (s.setLdg i f).free = s.free := rfl
@[simp] theorem State.setLdg_out (i : Acc) (f : LdgAcc → LdgAcc) (s : State) : (s.setLdg i f).out = s.out := rfl
@[simp] theorem State.setLdg_pending (i : Acc) (f : LdgAcc → LdgAcc) (s : State) : (s.setLdg i f).pending = s.pending := rfl

/-! `State.setFrd`. -/

@[simp] theorem State.setFrd_sys (i : Slot) (f : FrdSlot → FrdSlot) (s : State) : (s.setFrd i f).sys = s.sys := rfl
@[simp] theorem State.setFrd_rcd (i : Slot) (f : FrdSlot → FrdSlot) (s : State) : (s.setFrd i f).rcd = s.rcd := rfl
@[simp] theorem State.setFrd_mbx (i : Slot) (f : FrdSlot → FrdSlot) (s : State) : (s.setFrd i f).mbx = s.mbx := rfl
@[simp] theorem State.setFrd_net (i : Slot) (f : FrdSlot → FrdSlot) (s : State) : (s.setFrd i f).net = s.net := rfl
@[simp] theorem State.setFrd_twb (i : Slot) (f : FrdSlot → FrdSlot) (s : State) : (s.setFrd i f).twb = s.twb := rfl
@[simp] theorem State.setFrd_acc (i : Slot) (f : FrdSlot → FrdSlot) (s : State) : (s.setFrd i f).acc = s.acc := rfl
@[simp] theorem State.setFrd_crz (i : Slot) (f : FrdSlot → FrdSlot) (s : State) : (s.setFrd i f).crz = s.crz := rfl
@[simp] theorem State.setFrd_rack (i : Slot) (f : FrdSlot → FrdSlot) (s : State) : (s.setFrd i f).rack = s.rack := rfl
@[simp] theorem State.setFrd_sup (i : Slot) (f : FrdSlot → FrdSlot) (s : State) : (s.setFrd i f).sup = s.sup := rfl
@[simp] theorem State.setFrd_str (i : Slot) (f : FrdSlot → FrdSlot) (s : State) : (s.setFrd i f).str = s.str := rfl
@[simp] theorem State.setFrd_brm (i : Slot) (f : FrdSlot → FrdSlot) (s : State) : (s.setFrd i f).brm = s.brm := rfl
@[simp] theorem State.setFrd_ldg (i : Slot) (f : FrdSlot → FrdSlot) (s : State) : (s.setFrd i f).ldg = s.ldg := rfl
@[simp] theorem State.setFrd_frd (i : Slot) (f : FrdSlot → FrdSlot) (s : State) : (s.setFrd i f).frd = { s.frd with slot := s.frd.slot.set i (f s.frd.slot[i]) } := rfl
@[simp] theorem State.setFrd_srs (i : Slot) (f : FrdSlot → FrdSlot) (s : State) : (s.setFrd i f).srs = s.srs := rfl
@[simp] theorem State.setFrd_bup (i : Slot) (f : FrdSlot → FrdSlot) (s : State) : (s.setFrd i f).bup = s.bup := rfl
@[simp] theorem State.setFrd_cool (i : Slot) (f : FrdSlot → FrdSlot) (s : State) : (s.setFrd i f).cool = s.cool := rfl
@[simp] theorem State.setFrd_sec (i : Slot) (f : FrdSlot → FrdSlot) (s : State) : (s.setFrd i f).sec = s.sec := rfl
@[simp] theorem State.setFrd_saf (i : Slot) (f : FrdSlot → FrdSlot) (s : State) : (s.setFrd i f).saf = s.saf := rfl
@[simp] theorem State.setFrd_link (i : Slot) (f : FrdSlot → FrdSlot) (s : State) : (s.setFrd i f).link = s.link := rfl
@[simp] theorem State.setFrd_nv (i : Slot) (f : FrdSlot → FrdSlot) (s : State) : (s.setFrd i f).nv = s.nv := rfl
@[simp] theorem State.setFrd_free (i : Slot) (f : FrdSlot → FrdSlot) (s : State) : (s.setFrd i f).free = s.free := rfl
@[simp] theorem State.setFrd_out (i : Slot) (f : FrdSlot → FrdSlot) (s : State) : (s.setFrd i f).out = s.out := rfl
@[simp] theorem State.setFrd_pending (i : Slot) (f : FrdSlot → FrdSlot) (s : State) : (s.setFrd i f).pending = s.pending := rfl

/-! `State.setLink`. -/

@[simp] theorem State.setLink_sys (i : Acc) (f : LinkState → LinkState) (s : State) : (s.setLink i f).sys = s.sys := rfl
@[simp] theorem State.setLink_rcd (i : Acc) (f : LinkState → LinkState) (s : State) : (s.setLink i f).rcd = s.rcd := rfl
@[simp] theorem State.setLink_mbx (i : Acc) (f : LinkState → LinkState) (s : State) : (s.setLink i f).mbx = s.mbx := rfl
@[simp] theorem State.setLink_net (i : Acc) (f : LinkState → LinkState) (s : State) : (s.setLink i f).net = s.net := rfl
@[simp] theorem State.setLink_twb (i : Acc) (f : LinkState → LinkState) (s : State) : (s.setLink i f).twb = s.twb := rfl
@[simp] theorem State.setLink_acc (i : Acc) (f : LinkState → LinkState) (s : State) : (s.setLink i f).acc = s.acc := rfl
@[simp] theorem State.setLink_crz (i : Acc) (f : LinkState → LinkState) (s : State) : (s.setLink i f).crz = s.crz := rfl
@[simp] theorem State.setLink_rack (i : Acc) (f : LinkState → LinkState) (s : State) : (s.setLink i f).rack = s.rack := rfl
@[simp] theorem State.setLink_sup (i : Acc) (f : LinkState → LinkState) (s : State) : (s.setLink i f).sup = s.sup := rfl
@[simp] theorem State.setLink_str (i : Acc) (f : LinkState → LinkState) (s : State) : (s.setLink i f).str = s.str := rfl
@[simp] theorem State.setLink_brm (i : Acc) (f : LinkState → LinkState) (s : State) : (s.setLink i f).brm = s.brm := rfl
@[simp] theorem State.setLink_ldg (i : Acc) (f : LinkState → LinkState) (s : State) : (s.setLink i f).ldg = s.ldg := rfl
@[simp] theorem State.setLink_frd (i : Acc) (f : LinkState → LinkState) (s : State) : (s.setLink i f).frd = s.frd := rfl
@[simp] theorem State.setLink_srs (i : Acc) (f : LinkState → LinkState) (s : State) : (s.setLink i f).srs = { s.srs with link := s.srs.link.set i (f s.srs.link[i]) } := rfl
@[simp] theorem State.setLink_bup (i : Acc) (f : LinkState → LinkState) (s : State) : (s.setLink i f).bup = s.bup := rfl
@[simp] theorem State.setLink_cool (i : Acc) (f : LinkState → LinkState) (s : State) : (s.setLink i f).cool = s.cool := rfl
@[simp] theorem State.setLink_sec (i : Acc) (f : LinkState → LinkState) (s : State) : (s.setLink i f).sec = s.sec := rfl
@[simp] theorem State.setLink_saf (i : Acc) (f : LinkState → LinkState) (s : State) : (s.setLink i f).saf = s.saf := rfl
@[simp] theorem State.setLink_link (i : Acc) (f : LinkState → LinkState) (s : State) : (s.setLink i f).link = s.link := rfl
@[simp] theorem State.setLink_nv (i : Acc) (f : LinkState → LinkState) (s : State) : (s.setLink i f).nv = s.nv := rfl
@[simp] theorem State.setLink_free (i : Acc) (f : LinkState → LinkState) (s : State) : (s.setLink i f).free = s.free := rfl
@[simp] theorem State.setLink_out (i : Acc) (f : LinkState → LinkState) (s : State) : (s.setLink i f).out = s.out := rfl
@[simp] theorem State.setLink_pending (i : Acc) (f : LinkState → LinkState) (s : State) : (s.setLink i f).pending = s.pending := rfl

/-! `State.setBup`. -/

@[simp] theorem State.setBup_sys (i : Acc) (f : BupAcc → BupAcc) (s : State) : (s.setBup i f).sys = s.sys := rfl
@[simp] theorem State.setBup_rcd (i : Acc) (f : BupAcc → BupAcc) (s : State) : (s.setBup i f).rcd = s.rcd := rfl
@[simp] theorem State.setBup_mbx (i : Acc) (f : BupAcc → BupAcc) (s : State) : (s.setBup i f).mbx = s.mbx := rfl
@[simp] theorem State.setBup_net (i : Acc) (f : BupAcc → BupAcc) (s : State) : (s.setBup i f).net = s.net := rfl
@[simp] theorem State.setBup_twb (i : Acc) (f : BupAcc → BupAcc) (s : State) : (s.setBup i f).twb = s.twb := rfl
@[simp] theorem State.setBup_acc (i : Acc) (f : BupAcc → BupAcc) (s : State) : (s.setBup i f).acc = s.acc := rfl
@[simp] theorem State.setBup_crz (i : Acc) (f : BupAcc → BupAcc) (s : State) : (s.setBup i f).crz = s.crz := rfl
@[simp] theorem State.setBup_rack (i : Acc) (f : BupAcc → BupAcc) (s : State) : (s.setBup i f).rack = s.rack := rfl
@[simp] theorem State.setBup_sup (i : Acc) (f : BupAcc → BupAcc) (s : State) : (s.setBup i f).sup = s.sup := rfl
@[simp] theorem State.setBup_str (i : Acc) (f : BupAcc → BupAcc) (s : State) : (s.setBup i f).str = s.str := rfl
@[simp] theorem State.setBup_brm (i : Acc) (f : BupAcc → BupAcc) (s : State) : (s.setBup i f).brm = s.brm := rfl
@[simp] theorem State.setBup_ldg (i : Acc) (f : BupAcc → BupAcc) (s : State) : (s.setBup i f).ldg = s.ldg := rfl
@[simp] theorem State.setBup_frd (i : Acc) (f : BupAcc → BupAcc) (s : State) : (s.setBup i f).frd = s.frd := rfl
@[simp] theorem State.setBup_srs (i : Acc) (f : BupAcc → BupAcc) (s : State) : (s.setBup i f).srs = s.srs := rfl
@[simp] theorem State.setBup_bup (i : Acc) (f : BupAcc → BupAcc) (s : State) : (s.setBup i f).bup = { s.bup with acc := s.bup.acc.set i (f s.bup.acc[i]) } := rfl
@[simp] theorem State.setBup_cool (i : Acc) (f : BupAcc → BupAcc) (s : State) : (s.setBup i f).cool = s.cool := rfl
@[simp] theorem State.setBup_sec (i : Acc) (f : BupAcc → BupAcc) (s : State) : (s.setBup i f).sec = s.sec := rfl
@[simp] theorem State.setBup_saf (i : Acc) (f : BupAcc → BupAcc) (s : State) : (s.setBup i f).saf = s.saf := rfl
@[simp] theorem State.setBup_link (i : Acc) (f : BupAcc → BupAcc) (s : State) : (s.setBup i f).link = s.link := rfl
@[simp] theorem State.setBup_nv (i : Acc) (f : BupAcc → BupAcc) (s : State) : (s.setBup i f).nv = s.nv := rfl
@[simp] theorem State.setBup_free (i : Acc) (f : BupAcc → BupAcc) (s : State) : (s.setBup i f).free = s.free := rfl
@[simp] theorem State.setBup_out (i : Acc) (f : BupAcc → BupAcc) (s : State) : (s.setBup i f).out = s.out := rfl
@[simp] theorem State.setBup_pending (i : Acc) (f : BupAcc → BupAcc) (s : State) : (s.setBup i f).pending = s.pending := rfl

/-! `State.setBand`. -/

@[simp] theorem State.setBand_sys (i : Acc) (f : BandState → BandState) (s : State) : (s.setBand i f).sys = s.sys := rfl
@[simp] theorem State.setBand_rcd (i : Acc) (f : BandState → BandState) (s : State) : (s.setBand i f).rcd = s.rcd := rfl
@[simp] theorem State.setBand_mbx (i : Acc) (f : BandState → BandState) (s : State) : (s.setBand i f).mbx = s.mbx := rfl
@[simp] theorem State.setBand_net (i : Acc) (f : BandState → BandState) (s : State) : (s.setBand i f).net = s.net := rfl
@[simp] theorem State.setBand_twb (i : Acc) (f : BandState → BandState) (s : State) : (s.setBand i f).twb = s.twb := rfl
@[simp] theorem State.setBand_acc (i : Acc) (f : BandState → BandState) (s : State) : (s.setBand i f).acc = s.acc := rfl
@[simp] theorem State.setBand_crz (i : Acc) (f : BandState → BandState) (s : State) : (s.setBand i f).crz = s.crz := rfl
@[simp] theorem State.setBand_rack (i : Acc) (f : BandState → BandState) (s : State) : (s.setBand i f).rack = s.rack := rfl
@[simp] theorem State.setBand_sup (i : Acc) (f : BandState → BandState) (s : State) : (s.setBand i f).sup = s.sup := rfl
@[simp] theorem State.setBand_str (i : Acc) (f : BandState → BandState) (s : State) : (s.setBand i f).str = s.str := rfl
@[simp] theorem State.setBand_brm (i : Acc) (f : BandState → BandState) (s : State) : (s.setBand i f).brm = s.brm := rfl
@[simp] theorem State.setBand_ldg (i : Acc) (f : BandState → BandState) (s : State) : (s.setBand i f).ldg = s.ldg := rfl
@[simp] theorem State.setBand_frd (i : Acc) (f : BandState → BandState) (s : State) : (s.setBand i f).frd = s.frd := rfl
@[simp] theorem State.setBand_srs (i : Acc) (f : BandState → BandState) (s : State) : (s.setBand i f).srs = s.srs := rfl
@[simp] theorem State.setBand_bup (i : Acc) (f : BandState → BandState) (s : State) : (s.setBand i f).bup = s.bup := rfl
@[simp] theorem State.setBand_cool (i : Acc) (f : BandState → BandState) (s : State) : (s.setBand i f).cool = { s.cool with acc := s.cool.acc.set i (f s.cool.acc[i]) } := rfl
@[simp] theorem State.setBand_sec (i : Acc) (f : BandState → BandState) (s : State) : (s.setBand i f).sec = s.sec := rfl
@[simp] theorem State.setBand_saf (i : Acc) (f : BandState → BandState) (s : State) : (s.setBand i f).saf = s.saf := rfl
@[simp] theorem State.setBand_link (i : Acc) (f : BandState → BandState) (s : State) : (s.setBand i f).link = s.link := rfl
@[simp] theorem State.setBand_nv (i : Acc) (f : BandState → BandState) (s : State) : (s.setBand i f).nv = s.nv := rfl
@[simp] theorem State.setBand_free (i : Acc) (f : BandState → BandState) (s : State) : (s.setBand i f).free = s.free := rfl
@[simp] theorem State.setBand_out (i : Acc) (f : BandState → BandState) (s : State) : (s.setBand i f).out = s.out := rfl
@[simp] theorem State.setBand_pending (i : Acc) (f : BandState → BandState) (s : State) : (s.setBand i f).pending = s.pending := rfl

/-! `State.setFan`. -/

@[simp] theorem State.setFan_sys (i : Fan) (f : FanState → FanState) (s : State) : (s.setFan i f).sys = s.sys := rfl
@[simp] theorem State.setFan_rcd (i : Fan) (f : FanState → FanState) (s : State) : (s.setFan i f).rcd = s.rcd := rfl
@[simp] theorem State.setFan_mbx (i : Fan) (f : FanState → FanState) (s : State) : (s.setFan i f).mbx = s.mbx := rfl
@[simp] theorem State.setFan_net (i : Fan) (f : FanState → FanState) (s : State) : (s.setFan i f).net = s.net := rfl
@[simp] theorem State.setFan_twb (i : Fan) (f : FanState → FanState) (s : State) : (s.setFan i f).twb = s.twb := rfl
@[simp] theorem State.setFan_acc (i : Fan) (f : FanState → FanState) (s : State) : (s.setFan i f).acc = s.acc := rfl
@[simp] theorem State.setFan_crz (i : Fan) (f : FanState → FanState) (s : State) : (s.setFan i f).crz = s.crz := rfl
@[simp] theorem State.setFan_rack (i : Fan) (f : FanState → FanState) (s : State) : (s.setFan i f).rack = s.rack := rfl
@[simp] theorem State.setFan_sup (i : Fan) (f : FanState → FanState) (s : State) : (s.setFan i f).sup = s.sup := rfl
@[simp] theorem State.setFan_str (i : Fan) (f : FanState → FanState) (s : State) : (s.setFan i f).str = s.str := rfl
@[simp] theorem State.setFan_brm (i : Fan) (f : FanState → FanState) (s : State) : (s.setFan i f).brm = s.brm := rfl
@[simp] theorem State.setFan_ldg (i : Fan) (f : FanState → FanState) (s : State) : (s.setFan i f).ldg = s.ldg := rfl
@[simp] theorem State.setFan_frd (i : Fan) (f : FanState → FanState) (s : State) : (s.setFan i f).frd = s.frd := rfl
@[simp] theorem State.setFan_srs (i : Fan) (f : FanState → FanState) (s : State) : (s.setFan i f).srs = s.srs := rfl
@[simp] theorem State.setFan_bup (i : Fan) (f : FanState → FanState) (s : State) : (s.setFan i f).bup = s.bup := rfl
@[simp] theorem State.setFan_cool (i : Fan) (f : FanState → FanState) (s : State) : (s.setFan i f).cool = { s.cool with fan := s.cool.fan.set i (f s.cool.fan[i]) } := rfl
@[simp] theorem State.setFan_sec (i : Fan) (f : FanState → FanState) (s : State) : (s.setFan i f).sec = s.sec := rfl
@[simp] theorem State.setFan_saf (i : Fan) (f : FanState → FanState) (s : State) : (s.setFan i f).saf = s.saf := rfl
@[simp] theorem State.setFan_link (i : Fan) (f : FanState → FanState) (s : State) : (s.setFan i f).link = s.link := rfl
@[simp] theorem State.setFan_nv (i : Fan) (f : FanState → FanState) (s : State) : (s.setFan i f).nv = s.nv := rfl
@[simp] theorem State.setFan_free (i : Fan) (f : FanState → FanState) (s : State) : (s.setFan i f).free = s.free := rfl
@[simp] theorem State.setFan_out (i : Fan) (f : FanState → FanState) (s : State) : (s.setFan i f).out = s.out := rfl
@[simp] theorem State.setFan_pending (i : Fan) (f : FanState → FanState) (s : State) : (s.setFan i f).pending = s.pending := rfl

/-! `State.setPump`. -/

@[simp] theorem State.setPump_sys (i : Pump) (f : PumpState → PumpState) (s : State) : (s.setPump i f).sys = s.sys := rfl
@[simp] theorem State.setPump_rcd (i : Pump) (f : PumpState → PumpState) (s : State) : (s.setPump i f).rcd = s.rcd := rfl
@[simp] theorem State.setPump_mbx (i : Pump) (f : PumpState → PumpState) (s : State) : (s.setPump i f).mbx = s.mbx := rfl
@[simp] theorem State.setPump_net (i : Pump) (f : PumpState → PumpState) (s : State) : (s.setPump i f).net = s.net := rfl
@[simp] theorem State.setPump_twb (i : Pump) (f : PumpState → PumpState) (s : State) : (s.setPump i f).twb = s.twb := rfl
@[simp] theorem State.setPump_acc (i : Pump) (f : PumpState → PumpState) (s : State) : (s.setPump i f).acc = s.acc := rfl
@[simp] theorem State.setPump_crz (i : Pump) (f : PumpState → PumpState) (s : State) : (s.setPump i f).crz = s.crz := rfl
@[simp] theorem State.setPump_rack (i : Pump) (f : PumpState → PumpState) (s : State) : (s.setPump i f).rack = s.rack := rfl
@[simp] theorem State.setPump_sup (i : Pump) (f : PumpState → PumpState) (s : State) : (s.setPump i f).sup = s.sup := rfl
@[simp] theorem State.setPump_str (i : Pump) (f : PumpState → PumpState) (s : State) : (s.setPump i f).str = s.str := rfl
@[simp] theorem State.setPump_brm (i : Pump) (f : PumpState → PumpState) (s : State) : (s.setPump i f).brm = s.brm := rfl
@[simp] theorem State.setPump_ldg (i : Pump) (f : PumpState → PumpState) (s : State) : (s.setPump i f).ldg = s.ldg := rfl
@[simp] theorem State.setPump_frd (i : Pump) (f : PumpState → PumpState) (s : State) : (s.setPump i f).frd = s.frd := rfl
@[simp] theorem State.setPump_srs (i : Pump) (f : PumpState → PumpState) (s : State) : (s.setPump i f).srs = s.srs := rfl
@[simp] theorem State.setPump_bup (i : Pump) (f : PumpState → PumpState) (s : State) : (s.setPump i f).bup = s.bup := rfl
@[simp] theorem State.setPump_cool (i : Pump) (f : PumpState → PumpState) (s : State) : (s.setPump i f).cool = { s.cool with pump := s.cool.pump.set i (f s.cool.pump[i]) } := rfl
@[simp] theorem State.setPump_sec (i : Pump) (f : PumpState → PumpState) (s : State) : (s.setPump i f).sec = s.sec := rfl
@[simp] theorem State.setPump_saf (i : Pump) (f : PumpState → PumpState) (s : State) : (s.setPump i f).saf = s.saf := rfl
@[simp] theorem State.setPump_link (i : Pump) (f : PumpState → PumpState) (s : State) : (s.setPump i f).link = s.link := rfl
@[simp] theorem State.setPump_nv (i : Pump) (f : PumpState → PumpState) (s : State) : (s.setPump i f).nv = s.nv := rfl
@[simp] theorem State.setPump_free (i : Pump) (f : PumpState → PumpState) (s : State) : (s.setPump i f).free = s.free := rfl
@[simp] theorem State.setPump_out (i : Pump) (f : PumpState → PumpState) (s : State) : (s.setPump i f).out = s.out := rfl
@[simp] theorem State.setPump_pending (i : Pump) (f : PumpState → PumpState) (s : State) : (s.setPump i f).pending = s.pending := rfl

/-! `State.setLoop`. -/

@[simp] theorem State.setLoop_sys (i : Loop) (f : LoopState → LoopState) (s : State) : (s.setLoop i f).sys = s.sys := rfl
@[simp] theorem State.setLoop_rcd (i : Loop) (f : LoopState → LoopState) (s : State) : (s.setLoop i f).rcd = s.rcd := rfl
@[simp] theorem State.setLoop_mbx (i : Loop) (f : LoopState → LoopState) (s : State) : (s.setLoop i f).mbx = s.mbx := rfl
@[simp] theorem State.setLoop_net (i : Loop) (f : LoopState → LoopState) (s : State) : (s.setLoop i f).net = s.net := rfl
@[simp] theorem State.setLoop_twb (i : Loop) (f : LoopState → LoopState) (s : State) : (s.setLoop i f).twb = s.twb := rfl
@[simp] theorem State.setLoop_acc (i : Loop) (f : LoopState → LoopState) (s : State) : (s.setLoop i f).acc = s.acc := rfl
@[simp] theorem State.setLoop_crz (i : Loop) (f : LoopState → LoopState) (s : State) : (s.setLoop i f).crz = s.crz := rfl
@[simp] theorem State.setLoop_rack (i : Loop) (f : LoopState → LoopState) (s : State) : (s.setLoop i f).rack = s.rack := rfl
@[simp] theorem State.setLoop_sup (i : Loop) (f : LoopState → LoopState) (s : State) : (s.setLoop i f).sup = s.sup := rfl
@[simp] theorem State.setLoop_str (i : Loop) (f : LoopState → LoopState) (s : State) : (s.setLoop i f).str = s.str := rfl
@[simp] theorem State.setLoop_brm (i : Loop) (f : LoopState → LoopState) (s : State) : (s.setLoop i f).brm = s.brm := rfl
@[simp] theorem State.setLoop_ldg (i : Loop) (f : LoopState → LoopState) (s : State) : (s.setLoop i f).ldg = s.ldg := rfl
@[simp] theorem State.setLoop_frd (i : Loop) (f : LoopState → LoopState) (s : State) : (s.setLoop i f).frd = s.frd := rfl
@[simp] theorem State.setLoop_srs (i : Loop) (f : LoopState → LoopState) (s : State) : (s.setLoop i f).srs = s.srs := rfl
@[simp] theorem State.setLoop_bup (i : Loop) (f : LoopState → LoopState) (s : State) : (s.setLoop i f).bup = s.bup := rfl
@[simp] theorem State.setLoop_cool (i : Loop) (f : LoopState → LoopState) (s : State) : (s.setLoop i f).cool = { s.cool with loop := s.cool.loop.set i (f s.cool.loop[i]) } := rfl
@[simp] theorem State.setLoop_sec (i : Loop) (f : LoopState → LoopState) (s : State) : (s.setLoop i f).sec = s.sec := rfl
@[simp] theorem State.setLoop_saf (i : Loop) (f : LoopState → LoopState) (s : State) : (s.setLoop i f).saf = s.saf := rfl
@[simp] theorem State.setLoop_link (i : Loop) (f : LoopState → LoopState) (s : State) : (s.setLoop i f).link = s.link := rfl
@[simp] theorem State.setLoop_nv (i : Loop) (f : LoopState → LoopState) (s : State) : (s.setLoop i f).nv = s.nv := rfl
@[simp] theorem State.setLoop_free (i : Loop) (f : LoopState → LoopState) (s : State) : (s.setLoop i f).free = s.free := rfl
@[simp] theorem State.setLoop_out (i : Loop) (f : LoopState → LoopState) (s : State) : (s.setLoop i f).out = s.out := rfl
@[simp] theorem State.setLoop_pending (i : Loop) (f : LoopState → LoopState) (s : State) : (s.setLoop i f).pending = s.pending := rfl

/-! `State.setThm`. -/

@[simp] theorem State.setThm_sys (i : Fin 24) (f : ThmState → ThmState) (s : State) : (s.setThm i f).sys = s.sys := rfl
@[simp] theorem State.setThm_rcd (i : Fin 24) (f : ThmState → ThmState) (s : State) : (s.setThm i f).rcd = s.rcd := rfl
@[simp] theorem State.setThm_mbx (i : Fin 24) (f : ThmState → ThmState) (s : State) : (s.setThm i f).mbx = s.mbx := rfl
@[simp] theorem State.setThm_net (i : Fin 24) (f : ThmState → ThmState) (s : State) : (s.setThm i f).net = s.net := rfl
@[simp] theorem State.setThm_twb (i : Fin 24) (f : ThmState → ThmState) (s : State) : (s.setThm i f).twb = s.twb := rfl
@[simp] theorem State.setThm_acc (i : Fin 24) (f : ThmState → ThmState) (s : State) : (s.setThm i f).acc = s.acc := rfl
@[simp] theorem State.setThm_crz (i : Fin 24) (f : ThmState → ThmState) (s : State) : (s.setThm i f).crz = s.crz := rfl
@[simp] theorem State.setThm_rack (i : Fin 24) (f : ThmState → ThmState) (s : State) : (s.setThm i f).rack = s.rack := rfl
@[simp] theorem State.setThm_sup (i : Fin 24) (f : ThmState → ThmState) (s : State) : (s.setThm i f).sup = s.sup := rfl
@[simp] theorem State.setThm_str (i : Fin 24) (f : ThmState → ThmState) (s : State) : (s.setThm i f).str = s.str := rfl
@[simp] theorem State.setThm_brm (i : Fin 24) (f : ThmState → ThmState) (s : State) : (s.setThm i f).brm = s.brm := rfl
@[simp] theorem State.setThm_ldg (i : Fin 24) (f : ThmState → ThmState) (s : State) : (s.setThm i f).ldg = s.ldg := rfl
@[simp] theorem State.setThm_frd (i : Fin 24) (f : ThmState → ThmState) (s : State) : (s.setThm i f).frd = s.frd := rfl
@[simp] theorem State.setThm_srs (i : Fin 24) (f : ThmState → ThmState) (s : State) : (s.setThm i f).srs = s.srs := rfl
@[simp] theorem State.setThm_bup (i : Fin 24) (f : ThmState → ThmState) (s : State) : (s.setThm i f).bup = s.bup := rfl
@[simp] theorem State.setThm_cool (i : Fin 24) (f : ThmState → ThmState) (s : State) : (s.setThm i f).cool = { s.cool with thm := s.cool.thm.set i (f s.cool.thm[i]) } := rfl
@[simp] theorem State.setThm_sec (i : Fin 24) (f : ThmState → ThmState) (s : State) : (s.setThm i f).sec = s.sec := rfl
@[simp] theorem State.setThm_saf (i : Fin 24) (f : ThmState → ThmState) (s : State) : (s.setThm i f).saf = s.saf := rfl
@[simp] theorem State.setThm_link (i : Fin 24) (f : ThmState → ThmState) (s : State) : (s.setThm i f).link = s.link := rfl
@[simp] theorem State.setThm_nv (i : Fin 24) (f : ThmState → ThmState) (s : State) : (s.setThm i f).nv = s.nv := rfl
@[simp] theorem State.setThm_free (i : Fin 24) (f : ThmState → ThmState) (s : State) : (s.setThm i f).free = s.free := rfl
@[simp] theorem State.setThm_out (i : Fin 24) (f : ThmState → ThmState) (s : State) : (s.setThm i f).out = s.out := rfl
@[simp] theorem State.setThm_pending (i : Fin 24) (f : ThmState → ThmState) (s : State) : (s.setThm i f).pending = s.pending := rfl

/-! `State.setLeak`. -/

@[simp] theorem State.setLeak_sys (i : Fin 10) (f : LeakState → LeakState) (s : State) : (s.setLeak i f).sys = s.sys := rfl
@[simp] theorem State.setLeak_rcd (i : Fin 10) (f : LeakState → LeakState) (s : State) : (s.setLeak i f).rcd = s.rcd := rfl
@[simp] theorem State.setLeak_mbx (i : Fin 10) (f : LeakState → LeakState) (s : State) : (s.setLeak i f).mbx = s.mbx := rfl
@[simp] theorem State.setLeak_net (i : Fin 10) (f : LeakState → LeakState) (s : State) : (s.setLeak i f).net = s.net := rfl
@[simp] theorem State.setLeak_twb (i : Fin 10) (f : LeakState → LeakState) (s : State) : (s.setLeak i f).twb = s.twb := rfl
@[simp] theorem State.setLeak_acc (i : Fin 10) (f : LeakState → LeakState) (s : State) : (s.setLeak i f).acc = s.acc := rfl
@[simp] theorem State.setLeak_crz (i : Fin 10) (f : LeakState → LeakState) (s : State) : (s.setLeak i f).crz = s.crz := rfl
@[simp] theorem State.setLeak_rack (i : Fin 10) (f : LeakState → LeakState) (s : State) : (s.setLeak i f).rack = s.rack := rfl
@[simp] theorem State.setLeak_sup (i : Fin 10) (f : LeakState → LeakState) (s : State) : (s.setLeak i f).sup = s.sup := rfl
@[simp] theorem State.setLeak_str (i : Fin 10) (f : LeakState → LeakState) (s : State) : (s.setLeak i f).str = s.str := rfl
@[simp] theorem State.setLeak_brm (i : Fin 10) (f : LeakState → LeakState) (s : State) : (s.setLeak i f).brm = s.brm := rfl
@[simp] theorem State.setLeak_ldg (i : Fin 10) (f : LeakState → LeakState) (s : State) : (s.setLeak i f).ldg = s.ldg := rfl
@[simp] theorem State.setLeak_frd (i : Fin 10) (f : LeakState → LeakState) (s : State) : (s.setLeak i f).frd = s.frd := rfl
@[simp] theorem State.setLeak_srs (i : Fin 10) (f : LeakState → LeakState) (s : State) : (s.setLeak i f).srs = s.srs := rfl
@[simp] theorem State.setLeak_bup (i : Fin 10) (f : LeakState → LeakState) (s : State) : (s.setLeak i f).bup = s.bup := rfl
@[simp] theorem State.setLeak_cool (i : Fin 10) (f : LeakState → LeakState) (s : State) : (s.setLeak i f).cool = { s.cool with leak := s.cool.leak.set i (f s.cool.leak[i]) } := rfl
@[simp] theorem State.setLeak_sec (i : Fin 10) (f : LeakState → LeakState) (s : State) : (s.setLeak i f).sec = s.sec := rfl
@[simp] theorem State.setLeak_saf (i : Fin 10) (f : LeakState → LeakState) (s : State) : (s.setLeak i f).saf = s.saf := rfl
@[simp] theorem State.setLeak_link (i : Fin 10) (f : LeakState → LeakState) (s : State) : (s.setLeak i f).link = s.link := rfl
@[simp] theorem State.setLeak_nv (i : Fin 10) (f : LeakState → LeakState) (s : State) : (s.setLeak i f).nv = s.nv := rfl
@[simp] theorem State.setLeak_free (i : Fin 10) (f : LeakState → LeakState) (s : State) : (s.setLeak i f).free = s.free := rfl
@[simp] theorem State.setLeak_out (i : Fin 10) (f : LeakState → LeakState) (s : State) : (s.setLeak i f).out = s.out := rfl
@[simp] theorem State.setLeak_pending (i : Fin 10) (f : LeakState → LeakState) (s : State) : (s.setLeak i f).pending = s.pending := rfl

/-! `State.setPort`. -/

@[simp] theorem State.setPort_sys (i : Port) (f : PortState → PortState) (s : State) : (s.setPort i f).sys = s.sys := rfl
@[simp] theorem State.setPort_rcd (i : Port) (f : PortState → PortState) (s : State) : (s.setPort i f).rcd = s.rcd := rfl
@[simp] theorem State.setPort_mbx (i : Port) (f : PortState → PortState) (s : State) : (s.setPort i f).mbx = s.mbx := rfl
@[simp] theorem State.setPort_net (i : Port) (f : PortState → PortState) (s : State) : (s.setPort i f).net = s.net := rfl
@[simp] theorem State.setPort_twb (i : Port) (f : PortState → PortState) (s : State) : (s.setPort i f).twb = { s.twb with port := s.twb.port.set i (f s.twb.port[i]) } := rfl
@[simp] theorem State.setPort_acc (i : Port) (f : PortState → PortState) (s : State) : (s.setPort i f).acc = s.acc := rfl
@[simp] theorem State.setPort_crz (i : Port) (f : PortState → PortState) (s : State) : (s.setPort i f).crz = s.crz := rfl
@[simp] theorem State.setPort_rack (i : Port) (f : PortState → PortState) (s : State) : (s.setPort i f).rack = s.rack := rfl
@[simp] theorem State.setPort_sup (i : Port) (f : PortState → PortState) (s : State) : (s.setPort i f).sup = s.sup := rfl
@[simp] theorem State.setPort_str (i : Port) (f : PortState → PortState) (s : State) : (s.setPort i f).str = s.str := rfl
@[simp] theorem State.setPort_brm (i : Port) (f : PortState → PortState) (s : State) : (s.setPort i f).brm = s.brm := rfl
@[simp] theorem State.setPort_ldg (i : Port) (f : PortState → PortState) (s : State) : (s.setPort i f).ldg = s.ldg := rfl
@[simp] theorem State.setPort_frd (i : Port) (f : PortState → PortState) (s : State) : (s.setPort i f).frd = s.frd := rfl
@[simp] theorem State.setPort_srs (i : Port) (f : PortState → PortState) (s : State) : (s.setPort i f).srs = s.srs := rfl
@[simp] theorem State.setPort_bup (i : Port) (f : PortState → PortState) (s : State) : (s.setPort i f).bup = s.bup := rfl
@[simp] theorem State.setPort_cool (i : Port) (f : PortState → PortState) (s : State) : (s.setPort i f).cool = s.cool := rfl
@[simp] theorem State.setPort_sec (i : Port) (f : PortState → PortState) (s : State) : (s.setPort i f).sec = s.sec := rfl
@[simp] theorem State.setPort_saf (i : Port) (f : PortState → PortState) (s : State) : (s.setPort i f).saf = s.saf := rfl
@[simp] theorem State.setPort_link (i : Port) (f : PortState → PortState) (s : State) : (s.setPort i f).link = s.link := rfl
@[simp] theorem State.setPort_nv (i : Port) (f : PortState → PortState) (s : State) : (s.setPort i f).nv = s.nv := rfl
@[simp] theorem State.setPort_free (i : Port) (f : PortState → PortState) (s : State) : (s.setPort i f).free = s.free := rfl
@[simp] theorem State.setPort_out (i : Port) (f : PortState → PortState) (s : State) : (s.setPort i f).out = s.out := rfl
@[simp] theorem State.setPort_pending (i : Port) (f : PortState → PortState) (s : State) : (s.setPort i f).pending = s.pending := rfl

/-! `State.setAvs`. -/

@[simp] theorem State.setAvs_sys (i : Acc) (f : AvsState → AvsState) (s : State) : (s.setAvs i f).sys = s.sys := rfl
@[simp] theorem State.setAvs_rcd (i : Acc) (f : AvsState → AvsState) (s : State) : (s.setAvs i f).rcd = s.rcd := rfl
@[simp] theorem State.setAvs_mbx (i : Acc) (f : AvsState → AvsState) (s : State) : (s.setAvs i f).mbx = s.mbx := rfl
@[simp] theorem State.setAvs_net (i : Acc) (f : AvsState → AvsState) (s : State) : (s.setAvs i f).net = s.net := rfl
@[simp] theorem State.setAvs_twb (i : Acc) (f : AvsState → AvsState) (s : State) : (s.setAvs i f).twb = { s.twb with avs := s.twb.avs.set i (f s.twb.avs[i]) } := rfl
@[simp] theorem State.setAvs_acc (i : Acc) (f : AvsState → AvsState) (s : State) : (s.setAvs i f).acc = s.acc := rfl
@[simp] theorem State.setAvs_crz (i : Acc) (f : AvsState → AvsState) (s : State) : (s.setAvs i f).crz = s.crz := rfl
@[simp] theorem State.setAvs_rack (i : Acc) (f : AvsState → AvsState) (s : State) : (s.setAvs i f).rack = s.rack := rfl
@[simp] theorem State.setAvs_sup (i : Acc) (f : AvsState → AvsState) (s : State) : (s.setAvs i f).sup = s.sup := rfl
@[simp] theorem State.setAvs_str (i : Acc) (f : AvsState → AvsState) (s : State) : (s.setAvs i f).str = s.str := rfl
@[simp] theorem State.setAvs_brm (i : Acc) (f : AvsState → AvsState) (s : State) : (s.setAvs i f).brm = s.brm := rfl
@[simp] theorem State.setAvs_ldg (i : Acc) (f : AvsState → AvsState) (s : State) : (s.setAvs i f).ldg = s.ldg := rfl
@[simp] theorem State.setAvs_frd (i : Acc) (f : AvsState → AvsState) (s : State) : (s.setAvs i f).frd = s.frd := rfl
@[simp] theorem State.setAvs_srs (i : Acc) (f : AvsState → AvsState) (s : State) : (s.setAvs i f).srs = s.srs := rfl
@[simp] theorem State.setAvs_bup (i : Acc) (f : AvsState → AvsState) (s : State) : (s.setAvs i f).bup = s.bup := rfl
@[simp] theorem State.setAvs_cool (i : Acc) (f : AvsState → AvsState) (s : State) : (s.setAvs i f).cool = s.cool := rfl
@[simp] theorem State.setAvs_sec (i : Acc) (f : AvsState → AvsState) (s : State) : (s.setAvs i f).sec = s.sec := rfl
@[simp] theorem State.setAvs_saf (i : Acc) (f : AvsState → AvsState) (s : State) : (s.setAvs i f).saf = s.saf := rfl
@[simp] theorem State.setAvs_link (i : Acc) (f : AvsState → AvsState) (s : State) : (s.setAvs i f).link = s.link := rfl
@[simp] theorem State.setAvs_nv (i : Acc) (f : AvsState → AvsState) (s : State) : (s.setAvs i f).nv = s.nv := rfl
@[simp] theorem State.setAvs_free (i : Acc) (f : AvsState → AvsState) (s : State) : (s.setAvs i f).free = s.free := rfl
@[simp] theorem State.setAvs_out (i : Acc) (f : AvsState → AvsState) (s : State) : (s.setAvs i f).out = s.out := rfl
@[simp] theorem State.setAvs_pending (i : Acc) (f : AvsState → AvsState) (s : State) : (s.setAvs i f).pending = s.pending := rfl

/-! `State.setChan`. -/

@[simp] theorem State.setChan_sys (i : Chan) (f : ChanState → ChanState) (s : State) : (s.setChan i f).sys = s.sys := rfl
@[simp] theorem State.setChan_rcd (i : Chan) (f : ChanState → ChanState) (s : State) : (s.setChan i f).rcd = s.rcd := rfl
@[simp] theorem State.setChan_mbx (i : Chan) (f : ChanState → ChanState) (s : State) : (s.setChan i f).mbx = s.mbx := rfl
@[simp] theorem State.setChan_net (i : Chan) (f : ChanState → ChanState) (s : State) : (s.setChan i f).net = s.net := rfl
@[simp] theorem State.setChan_twb (i : Chan) (f : ChanState → ChanState) (s : State) : (s.setChan i f).twb = s.twb := rfl
@[simp] theorem State.setChan_acc (i : Chan) (f : ChanState → ChanState) (s : State) : (s.setChan i f).acc = s.acc := rfl
@[simp] theorem State.setChan_crz (i : Chan) (f : ChanState → ChanState) (s : State) : (s.setChan i f).crz = { s.crz with chan := s.crz.chan.set i (f s.crz.chan[i]) } := rfl
@[simp] theorem State.setChan_rack (i : Chan) (f : ChanState → ChanState) (s : State) : (s.setChan i f).rack = s.rack := rfl
@[simp] theorem State.setChan_sup (i : Chan) (f : ChanState → ChanState) (s : State) : (s.setChan i f).sup = s.sup := rfl
@[simp] theorem State.setChan_str (i : Chan) (f : ChanState → ChanState) (s : State) : (s.setChan i f).str = s.str := rfl
@[simp] theorem State.setChan_brm (i : Chan) (f : ChanState → ChanState) (s : State) : (s.setChan i f).brm = s.brm := rfl
@[simp] theorem State.setChan_ldg (i : Chan) (f : ChanState → ChanState) (s : State) : (s.setChan i f).ldg = s.ldg := rfl
@[simp] theorem State.setChan_frd (i : Chan) (f : ChanState → ChanState) (s : State) : (s.setChan i f).frd = s.frd := rfl
@[simp] theorem State.setChan_srs (i : Chan) (f : ChanState → ChanState) (s : State) : (s.setChan i f).srs = s.srs := rfl
@[simp] theorem State.setChan_bup (i : Chan) (f : ChanState → ChanState) (s : State) : (s.setChan i f).bup = s.bup := rfl
@[simp] theorem State.setChan_cool (i : Chan) (f : ChanState → ChanState) (s : State) : (s.setChan i f).cool = s.cool := rfl
@[simp] theorem State.setChan_sec (i : Chan) (f : ChanState → ChanState) (s : State) : (s.setChan i f).sec = s.sec := rfl
@[simp] theorem State.setChan_saf (i : Chan) (f : ChanState → ChanState) (s : State) : (s.setChan i f).saf = s.saf := rfl
@[simp] theorem State.setChan_link (i : Chan) (f : ChanState → ChanState) (s : State) : (s.setChan i f).link = s.link := rfl
@[simp] theorem State.setChan_nv (i : Chan) (f : ChanState → ChanState) (s : State) : (s.setChan i f).nv = s.nv := rfl
@[simp] theorem State.setChan_free (i : Chan) (f : ChanState → ChanState) (s : State) : (s.setChan i f).free = s.free := rfl
@[simp] theorem State.setChan_out (i : Chan) (f : ChanState → ChanState) (s : State) : (s.setChan i f).out = s.out := rfl
@[simp] theorem State.setChan_pending (i : Chan) (f : ChanState → ChanState) (s : State) : (s.setChan i f).pending = s.pending := rfl

/-! `State.setRail`. -/

@[simp] theorem State.setRail_sys (i : Rail) (f : RailState → RailState) (s : State) : (s.setRail i f).sys = s.sys := rfl
@[simp] theorem State.setRail_rcd (i : Rail) (f : RailState → RailState) (s : State) : (s.setRail i f).rcd = s.rcd := rfl
@[simp] theorem State.setRail_mbx (i : Rail) (f : RailState → RailState) (s : State) : (s.setRail i f).mbx = s.mbx := rfl
@[simp] theorem State.setRail_net (i : Rail) (f : RailState → RailState) (s : State) : (s.setRail i f).net = s.net := rfl
@[simp] theorem State.setRail_twb (i : Rail) (f : RailState → RailState) (s : State) : (s.setRail i f).twb = s.twb := rfl
@[simp] theorem State.setRail_acc (i : Rail) (f : RailState → RailState) (s : State) : (s.setRail i f).acc = s.acc := rfl
@[simp] theorem State.setRail_crz (i : Rail) (f : RailState → RailState) (s : State) : (s.setRail i f).crz = { s.crz with rail := s.crz.rail.set i (f s.crz.rail[i]) } := rfl
@[simp] theorem State.setRail_rack (i : Rail) (f : RailState → RailState) (s : State) : (s.setRail i f).rack = s.rack := rfl
@[simp] theorem State.setRail_sup (i : Rail) (f : RailState → RailState) (s : State) : (s.setRail i f).sup = s.sup := rfl
@[simp] theorem State.setRail_str (i : Rail) (f : RailState → RailState) (s : State) : (s.setRail i f).str = s.str := rfl
@[simp] theorem State.setRail_brm (i : Rail) (f : RailState → RailState) (s : State) : (s.setRail i f).brm = s.brm := rfl
@[simp] theorem State.setRail_ldg (i : Rail) (f : RailState → RailState) (s : State) : (s.setRail i f).ldg = s.ldg := rfl
@[simp] theorem State.setRail_frd (i : Rail) (f : RailState → RailState) (s : State) : (s.setRail i f).frd = s.frd := rfl
@[simp] theorem State.setRail_srs (i : Rail) (f : RailState → RailState) (s : State) : (s.setRail i f).srs = s.srs := rfl
@[simp] theorem State.setRail_bup (i : Rail) (f : RailState → RailState) (s : State) : (s.setRail i f).bup = s.bup := rfl
@[simp] theorem State.setRail_cool (i : Rail) (f : RailState → RailState) (s : State) : (s.setRail i f).cool = s.cool := rfl
@[simp] theorem State.setRail_sec (i : Rail) (f : RailState → RailState) (s : State) : (s.setRail i f).sec = s.sec := rfl
@[simp] theorem State.setRail_saf (i : Rail) (f : RailState → RailState) (s : State) : (s.setRail i f).saf = s.saf := rfl
@[simp] theorem State.setRail_link (i : Rail) (f : RailState → RailState) (s : State) : (s.setRail i f).link = s.link := rfl
@[simp] theorem State.setRail_nv (i : Rail) (f : RailState → RailState) (s : State) : (s.setRail i f).nv = s.nv := rfl
@[simp] theorem State.setRail_free (i : Rail) (f : RailState → RailState) (s : State) : (s.setRail i f).free = s.free := rfl
@[simp] theorem State.setRail_out (i : Rail) (f : RailState → RailState) (s : State) : (s.setRail i f).out = s.out := rfl
@[simp] theorem State.setRail_pending (i : Rail) (f : RailState → RailState) (s : State) : (s.setRail i f).pending = s.pending := rfl

/-! `State.setEntry`. -/

@[simp] theorem State.setEntry_sys (i : Rail) (f : RailEntry → RailEntry) (s : State) : (s.setEntry i f).sys = s.sys := rfl
@[simp] theorem State.setEntry_rcd (i : Rail) (f : RailEntry → RailEntry) (s : State) : (s.setEntry i f).rcd = s.rcd := rfl
@[simp] theorem State.setEntry_mbx (i : Rail) (f : RailEntry → RailEntry) (s : State) : (s.setEntry i f).mbx = s.mbx := rfl
@[simp] theorem State.setEntry_net (i : Rail) (f : RailEntry → RailEntry) (s : State) : (s.setEntry i f).net = s.net := rfl
@[simp] theorem State.setEntry_twb (i : Rail) (f : RailEntry → RailEntry) (s : State) : (s.setEntry i f).twb = s.twb := rfl
@[simp] theorem State.setEntry_acc (i : Rail) (f : RailEntry → RailEntry) (s : State) : (s.setEntry i f).acc = s.acc := rfl
@[simp] theorem State.setEntry_crz (i : Rail) (f : RailEntry → RailEntry) (s : State) : (s.setEntry i f).crz = s.crz := rfl
@[simp] theorem State.setEntry_rack (i : Rail) (f : RailEntry → RailEntry) (s : State) : (s.setEntry i f).rack = s.rack := rfl
@[simp] theorem State.setEntry_sup (i : Rail) (f : RailEntry → RailEntry) (s : State) : (s.setEntry i f).sup = { s.sup with entry := s.sup.entry.set i (f s.sup.entry[i]) } := rfl
@[simp] theorem State.setEntry_str (i : Rail) (f : RailEntry → RailEntry) (s : State) : (s.setEntry i f).str = s.str := rfl
@[simp] theorem State.setEntry_brm (i : Rail) (f : RailEntry → RailEntry) (s : State) : (s.setEntry i f).brm = s.brm := rfl
@[simp] theorem State.setEntry_ldg (i : Rail) (f : RailEntry → RailEntry) (s : State) : (s.setEntry i f).ldg = s.ldg := rfl
@[simp] theorem State.setEntry_frd (i : Rail) (f : RailEntry → RailEntry) (s : State) : (s.setEntry i f).frd = s.frd := rfl
@[simp] theorem State.setEntry_srs (i : Rail) (f : RailEntry → RailEntry) (s : State) : (s.setEntry i f).srs = s.srs := rfl
@[simp] theorem State.setEntry_bup (i : Rail) (f : RailEntry → RailEntry) (s : State) : (s.setEntry i f).bup = s.bup := rfl
@[simp] theorem State.setEntry_cool (i : Rail) (f : RailEntry → RailEntry) (s : State) : (s.setEntry i f).cool = s.cool := rfl
@[simp] theorem State.setEntry_sec (i : Rail) (f : RailEntry → RailEntry) (s : State) : (s.setEntry i f).sec = s.sec := rfl
@[simp] theorem State.setEntry_saf (i : Rail) (f : RailEntry → RailEntry) (s : State) : (s.setEntry i f).saf = s.saf := rfl
@[simp] theorem State.setEntry_link (i : Rail) (f : RailEntry → RailEntry) (s : State) : (s.setEntry i f).link = s.link := rfl
@[simp] theorem State.setEntry_nv (i : Rail) (f : RailEntry → RailEntry) (s : State) : (s.setEntry i f).nv = s.nv := rfl
@[simp] theorem State.setEntry_free (i : Rail) (f : RailEntry → RailEntry) (s : State) : (s.setEntry i f).free = s.free := rfl
@[simp] theorem State.setEntry_out (i : Rail) (f : RailEntry → RailEntry) (s : State) : (s.setEntry i f).out = s.out := rfl
@[simp] theorem State.setEntry_pending (i : Rail) (f : RailEntry → RailEntry) (s : State) : (s.setEntry i f).pending = s.pending := rfl

/-! `State.setAccFw`. -/

@[simp] theorem State.setAccFw_sys (i : Acc) (f : AccFwState → AccFwState) (s : State) : (s.setAccFw i f).sys = s.sys := rfl
@[simp] theorem State.setAccFw_rcd (i : Acc) (f : AccFwState → AccFwState) (s : State) : (s.setAccFw i f).rcd = s.rcd := rfl
@[simp] theorem State.setAccFw_mbx (i : Acc) (f : AccFwState → AccFwState) (s : State) : (s.setAccFw i f).mbx = s.mbx := rfl
@[simp] theorem State.setAccFw_net (i : Acc) (f : AccFwState → AccFwState) (s : State) : (s.setAccFw i f).net = s.net := rfl
@[simp] theorem State.setAccFw_twb (i : Acc) (f : AccFwState → AccFwState) (s : State) : (s.setAccFw i f).twb = s.twb := rfl
@[simp] theorem State.setAccFw_acc (i : Acc) (f : AccFwState → AccFwState) (s : State) : (s.setAccFw i f).acc = s.acc := rfl
@[simp] theorem State.setAccFw_crz (i : Acc) (f : AccFwState → AccFwState) (s : State) : (s.setAccFw i f).crz = s.crz := rfl
@[simp] theorem State.setAccFw_rack (i : Acc) (f : AccFwState → AccFwState) (s : State) : (s.setAccFw i f).rack = s.rack := rfl
@[simp] theorem State.setAccFw_sup (i : Acc) (f : AccFwState → AccFwState) (s : State) : (s.setAccFw i f).sup = s.sup := rfl
@[simp] theorem State.setAccFw_str (i : Acc) (f : AccFwState → AccFwState) (s : State) : (s.setAccFw i f).str = s.str := rfl
@[simp] theorem State.setAccFw_brm (i : Acc) (f : AccFwState → AccFwState) (s : State) : (s.setAccFw i f).brm = s.brm := rfl
@[simp] theorem State.setAccFw_ldg (i : Acc) (f : AccFwState → AccFwState) (s : State) : (s.setAccFw i f).ldg = s.ldg := rfl
@[simp] theorem State.setAccFw_frd (i : Acc) (f : AccFwState → AccFwState) (s : State) : (s.setAccFw i f).frd = s.frd := rfl
@[simp] theorem State.setAccFw_srs (i : Acc) (f : AccFwState → AccFwState) (s : State) : (s.setAccFw i f).srs = s.srs := rfl
@[simp] theorem State.setAccFw_bup (i : Acc) (f : AccFwState → AccFwState) (s : State) : (s.setAccFw i f).bup = s.bup := rfl
@[simp] theorem State.setAccFw_cool (i : Acc) (f : AccFwState → AccFwState) (s : State) : (s.setAccFw i f).cool = s.cool := rfl
@[simp] theorem State.setAccFw_sec (i : Acc) (f : AccFwState → AccFwState) (s : State) : (s.setAccFw i f).sec = { s.sec with acc := s.sec.acc.set i (f s.sec.acc[i]) } := rfl
@[simp] theorem State.setAccFw_saf (i : Acc) (f : AccFwState → AccFwState) (s : State) : (s.setAccFw i f).saf = s.saf := rfl
@[simp] theorem State.setAccFw_link (i : Acc) (f : AccFwState → AccFwState) (s : State) : (s.setAccFw i f).link = s.link := rfl
@[simp] theorem State.setAccFw_nv (i : Acc) (f : AccFwState → AccFwState) (s : State) : (s.setAccFw i f).nv = s.nv := rfl
@[simp] theorem State.setAccFw_free (i : Acc) (f : AccFwState → AccFwState) (s : State) : (s.setAccFw i f).free = s.free := rfl
@[simp] theorem State.setAccFw_out (i : Acc) (f : AccFwState → AccFwState) (s : State) : (s.setAccFw i f).out = s.out := rfl
@[simp] theorem State.setAccFw_pending (i : Acc) (f : AccFwState → AccFwState) (s : State) : (s.setAccFw i f).pending = s.pending := rfl

/-! `State.setBox`. -/

@[simp] theorem State.setBox_sys (i : Fin 2) (f : Mailbox → Mailbox) (s : State) : (s.setBox i f).sys = s.sys := rfl
@[simp] theorem State.setBox_rcd (i : Fin 2) (f : Mailbox → Mailbox) (s : State) : (s.setBox i f).rcd = s.rcd := rfl
@[simp] theorem State.setBox_mbx (i : Fin 2) (f : Mailbox → Mailbox) (s : State) : (s.setBox i f).mbx = { s.mbx with box := s.mbx.box.set i (f s.mbx.box[i]) } := rfl
@[simp] theorem State.setBox_net (i : Fin 2) (f : Mailbox → Mailbox) (s : State) : (s.setBox i f).net = s.net := rfl
@[simp] theorem State.setBox_twb (i : Fin 2) (f : Mailbox → Mailbox) (s : State) : (s.setBox i f).twb = s.twb := rfl
@[simp] theorem State.setBox_acc (i : Fin 2) (f : Mailbox → Mailbox) (s : State) : (s.setBox i f).acc = s.acc := rfl
@[simp] theorem State.setBox_crz (i : Fin 2) (f : Mailbox → Mailbox) (s : State) : (s.setBox i f).crz = s.crz := rfl
@[simp] theorem State.setBox_rack (i : Fin 2) (f : Mailbox → Mailbox) (s : State) : (s.setBox i f).rack = s.rack := rfl
@[simp] theorem State.setBox_sup (i : Fin 2) (f : Mailbox → Mailbox) (s : State) : (s.setBox i f).sup = s.sup := rfl
@[simp] theorem State.setBox_str (i : Fin 2) (f : Mailbox → Mailbox) (s : State) : (s.setBox i f).str = s.str := rfl
@[simp] theorem State.setBox_brm (i : Fin 2) (f : Mailbox → Mailbox) (s : State) : (s.setBox i f).brm = s.brm := rfl
@[simp] theorem State.setBox_ldg (i : Fin 2) (f : Mailbox → Mailbox) (s : State) : (s.setBox i f).ldg = s.ldg := rfl
@[simp] theorem State.setBox_frd (i : Fin 2) (f : Mailbox → Mailbox) (s : State) : (s.setBox i f).frd = s.frd := rfl
@[simp] theorem State.setBox_srs (i : Fin 2) (f : Mailbox → Mailbox) (s : State) : (s.setBox i f).srs = s.srs := rfl
@[simp] theorem State.setBox_bup (i : Fin 2) (f : Mailbox → Mailbox) (s : State) : (s.setBox i f).bup = s.bup := rfl
@[simp] theorem State.setBox_cool (i : Fin 2) (f : Mailbox → Mailbox) (s : State) : (s.setBox i f).cool = s.cool := rfl
@[simp] theorem State.setBox_sec (i : Fin 2) (f : Mailbox → Mailbox) (s : State) : (s.setBox i f).sec = s.sec := rfl
@[simp] theorem State.setBox_saf (i : Fin 2) (f : Mailbox → Mailbox) (s : State) : (s.setBox i f).saf = s.saf := rfl
@[simp] theorem State.setBox_link (i : Fin 2) (f : Mailbox → Mailbox) (s : State) : (s.setBox i f).link = s.link := rfl
@[simp] theorem State.setBox_nv (i : Fin 2) (f : Mailbox → Mailbox) (s : State) : (s.setBox i f).nv = s.nv := rfl
@[simp] theorem State.setBox_free (i : Fin 2) (f : Mailbox → Mailbox) (s : State) : (s.setBox i f).free = s.free := rfl
@[simp] theorem State.setBox_out (i : Fin 2) (f : Mailbox → Mailbox) (s : State) : (s.setBox i f).out = s.out := rfl
@[simp] theorem State.setBox_pending (i : Fin 2) (f : Mailbox → Mailbox) (s : State) : (s.setBox i f).pending = s.pending := rfl

/-! `State.setAcc`. -/

@[simp] theorem State.setAcc_sys (i : Acc) (f : AccState → AccState) (s : State) : (s.setAcc i f).sys = s.sys := rfl
@[simp] theorem State.setAcc_rcd (i : Acc) (f : AccState → AccState) (s : State) : (s.setAcc i f).rcd = s.rcd := rfl
@[simp] theorem State.setAcc_mbx (i : Acc) (f : AccState → AccState) (s : State) : (s.setAcc i f).mbx = s.mbx := rfl
@[simp] theorem State.setAcc_net (i : Acc) (f : AccState → AccState) (s : State) : (s.setAcc i f).net = s.net := rfl
@[simp] theorem State.setAcc_twb (i : Acc) (f : AccState → AccState) (s : State) : (s.setAcc i f).twb = s.twb := rfl
@[simp] theorem State.setAcc_acc (i : Acc) (f : AccState → AccState) (s : State) : (s.setAcc i f).acc = s.acc.set i (f s.acc[i]) := rfl
@[simp] theorem State.setAcc_crz (i : Acc) (f : AccState → AccState) (s : State) : (s.setAcc i f).crz = s.crz := rfl
@[simp] theorem State.setAcc_rack (i : Acc) (f : AccState → AccState) (s : State) : (s.setAcc i f).rack = s.rack := rfl
@[simp] theorem State.setAcc_sup (i : Acc) (f : AccState → AccState) (s : State) : (s.setAcc i f).sup = s.sup := rfl
@[simp] theorem State.setAcc_str (i : Acc) (f : AccState → AccState) (s : State) : (s.setAcc i f).str = s.str := rfl
@[simp] theorem State.setAcc_brm (i : Acc) (f : AccState → AccState) (s : State) : (s.setAcc i f).brm = s.brm := rfl
@[simp] theorem State.setAcc_ldg (i : Acc) (f : AccState → AccState) (s : State) : (s.setAcc i f).ldg = s.ldg := rfl
@[simp] theorem State.setAcc_frd (i : Acc) (f : AccState → AccState) (s : State) : (s.setAcc i f).frd = s.frd := rfl
@[simp] theorem State.setAcc_srs (i : Acc) (f : AccState → AccState) (s : State) : (s.setAcc i f).srs = s.srs := rfl
@[simp] theorem State.setAcc_bup (i : Acc) (f : AccState → AccState) (s : State) : (s.setAcc i f).bup = s.bup := rfl
@[simp] theorem State.setAcc_cool (i : Acc) (f : AccState → AccState) (s : State) : (s.setAcc i f).cool = s.cool := rfl
@[simp] theorem State.setAcc_sec (i : Acc) (f : AccState → AccState) (s : State) : (s.setAcc i f).sec = s.sec := rfl
@[simp] theorem State.setAcc_saf (i : Acc) (f : AccState → AccState) (s : State) : (s.setAcc i f).saf = s.saf := rfl
@[simp] theorem State.setAcc_link (i : Acc) (f : AccState → AccState) (s : State) : (s.setAcc i f).link = s.link := rfl
@[simp] theorem State.setAcc_nv (i : Acc) (f : AccState → AccState) (s : State) : (s.setAcc i f).nv = s.nv := rfl
@[simp] theorem State.setAcc_free (i : Acc) (f : AccState → AccState) (s : State) : (s.setAcc i f).free = s.free := rfl
@[simp] theorem State.setAcc_out (i : Acc) (f : AccState → AccState) (s : State) : (s.setAcc i f).out = s.out := rfl
@[simp] theorem State.setAcc_pending (i : Acc) (f : AccState → AccState) (s : State) : (s.setAcc i f).pending = s.pending := rfl

/-! `State.setSlot`. -/

@[simp] theorem State.setSlot_sys (i : Acc) (c : Fin 48) (f : LdgSlot → LdgSlot) (s : State) : (s.setSlot i c f).sys = s.sys := rfl
@[simp] theorem State.setSlot_rcd (i : Acc) (c : Fin 48) (f : LdgSlot → LdgSlot) (s : State) : (s.setSlot i c f).rcd = s.rcd := rfl
@[simp] theorem State.setSlot_mbx (i : Acc) (c : Fin 48) (f : LdgSlot → LdgSlot) (s : State) : (s.setSlot i c f).mbx = s.mbx := rfl
@[simp] theorem State.setSlot_net (i : Acc) (c : Fin 48) (f : LdgSlot → LdgSlot) (s : State) : (s.setSlot i c f).net = s.net := rfl
@[simp] theorem State.setSlot_twb (i : Acc) (c : Fin 48) (f : LdgSlot → LdgSlot) (s : State) : (s.setSlot i c f).twb = s.twb := rfl
@[simp] theorem State.setSlot_acc (i : Acc) (c : Fin 48) (f : LdgSlot → LdgSlot) (s : State) : (s.setSlot i c f).acc = s.acc := rfl
@[simp] theorem State.setSlot_crz (i : Acc) (c : Fin 48) (f : LdgSlot → LdgSlot) (s : State) : (s.setSlot i c f).crz = s.crz := rfl
@[simp] theorem State.setSlot_rack (i : Acc) (c : Fin 48) (f : LdgSlot → LdgSlot) (s : State) : (s.setSlot i c f).rack = s.rack := rfl
@[simp] theorem State.setSlot_sup (i : Acc) (c : Fin 48) (f : LdgSlot → LdgSlot) (s : State) : (s.setSlot i c f).sup = s.sup := rfl
@[simp] theorem State.setSlot_str (i : Acc) (c : Fin 48) (f : LdgSlot → LdgSlot) (s : State) : (s.setSlot i c f).str = s.str := rfl
@[simp] theorem State.setSlot_brm (i : Acc) (c : Fin 48) (f : LdgSlot → LdgSlot) (s : State) : (s.setSlot i c f).brm = s.brm := rfl
@[simp] theorem State.setSlot_ldg (i : Acc) (c : Fin 48) (f : LdgSlot → LdgSlot) (s : State) : (s.setSlot i c f).ldg = { s.ldg with slot := s.ldg.slot.set i (s.ldg.slot[i].set c (f s.ldg.slot[i][c])) } := rfl
@[simp] theorem State.setSlot_frd (i : Acc) (c : Fin 48) (f : LdgSlot → LdgSlot) (s : State) : (s.setSlot i c f).frd = s.frd := rfl
@[simp] theorem State.setSlot_srs (i : Acc) (c : Fin 48) (f : LdgSlot → LdgSlot) (s : State) : (s.setSlot i c f).srs = s.srs := rfl
@[simp] theorem State.setSlot_bup (i : Acc) (c : Fin 48) (f : LdgSlot → LdgSlot) (s : State) : (s.setSlot i c f).bup = s.bup := rfl
@[simp] theorem State.setSlot_cool (i : Acc) (c : Fin 48) (f : LdgSlot → LdgSlot) (s : State) : (s.setSlot i c f).cool = s.cool := rfl
@[simp] theorem State.setSlot_sec (i : Acc) (c : Fin 48) (f : LdgSlot → LdgSlot) (s : State) : (s.setSlot i c f).sec = s.sec := rfl
@[simp] theorem State.setSlot_saf (i : Acc) (c : Fin 48) (f : LdgSlot → LdgSlot) (s : State) : (s.setSlot i c f).saf = s.saf := rfl
@[simp] theorem State.setSlot_link (i : Acc) (c : Fin 48) (f : LdgSlot → LdgSlot) (s : State) : (s.setSlot i c f).link = s.link := rfl
@[simp] theorem State.setSlot_nv (i : Acc) (c : Fin 48) (f : LdgSlot → LdgSlot) (s : State) : (s.setSlot i c f).nv = s.nv := rfl
@[simp] theorem State.setSlot_free (i : Acc) (c : Fin 48) (f : LdgSlot → LdgSlot) (s : State) : (s.setSlot i c f).free = s.free := rfl
@[simp] theorem State.setSlot_out (i : Acc) (c : Fin 48) (f : LdgSlot → LdgSlot) (s : State) : (s.setSlot i c f).out = s.out := rfl
@[simp] theorem State.setSlot_pending (i : Acc) (c : Fin 48) (f : LdgSlot → LdgSlot) (s : State) : (s.setSlot i c f).pending = s.pending := rfl

/-! `State.send`. -/

@[simp] theorem State.send_sys (m : Out) (s : State) : (s.send m).sys = s.sys := rfl
@[simp] theorem State.send_rcd (m : Out) (s : State) : (s.send m).rcd = s.rcd := rfl
@[simp] theorem State.send_mbx (m : Out) (s : State) : (s.send m).mbx = s.mbx := rfl
@[simp] theorem State.send_net (m : Out) (s : State) : (s.send m).net = s.net := rfl
@[simp] theorem State.send_twb (m : Out) (s : State) : (s.send m).twb = s.twb := rfl
@[simp] theorem State.send_acc (m : Out) (s : State) : (s.send m).acc = s.acc := rfl
@[simp] theorem State.send_crz (m : Out) (s : State) : (s.send m).crz = s.crz := rfl
@[simp] theorem State.send_rack (m : Out) (s : State) : (s.send m).rack = s.rack := rfl
@[simp] theorem State.send_sup (m : Out) (s : State) : (s.send m).sup = s.sup := rfl
@[simp] theorem State.send_str (m : Out) (s : State) : (s.send m).str = s.str := rfl
@[simp] theorem State.send_brm (m : Out) (s : State) : (s.send m).brm = s.brm := rfl
@[simp] theorem State.send_ldg (m : Out) (s : State) : (s.send m).ldg = s.ldg := rfl
@[simp] theorem State.send_frd (m : Out) (s : State) : (s.send m).frd = s.frd := rfl
@[simp] theorem State.send_srs (m : Out) (s : State) : (s.send m).srs = s.srs := rfl
@[simp] theorem State.send_bup (m : Out) (s : State) : (s.send m).bup = s.bup := rfl
@[simp] theorem State.send_cool (m : Out) (s : State) : (s.send m).cool = s.cool := rfl
@[simp] theorem State.send_sec (m : Out) (s : State) : (s.send m).sec = s.sec := rfl
@[simp] theorem State.send_saf (m : Out) (s : State) : (s.send m).saf = s.saf := rfl
@[simp] theorem State.send_link (m : Out) (s : State) : (s.send m).link = s.link := rfl
@[simp] theorem State.send_nv (m : Out) (s : State) : (s.send m).nv = s.nv := rfl
@[simp] theorem State.send_free (m : Out) (s : State) : (s.send m).free = s.free := rfl
@[simp] theorem State.send_out (m : Out) (s : State) : (s.send m).out = m :: s.out := rfl
@[simp] theorem State.send_pending (m : Out) (s : State) : (s.send m).pending = s.pending := rfl

/-! A draw. -/

@[simp] theorem State.draw_sys (s : State) : s.draw.2.sys = s.sys := rfl
@[simp] theorem State.draw_rcd (s : State) : s.draw.2.rcd = s.rcd := rfl
@[simp] theorem State.draw_mbx (s : State) : s.draw.2.mbx = s.mbx := rfl
@[simp] theorem State.draw_net (s : State) : s.draw.2.net = s.net := rfl
@[simp] theorem State.draw_twb (s : State) : s.draw.2.twb = s.twb := rfl
@[simp] theorem State.draw_acc (s : State) : s.draw.2.acc = s.acc := rfl
@[simp] theorem State.draw_crz (s : State) : s.draw.2.crz = s.crz := rfl
@[simp] theorem State.draw_rack (s : State) : s.draw.2.rack = s.rack := rfl
@[simp] theorem State.draw_sup (s : State) : s.draw.2.sup = s.sup := rfl
@[simp] theorem State.draw_str (s : State) : s.draw.2.str = s.str := rfl
@[simp] theorem State.draw_brm (s : State) : s.draw.2.brm = s.brm := rfl
@[simp] theorem State.draw_ldg (s : State) : s.draw.2.ldg = s.ldg := rfl
@[simp] theorem State.draw_frd (s : State) : s.draw.2.frd = s.frd := rfl
@[simp] theorem State.draw_srs (s : State) : s.draw.2.srs = s.srs := rfl
@[simp] theorem State.draw_bup (s : State) : s.draw.2.bup = s.bup := rfl
@[simp] theorem State.draw_cool (s : State) : s.draw.2.cool = s.cool := rfl
@[simp] theorem State.draw_sec (s : State) : s.draw.2.sec = s.sec := rfl
@[simp] theorem State.draw_saf (s : State) : s.draw.2.saf = s.saf := rfl
@[simp] theorem State.draw_link (s : State) : s.draw.2.link = s.link := rfl
@[simp] theorem State.draw_nv (s : State) : s.draw.2.nv = s.nv := rfl
@[simp] theorem State.draw_free (s : State) : s.draw.2.free = s.free + 1 := rfl
@[simp] theorem State.draw_out (s : State) : s.draw.2.out = s.out := rfl
@[simp] theorem State.draw_pending (s : State) : s.draw.2.pending = s.pending := rfl
@[simp] theorem State.draw_val (s : State) : s.draw.1 = Config.freeValue s.free := rfl

/-! `emit`. -/

@[simp] theorem emit_sys (s : State) (cls unit obj code detail : Nat) : (emit s cls unit obj code detail).sys = s.sys := rfl
@[simp] theorem emit_mbx (s : State) (cls unit obj code detail : Nat) : (emit s cls unit obj code detail).mbx = s.mbx := rfl
@[simp] theorem emit_net (s : State) (cls unit obj code detail : Nat) : (emit s cls unit obj code detail).net = s.net := rfl
@[simp] theorem emit_twb (s : State) (cls unit obj code detail : Nat) : (emit s cls unit obj code detail).twb = s.twb := rfl
@[simp] theorem emit_acc (s : State) (cls unit obj code detail : Nat) : (emit s cls unit obj code detail).acc = s.acc := rfl
@[simp] theorem emit_crz (s : State) (cls unit obj code detail : Nat) : (emit s cls unit obj code detail).crz = s.crz := rfl
@[simp] theorem emit_rack (s : State) (cls unit obj code detail : Nat) : (emit s cls unit obj code detail).rack = s.rack := rfl
@[simp] theorem emit_sup (s : State) (cls unit obj code detail : Nat) : (emit s cls unit obj code detail).sup = s.sup := rfl
@[simp] theorem emit_str (s : State) (cls unit obj code detail : Nat) : (emit s cls unit obj code detail).str = s.str := rfl
@[simp] theorem emit_brm (s : State) (cls unit obj code detail : Nat) : (emit s cls unit obj code detail).brm = s.brm := rfl
@[simp] theorem emit_ldg (s : State) (cls unit obj code detail : Nat) : (emit s cls unit obj code detail).ldg = s.ldg := rfl
@[simp] theorem emit_frd (s : State) (cls unit obj code detail : Nat) : (emit s cls unit obj code detail).frd = s.frd := rfl
@[simp] theorem emit_srs (s : State) (cls unit obj code detail : Nat) : (emit s cls unit obj code detail).srs = s.srs := rfl
@[simp] theorem emit_bup (s : State) (cls unit obj code detail : Nat) : (emit s cls unit obj code detail).bup = s.bup := rfl
@[simp] theorem emit_cool (s : State) (cls unit obj code detail : Nat) : (emit s cls unit obj code detail).cool = s.cool := rfl
@[simp] theorem emit_sec (s : State) (cls unit obj code detail : Nat) : (emit s cls unit obj code detail).sec = s.sec := rfl
@[simp] theorem emit_saf (s : State) (cls unit obj code detail : Nat) : (emit s cls unit obj code detail).saf = s.saf := rfl
@[simp] theorem emit_link (s : State) (cls unit obj code detail : Nat) : (emit s cls unit obj code detail).link = s.link := rfl
@[simp] theorem emit_nv (s : State) (cls unit obj code detail : Nat) : (emit s cls unit obj code detail).nv = s.nv := rfl
@[simp] theorem emit_free (s : State) (cls unit obj code detail : Nat) : (emit s cls unit obj code detail).free = s.free := rfl
@[simp] theorem emit_out (s : State) (cls unit obj code detail : Nat) : (emit s cls unit obj code detail).out = s.out := rfl
@[simp] theorem emit_pending (s : State) (cls unit obj code detail : Nat) : (emit s cls unit obj code detail).pending = s.pending := rfl

/-! `recordApplied`. -/

@[simp] theorem recordApplied_sys (e : Ev) (s : State) : (recordApplied e s).sys = s.sys := rfl
@[simp] theorem recordApplied_mbx (e : Ev) (s : State) : (recordApplied e s).mbx = s.mbx := rfl
@[simp] theorem recordApplied_net (e : Ev) (s : State) : (recordApplied e s).net = s.net := rfl
@[simp] theorem recordApplied_twb (e : Ev) (s : State) : (recordApplied e s).twb = s.twb := rfl
@[simp] theorem recordApplied_acc (e : Ev) (s : State) : (recordApplied e s).acc = s.acc := rfl
@[simp] theorem recordApplied_crz (e : Ev) (s : State) : (recordApplied e s).crz = s.crz := rfl
@[simp] theorem recordApplied_rack (e : Ev) (s : State) : (recordApplied e s).rack = s.rack := rfl
@[simp] theorem recordApplied_sup (e : Ev) (s : State) : (recordApplied e s).sup = s.sup := rfl
@[simp] theorem recordApplied_str (e : Ev) (s : State) : (recordApplied e s).str = s.str := rfl
@[simp] theorem recordApplied_brm (e : Ev) (s : State) : (recordApplied e s).brm = s.brm := rfl
@[simp] theorem recordApplied_ldg (e : Ev) (s : State) : (recordApplied e s).ldg = s.ldg := rfl
@[simp] theorem recordApplied_frd (e : Ev) (s : State) : (recordApplied e s).frd = s.frd := rfl
@[simp] theorem recordApplied_srs (e : Ev) (s : State) : (recordApplied e s).srs = s.srs := rfl
@[simp] theorem recordApplied_bup (e : Ev) (s : State) : (recordApplied e s).bup = s.bup := rfl
@[simp] theorem recordApplied_cool (e : Ev) (s : State) : (recordApplied e s).cool = s.cool := rfl
@[simp] theorem recordApplied_sec (e : Ev) (s : State) : (recordApplied e s).sec = s.sec := rfl
@[simp] theorem recordApplied_saf (e : Ev) (s : State) : (recordApplied e s).saf = s.saf := rfl
@[simp] theorem recordApplied_link (e : Ev) (s : State) : (recordApplied e s).link = s.link := rfl
@[simp] theorem recordApplied_nv (e : Ev) (s : State) : (recordApplied e s).nv = s.nv := rfl
@[simp] theorem recordApplied_free (e : Ev) (s : State) : (recordApplied e s).free = s.free := rfl
@[simp] theorem recordApplied_out (e : Ev) (s : State) : (recordApplied e s).out = s.out := rfl
@[simp] theorem recordApplied_pending (e : Ev) (s : State) : (recordApplied e s).pending = s.pending := rfl

/-! `hostEvent`. -/

@[simp] theorem hostEvent_sys (b : Nat) (s : State) : (hostEvent b s).sys = s.sys := rfl
@[simp] theorem hostEvent_rcd (b : Nat) (s : State) : (hostEvent b s).rcd = s.rcd := rfl
@[simp] theorem hostEvent_net (b : Nat) (s : State) : (hostEvent b s).net = s.net := rfl
@[simp] theorem hostEvent_twb (b : Nat) (s : State) : (hostEvent b s).twb = s.twb := rfl
@[simp] theorem hostEvent_acc (b : Nat) (s : State) : (hostEvent b s).acc = s.acc := rfl
@[simp] theorem hostEvent_crz (b : Nat) (s : State) : (hostEvent b s).crz = s.crz := rfl
@[simp] theorem hostEvent_rack (b : Nat) (s : State) : (hostEvent b s).rack = s.rack := rfl
@[simp] theorem hostEvent_sup (b : Nat) (s : State) : (hostEvent b s).sup = s.sup := rfl
@[simp] theorem hostEvent_str (b : Nat) (s : State) : (hostEvent b s).str = s.str := rfl
@[simp] theorem hostEvent_brm (b : Nat) (s : State) : (hostEvent b s).brm = s.brm := rfl
@[simp] theorem hostEvent_ldg (b : Nat) (s : State) : (hostEvent b s).ldg = s.ldg := rfl
@[simp] theorem hostEvent_frd (b : Nat) (s : State) : (hostEvent b s).frd = s.frd := rfl
@[simp] theorem hostEvent_srs (b : Nat) (s : State) : (hostEvent b s).srs = s.srs := rfl
@[simp] theorem hostEvent_bup (b : Nat) (s : State) : (hostEvent b s).bup = s.bup := rfl
@[simp] theorem hostEvent_cool (b : Nat) (s : State) : (hostEvent b s).cool = s.cool := rfl
@[simp] theorem hostEvent_sec (b : Nat) (s : State) : (hostEvent b s).sec = s.sec := rfl
@[simp] theorem hostEvent_saf (b : Nat) (s : State) : (hostEvent b s).saf = s.saf := rfl
@[simp] theorem hostEvent_link (b : Nat) (s : State) : (hostEvent b s).link = s.link := rfl
@[simp] theorem hostEvent_nv (b : Nat) (s : State) : (hostEvent b s).nv = s.nv := rfl
@[simp] theorem hostEvent_free (b : Nat) (s : State) : (hostEvent b s).free = s.free := rfl
@[simp] theorem hostEvent_out (b : Nat) (s : State) : (hostEvent b s).out = s.out := rfl
@[simp] theorem hostEvent_pending (b : Nat) (s : State) : (hostEvent b s).pending = s.pending := rfl

/-! `complete`. -/

@[simp] theorem complete_sys (q : Reply) (a : Ans) (s : State) : (complete q a s).sys = s.sys := rfl
@[simp] theorem complete_mbx (q : Reply) (a : Ans) (s : State) : (complete q a s).mbx = s.mbx := rfl
@[simp] theorem complete_net (q : Reply) (a : Ans) (s : State) : (complete q a s).net = s.net := rfl
@[simp] theorem complete_twb (q : Reply) (a : Ans) (s : State) : (complete q a s).twb = s.twb := rfl
@[simp] theorem complete_acc (q : Reply) (a : Ans) (s : State) : (complete q a s).acc = s.acc := rfl
@[simp] theorem complete_crz (q : Reply) (a : Ans) (s : State) : (complete q a s).crz = s.crz := rfl
@[simp] theorem complete_rack (q : Reply) (a : Ans) (s : State) : (complete q a s).rack = s.rack := rfl
@[simp] theorem complete_sup (q : Reply) (a : Ans) (s : State) : (complete q a s).sup = s.sup := rfl
@[simp] theorem complete_str (q : Reply) (a : Ans) (s : State) : (complete q a s).str = s.str := rfl
@[simp] theorem complete_brm (q : Reply) (a : Ans) (s : State) : (complete q a s).brm = s.brm := rfl
@[simp] theorem complete_ldg (q : Reply) (a : Ans) (s : State) : (complete q a s).ldg = s.ldg := rfl
@[simp] theorem complete_frd (q : Reply) (a : Ans) (s : State) : (complete q a s).frd = s.frd := rfl
@[simp] theorem complete_srs (q : Reply) (a : Ans) (s : State) : (complete q a s).srs = s.srs := rfl
@[simp] theorem complete_bup (q : Reply) (a : Ans) (s : State) : (complete q a s).bup = s.bup := rfl
@[simp] theorem complete_cool (q : Reply) (a : Ans) (s : State) : (complete q a s).cool = s.cool := rfl
@[simp] theorem complete_sec (q : Reply) (a : Ans) (s : State) : (complete q a s).sec = s.sec := rfl
@[simp] theorem complete_saf (q : Reply) (a : Ans) (s : State) : (complete q a s).saf = s.saf := rfl
@[simp] theorem complete_link (q : Reply) (a : Ans) (s : State) : (complete q a s).link = s.link := rfl
@[simp] theorem complete_nv (q : Reply) (a : Ans) (s : State) : (complete q a s).nv = s.nv := rfl
@[simp] theorem complete_free (q : Reply) (a : Ans) (s : State) : (complete q a s).free = s.free := rfl
@[simp] theorem complete_out (q : Reply) (a : Ans) (s : State) : (complete q a s).out = s.out := rfl
@[simp] theorem complete_pending (q : Reply) (a : Ans) (s : State) : (complete q a s).pending = s.pending := rfl

/-! `completeLate`. -/

@[simp] theorem completeLate_sys (q : Reply) (a : Ans) (s : State) : (completeLate q a s).sys = s.sys := rfl
@[simp] theorem completeLate_mbx (q : Reply) (a : Ans) (s : State) : (completeLate q a s).mbx = s.mbx := rfl
@[simp] theorem completeLate_net (q : Reply) (a : Ans) (s : State) : (completeLate q a s).net = s.net := rfl
@[simp] theorem completeLate_twb (q : Reply) (a : Ans) (s : State) : (completeLate q a s).twb = s.twb := rfl
@[simp] theorem completeLate_acc (q : Reply) (a : Ans) (s : State) : (completeLate q a s).acc = s.acc := rfl
@[simp] theorem completeLate_crz (q : Reply) (a : Ans) (s : State) : (completeLate q a s).crz = s.crz := rfl
@[simp] theorem completeLate_rack (q : Reply) (a : Ans) (s : State) : (completeLate q a s).rack = s.rack := rfl
@[simp] theorem completeLate_sup (q : Reply) (a : Ans) (s : State) : (completeLate q a s).sup = s.sup := rfl
@[simp] theorem completeLate_str (q : Reply) (a : Ans) (s : State) : (completeLate q a s).str = s.str := rfl
@[simp] theorem completeLate_brm (q : Reply) (a : Ans) (s : State) : (completeLate q a s).brm = s.brm := rfl
@[simp] theorem completeLate_ldg (q : Reply) (a : Ans) (s : State) : (completeLate q a s).ldg = s.ldg := rfl
@[simp] theorem completeLate_frd (q : Reply) (a : Ans) (s : State) : (completeLate q a s).frd = s.frd := rfl
@[simp] theorem completeLate_srs (q : Reply) (a : Ans) (s : State) : (completeLate q a s).srs = s.srs := rfl
@[simp] theorem completeLate_bup (q : Reply) (a : Ans) (s : State) : (completeLate q a s).bup = s.bup := rfl
@[simp] theorem completeLate_cool (q : Reply) (a : Ans) (s : State) : (completeLate q a s).cool = s.cool := rfl
@[simp] theorem completeLate_sec (q : Reply) (a : Ans) (s : State) : (completeLate q a s).sec = s.sec := rfl
@[simp] theorem completeLate_saf (q : Reply) (a : Ans) (s : State) : (completeLate q a s).saf = s.saf := rfl
@[simp] theorem completeLate_link (q : Reply) (a : Ans) (s : State) : (completeLate q a s).link = s.link := rfl
@[simp] theorem completeLate_nv (q : Reply) (a : Ans) (s : State) : (completeLate q a s).nv = s.nv := rfl
@[simp] theorem completeLate_free (q : Reply) (a : Ans) (s : State) : (completeLate q a s).free = s.free := rfl
@[simp] theorem completeLate_out (q : Reply) (a : Ans) (s : State) : (completeLate q a s).out = s.out := rfl
@[simp] theorem completeLate_pending (q : Reply) (a : Ans) (s : State) : (completeLate q a s).pending = s.pending := rfl

/-- A host event adds its bit and tick to what is due, and nothing else of the mailboxes. -/
@[simp] theorem hostEvent_mbx (b : Nat) (s : State) :
    (hostEvent b s).mbx = { s.mbx with evtDue := s.mbx.evtDue ++ [(b, s.sys.tick)] } := rfl

/-- A channel's target. -/
@[simp] theorem setTarget_crz (c : Chan) (t : Nat) (s : State) :
    (setTarget c t s).crz = { s.crz with chan := s.crz.chan.set c { s.crz.chan[c] with target := t } } := rfl

@[simp] theorem setTarget_sys (c : Chan) (t : Nat) (s : State) : (setTarget c t s).sys = s.sys := rfl
@[simp] theorem setTarget_rcd (c : Chan) (t : Nat) (s : State) : (setTarget c t s).rcd = s.rcd := rfl
@[simp] theorem setTarget_mbx (c : Chan) (t : Nat) (s : State) : (setTarget c t s).mbx = s.mbx := rfl
@[simp] theorem setTarget_net (c : Chan) (t : Nat) (s : State) : (setTarget c t s).net = s.net := rfl
@[simp] theorem setTarget_twb (c : Chan) (t : Nat) (s : State) : (setTarget c t s).twb = s.twb := rfl
@[simp] theorem setTarget_acc (c : Chan) (t : Nat) (s : State) : (setTarget c t s).acc = s.acc := rfl
@[simp] theorem setTarget_rack (c : Chan) (t : Nat) (s : State) : (setTarget c t s).rack = s.rack := rfl
@[simp] theorem setTarget_sup (c : Chan) (t : Nat) (s : State) : (setTarget c t s).sup = s.sup := rfl
@[simp] theorem setTarget_str (c : Chan) (t : Nat) (s : State) : (setTarget c t s).str = s.str := rfl
@[simp] theorem setTarget_brm (c : Chan) (t : Nat) (s : State) : (setTarget c t s).brm = s.brm := rfl
@[simp] theorem setTarget_ldg (c : Chan) (t : Nat) (s : State) : (setTarget c t s).ldg = s.ldg := rfl
@[simp] theorem setTarget_frd (c : Chan) (t : Nat) (s : State) : (setTarget c t s).frd = s.frd := rfl
@[simp] theorem setTarget_srs (c : Chan) (t : Nat) (s : State) : (setTarget c t s).srs = s.srs := rfl
@[simp] theorem setTarget_bup (c : Chan) (t : Nat) (s : State) : (setTarget c t s).bup = s.bup := rfl
@[simp] theorem setTarget_cool (c : Chan) (t : Nat) (s : State) : (setTarget c t s).cool = s.cool := rfl
@[simp] theorem setTarget_sec (c : Chan) (t : Nat) (s : State) : (setTarget c t s).sec = s.sec := rfl
@[simp] theorem setTarget_saf (c : Chan) (t : Nat) (s : State) : (setTarget c t s).saf = s.saf := rfl
@[simp] theorem setTarget_link (c : Chan) (t : Nat) (s : State) : (setTarget c t s).link = s.link := rfl
@[simp] theorem setTarget_nv (c : Chan) (t : Nat) (s : State) : (setTarget c t s).nv = s.nv := rfl
@[simp] theorem setTarget_free (c : Chan) (t : Nat) (s : State) : (setTarget c t s).free = s.free := rfl
@[simp] theorem setTarget_out (c : Chan) (t : Nat) (s : State) : (setTarget c t s).out = s.out := rfl
@[simp] theorem setTarget_pending (c : Chan) (t : Nat) (s : State) : (setTarget c t s).pending = s.pending := rfl

/-- A view that every step of a fold keeps, the fold keeps. -/
theorem forAll_keeps {α β : Type} (g : State → β) (f : α → State → State) (h : ∀ x s, g (f x s) = g s) (l : List α)
    (s : State) : g (forAll l f s) = g s := by
  induction l generalizing s with
  | nil => rfl
  | cons a l ih => exact (ih (f a s)).trans (h a s)

/-- A property that every step of a fold keeps, the fold keeps. -/
theorem forAll_inv {α : Type} (p : State → Prop) (f : α → State → State) (l : List α) (h : ∀ x s, p s → p (f x s))
    (s : State) (hs : p s) : p (forAll l f s) := by
  induction l generalizing s with
  | nil => exact hs
  | cons a l ih => exact ih (f a s) (h a s hs)

end Sys2Proof.Machine
end

