-- ==== Sys2Proof/Laws/Commands.lean ====
section
/-! SUPPORT. What an admitted command does, said once: it is applied to the state in which it is taken, and settled
(14 R414). Every statement about a command of the catalogue goes through `runCommand_admitted`. -/

namespace Sys2Proof.Machine

open Sys2Proof

/-- Every command has a code of the catalogue. -/
theorem codeOf_known (c : Cmd) : knownCodes.contains (codeOf c) = true := by
  cases c <;> simp [codeOf, knownCodes]

/-! Taking a command touches the mailboxes, the counters and the source table alone. -/

theorem submitted_frame (f : Frame) (s : State) :
    submitted f s = { s with
      rcd := (submitted f s).rcd,
      mbx := { s.mbx with box := (submitted f s).mbx.box, evtDue := (submitted f s).mbx.evtDue,
                          evtShown := (submitted f s).mbx.evtShown } } := by
  unfold submitted; dsimp only; split <;> rfl

/-- Nothing that waited leaves the merger before the command itself. -/
theorem submitted_rcd (f : Frame) (s : State) :
    (submitted f s).rcd = { s.rcd with released := some (s.sys.tick - 2) } := by
  unfold submitted; dsimp only; split <;> rfl

theorem consume_frame (f : Frame) (s : State) :
    consume f s = { s with rcd := (consume f s).rcd, nv := { s.nv with floor := (consume f s).nv.floor },
                           net := { s.net with ctr := (consume f s).net.ctr } } := by
  unfold consume
  split
  · rfl
  · dsimp only
    split <;> rfl

theorem keepAccepted_frame (r : Req) (s : State) :
    keepAccepted r s = { s with net := { s.net with recentFmp := (keepAccepted r s).net.recentFmp,
                                                    recentMctp := (keepAccepted r s).net.recentMctp } } := by
  unfold keepAccepted; dsimp only; split <;> rfl

theorem taken_frame (f : Frame) (c : Cmd) (s : State) :
    taken f c s = { s with
      rcd := (taken f c s).rcd,
      mbx := { s.mbx with box := (taken f c s).mbx.box, evtDue := (taken f c s).mbx.evtDue,
                          evtShown := (taken f c s).mbx.evtShown },
      nv := { s.nv with floor := (taken f c s).nv.floor },
      net := { s.net with ctr := (taken f c s).net.ctr, recentFmp := (taken f c s).net.recentFmp,
                          recentMctp := (taken f c s).net.recentMctp } } := by
  unfold taken
  rw [keepAccepted_frame, consume_frame, submitted_frame]

@[simp] theorem taken_sys (f : Frame) (c : Cmd) (s : State) : (taken f c s).sys = s.sys := by rw [taken_frame]
@[simp] theorem taken_twb (f : Frame) (c : Cmd) (s : State) : (taken f c s).twb = s.twb := by rw [taken_frame]
@[simp] theorem taken_acc (f : Frame) (c : Cmd) (s : State) : (taken f c s).acc = s.acc := by rw [taken_frame]
@[simp] theorem taken_crz (f : Frame) (c : Cmd) (s : State) : (taken f c s).crz = s.crz := by rw [taken_frame]
@[simp] theorem taken_rack (f : Frame) (c : Cmd) (s : State) : (taken f c s).rack = s.rack := by rw [taken_frame]
@[simp] theorem taken_sup (f : Frame) (c : Cmd) (s : State) : (taken f c s).sup = s.sup := by rw [taken_frame]
@[simp] theorem taken_str (f : Frame) (c : Cmd) (s : State) : (taken f c s).str = s.str := by rw [taken_frame]
@[simp] theorem taken_brm (f : Frame) (c : Cmd) (s : State) : (taken f c s).brm = s.brm := by rw [taken_frame]
@[simp] theorem taken_ldg (f : Frame) (c : Cmd) (s : State) : (taken f c s).ldg = s.ldg := by rw [taken_frame]
@[simp] theorem taken_frd (f : Frame) (c : Cmd) (s : State) : (taken f c s).frd = s.frd := by rw [taken_frame]
@[simp] theorem taken_srs (f : Frame) (c : Cmd) (s : State) : (taken f c s).srs = s.srs := by rw [taken_frame]
@[simp] theorem taken_bup (f : Frame) (c : Cmd) (s : State) : (taken f c s).bup = s.bup := by rw [taken_frame]
@[simp] theorem taken_cool (f : Frame) (c : Cmd) (s : State) : (taken f c s).cool = s.cool := by rw [taken_frame]
@[simp] theorem taken_sec (f : Frame) (c : Cmd) (s : State) : (taken f c s).sec = s.sec := by rw [taken_frame]
@[simp] theorem taken_saf (f : Frame) (c : Cmd) (s : State) : (taken f c s).saf = s.saf := by rw [taken_frame]
@[simp] theorem taken_link (f : Frame) (c : Cmd) (s : State) : (taken f c s).link = s.link := by rw [taken_frame]
@[simp] theorem taken_free (f : Frame) (c : Cmd) (s : State) : (taken f c s).free = s.free := by rw [taken_frame]
@[simp] theorem taken_out (f : Frame) (c : Cmd) (s : State) : (taken f c s).out = s.out := by rw [taken_frame]
@[simp] theorem taken_pending (f : Frame) (c : Cmd) (s : State) : (taken f c s).pending = s.pending := by rw [taken_frame]

@[simp] theorem taken_lc (f : Frame) (c : Cmd) (s : State) : (taken f c s).nv.lc = s.nv.lc := by rw [taken_frame]
@[simp] theorem taken_serial (f : Frame) (c : Cmd) (s : State) : (taken f c s).nv.serial = s.nv.serial := by rw [taken_frame]
@[simp] theorem taken_frondEng (f : Frame) (c : Cmd) (s : State) : (taken f c s).nv.frondEng = s.nv.frondEng := by
  rw [taken_frame]
@[simp] theorem taken_coolLiq (f : Frame) (c : Cmd) (s : State) : (taken f c s).nv.coolLiq = s.nv.coolLiq := by
  rw [taken_frame]
@[simp] theorem taken_rackSet (f : Frame) (c : Cmd) (s : State) : (taken f c s).net.rackSet = s.net.rackSet := by
  rw [taken_frame]
@[simp] theorem taken_leases (f : Frame) (c : Cmd) (s : State) : (taken f c s).net.leases = s.net.leases := by
  rw [taken_frame]

/-! Judging reads none of these. -/

theorem paramsOk_of_blocks (s t : State) (c : Cmd) (hb : t.brm = s.brm) (hf : t.frd = s.frd) (hs : t.sec = s.sec)
    (hc : t.cool = s.cool) : paramsOk t c = paramsOk s c := by
  cases c <;> simp [paramsOk, curveOk, nextFanMin, ifverN, hb, hf, hs, hc]

theorem stateReason_taken (f : Frame) (c : Cmd) (r : Req) (s : State) :
    stateReason (taken f c s) r c = stateReason s r c := by
  have ha : atRest (taken f c s) = atRest s := by simp [atRest, chState]
  have hp : pstate (taken f c s) = pstate s := by simp only [pstate, ha, taken_saf, taken_rack]
  have hm : ∀ l, matrixCell (taken f c s) l = matrixCell s l := by
    intro l; simp only [matrixCell, taken_lc, taken_sec]
  have hr : matrixReason (taken f c s) c = matrixReason s c := by
    unfold matrixReason; simp only [hm]
  simp only [stateReason, powerReason, hp, hr, taken_lc, taken_rackSet]

theorem present_of_nv (s t : State) (c : Cmd) (he : t.nv.frondEng = s.nv.frondEng) (hl : t.nv.coolLiq = s.nv.coolLiq) :
    present t c = present s c := by
  unfold present; rw [he, hl]

theorem present_taken (f : Frame) (c : Cmd) (s : State) : present (taken f c s) c = present s c :=
  present_of_nv s _ c (taken_frondEng f c s) (taken_coolLiq f c s)

theorem tagOk_submitted (f : Frame) (r : Req) (s : State) : tagOk (submitted f s) r = tagOk s r := by
  rw [submitted_frame]; rfl

/-- The stamp and what a request carries do not depend on the outcome of a raw transfer. -/
theorem judge_admitted {f : Frame} {c : Cmd} {s : State} (h : Admitted f c s) (bus : Option TransferEnd) (q : Reply) :
    judge (reqOf f c bus s) q (submitted f s) =
      ((noteSetting (reqOf f c bus s) c (applyCmd bus q c (taken f c s)).2 (applyCmd bus q c (taken f c s)).1),
        (applyCmd bus q c (taken f c s)).2) := by
  have hv : ¬(f.ifver.toNat ≠ ifverN (submitted f s) ∧ f.ifver.toNat + 1 ≠ ifverN (submitted f s)) := by
    have : ifverN (submitted f s) = ifverN s := by rw [submitted_frame]; rfl
    rw [this]; have := h.version; omega
  have hk : keepAccepted (reqOf f c bus s) (consume f (submitted f s)) = taken f c s := rfl
  have htag : tagOk (submitted f s) (reqOf f c bus s) = true := (tagOk_submitted f _ s).trans h.tag
  have hctr : ctrOk (submitted f s) f = true := by
    have : ctrOk (submitted f s) f = ctrOk s f := by rw [submitted_frame]; rfl
    rw [this]; exact h.counter
  have hrole : mayDo (reqOf f c bus s) = true := h.role
  have hcode : knownCodes.contains (reqOf f c bus s).code = true := codeOf_known c
  have hpar : paramsOk (taken f c s) c = true :=
    (paramsOk_of_blocks s _ c (by simp) (by simp) (by simp) (by simp)).trans h.range
  have hst : stateReason (taken f c s) (reqOf f c bus s) c = none := (stateReason_taken f c _ s).trans h.legal
  have hpr : present (taken f c s) c = true := (present_taken f c s).trans h.unit
  have hfr : (reqOf f c bus s).frame = f := rfl
  unfold judge
  simp only [hcode, htag, hctr, hrole, hk, hfr, Bool.not_true, Bool.false_eq_true, if_false]
  rw [if_neg hv]
  have hcmd : (reqOf f c bus s).cmd = some c := rfl
  simp only [hcmd, hpr, hpar, hst, Bool.not_true, Bool.false_eq_true, if_false]
  rfl

/-! The batch of an admitted command (02 R41): it alone is due. -/

/-- The stamp of an admitted command is its tick of arrival. -/
theorem stampOf_admitted {f : Frame} {c : Cmd} {s : State} (h : Admitted f c s) : stampOf f s = f.stamp := by
  have hd := h.due
  unfold stampOf
  dsimp only
  split
  · omega
  · split
    next x hx => have := h.fresh x hx; omega
    next => omega

@[simp] theorem reqOf_stamp {f : Frame} {c d : Cmd} {bus : Option TransferEnd} {s : State} (h : Admitted f c s) :
    (reqOf f d bus s).stamp = f.stamp := stampOf_admitted h

/-- Of a list in which nothing is due, an insertion takes back nothing but the item itself. -/
theorem insertWaiting_due (x : Waiting) (t : Nat) (hx : x.stamp + 2 ≤ t) {l : List Waiting}
    (h : ∀ w ∈ l, t < w.stamp + 2) :
    (insertWaiting x l).filter (fun w => decide (w.stamp + 2 ≤ t)) = [x] ∧
      (insertWaiting x l).filter (fun w => decide (t < w.stamp + 2)) = l := by
  induction l with
  | nil => simp [insertWaiting, hx, Nat.not_lt.2 hx]
  | cons y l ih =>
    have hy := h y (by simp)
    have hl : ∀ w ∈ l, t < w.stamp + 2 := fun w hw => h w (by simp [hw])
    obtain ⟨i, j⟩ := ih hl
    have e : l.filter (fun w => decide (w.stamp + 2 ≤ t)) = [] := by
      rw [List.filter_eq_nil_iff]; intro w hw; simp [hl w hw]
    have e' : l.filter (fun w => decide (t < w.stamp + 2)) = l := by
      rw [List.filter_eq_self]; intro w hw; simp [hl w hw]
    unfold insertWaiting
    split
    · simp [hx, Nat.not_lt.2 hx, hy, e, e', Nat.not_le.2 hy]
    · simp [hy, Nat.not_le.2 hy, i, j]

/-- The state in which a mailbox, or no transport, hands over a command. -/
def boxed (f : Frame) (s : State) : State :=
  match boxOf f.src with
  | some m => s.setBox m fun b => { b with busy := true, seq := f.seq }
  | none => s

theorem boxed_rcd (f : Frame) (s : State) : (boxed f s).rcd = s.rcd := by unfold boxed; split <;> rfl
theorem boxed_sys (f : Frame) (s : State) : (boxed f s).sys = s.sys := by unfold boxed; split <;> rfl

theorem submitted_boxed (f : Frame) (s : State) : submitted f s =
    showHostEvents ((boxed f s).modRcd fun r => { r with released := some ((boxed f s).sys.tick - 2) }) := rfl

/-- An admitted command that arrives is applied at once, alone. -/
theorem arrive_admitted {f : Frame} {c : Cmd} {s : State} (h : Admitted f c s) (bus : Option TransferEnd) :
    arrive (reqOf f c bus s) (boxed f s) = applyItem (waitingOf (reqOf f c bus s)) (submitted f s) := by
  have hs : (reqOf f c bus s).stamp = f.stamp := stampOf_admitted h
  have hd := h.due
  have hr : (boxed f s).rcd = s.rcd := boxed_rcd f s
  have ht : (boxed f s).sys = s.sys := boxed_sys f s
  have hw : (waitingOf (reqOf f c bus s)).stamp + 2 ≤ s.sys.tick := by
    show (reqOf f c bus s).stamp + 2 ≤ s.sys.tick; omega
  obtain ⟨e1, e2⟩ := insertWaiting_due (waitingOf (reqOf f c bus s)) s.sys.tick hw h.alone
  have hb : batchOut (boxed f s) = false := by
    unfold batchOut; rw [hr, ht]
    cases hx : s.rcd.released with
    | none => rfl
    | some x => have := h.fresh x hx; simp; omega
  unfold arrive
  dsimp only
  rw [if_pos (by rw [hs, ht]; exact ⟨hd, hb⟩)]
  have ed : dueItems ((boxed f s).modRcd fun x => { x with merger := insertWaiting (waitingOf (reqOf f c bus s)) x.merger }) =
      [waitingOf (reqOf f c bus s)] := by
    simp only [dueItems, State.modRcd, hr, ht]; exact e1
  have eo : openBatch ((boxed f s).modRcd fun x => { x with merger := insertWaiting (waitingOf (reqOf f c bus s)) x.merger }) =
      submitted f s := by
    have hl : ((s.rcd.released.elim false fun t => decide ((waitingOf (reqOf f c bus s)).stamp ≤ t))) = false := by
      cases hx : s.rcd.released with
      | none => rfl
      | some x =>
        have := h.fresh x hx
        have e : (waitingOf (reqOf f c bus s)).stamp = f.stamp := hs
        simp [e]; omega
    rw [submitted_boxed]
    unfold openBatch
    rw [ed]
    have h2 : 2 ≤ s.sys.tick := by omega
    simp only [List.any_cons, List.any_nil, Bool.or_false, State.modRcd, hr, ht, h2, if_true, e2]
    cases hx : s.rcd.released with
    | none => simp
    | some x =>
      have := h.fresh x hx
      have e : (waitingOf (reqOf f c bus s)).stamp = f.stamp := hs
      have : decide ((waitingOf (reqOf f c bus s)).stamp ≤ x) = false := by simp [e]; omega
      simp [this]
  unfold release
  rw [ed, eo]
  rfl

/-- What an admitted command does. -/
theorem runCommand_admitted {f : Frame} {c : Cmd} {s : State} (h : Admitted f c s) (bus : Option TransferEnd) :
    runCommand f c bus s = .next
      (settleReq (reqOf f c bus s) (ticket (reqOf f c bus s) (submitted f s))
        (applyCmd bus (ticket (reqOf f c bus s) (submitted f s)) c (taken f c s)).2
        (noteSetting (reqOf f c bus s) c (applyCmd bus (ticket (reqOf f c bus s) (submitted f s)) c (taken f c s)).2
          (applyCmd bus (ticket (reqOf f c bus s) (submitted f s)) c (taken f c s)).1)) := by
  have hf : (reqOf f c bus s).frame.wellFormed = true := h.formed
  have hfr : (reqOf f c bus s).frame = f := rfl
  have hrun : runReq (reqOf f c bus s) (submitted f s) = settleReq (reqOf f c bus s)
      (ticket (reqOf f c bus s) (submitted f s))
      (applyCmd bus (ticket (reqOf f c bus s) (submitted f s)) c (taken f c s)).2
      (noteSetting (reqOf f c bus s) c (applyCmd bus (ticket (reqOf f c bus s) (submitted f s)) c (taken f c s)).2
        (applyCmd bus (ticket (reqOf f c bus s) (submitted f s)) c (taken f c s)).1) := by
    unfold runReq
    dsimp only
    rw [judge_admitted h, hf]
    rfl
  rw [← hrun]
  have ha := arrive_admitted h bus
  unfold runCommand
  cases hb : boxOf f.src with
  | none =>
    have hn := h.net hb
    have hbx : boxed f s = s := by simp [boxed, hb]
    rw [hbx] at ha
    have hd : duplicateOf (reqOf f c bus s) (submitted f s) = none := by
      have : duplicateOf (reqOf f c bus s) (submitted f s) = duplicateOf (reqOf f c bus s) s := by rw [submitted_frame]; rfl
      rw [this]; exact hn.2
    have hi : applyItem (waitingOf (reqOf f c bus s)) (submitted f s) = runReq (reqOf f c bus s) (submitted f s) := by
      simp only [applyItem, waitingOf, hfr, hb, takeNet, hd]
    rw [← hi, ← ha]
    have hm : ¬(f.src = .mctp ∧ (!f.assembled) = true) := fun hc => by simp [(h.mctp hc.1).1] at hc
    have hm' : ¬(f.src = .mctp ∧ s.twb.eid = 0) := fun hc => (h.mctp hc.1).2 hc.2
    simp only [takeFrameIn, h.running, hfr, hn.1, h.formed, Bool.not_true, Bool.false_eq_true, if_false]
    rw [if_neg hm, if_neg hm']
    simp
  | some m =>
    have hm := h.box m hb
    have hbx : boxed f s = s.setBox m fun b => { b with busy := true, seq := f.seq } := by simp [boxed, hb]
    have hi : applyItem (waitingOf (reqOf f c bus s)) (submitted f s) = runReq (reqOf f c bus s) (submitted f s) := by
      simp only [applyItem, waitingOf, hfr, hb]
    rw [← hi, ← ha, hbx]
    have hr : boxReady s m = true := by unfold boxReady; rw [hm.1, hm.2.1, h.running]; rfl
    have hx : ¬(s.mbx.box[m].result ≠ 0xFF ∧ s.mbx.box[m].seq = f.seq) := fun hc => hm.2.2.elim hc.1 fun hn => hn hc.2
    simp only [goWrite, hr, Bool.not_true, Bool.false_eq_true, if_false]
    rw [if_neg hx]

/-! Settling. -/

theorem coefRejected_frame (r : Req) (a : Ans) (s : State) :
    coefRejected r a s = { s with rcd := (coefRejected r a s).rcd } := by
  unfold coefRejected; split <;> rfl

/-- The state in which a command ends, given the state that applying it left: the answer, the heartbeat and the COMMAND
event (14 R414, R442; 12 R368). -/
theorem settleReq_frame (r : Req) (q : Reply) (a : Option Ans) (s : State) :
    settleReq r q a s = { s with rcd := (settleReq r q a s).rcd,
                                 cool := { s.cool with hbTick := (settleReq r q a s).cool.hbTick,
                                                       hbLost := (settleReq r q a s).cool.hbLost } } := by
  unfold settleReq
  split
  · rfl
  · dsimp only
    rw [coefRejected_frame]
    split <;> split <;> rfl

theorem noteSetting_frame (r : Req) (c : Cmd) (a : Option Ans) (s : State) :
    noteSetting r c a s = { s with net := { s.net with rackSet := (noteSetting r c a s).net.rackSet } } := by
  unfold noteSetting
  dsimp only
  split
  · rename_i k o _
    generalize (roleNo r.frame == 1 &&
      (match a with | some a => a.res == .ok || a.res == .clipped | none => true)) = b
    cases b <;> rfl
  · rfl

/-- Applying a command in the state in which it is taken. -/
def applied (f : Frame) (c : Cmd) (bus : Option TransferEnd) (s : State) : State × Option Ans :=
  applyCmd bus (ticket (reqOf f c bus s) (submitted f s)) c (taken f c s)

/-- The state in which an admitted command leaves the FM8. -/
def settled (f : Frame) (c : Cmd) (bus : Option TransferEnd) (s : State) : State :=
  settleReq (reqOf f c bus s) (ticket (reqOf f c bus s) (submitted f s)) (applied f c bus s).2
    (noteSetting (reqOf f c bus s) c (applied f c bus s).2 (applied f c bus s).1)

theorem runCommand_settled {f : Frame} {c : Cmd} {s : State} (h : Admitted f c s) (bus : Option TransferEnd) :
    runCommand f c bus s = .next (settled f c bus s) := runCommand_admitted h bus

/-- What applying left stands, but for the reply, the heartbeat and the same-tick rule. -/
theorem settled_frame (f : Frame) (c : Cmd) (bus : Option TransferEnd) (s : State) :
    settled f c bus s =
      { (applied f c bus s).1 with
        rcd := (settled f c bus s).rcd,
        net := { (applied f c bus s).1.net with rackSet := (settled f c bus s).net.rackSet },
        cool := { (applied f c bus s).1.cool with
          hbTick := (settled f c bus s).cool.hbTick, hbLost := (settled f c bus s).cool.hbLost } } := by
  unfold settled
  rw [settleReq_frame, noteSetting_frame]

@[simp] theorem settled_sys (f : Frame) (c : Cmd) (bus : Option TransferEnd) (s : State) :
    (settled f c bus s).sys = (applied f c bus s).1.sys := by rw [settled_frame]
@[simp] theorem settled_mbx (f : Frame) (c : Cmd) (bus : Option TransferEnd) (s : State) :
    (settled f c bus s).mbx = (applied f c bus s).1.mbx := by rw [settled_frame]
@[simp] theorem settled_twb (f : Frame) (c : Cmd) (bus : Option TransferEnd) (s : State) :
    (settled f c bus s).twb = (applied f c bus s).1.twb := by rw [settled_frame]
@[simp] theorem settled_acc (f : Frame) (c : Cmd) (bus : Option TransferEnd) (s : State) :
    (settled f c bus s).acc = (applied f c bus s).1.acc := by rw [settled_frame]
@[simp] theorem settled_crz (f : Frame) (c : Cmd) (bus : Option TransferEnd) (s : State) :
    (settled f c bus s).crz = (applied f c bus s).1.crz := by rw [settled_frame]
@[simp] theorem settled_rack (f : Frame) (c : Cmd) (bus : Option TransferEnd) (s : State) :
    (settled f c bus s).rack = (applied f c bus s).1.rack := by rw [settled_frame]
@[simp] theorem settled_sup (f : Frame) (c : Cmd) (bus : Option TransferEnd) (s : State) :
    (settled f c bus s).sup = (applied f c bus s).1.sup := by rw [settled_frame]
@[simp] theorem settled_str (f : Frame) (c : Cmd) (bus : Option TransferEnd) (s : State) :
    (settled f c bus s).str = (applied f c bus s).1.str := by rw [settled_frame]
@[simp] theorem settled_brm (f : Frame) (c : Cmd) (bus : Option TransferEnd) (s : State) :
    (settled f c bus s).brm = (applied f c bus s).1.brm := by rw [settled_frame]
@[simp] theorem settled_ldg (f : Frame) (c : Cmd) (bus : Option TransferEnd) (s : State) :
    (settled f c bus s).ldg = (applied f c bus s).1.ldg := by rw [settled_frame]
@[simp] theorem settled_frd (f : Frame) (c : Cmd) (bus : Option TransferEnd) (s : State) :
    (settled f c bus s).frd = (applied f c bus s).1.frd := by rw [settled_frame]
@[simp] theorem settled_srs (f : Frame) (c : Cmd) (bus : Option TransferEnd) (s : State) :
    (settled f c bus s).srs = (applied f c bus s).1.srs := by rw [settled_frame]
@[simp] theorem settled_bup (f : Frame) (c : Cmd) (bus : Option TransferEnd) (s : State) :
    (settled f c bus s).bup = (applied f c bus s).1.bup := by rw [settled_frame]
@[simp] theorem settled_sec (f : Frame) (c : Cmd) (bus : Option TransferEnd) (s : State) :
    (settled f c bus s).sec = (applied f c bus s).1.sec := by rw [settled_frame]
@[simp] theorem settled_saf (f : Frame) (c : Cmd) (bus : Option TransferEnd) (s : State) :
    (settled f c bus s).saf = (applied f c bus s).1.saf := by rw [settled_frame]
@[simp] theorem settled_link (f : Frame) (c : Cmd) (bus : Option TransferEnd) (s : State) :
    (settled f c bus s).link = (applied f c bus s).1.link := by rw [settled_frame]
@[simp] theorem settled_nv (f : Frame) (c : Cmd) (bus : Option TransferEnd) (s : State) :
    (settled f c bus s).nv = (applied f c bus s).1.nv := by rw [settled_frame]
@[simp] theorem settled_free (f : Frame) (c : Cmd) (bus : Option TransferEnd) (s : State) :
    (settled f c bus s).free = (applied f c bus s).1.free := by rw [settled_frame]
@[simp] theorem settled_out (f : Frame) (c : Cmd) (bus : Option TransferEnd) (s : State) :
    (settled f c bus s).out = (applied f c bus s).1.out := by rw [settled_frame]
@[simp] theorem settled_pending (f : Frame) (c : Cmd) (bus : Option TransferEnd) (s : State) :
    (settled f c bus s).pending = (applied f c bus s).1.pending := by rw [settled_frame]
theorem settled_net (f : Frame) (c : Cmd) (bus : Option TransferEnd) (s : State) :
    (settled f c bus s).net = { (applied f c bus s).1.net with rackSet := (settled f c bus s).net.rackSet } := by
  conv_lhs => rw [settled_frame]
theorem settled_cool (f : Frame) (c : Cmd) (bus : Option TransferEnd) (s : State) :
    (settled f c bus s).cool = { (applied f c bus s).1.cool with
      hbTick := (settled f c bus s).cool.hbTick, hbLost := (settled f c bus s).cool.hbLost } := by
  conv_lhs => rw [settled_frame]

/-- What taking a command leaves of the mailboxes, the stored registers and the network. -/
theorem taken_mbx (f : Frame) (c : Cmd) (s : State) : (taken f c s).mbx = { s.mbx with
    box := (taken f c s).mbx.box, evtDue := (taken f c s).mbx.evtDue, evtShown := (taken f c s).mbx.evtShown } := by
  conv_lhs => rw [taken_frame]
theorem taken_nv (f : Frame) (c : Cmd) (s : State) : (taken f c s).nv = { s.nv with floor := (taken f c s).nv.floor } := by
  conv_lhs => rw [taken_frame]
theorem taken_net (f : Frame) (c : Cmd) (s : State) :
    (taken f c s).net = { s.net with ctr := (taken f c s).net.ctr, recentFmp := (taken f c s).net.recentFmp,
                                     recentMctp := (taken f c s).net.recentMctp } := by
  conv_lhs => rw [taken_frame]

/-- Two states with equal blocks are equal. -/
theorem State.eq_of {s t : State} 
    (h_sys : s.sys = t.sys)
    (h_rcd : s.rcd = t.rcd)
    (h_mbx : s.mbx = t.mbx)
    (h_net : s.net = t.net)
    (h_twb : s.twb = t.twb)
    (h_acc : s.acc = t.acc)
    (h_crz : s.crz = t.crz)
    (h_rack : s.rack = t.rack)
    (h_sup : s.sup = t.sup)
    (h_str : s.str = t.str)
    (h_brm : s.brm = t.brm)
    (h_ldg : s.ldg = t.ldg)
    (h_frd : s.frd = t.frd)
    (h_srs : s.srs = t.srs)
    (h_bup : s.bup = t.bup)
    (h_cool : s.cool = t.cool)
    (h_sec : s.sec = t.sec)
    (h_saf : s.saf = t.saf)
    (h_link : s.link = t.link)
    (h_nv : s.nv = t.nv)
    (h_free : s.free = t.free)
    (h_out : s.out = t.out)
    (h_pending : s.pending = t.pending) : s = t := by
  cases s; cases t; simp_all

/-- A command that applies to nothing but what it takes leaves only its traces. -/
theorem settled_bookkept {f : Frame} {c : Cmd} {bus : Option TransferEnd} {s : State}
    (h : (applied f c bus s).1 = taken f c s) : settled f c bus s = bookkept s (settled f c bus s) := by
  apply State.eq_of
  case h_net =>
    have e : (settled f c bus s).net = _ := settled_net f c bus s
    rw [h] at e
    simp only [bookkept]
    rw [e, taken_net]
  case h_cool => rw [settled_cool, h, taken_cool]; rfl
  case h_mbx => simp only [bookkept, settled_mbx, h]; rw [taken_mbx]
  case h_nv => simp only [bookkept, settled_nv, h]; rw [taken_nv]
  all_goals simp [bookkept, h]

/-- An answer that waits for no store write is the newest reply. -/
theorem settleReq_answered (r : Req) (q : Reply) (a : Ans) (s : State) (h : storeWaits r a = none) :
    ∃ x ∈ (settleReq r q (some a) s).rcd.replies,
      x.src = q.src ∧ x.seq = q.seq ∧ x.code = q.code ∧ x.result = a.res ∧ x.data = a.data := by
  refine ⟨{ q with result := a.res, reason := a.reason, object := a.object, detail := a.detail, data := a.data,
                   sealNo := (settleReq r q (some a) s).rcd.seals }, ?_, rfl, rfl, rfl, rfl, rfl⟩
  unfold settleReq
  simp only [h]
  split <;> simp [commandEvent, recordApplied, complete, heartbeat]

/-- A command whose registers are stored waits for that. -/
theorem settleReq_waits (r : Req) (q : Reply) (a : Ans) (c : Cmd) (s : State) (h : storeWaits r a = some c) :
    (c, q) ∈ (settleReq r q (some a) s).rcd.storeQ := by
  unfold settleReq
  simp only [h]
  split <;> simp [commandEvent, recordApplied, heartbeat]

theorem settled_answered {f : Frame} {c : Cmd} {s : State} {bus : Option TransferEnd} {a : Ans}
    (ha : (applied f c bus s).2 = some a)
    (hw : storeWaits (reqOf f c bus s) a = none) : AnsweredWith f c a.res a.data (settled f c bus s) := by
  unfold settled; rw [ha]
  exact settleReq_answered _ _ _ _ hw

theorem settled_waits {f : Frame} {c : Cmd} {s : State} {bus : Option TransferEnd} {a : Ans}
    (ha : (applied f c bus s).2 = some a)
    (hw : a.res = .ok) (hc : (storeKey c).isSome) : AwaitsStore f c (settled f c bus s) := by
  unfold settled; rw [ha]
  refine ⟨_, settleReq_waits _ _ _ c _ ?_, rfl, rfl, rfl⟩
  have : (reqOf f c bus s).cmd = some c := rfl
  simp [storeWaits, this, hw, hc]

end Sys2Proof.Machine
end

