-- ==== Sys2Proof/Laws/Memory.lean ====
section
/-! SUPPORT. The laws of the cell lists that hold BAR0 memory and the CXL configuration space: every write keeps the canonical
form, a read gives what was last written there, and other bytes keep their value. -/

namespace Sys2Proof.Machine

open Sys2Proof

theorem cellsFrom_mono {a b : Nat} (h : a ≤ b) {l : List Host.Cell} (hl : cellsFrom b l = true) : cellsFrom a l = true := by
  cases l with
  | nil => rfl
  | cons c l =>
    simp only [cellsFrom, Bool.and_eq_true, decide_eq_true_eq] at hl ⊢
    exact ⟨⟨by omega, hl.1.2⟩, hl.2⟩

/-- A write keeps addresses rising and lists no byte that reads 0 anyway. -/
theorem cellWrite_from (a : Nat) (b : Byte) {lo : Nat} (h : lo ≤ a) {l : List Host.Cell} (hl : cellsFrom lo l = true) :
    cellsFrom lo (cellWrite a b l) = true := by
  induction l generalizing lo with
  | nil =>
    rw [cellWrite]
    split
    · rfl
    next hb => simp only [cellsFrom, Bool.and_eq_true, decide_eq_true_eq, bne_iff_ne]; exact ⟨⟨h, hb⟩, trivial⟩
  | cons c l ih =>
    simp only [cellsFrom, Bool.and_eq_true, decide_eq_true_eq, bne_iff_ne] at hl
    rw [cellWrite]
    split
    next h1 =>
      split
      · simp only [cellsFrom, Bool.and_eq_true, decide_eq_true_eq, bne_iff_ne]; exact hl
      next hb =>
        simp only [cellsFrom, Bool.and_eq_true, decide_eq_true_eq, bne_iff_ne]
        exact ⟨⟨h, hb⟩, ⟨⟨h1, hl.1.2⟩, hl.2⟩⟩
    next h1 =>
      split
      next h2 =>
        split
        · exact cellsFrom_mono (by omega) hl.2
        next hb =>
          simp only [cellsFrom, Bool.and_eq_true, decide_eq_true_eq, bne_iff_ne]
          exact ⟨⟨h, hb⟩, cellsFrom_mono (by omega) hl.2⟩
      next h2 =>
        simp only [cellsFrom, Bool.and_eq_true, decide_eq_true_eq, bne_iff_ne]
        exact ⟨hl.1, ih (by omega) hl.2⟩

/-- One byte written keeps the canonical form. -/
theorem cellWrite_wf (a : Nat) (b : Byte) {l : List Host.Cell} (h : cellsWf l = true) : cellsWf (cellWrite a b l) = true :=
  cellWrite_from a b (Nat.zero_le a) h

/-- Any number of bytes written keeps the canonical form. -/
theorem cellsWrite_wf (a : Nat) (bs : List Byte) {l : List Host.Cell} (h : cellsWf l = true) :
    cellsWf (cellsWrite a bs l) = true := by
  induction bs generalizing a l with
  | nil => exact h
  | cons b bs ih => exact ih (a + 1) (cellWrite_wf a b h)

theorem cellRead_below {l : List Host.Cell} {lo a : Nat} (h : cellsFrom lo l = true) (ha : a < lo) : cellRead l a = 0 := by
  induction l generalizing lo with
  | nil => rfl
  | cons c l ih =>
    simp only [cellsFrom, Bool.and_eq_true, decide_eq_true_eq] at h
    have : c.1 ≠ a := by omega
    simp [cellRead, this, ih h.2 (by omega)]

/-- A byte read after one is written: the one written at its address, any other as before. -/
theorem cellRead_cellWrite (a : Nat) (b : Byte) {lo : Nat} {l : List Host.Cell} (h : cellsFrom lo l = true) (x : Nat) :
    cellRead (cellWrite a b l) x = if x = a then b else cellRead l x := by
  induction l generalizing lo with
  | nil =>
    rw [cellWrite]
    split
    next hb => split <;> simp [cellRead, hb]
    · by_cases hx : x = a
      · simp [cellRead, hx]
      · simp [cellRead, hx, Ne.symm hx]
  | cons c l ih =>
    simp only [cellsFrom, Bool.and_eq_true, decide_eq_true_eq] at h
    rw [cellWrite]
    by_cases hx : x = a
    · subst hx
      rw [if_pos rfl]
      split
      next h1 =>
        split
        next hb => rw [hb, cellRead, if_neg (by omega), cellRead_below h.2 (by omega)]
        · simp [cellRead]
      next h1 =>
        split
        next h2 =>
          split
          next hb => rw [hb, cellRead_below h.2 (by omega)]
          · simp [cellRead]
        next h2 => rw [cellRead, if_neg (by omega), ih h.2, if_pos rfl]
    · rw [if_neg hx]
      split
      next h1 =>
        split
        · rfl
        · rw [cellRead, if_neg (fun e => hx e.symm)]
      next h1 =>
        split
        next h2 =>
          have hc : ¬c.1 = x := by omega
          split
          · rw [cellRead, if_neg hc]
          · rw [cellRead, if_neg (fun e => hx e.symm), cellRead, if_neg hc]
        next h2 =>
          rw [cellRead, cellRead, ih h.2, if_neg hx]

/-- Bytes outside those written keep their value. -/
theorem cellRead_cellsWrite_outside (a : Nat) (bs : List Byte) {l : List Host.Cell} (h : cellsWf l = true) (x : Nat)
    (hx : x < a ∨ a + bs.length ≤ x) : cellRead (cellsWrite a bs l) x = cellRead l x := by
  induction bs generalizing a l with
  | nil => rfl
  | cons b bs ih =>
    simp only [List.length_cons] at hx
    rw [cellsWrite, ih (a + 1) (cellWrite_wf a b h) (by omega), cellRead_cellWrite a b h, if_neg (by omega)]

/-- Byte `i` of what was written reads back. -/
theorem cellRead_cellsWrite (a : Nat) (bs : List Byte) {l : List Host.Cell} (h : cellsWf l = true) (i : Nat)
    (hi : i < bs.length) : cellRead (cellsWrite a bs l) (a + i) = bs[i] := by
  induction bs generalizing a i l with
  | nil => simp at hi
  | cons b bs ih =>
    rw [cellsWrite]
    cases i with
    | zero => rw [cellRead_cellsWrite_outside (a + 1) bs (cellWrite_wf a b h) _ (by omega), cellRead_cellWrite a b h]; simp
    | succ i =>
      have := ih (a + 1) (cellWrite_wf a b h) i (by simpa using hi)
      rw [show a + (i + 1) = a + 1 + i by omega, this]; rfl

theorem cellsFrom_filter (f : Host.Cell → Bool) {lo : Nat} {l : List Host.Cell} (h : cellsFrom lo l = true) :
    cellsFrom lo (l.filter f) = true := by
  induction l generalizing lo with
  | nil => rfl
  | cons c l ih =>
    simp only [cellsFrom, Bool.and_eq_true, decide_eq_true_eq] at h
    by_cases hf : f c = true
    · simp only [List.filter_cons, hf, if_true, cellsFrom, Bool.and_eq_true, decide_eq_true_eq]
      exact ⟨h.1, ih h.2⟩
    · simp only [List.filter_cons, hf]
      exact cellsFrom_mono (by omega) (ih h.2)

/-- Cells taken out keep the canonical form. -/
theorem cellsWf_filter (f : Host.Cell → Bool) {l : List Host.Cell} (h : cellsWf l = true) : cellsWf (l.filter f) = true :=
  cellsFrom_filter f h

end Sys2Proof.Machine
end

