-- ==== Sys2Proof/Laws/Merger.lean ====
section
/-! SUPPORT. The laws of the event merger and of what waits in it: an event handed over waits, nothing that waits is lost, and the
release order of 02 R40 is kept. -/

namespace Sys2Proof.Machine

open Sys2Proof

/-- An insertion adds one item and loses none. -/
theorem mem_insertWaiting (x w : Waiting) (l : List Waiting) : w ∈ insertWaiting x l ↔ w = x ∨ w ∈ l := by
  induction l with
  | nil => simp [insertWaiting]
  | cons y l ih =>
    unfold insertWaiting
    split
    · simp
    · simp [ih]; tauto

/-- An event handed to the merger waits in it with the tick of its step (02 R39). -/
theorem raised_emit (s : State) (cls unit obj code detail : Nat) (h : detail < 65536) :
    Raised (emit s cls unit obj code detail) cls unit obj code detail := by
  refine ⟨_, (mem_insertWaiting _ _ _).2 (Or.inl rfl), ?_⟩
  simp [Nat.mod_eq_of_lt h]

/-- The same for a detail wider than its field. -/
theorem raised_emit_mod (s : State) (cls unit obj code detail : Nat) :
    Raised (emit s cls unit obj code detail) cls unit obj code (detail % 65536) :=
  ⟨_, (mem_insertWaiting _ _ _).2 (Or.inl rfl), rfl⟩

/-- What waits still waits after another event is handed over. -/
theorem mem_emit {s : State} {w : Waiting} (h : w ∈ s.rcd.merger) (cls unit obj code detail : Nat) :
    w ∈ (emit s cls unit obj code detail).rcd.merger := (mem_insertWaiting _ _ _).2 (Or.inr h)

/-- An event raised stays raised while the tick does not change and nothing leaves the merger. -/
theorem Raised.mono {s t : State} {cls unit obj code detail : Nat} (h : Raised s cls unit obj code detail)
    (htick : t.sys.tick = s.sys.tick) (hm : ∀ w ∈ s.rcd.merger, w ∈ t.rcd.merger) : Raised t cls unit obj code detail := by
  obtain ⟨w, hw, e⟩ := h
  exact ⟨w, hm w hw, by rw [e, htick]⟩

/-- An event raised stays raised after another one. -/
theorem Raised.emit {s : State} {c u o k d : Nat} (h : Raised s c u o k d) (cls unit obj code detail : Nat) :
    Raised (emit s cls unit obj code detail) c u o k d := h.mono rfl fun _ hw => mem_emit hw ..

/-- Release order: nothing stands before an item that goes before it (02 R40, R44). -/
def ReleaseOrder (l : List Waiting) : Prop := l.Pairwise fun x y => goesBefore y x = false

theorem goesBefore_trans {x y z : Waiting} (h : goesBefore x y = true) (h' : goesBefore z y = false) :
    goesBefore z x = false := by
  simp only [goesBefore, Bool.or_eq_true, Bool.and_eq_true, decide_eq_true_eq, beq_iff_eq, Bool.or_eq_false_iff,
    Bool.and_eq_false_iff, decide_eq_false_iff_not, beq_eq_false_iff_ne] at *
  omega

/-- An insertion keeps the release order, and an item goes behind those of its tick, class, unit and channel. -/
theorem insertWaiting_order (x : Waiting) {l : List Waiting} (h : ReleaseOrder l) : ReleaseOrder (insertWaiting x l) := by
  induction l with
  | nil => simp [insertWaiting, ReleaseOrder]
  | cons y l ih =>
    obtain ⟨hy, hl⟩ := List.pairwise_cons.1 h
    unfold insertWaiting
    split
    next hx =>
      refine List.pairwise_cons.2 ⟨fun z hz => ?_, h⟩
      rcases List.mem_cons.1 hz with rfl | hz
      · simp only [goesBefore, Bool.or_eq_true, Bool.and_eq_true, decide_eq_true_eq, beq_iff_eq, Bool.or_eq_false_iff,
          Bool.and_eq_false_iff, decide_eq_false_iff_not, beq_eq_false_iff_ne] at *
        omega
      · exact goesBefore_trans hx (hy z hz)
    next hx =>
      refine List.pairwise_cons.2 ⟨fun z hz => ?_, ih hl⟩
      rcases (mem_insertWaiting _ _ _).1 hz with rfl | hz
      · simpa using hx
      · exact hy z hz

/-- Handing an event over keeps the release order. -/
theorem emit_order {s : State} (h : ReleaseOrder s.rcd.merger) (cls unit obj code detail : Nat) :
    ReleaseOrder (emit s cls unit obj code detail).rcd.merger := insertWaiting_order _ h

/-- A host event is due with the tick of its step (14 R425), and what was due stays so. -/
theorem hostDue_hostEvent (b : Nat) (s : State) : HostDue (hostEvent b s) b := by
  simp [HostDue, hostEvent, State.modMbx]

theorem HostDue.mono {s t : State} {b : Nat} (h : HostDue s b) (htick : t.sys.tick = s.sys.tick)
    (hm : ∀ p ∈ s.mbx.evtDue, p ∈ t.mbx.evtDue) : HostDue t b := by
  unfold HostDue at *; rw [htick]; exact hm _ h

/-- A command whose result is known is among the replies (02 R62). -/
theorem mem_complete (q : Reply) (a : Ans) (s : State) :
    ∃ r ∈ (complete q a s).rcd.replies, r.src = q.src ∧ r.seq = q.seq ∧ r.code = q.code ∧ r.result = a.res ∧ r.data = a.data := by
  refine ⟨_, List.mem_append_right _ (List.mem_singleton.2 rfl), rfl, rfl, rfl, rfl, rfl⟩

end Sys2Proof.Machine
end

