-- ==== Sys2Proof/Laws/PerInstr.lean ====
section
/-! SUPPORT. The family Wf: a row of the catalogue is well formed just when the command it carries is. One lemma per constructor
of Instr. -/

namespace Sys2Proof.Laws.Wf

/-- What the family says of an instruction. -/
def Statement (i : Instr) : Prop := ∀ (f : Frame) (c : Cmd), i.cmd? = some (f, c) → i.wf = c.wf

theorem coldReset : ∀ x0, Statement (.coldReset x0) := by
  intro x0 f c h; cases h
theorem porstNFall : Statement .porstNFall := by
  intro f c h; cases h
theorem startUpSelfTest : ∀ x0, Statement (.startUpSelfTest x0) := by
  intro x0 f c h; cases h
theorem bootRomRelease : Statement .bootRomRelease := by
  intro f c h; cases h
theorem warmResetRelease : Statement .warmResetRelease := by
  intro f c h; cases h
theorem refclkLost : Statement .refclkLost := by
  intro f c h; cases h
theorem refclkReturn : Statement .refclkReturn := by
  intro f c h; cases h
theorem refclkSettled : Statement .refclkSettled := by
  intro f c h; cases h
theorem eventTick : ∀ x0, Statement (.eventTick x0) := by
  intro x0 f c h; cases h
theorem paceLow : Statement .paceLow := by
  intro f c h; cases h
theorem eventRelease : Statement .eventRelease := by
  intro f c h; cases h
theorem stateRecordSeal : Statement .stateRecordSeal := by
  intro f c h; cases h
theorem sealDeadline : ∀ x0, Statement (.sealDeadline x0) := by
  intro x0 f c h; cases h
theorem recordPublish : Statement .recordPublish := by
  intro f c h; cases h
theorem eccUncorrectable : ∀ x0, Statement (.eccUncorrectable x0) := by
  intro x0 f c h; cases h
theorem cxlMemWrite : ∀ x0, Statement (.cxlMemWrite x0) := by
  intro x0 f c h; cases h
theorem mbxGo : ∀ x0 x1, Statement (.mbxGo x0 x1) := by
  intro x0 x1 f c h; cases h
theorem mbxStatRead : ∀ x0, Statement (.mbxStatRead x0) := by
  intro x0 f c h; cases h
theorem registerWrite : ∀ x0 x1, Statement (.registerWrite x0 x1) := by
  intro x0 x1 f c h; cases h
theorem srsRfWrite : ∀ x0 x1, Statement (.srsRfWrite x0 x1) := by
  intro x0 x1 f c h; cases h
theorem srsHeadRead : ∀ x0, Statement (.srsHeadRead x0) := by
  intro x0 f c h; cases h
theorem watchdogArm : ∀ x0, Statement (.watchdogArm x0) := by
  intro x0 f c h; cases h
theorem watchdogServe : ∀ x0, Statement (.watchdogServe x0) := by
  intro x0 f c h; cases h
theorem watchdogExpiry : ∀ x0, Statement (.watchdogExpiry x0) := by
  intro x0 f c h; cases h
theorem sysCapabilities : ∀ x0, Statement (.sysCapabilities x0) := by
  intro x0 f c h; cases h; rfl
theorem sysHeartbeat : ∀ x0, Statement (.sysHeartbeat x0) := by
  intro x0 f c h; cases h; rfl
theorem sysStatus : ∀ x0, Statement (.sysStatus x0) := by
  intro x0 f c h; cases h; rfl
theorem sysCommitEpoch : ∀ x0 x1, Statement (.sysCommitEpoch x0 x1) := by
  intro x0 x1 f c h; cases h; rfl
theorem powerSetCap : ∀ x0 x1, Statement (.powerSetCap x0 x1) := by
  intro x0 x1 f c h; cases h; rfl
theorem powerSetEnvelope : ∀ x0 x1 x2 x3 x4 x5, Statement (.powerSetEnvelope x0 x1 x2 x3 x4 x5) := by
  intro x0 x1 x2 x3 x4 x5 f c h; cases h; rfl
theorem powerStatus : ∀ x0, Statement (.powerStatus x0) := by
  intro x0 f c h; cases h; rfl
theorem rackPowerOn : ∀ x0, Statement (.rackPowerOn x0) := by
  intro x0 f c h; cases h; rfl
theorem rackPowerOff : ∀ x0 x1 x2, Statement (.rackPowerOff x0 x1 x2) := by
  intro x0 x1 x2 f c h; cases h; rfl
theorem rackHold : ∀ x0, Statement (.rackHold x0) := by
  intro x0 f c h; cases h; rfl
theorem rackReset : ∀ x0, Statement (.rackReset x0) := by
  intro x0 f c h; cases h; rfl
theorem rackJoin : ∀ x0, Statement (.rackJoin x0) := by
  intro x0 f c h; cases h; rfl
theorem rackDetach : ∀ x0, Statement (.rackDetach x0) := by
  intro x0 f c h; cases h; rfl
theorem trayPowerOn : ∀ x0, Statement (.trayPowerOn x0) := by
  intro x0 f c h; cases h; rfl
theorem trayPowerOff : ∀ x0 x1 x2, Statement (.trayPowerOff x0 x1 x2) := by
  intro x0 x1 x2 f c h; cases h; rfl
theorem trayFaultClear : ∀ x0, Statement (.trayFaultClear x0) := by
  intro x0 f c h; cases h; rfl
theorem crzSetDep : ∀ x0 x1, Statement (.crzSetDep x0 x1) := by
  intro x0 x1 f c h; cases h; rfl
theorem crzSetConfig : ∀ x0 x1 x2, Statement (.crzSetConfig x0 x1 x2) := by
  intro x0 x1 x2 f c h; cases h; rfl
theorem crzClearFault : ∀ x0 x1, Statement (.crzClearFault x0 x1) := by
  intro x0 x1 f c h; cases h; rfl
theorem crzStatus : ∀ x0, Statement (.crzStatus x0) := by
  intro x0 f c h; cases h; rfl
theorem partitionPowerOn : ∀ x0 x1, Statement (.partitionPowerOn x0 x1) := by
  intro x0 x1 f c h; cases h; rfl
theorem partitionPowerOff : ∀ x0 x1 x2, Statement (.partitionPowerOff x0 x1 x2) := by
  intro x0 x1 x2 f c h; cases h; rfl
theorem partitionReset : ∀ x0 x1 x2, Statement (.partitionReset x0 x1 x2) := by
  intro x0 x1 x2 f c h; cases h; rfl
theorem partitionResetForce : ∀ x0 x1 x2, Statement (.partitionResetForce x0 x1 x2) := by
  intro x0 x1 x2 f c h; cases h; rfl
theorem partitionResetAbort : ∀ x0 x1 x2, Statement (.partitionResetAbort x0 x1 x2) := by
  intro x0 x1 x2 f c h; cases h; rfl
theorem partitionPark : ∀ x0 x1, Statement (.partitionPark x0 x1) := by
  intro x0 x1 f c h; cases h; rfl
theorem partitionUnpark : ∀ x0 x1, Statement (.partitionUnpark x0 x1) := by
  intro x0 x1 f c h; cases h; rfl
theorem supSetWindow : ∀ x0 x1 x2 x3, Statement (.supSetWindow x0 x1 x2 x3) := by
  intro x0 x1 x2 x3 f c h; cases h; rfl
theorem supSetFastWindow : ∀ x0 x1 x2, Statement (.supSetFastWindow x0 x1 x2) := by
  intro x0 x1 x2 f c h; cases h; rfl
theorem supMargin : ∀ x0 x1 x2, Statement (.supMargin x0 x1 x2) := by
  intro x0 x1 x2 f c h; cases h; rfl
theorem supStatus : ∀ x0, Statement (.supStatus x0) := by
  intro x0 f c h; cases h; rfl
theorem steerSetMode : ∀ x0 x1, Statement (.steerSetMode x0 x1) := by
  intro x0 x1 f c h; cases h; rfl
theorem steerSetPhasePref : ∀ x0 x1 x2, Statement (.steerSetPhasePref x0 x1 x2) := by
  intro x0 x1 x2 f c h; cases h; rfl
theorem steerSetParkOrder : ∀ x0 x1, Statement (.steerSetParkOrder x0 x1) := by
  intro x0 x1 f c h; cases h; rfl
theorem steerSetGroup : ∀ x0 x1, Statement (.steerSetGroup x0 x1) := by
  intro x0 x1 f c h; cases h; rfl
theorem steerSetConfig : ∀ x0 x1 x2 x3 x4, Statement (.steerSetConfig x0 x1 x2 x3 x4) := by
  intro x0 x1 x2 x3 x4 f c h; cases h; rfl
theorem steerStatus : ∀ x0, Statement (.steerStatus x0) := by
  intro x0 f c h; cases h; rfl
theorem ledgerBindJob : ∀ x0 x1 x2 x3, Statement (.ledgerBindJob x0 x1 x2 x3) := by
  intro x0 x1 x2 x3 f c h; cases h; rfl
theorem ledgerUnbindJob : ∀ x0 x1, Statement (.ledgerUnbindJob x0 x1) := by
  intro x0 x1 f c h; cases h; rfl
theorem ledgerSetCoeff : ∀ x0 x1 x2, Statement (.ledgerSetCoeff x0 x1 x2) := by
  intro x0 x1 x2 f c h; cases h; rfl
theorem ledgerSetConfig : ∀ x0 x1, Statement (.ledgerSetConfig x0 x1) := by
  intro x0 x1 f c h; cases h; rfl
theorem ledgerStatus : ∀ x0, Statement (.ledgerStatus x0) := by
  intro x0 f c h; cases h; rfl
theorem frondStage : ∀ x0 x1 x2 x3 x4 x5, Statement (.frondStage x0 x1 x2 x3 x4 x5) := by
  intro x0 x1 x2 x3 x4 x5 f c h; cases h; rfl
theorem frondLoad : ∀ x0 x1 x2 x3, Statement (.frondLoad x0 x1 x2 x3) := by
  intro x0 x1 x2 x3 f c h; cases h; rfl
theorem frondUnload : ∀ x0 x1 x2, Statement (.frondUnload x0 x1 x2) := by
  intro x0 x1 x2 f c h; cases h; rfl
theorem frondRun : ∀ x0 x1 x2, Statement (.frondRun x0 x1 x2) := by
  intro x0 x1 x2 f c h; cases h; rfl
theorem frondSetSched : ∀ x0 x1, Statement (.frondSetSched x0 x1) := by
  intro x0 x1 f c h; cases h; rfl
theorem frondStatus : ∀ x0, Statement (.frondStatus x0) := by
  intro x0 f c h; cases h; rfl
theorem srsSetConfig : ∀ x0 x1 x2, Statement (.srsSetConfig x0 x1 x2) := by
  intro x0 x1 x2 f c h; cases h; rfl
theorem srsStatus : ∀ x0, Statement (.srsStatus x0) := by
  intro x0 f c h; cases h; rfl
theorem bupTest : ∀ x0 x1, Statement (.bupTest x0 x1) := by
  intro x0 x1 f c h; cases h; rfl
theorem bupFloorPlan : ∀ x0 x1, Statement (.bupFloorPlan x0 x1) := by
  intro x0 x1 f c h; cases h; rfl
theorem bupJournalRead : ∀ x0 x1 x2, Statement (.bupJournalRead x0 x1 x2) := by
  intro x0 x1 x2 f c h; cases h; rfl
theorem bupJournalForget : ∀ x0 x1, Statement (.bupJournalForget x0 x1) := by
  intro x0 x1 f c h; cases h; rfl
theorem bupSetConfig : ∀ x0 x1, Statement (.bupSetConfig x0 x1) := by
  intro x0 x1 f c h; cases h; rfl
theorem bupStatus : ∀ x0, Statement (.bupStatus x0) := by
  intro x0 f c h; cases h; rfl
theorem coolSetConfig : ∀ x0 x1 x2, Statement (.coolSetConfig x0 x1 x2) := by
  intro x0 x1 x2 f c h; cases h; rfl
theorem coolSetCurve : ∀ x0 x1, Statement (.coolSetCurve x0 x1) := by
  intro x0 x1 f c h; cases h; rfl
theorem coolSetTable : ∀ x0 x1, Statement (.coolSetTable x0 x1) := by
  intro x0 x1 f c h; cases h; rfl
theorem coolSetMap : ∀ x0 x1 x2 x3, Statement (.coolSetMap x0 x1 x2 x3) := by
  intro x0 x1 x2 x3 f c h; cases h; rfl
theorem coolSetLoop : ∀ x0 x1, Statement (.coolSetLoop x0 x1) := by
  intro x0 x1 f c h; cases h; rfl
theorem coolSetMode : ∀ x0 x1, Statement (.coolSetMode x0 x1) := by
  intro x0 x1 f c h; cases h; rfl
theorem coolClearFault : ∀ x0 x1, Statement (.coolClearFault x0 x1) := by
  intro x0 x1 f c h; cases h; rfl
theorem coolClearLeak : ∀ x0 x1, Statement (.coolClearLeak x0 x1) := by
  intro x0 x1 f c h; cases h; rfl
theorem coolStatus : ∀ x0, Statement (.coolStatus x0) := by
  intro x0 f c h; cases h; rfl
theorem twbSetConfig : ∀ x0 x1 x2 x3, Statement (.twbSetConfig x0 x1 x2 x3) := by
  intro x0 x1 x2 x3 f c h; cases h; rfl
theorem twbTransfer : ∀ x0 x1 x2 x3 x4 x5 x6 x7 x8, Statement (.twbTransfer x0 x1 x2 x3 x4 x5 x6 x7 x8) := by
  intro x0 x1 x2 x3 x4 x5 x6 x7 x8 f c h; cases h; rfl
theorem twbStatus : ∀ x0, Statement (.twbStatus x0) := by
  intro x0 f c h; cases h; rfl
theorem netSetConfig : ∀ x0 x1 x2 x3, Statement (.netSetConfig x0 x1 x2 x3) := by
  intro x0 x1 x2 x3 f c h; cases h; rfl
theorem netSubscribe : ∀ x0 x1 x2 x3, Statement (.netSubscribe x0 x1 x2 x3) := by
  intro x0 x1 x2 x3 f c h; cases h; rfl
theorem fwStage : ∀ x0 x1 x2 x3 x4 x5, Statement (.fwStage x0 x1 x2 x3 x4 x5) := by
  intro x0 x1 x2 x3 x4 x5 f c h; cases h; rfl
theorem fwVerify : ∀ x0 x1, Statement (.fwVerify x0 x1) := by
  intro x0 x1 f c h; cases h; rfl
theorem fwActivate : ∀ x0 x1 x2 x3, Statement (.fwActivate x0 x1 x2 x3) := by
  intro x0 x1 x2 x3 f c h; cases h; rfl
theorem fwStatus : ∀ x0, Statement (.fwStatus x0) := by
  intro x0 f c h; cases h; rfl
theorem secDebugChallenge : ∀ x0 x1, Statement (.secDebugChallenge x0 x1) := by
  intro x0 x1 f c h; cases h; rfl
theorem secDebugUnlock : ∀ x0 x1 x2, Statement (.secDebugUnlock x0 x1 x2) := by
  intro x0 x1 x2 f c h; cases h; rfl
theorem secDebugLock : ∀ x0, Statement (.secDebugLock x0) := by
  intro x0 f c h; cases h; rfl
theorem secSetLifecycle : ∀ x0 x1 x2, Statement (.secSetLifecycle x0 x1 x2) := by
  intro x0 x1 x2 f c h; cases h; rfl
theorem secSetKey : ∀ x0 x1 x2, Statement (.secSetKey x0 x1 x2) := by
  intro x0 x1 x2 f c h; cases h; rfl
theorem secStatus : ∀ x0, Statement (.secStatus x0) := by
  intro x0 f c h; cases h; rfl
theorem mctpSetEndpointId : ∀ x0, Statement (.mctpSetEndpointId x0) := by
  intro x0 f c h; cases h
theorem mctpReassemblyTimeout : Statement .mctpReassemblyTimeout := by
  intro f c h; cases h
theorem spdmGetVersion : ∀ x0, Statement (.spdmGetVersion x0) := by
  intro x0 f c h; cases h
theorem spdmGetCapabilities : ∀ x0, Statement (.spdmGetCapabilities x0) := by
  intro x0 f c h; cases h
theorem spdmNegotiateAlgorithms : ∀ x0, Statement (.spdmNegotiateAlgorithms x0) := by
  intro x0 f c h; cases h
theorem spdmGetDigests : ∀ x0, Statement (.spdmGetDigests x0) := by
  intro x0 f c h; cases h
theorem spdmGetCertificate : ∀ x0 x1 x2 x3, Statement (.spdmGetCertificate x0 x1 x2 x3) := by
  intro x0 x1 x2 x3 f c h; cases h
theorem spdmChallenge : ∀ x0 x1 x2, Statement (.spdmChallenge x0 x1 x2) := by
  intro x0 x1 x2 f c h; cases h
theorem spdmGetMeasurements : ∀ x0 x1 x2 x3, Statement (.spdmGetMeasurements x0 x1 x2 x3) := by
  intro x0 x1 x2 x3 f c h; cases h
theorem spdmKeyExchange : ∀ x0 x1, Statement (.spdmKeyExchange x0 x1) := by
  intro x0 x1 f c h; cases h
theorem spdmFinish : ∀ x0 x1, Statement (.spdmFinish x0 x1) := by
  intro x0 x1 f c h; cases h
theorem spdmEndSession : ∀ x0, Statement (.spdmEndSession x0) := by
  intro x0 f c h; cases h
theorem ideKeyManagement : ∀ x0, Statement (.ideKeyManagement x0) := by
  intro x0 f c h; cases h
theorem pldmFwTransfer : ∀ x0 x1 x2 x3 x4, Statement (.pldmFwTransfer x0 x1 x2 x3 x4) := by
  intro x0 x1 x2 x3 x4 f c h; cases h
theorem pldmVerifyComplete : ∀ x0, Statement (.pldmVerifyComplete x0) := by
  intro x0 f c h; cases h
theorem pldmActivateFirmware : ∀ x0 x1, Statement (.pldmActivateFirmware x0 x1) := by
  intro x0 x1 f c h; cases h
theorem pldmMonitoring : ∀ x0, Statement (.pldmMonitoring x0) := by
  intro x0 f c h; cases h
theorem perstNAssert : Statement .perstNAssert := by
  intro f c h; cases h
theorem cxlLinkUp : ∀ x0 x1 x2, Statement (.cxlLinkUp x0 x1 x2) := by
  intro x0 x1 x2 f c h; cases h
theorem cxlLinkDown : Statement .cxlLinkDown := by
  intro f c h; cases h
theorem ethLinkUp : ∀ x0 x1, Statement (.ethLinkUp x0 x1) := by
  intro x0 x1 f c h; cases h
theorem ethLinkDown : ∀ x0, Statement (.ethLinkDown x0) := by
  intro x0 f c h; cases h
theorem leaseExpiry : ∀ x0, Statement (.leaseExpiry x0) := by
  intro x0 f c h; cases h
theorem rackAnnounceRx : ∀ x0, Statement (.rackAnnounceRx x0) := by
  intro x0 f c h; cases h
theorem rackAnnounceTx : Statement .rackAnnounceTx := by
  intro f c h; cases h
theorem rackMismatch : Statement .rackMismatch := by
  intro f c h; cases h
theorem leaderLost : Statement .leaderLost := by
  intro f c h; cases h
theorem rackListenEnd : Statement .rackListenEnd := by
  intro f c h; cases h
theorem seqsyncRise : Statement .seqsyncRise := by
  intro f c h; cases h
theorem seqsyncPulse : ∀ x0, Statement (.seqsyncPulse x0) := by
  intro x0 f c h; cases h
theorem seqsyncResetPulse : Statement .seqsyncResetPulse := by
  intro f c h; cases h
theorem seqsyncRelease : Statement .seqsyncRelease := by
  intro f c h; cases h
theorem drainDeadline : Statement .drainDeadline := by
  intro f c h; cases h
theorem quiesceBallastClear : Statement .quiesceBallastClear := by
  intro f c h; cases h
theorem staggerStart : ∀ x0, Statement (.staggerStart x0) := by
  intro x0 f c h; cases h
theorem coolRundown : Statement .coolRundown := by
  intro f c h; cases h
theorem trayflt : Statement .trayflt := by
  intro f c h; cases h
theorem rackflt : Statement .rackflt := by
  intro f c h; cases h
theorem crzStepStart : ∀ x0, Statement (.crzStepStart x0) := by
  intro x0 f c h; cases h
theorem efuseCloseTimeout : ∀ x0, Statement (.efuseCloseTimeout x0) := by
  intro x0 f c h; cases h
theorem identityRead : ∀ x0 x1, Statement (.identityRead x0 x1) := by
  intro x0 x1 f c h; cases h
theorem railPgChange : ∀ x0 x1 x2, Statement (.railPgChange x0 x1 x2) := by
  intro x0 x1 x2 f c h; cases h
theorem railStable : ∀ x0, Statement (.railStable x0) := by
  intro x0 f c h; cases h
theorem pgTimeout : ∀ x0, Statement (.pgTimeout x0) := by
  intro x0 f c h; cases h
theorem pgLost : ∀ x0, Statement (.pgLost x0) := by
  intro x0 f c h; cases h
theorem railOff : ∀ x0, Statement (.railOff x0) := by
  intro x0 f c h; cases h
theorem offTimeout : ∀ x0, Statement (.offTimeout x0) := by
  intro x0 f c h; cases h
theorem efuseFault : ∀ x0, Statement (.efuseFault x0) := by
  intro x0 f c h; cases h
theorem coreWindow : ∀ x0 x1 x2, Statement (.coreWindow x0 x1 x2) := by
  intro x0 x1 x2 f c h; cases h
theorem thermtrip : ∀ x0 x1, Statement (.thermtrip x0 x1) := by
  intro x0 x1 f c h; cases h
theorem alertArming : ∀ x0 x1, Statement (.alertArming x0 x1) := by
  intro x0 x1 f c h; cases h
theorem vralertFall : ∀ x0, Statement (.vralertFall x0) := by
  intro x0 f c h; cases h
theorem vralertRise : ∀ x0, Statement (.vralertRise x0) := by
  intro x0 f c h; cases h
theorem holdoffEnd : ∀ x0, Statement (.holdoffEnd x0) := by
  intro x0 f c h; cases h
theorem drainSuccess : ∀ x0, Statement (.drainSuccess x0) := by
  intro x0 f c h; cases h
theorem drainTimeout : ∀ x0, Statement (.drainTimeout x0) := by
  intro x0 f c h; cases h
theorem routeAbort : ∀ x0, Statement (.routeAbort x0) := by
  intro x0 f c h; cases h
theorem window : ∀ x0, Statement (.window x0) := by
  intro x0 f c h; cases h
theorem convFault : ∀ x0, Statement (.convFault x0) := by
  intro x0 f c h; cases h
theorem convFaultClear : ∀ x0, Statement (.convFaultClear x0) := by
  intro x0 f c h; cases h
theorem setpointReached : ∀ x0, Statement (.setpointReached x0) := by
  intro x0 f c h; cases h
theorem setpointTimeout : ∀ x0, Statement (.setpointTimeout x0) := by
  intro x0 f c h; cases h
theorem marginStep : ∀ x0, Statement (.marginStep x0) := by
  intro x0 f c h; cases h
theorem readbackStale : Statement .readbackStale := by
  intro f c h; cases h
theorem efuseReadPin : ∀ x0 x1, Statement (.efuseReadPin x0 x1) := by
  intro x0 x1 f c h; cases h
theorem efuseSlotBRead : ∀ x0 x1, Statement (.efuseSlotBRead x0 x1) := by
  intro x0 x1 f c h; cases h
theorem trayReadPin : ∀ x0, Statement (.trayReadPin x0) := by
  intro x0 f c h; cases h
theorem traySlotBRead : ∀ x0, Statement (.traySlotBRead x0) := by
  intro x0 f c h; cases h
theorem mainBusBurst : ∀ x0 x1, Statement (.mainBusBurst x0 x1) := by
  intro x0 x1 f c h; cases h
theorem avsbusRead : ∀ x0 x1 x2, Statement (.avsbusRead x0 x1 x2) := by
  intro x0 x1 x2 f c h; cases h
theorem avsNoResp : ∀ x0, Statement (.avsNoResp x0) := by
  intro x0 f c h; cases h
theorem twbAlert : ∀ x0 x1 x2 x3, Statement (.twbAlert x0 x1 x2 x3) := by
  intro x0 x1 x2 x3 f c h; cases h
theorem alertStuck : ∀ x0, Statement (.alertStuck x0) := by
  intro x0 f c h; cases h
theorem alertUnmask : ∀ x0, Statement (.alertUnmask x0) := by
  intro x0 f c h; cases h
theorem efbAlert : ∀ x0, Statement (.efbAlert x0) := by
  intro x0 f c h; cases h
theorem stuckDataLine : ∀ x0 x1, Statement (.stuckDataLine x0 x1) := by
  intro x0 x1 f c h; cases h
theorem clkTimeout : ∀ x0, Statement (.clkTimeout x0) := by
  intro x0 f c h; cases h
theorem segRetry : ∀ x0 x1, Statement (.segRetry x0 x1) := by
  intro x0 x1 f c h; cases h
theorem sorusTrainingDone : ∀ x0 x1, Statement (.sorusTrainingDone x0 x1) := by
  intro x0 x1 f c h; cases h
theorem sorusTrainingFail : ∀ x0, Statement (.sorusTrainingFail x0) := by
  intro x0 f c h; cases h
theorem sorusTrainingRetry : ∀ x0, Statement (.sorusTrainingRetry x0) := by
  intro x0 f c h; cases h
theorem upstreamLockLost : ∀ x0 x1, Statement (.upstreamLockLost x0 x1) := by
  intro x0 x1 f c h; cases h
theorem activityFrame : ∀ x0 x1 x2, Statement (.activityFrame x0 x1 x2) := by
  intro x0 x1 x2 f c h; cases h
theorem bootComplete : ∀ x0 x1 x2 x3, Statement (.bootComplete x0 x1 x2 x3) := by
  intro x0 x1 x2 x3 f c h; cases h
theorem bootFailed : ∀ x0 x1 x2, Statement (.bootFailed x0 x1 x2) := by
  intro x0 x1 x2 f c h; cases h
theorem trainStatus : ∀ x0 x1 x2 x3, Statement (.trainStatus x0 x1 x2 x3) := by
  intro x0 x1 x2 x3 f c h; cases h
theorem testStatus : ∀ x0 x1 x2 x3, Statement (.testStatus x0 x1 x2 x3) := by
  intro x0 x1 x2 x3 f c h; cases h
theorem parkDone : ∀ x0 x1 x2 x3, Statement (.parkDone x0 x1 x2 x3) := by
  intro x0 x1 x2 x3 f c h; cases h
theorem dsLockChange : ∀ x0 x1 x2 x3, Statement (.dsLockChange x0 x1 x2 x3) := by
  intro x0 x1 x2 x3 f c h; cases h
theorem memEcc : ∀ x0 x1 x2 x3, Statement (.memEcc x0 x1 x2 x3) := by
  intro x0 x1 x2 x3 f c h; cases h
theorem sensorFault : ∀ x0 x1 x2, Statement (.sensorFault x0 x1 x2) := by
  intro x0 x1 x2 f c h; cases h
theorem testResultFrame : ∀ x0 x1 x2, Statement (.testResultFrame x0 x1 x2) := by
  intro x0 x1 x2 f c h; cases h
theorem pointerReset : ∀ x0, Statement (.pointerReset x0) := by
  intro x0 f c h; cases h
theorem linkLostTimeout : ∀ x0, Statement (.linkLostTimeout x0) := by
  intro x0 f c h; cases h
theorem steeringLoop : Statement .steeringLoop := by
  intro f c h; cases h
theorem loopOverrun : Statement .loopOverrun := by
  intro f c h; cases h
theorem stagedSetApply : Statement .stagedSetApply := by
  intro f c h; cases h
theorem brimEvaluation : Statement .brimEvaluation := by
  intro f c h; cases h
theorem brimBlind : Statement .brimBlind := by
  intro f c h; cases h
theorem ledgerStep : Statement .ledgerStep := by
  intro f c h; cases h
theorem ledgerPosting : Statement .ledgerPosting := by
  intro f c h; cases h
theorem frondLaunch : ∀ x0, Statement (.frondLaunch x0) := by
  intro x0 f c h; cases h
theorem frondRunDone : ∀ x0, Statement (.frondRunDone x0) := by
  intro x0 f c h; cases h
theorem frondReloadDone : ∀ x0, Statement (.frondReloadDone x0) := by
  intro x0 f c h; cases h
theorem frondPersistDone : ∀ x0, Statement (.frondPersistDone x0) := by
  intro x0 f c h; cases h
theorem refDone : Statement .refDone := by
  intro f c h; cases h
theorem bootFlashVerified : ∀ x0, Statement (.bootFlashVerified x0) := by
  intro x0 f c h; cases h
theorem bootTimeout : ∀ x0, Statement (.bootTimeout x0) := by
  intro x0 f c h; cases h
theorem trainingTimeout : ∀ x0, Statement (.trainingTimeout x0) := by
  intro x0 f c h; cases h
theorem testTimeout : ∀ x0, Statement (.testTimeout x0) := by
  intro x0 f c h; cases h
theorem floorPlan : Statement .floorPlan := by
  intro f c h; cases h
theorem coolingLoop : Statement .coolingLoop := by
  intro f c h; cases h
theorem fanGroupKick : ∀ x0, Statement (.fanGroupKick x0) := by
  intro x0 f c h; cases h
theorem fanKickDone : ∀ x0, Statement (.fanKickDone x0) := by
  intro x0 f c h; cases h
theorem fanKickTimeout : ∀ x0, Statement (.fanKickTimeout x0) := by
  intro x0 f c h; cases h
theorem fanTachLoss : ∀ x0, Statement (.fanTachLoss x0) := by
  intro x0 f c h; cases h
theorem fanSlow : ∀ x0, Statement (.fanSlow x0) := by
  intro x0 f c h; cases h
theorem tachFaultClear : ∀ x0, Statement (.tachFaultClear x0) := by
  intro x0 f c h; cases h
theorem fanRekick : ∀ x0, Statement (.fanRekick x0) := by
  intro x0 f c h; cases h
theorem flowLow : ∀ x0, Statement (.flowLow x0) := by
  intro x0 f c h; cases h
theorem pumpTachLoss : ∀ x0, Statement (.pumpTachLoss x0) := by
  intro x0 f c h; cases h
theorem flowLost : ∀ x0, Statement (.flowLost x0) := by
  intro x0 f c h; cases h
theorem flowHoldEnd : ∀ x0, Statement (.flowHoldEnd x0) := by
  intro x0 f c h; cases h
theorem pressLow : ∀ x0, Statement (.pressLow x0) := by
  intro x0 f c h; cases h
theorem coolEst : Statement .coolEst := by
  intro f c h; cases h
theorem coolEstTimeout : Statement .coolEstTimeout := by
  intro f c h; cases h
theorem thmFault : ∀ x0, Statement (.thmFault x0) := by
  intro x0 f c h; cases h
theorem thmRecover : ∀ x0, Statement (.thmRecover x0) := by
  intro x0 f c h; cases h
theorem critTemp : Statement .critTemp := by
  intro f c h; cases h
theorem onDieFault : ∀ x0, Statement (.onDieFault x0) := by
  intro x0 f c h; cases h
theorem refreshRequest : ∀ x0 x1, Statement (.refreshRequest x0 x1) := by
  intro x0 x1 f c h; cases h
theorem leakEvaluation : ∀ x0, Statement (.leakEvaluation x0) := by
  intro x0 f c h; cases h
theorem leakWet : ∀ x0, Statement (.leakWet x0) := by
  intro x0 f c h; cases h
theorem leakSensor : ∀ x0, Statement (.leakSensor x0) := by
  intro x0 f c h; cases h
theorem leakSensorRecover : ∀ x0, Statement (.leakSensorRecover x0) := by
  intro x0 f c h; cases h
theorem heartbeatTimeout : Statement .heartbeatTimeout := by
  intro f c h; cases h
theorem tableModeExit : Statement .tableModeExit := by
  intro f c h; cases h
theorem lockstepDivergence : ∀ x0, Statement (.lockstepDivergence x0) := by
  intro x0 f c h; cases h
theorem islandSramError : Statement .islandSramError := by
  intro f c h; cases h
theorem convertersBothFault : Statement .convertersBothFault := by
  intro f c h; cases h
theorem safeTrayflt : Statement .safeTrayflt := by
  intro f c h; cases h
theorem trialConfirmed : Statement .trialConfirmed := by
  intro f c h; cases h
theorem trialTimeout : Statement .trialTimeout := by
  intro f c h; cases h
theorem goldenCheck : Statement .goldenCheck := by
  intro f c h; cases h
theorem fwSlotWritten : ∀ x0, Statement (.fwSlotWritten x0) := by
  intro x0 f c h; cases h
theorem activateWarmReset : Statement .activateWarmReset := by
  intro f c h; cases h
theorem accFwWriteDone : ∀ x0 x1, Statement (.accFwWriteDone x0 x1) := by
  intro x0 x1 f c h; cases h
theorem lifecycleFused : ∀ x0, Statement (.lifecycleFused x0) := by
  intro x0 f c h; cases h
theorem debugNonceExpiry : Statement .debugNonceExpiry := by
  intro f c h; cases h
theorem ctrlHot : Statement .ctrlHot := by
  intro f c h; cases h
theorem cxlConfigurationLoaded : Statement .cxlConfigurationLoaded := by
  intro f c h; cases h
theorem lpddr5xTrained : ∀ x0, Statement (.lpddr5xTrained x0) := by
  intro x0 f c h; cases h
theorem configurationRequest : ∀ x0, Statement (.configurationRequest x0) := by
  intro x0 f c h; cases h
theorem perstNDeassert : Statement .perstNDeassert := by
  intro f c h; cases h
theorem ipv6ReassemblyTimeout : Statement .ipv6ReassemblyTimeout := by
  intro f c h; cases h
theorem neighbourDiscovery : ∀ x0 x1, Statement (.neighbourDiscovery x0 x1) := by
  intro x0 x1 f c h; cases h
theorem icmpv6Echo : ∀ x0 x1, Statement (.icmpv6Echo x0 x1) := by
  intro x0 x1 f c h; cases h
theorem networkFrameDropped : ∀ x0, Statement (.networkFrameDropped x0) := by
  intro x0 f c h; cases h
theorem getVendorDefinedMessageSupport : Statement .getVendorDefinedMessageSupport := by
  intro f c h; cases h
theorem pumpKickDone : ∀ x0, Statement (.pumpKickDone x0) := by
  intro x0 f c h; cases h
theorem flowPressureFailed : ∀ x0, Statement (.flowPressureFailed x0) := by
  intro x0 f c h; cases h
theorem sclReleased : ∀ x0 x1, Statement (.sclReleased x0 x1) := by
  intro x0 x1 f c h; cases h
theorem accRstHoldEnd : ∀ x0, Statement (.accRstHoldEnd x0) := by
  intro x0 f c h; cases h
theorem avsWriteResponse : ∀ x0 x1 x2, Statement (.avsWriteResponse x0 x1 x2) := by
  intro x0 x1 x2 f c h; cases h
theorem configStoreWriteDone : ∀ x0, Statement (.configStoreWriteDone x0) := by
  intro x0 f c h; cases h

end Sys2Proof.Laws.Wf
end

