-- ==== Sys2Proof/Tests/Slice0.lean ====
section
/-! SUPPORT. Tests of the model: ill-formed terms, witnesses for the hypotheses of the statements (Certificates/Slice0/
Obligations.lean), and small steps. A witness names a concrete state and operands. What hangs on a signature is a constant of
Config that nothing evaluates: there a witness takes the outcome of the signature check as its only hypothesis. -/

namespace Sys2Proof.Tests

open Sys2Proof Sys2Proof.Machine

set_option Elab.async false

/-! Ill-formed terms, one for each check of WellFormed.lean. -/

theorem test_wf_refuses_lengths :
    (Cmd.crzSetDep []).wf = false ∧ (Cmd.crzSetConfig 0 [0]).wf = false ∧ (Cmd.steerSetConfig 0 0 0 []).wf = false ∧
      (Cmd.ledgerSetCoeff 0 [0]).wf = false ∧ (Cmd.frondStage 0 0 0 0 []).wf = false ∧
      (Cmd.frondStage 0 0 0 0 (List.replicate 4001 0)).wf = false ∧ (Cmd.coolSetCurve []).wf = false ∧
      (Cmd.coolSetTable [0]).wf = false ∧ (Cmd.coolSetMap [] (List.replicate 24 0) 0).wf = false ∧
      (Cmd.coolSetMap (List.replicate 16 0) [] 0).wf = false ∧ (Cmd.coolSetLoop [0]).wf = false ∧
      (Cmd.twbSetConfig [] (List.replicate 8 0) 0).wf = false ∧ (Cmd.twbSetConfig (List.replicate 11 0) [] 0).wf = false ∧
      (Cmd.twbTransfer 0 0 0 0 1 0 []).wf = false ∧ (Cmd.netSetConfig 0 [] 0).wf = false ∧
      (Cmd.fwStage 0 0 0 0 []).wf = false ∧ (Cmd.fwStage 0 0 0 0 (List.replicate 4001 0)).wf = false ∧
      (Cmd.secDebugUnlock 0 []).wf = false ∧ (Cmd.secSetLifecycle 0 []).wf = false ∧ (Cmd.secSetKey 1 []).wf = false := by
  decide +kernel

/-- What a tick brings where nothing happens but conversions of one value. -/
def tickOf (v : Nat) : TickIn :=
  { xnetIdle := 0, scan := Vector.replicate 2 (Vector.replicate 20 v), tach := 0, rings := 0, trimUp := false, trimDown := false,
    wpN := true, eccCorrected := 0, refs := 0, sdaHeld := 0, sclHeld := 0 }

theorem test_wf_refuses_ticks : (Instr.eventTick (tickOf 65536)).wf = false ∧
    (Instr.eventTick { tickOf 0 with refs := 131073 }).wf = false ∧ (Instr.eventTick (tickOf 65535)).wf = true := by
  decide +kernel

/-- An event frame header with further entries. -/
def eventHdr (l : List EventEntry) : EventHdr :=
  { hdr := { ftype := 2, len := 3, ver := 1, fseq := 0, crc8 := 0, blocks := 3, ending := .term 0 }, ns := 0, more := l }

theorem test_wf_refuses_entries :
    (Instr.sensorFault 0 (eventHdr (List.replicate 32 { ns := 0, code := 9, arg := 0, data := 0 })) 0).wf = false := by
  decide +kernel

/-- An identity block of a family 0 accelerator, with a list of fmax entries. -/
def identity (fmax : List (BitVec 16)) : Identity :=
  { serial := 7, binFuse := 1, fwFamily := 0, xnetRev := 0, fmax := fmax, dieMask := 0, hbmMask := 0, clusterMask := 0,
    coreMask := 0, engineMask := 0 }

theorem test_wf_refuses_identity : (Instr.identityRead 0 (some (identity [0]))).wf = false := by decide +kernel

/-- A regulator of a main bus that answers 0 to every read. -/
def regulator (rail : Nat) : RegRead := { rail := rail, voutMode := 0, vout := .ok 0, iout := .ok 0, status := .ok 0 }

theorem test_wf_refuses_regulator : (Instr.mainBusBurst 0 [regulator 8]).wf = false ∧
    (Instr.mainBusBurst 0 [regulator 14]).wf = false := by decide +kernel

/-! A running FM8, and commands that it admits. -/

/-- An FM8 of a leader in slot 0 whose firmware runs, at rest in rack state 1. -/
def up : State :=
  { State.reset with
    sys := { State.reset.sys with boot := .running, fwRunning := true, safOk := true, memTrained := true, tick := 100000000 },
    twb := { State.reset.twb with eid := 9 },
    saf := { State.reset.saf with started := true, served := true }, rack := { State.reset.rack with state := 1, line := true } }

/-- A command of the catalogue on FMP with the rack key, or over MCTP with the host key or none, with the tag that fits. -/
def frameOf (k : BitVec 2) (c : Cmd) (s : State) : Frame :=
  let f : Frame := { src := if k = 2 then .fmp0 else .mctp, seq := 1, ifver := BitVec.ofNat 8 (ifverN s), key := k, ctr := 1,
                     tag := 0, device := s.nv.serial, wellFormed := true, addr := 0, udp := 0,
                     stamp := s.sys.tick - 2 }
  { f with tag := Config.kmac ((keyByNo s k).getD 0) (tagInput s (reqOf f c none s)) 128 "FMP cmd" }

/-- All that admits the command but its tag. -/
def ready (k : BitVec 2) (c : Cmd) (s : State) : Bool :=
  running s && !sealed s && (k != 3) && pathKey (if k = 2 then .fmp0 else .mctp) k (isRead (codeOf c) || codeOf c == 0x0102) &&
    decide (ifverN s < 256) && s.net.recentFmp.isEmpty && s.net.recentMctp.isEmpty && s.net.rackSet.isEmpty &&
    (s.net.ctr[(5 : Fin 8)] == 0) && (s.net.ctr[(6 : Fin 8)] == 0) &&
    (ownerOf (codeOf c) (paramsOf c) == 0 || ownerOf (codeOf c) (paramsOf c) == if k = 2 then 1 else 2) &&
    present s c && paramsOk s c && (powerReason s c).isNone && (s.nv.lc != 4) && (s.twb.eid != 0) && decide (2 ≤ s.sys.tick) &&
    s.rcd.released.isNone && s.rcd.merger.isEmpty

/-- A command that is ready, with the tag that fits it, is admitted. -/
theorem admitted_of_ready {k : BitVec 2} {c : Cmd} {s : State} (h : ready k c s = true) : Admitted (frameOf k c s) c s := by
  simp only [ready, Bool.and_eq_true, Bool.not_eq_true', bne_iff_ne, ne_eq, decide_eq_true_eq, List.isEmpty_iff, beq_iff_eq,
    Option.isNone_iff_eq_none] at h
  obtain ⟨⟨⟨⟨⟨⟨⟨⟨⟨⟨⟨⟨⟨⟨⟨⟨⟨⟨run, sl⟩, k3⟩, path⟩, ver⟩, fmp⟩, mctp⟩, set⟩, c5⟩, c6⟩, own⟩, pres⟩, par⟩, pow⟩, lc⟩, eid⟩, tick⟩, rel⟩,
    mer⟩ := h
  have hk : k = 0 ∨ k = 1 ∨ k = 2 := by
    have : ∀ k : BitVec 2, k ≠ 3 → k = 0 ∨ k = 1 ∨ k = 2 := by decide
    exact this k k3
  refine ⟨run, by simp [frameOf]; omega, by simp [rel], by simp [mer], fun _ => ⟨rfl, eid⟩, rfl, ?_, ?_, ?_, ?_, ?_, ?_, pres, par, ?_⟩
  · intro m hm; obtain rfl | rfl | rfl := hk <;> simp [frameOf, boxOf] at hm
  · intro _; refine ⟨rfl, ?_⟩; simp [duplicateOf, fmp, mctp]
  · left; simp [frameOf, Nat.mod_eq_of_lt ver]
  · have e : tagInput s (reqOf (frameOf k c s) c none s) =
        tagInput s (reqOf { frameOf k c s with tag := 0 } c none s) := rfl
    obtain rfl | rfl | rfl := hk
    · simp [tagOk, frameOf, sl, keyByNo, reqOf] at path ⊢; exact path
    · simp [tagOk, sl, keyByNo]; exact ⟨path, by simp [frameOf, keyByNo, reqOf, tagInput]⟩
    · simp [tagOk, sl, keyByNo]; exact ⟨path, by simp [frameOf, keyByNo, reqOf, tagInput]⟩
  · obtain rfl | rfl | rfl := hk <;> simp [ctrOk, frameOf, ctrIx, sourceNo, c5, c6]
  · obtain rfl | rfl | rfl := hk <;> simp [mayDo, frameOf, reqOf, roleNo] at own ⊢ <;> exact own
  · simp only [stateReason, pow, lc, false_and, if_false, set]
    cases settingOf c with
    | none => rfl
    | some p => obtain ⟨a, b⟩ := p; simp

/-- A ready command is admitted, and whatever else holds with it. -/
theorem met {k : BitVec 2} {c : Cmd} {s : State} {p : Prop} (h : ready k c s = true) (q : p) :
    Admitted (frameOf k c s) c s ∧ p := ⟨admitted_of_ready h, q⟩

/-- The tag of `frameOf` fits whatever else may fail. -/
theorem tag_fits {k : BitVec 2} {c : Cmd} {s : State} (h : (k = 1 ∨ k = 2) ∧ sealed s = false) :
    tagOk s (reqOf (frameOf k c s) c none s) = true := by
  obtain ⟨rfl | rfl, sl⟩ := h <;>
    simp [tagOk, sl, keyByNo] <;> exact ⟨rfl, by simp [frameOf, keyByNo, reqOf, tagInput]⟩

/-- `up` in rack state 8, every accelerator in S12 and the tray channel in T4. -/
def run : State :=
  { up with
    rack := { up.rack with state := 8 },
    crz := { up.crz with chan := Vector.ofFn fun c : Chan => { up.crz.chan[c] with
      state := if c = 8 then 4 else 12, target := if c = 8 then 4 else 12 } } }

/-- `run` with one accelerator's channel at a state and target. -/
def runAt (n : Acc) (k : Fin 13) : State :=
  { run with crz := { run.crz with chan := run.crz.chan.set (accChan n) { run.crz.chan[accChan n] with
    state := k.1, target := k.1 } } }

/-! Witnesses for the hypotheses of the statements about commands. -/

theorem test_hyp_StepRunsFrontCommand : State.reset.pending = [] := rfl

theorem test_hyp_ParametersReadBackTheCommand : (Cmd.twbTransfer 9 0x7F 6 0xFF 2 0 [0xFF, 0]).wf = true ∧
    (Cmd.frondStage 3 1 0 4000 (List.replicate 4000 0xFF)).wf = true := by decide +kernel

/-- `up` with another counter already consumed, and no Frond. -/
def upLess : State := { up with net := { up.net with ctr := up.net.ctr.set 5 1 }, nv := { up.nv with frondEng := 0 } }

theorem test_hyp_RejectedCommandAnswersFirstFailedStep :
    (∀ f ∈ [frameOf 2 .rackHold up, frameOf 1 .rackHold up], running up = true ∧ f.wellFormed = true ∧
      f.device = up.nv.serial ∧ boxOf f.src = none ∧ duplicateOf (reqOf f .rackHold none up) up = none ∧
      (f.src = .mctp → f.assembled = true ∧ up.twb.eid ≠ 0) ∧ f.stamp + 2 ≤ up.sys.tick ∧ up.rcd.released = none ∧
      up.rcd.merger = []) ∧
    ¬(({ frameOf 2 .rackHold up with ifver := 200 }).ifver.toNat = ifverN up ∨
      ({ frameOf 2 .rackHold up with ifver := 200 }).ifver.toNat + 1 = ifverN up) ∧
    tagOk up (reqOf { frameOf 2 .rackHold up with key := 0 } .rackHold none up) = false ∧
    (tagOk upLess (reqOf (frameOf 2 .rackHold upLess) .rackHold none upLess) = true ∧
      ctrOk upLess (frameOf 2 .rackHold upLess) = false) ∧
    (tagOk up (reqOf (frameOf 1 .rackHold up) .rackHold none up) = true ∧ ctrOk up (frameOf 1 .rackHold up) = true ∧
      mayDo (reqOf (frameOf 1 .rackHold up) .rackHold none up) = false) ∧
    (tagOk upLess (reqOf (frameOf 1 (.frondLoad 2 0 0) upLess) (.frondLoad 2 0 0) none upLess) = true ∧
      ctrOk upLess (frameOf 1 (.frondLoad 2 0 0) upLess) = true ∧
      mayDo (reqOf (frameOf 1 (.frondLoad 2 0 0) upLess) (.frondLoad 2 0 0) none upLess) = true ∧
      present upLess (.frondLoad 2 0 0) = false) ∧
    (mayDo (reqOf (frameOf 1 (.partitionPark 8) up) (.partitionPark 8) none up) = true ∧ present up (.partitionPark 8) = true ∧
      paramsOk up (.partitionPark 8) = false) ∧
    (mayDo (reqOf (frameOf 1 (.partitionPark 7) up) (.partitionPark 7) none up) = true ∧ paramsOk up (.partitionPark 7) = true ∧
      stateReason up (reqOf (frameOf 1 (.partitionPark 7) up) (.partitionPark 7) none up) (.partitionPark 7) = some 0) := by
  refine ⟨?_, by decide +kernel, ?_, ⟨tag_fits ⟨.inr rfl, by decide +kernel⟩, by decide +kernel⟩,
    ⟨tag_fits ⟨.inl rfl, by decide +kernel⟩, by decide +kernel, by decide +kernel⟩,
    ⟨tag_fits ⟨.inl rfl, by decide +kernel⟩, by decide +kernel, by decide +kernel, by decide +kernel⟩,
    by decide +kernel, by decide +kernel⟩
  · intro f hf; simp only [List.mem_cons, List.not_mem_nil, or_false] at hf
    obtain rfl | rfl := hf <;> decide +kernel
  · rfl

theorem test_hyp_AdmittedCommandConsumesItsCounter :
    (Admitted (frameOf 2 .rackHold up) .rackHold up ∧ (frameOf 2 .rackHold up).key ≠ 0) ∧
    (Admitted (frameOf 0 .sysStatus up) .sysStatus up ∧ (frameOf 0 .sysStatus up).key = 0) :=
  ⟨met (by decide +kernel) (by decide +kernel), met (by decide +kernel) (by decide +kernel)⟩

theorem test_hyp_ReadCommandsAnswerWithData :
    (Admitted (frameOf 0 .coolStatus up) .coolStatus up ∧ isRead (codeOf .coolStatus) = true) ∧
    Admitted (frameOf 1 .sysHeartbeat up) .sysHeartbeat up :=
  ⟨met (by decide +kernel) (by decide +kernel), admitted_of_ready (by decide +kernel)⟩

theorem test_hyp_EnvelopeCommandsStageASet :
    Admitted (frameOf 2 (.powerSetCap 100) up) (.powerSetCap 100) up ∧
    Admitted (frameOf 2 (.powerSetEnvelope 4000 4000 0x00050005 0x00000005 60) up)
      (.powerSetEnvelope 4000 4000 0x00050005 0x00000005 60) up :=
  ⟨admitted_of_ready (by decide +kernel), admitted_of_ready (by decide +kernel)⟩

/-- An attached leader in HOLD that kept power state RUN; a tray in OFF; a detached tray at rest and one in state 8. -/
def held : State := run.modRack fun r => { r with state := 15, heldP := some .run }
def offTray : State := up.modRack fun r => { r with state := 0, offLatch := true, trayfltDrive := true }
def alone : State := up.modRack fun r => { r with state := 0, detached := true }
def aloneRun : State := run.modRack fun r => { r with detached := true }

/-- An announcement of a slot and rack state. -/
def announced (slot : Fin 32) (k : Fin 16) (leader : Bool) : Announce :=
  { device := 9, seq := 1, slot := slot, rackState := k, detached := false, armed := false, leader := leader, boot := 1,
    tick := 0, ctr := 1, tag := 0 }

/-- A follower, detached in HOLD with power state RUN, whose leader announced state 8 one second ago. -/
def follower : State :=
  { held with
    sys := { held.sys with strapUp := 1, strapDown := 1 },
    rack := { held.rack with
      detached := true, heard := held.rack.heard.set 0 (some (announced 0 8 true, 99900000)) } }

theorem test_hyp_RackCommands :
    (Admitted (frameOf 2 .rackPowerOn up) .rackPowerOn up ∧ up.rack.detached = false ∧ up.rack.state = 1 ∧
      isLeader up = true ∧ lineHigh up = true) ∧
    (Admitted (frameOf 2 (.rackPowerOff 60 1) run) (.rackPowerOff 60 1) run ∧ run.rack.detached = false ∧ run.rack.state = 8 ∧
      lineHigh run = true) ∧
    (Admitted (frameOf 2 .rackReset up) .rackReset up ∧ resting up = true) ∧
    (Admitted (frameOf 2 .rackHold up) .rackHold up ∧ up.rack.state ≠ 15) ∧
    (Admitted (frameOf 2 .rackHold held) .rackHold held ∧ held.rack.state = 15) ∧
    Admitted (frameOf 2 .rackDetach up) .rackDetach up ∧
    (Admitted (frameOf 2 .rackJoin up) .rackJoin up ∧ up.rack.strapDetached = false) ∧
    (Admitted (frameOf 2 .rackJoin follower) .rackJoin follower ∧ follower.rack.strapDetached = false ∧
      follower.rack.detached = true ∧ localState follower = 8 ∧ leaderState follower = some (localState follower)) ∧
    (let s := follower.modRack fun r => { r with detached := false }
     Admitted (frameOf 2 .rackJoin s) .rackJoin s ∧ s.rack.strapDetached = false ∧ s.rack.detached = false ∧ s.rack.state = 15 ∧
      leaderState s = some 8) :=
  ⟨met (by decide +kernel) (by decide +kernel), met (by decide +kernel) (by decide +kernel),
    met (by decide +kernel) (by decide +kernel), met (by decide +kernel) (by decide +kernel),
    met (by decide +kernel) (by decide +kernel), admitted_of_ready (by decide +kernel),
    met (by decide +kernel) (by decide +kernel), met (by decide +kernel) (by decide +kernel),
    met (by decide +kernel) (by decide +kernel)⟩

theorem test_hyp_TrayCommands :
    (Admitted (frameOf 2 .trayPowerOn alone) .trayPowerOn alone ∧ alone.rack.detached = true ∧ alone.rack.state ≠ 15 ∧
      convOk alone trayChan = true) ∧
    (Admitted (frameOf 2 (.trayPowerOff 0 1) aloneRun) (.trayPowerOff 0 1) aloneRun ∧ aloneRun.rack.detached = true ∧
      aloneRun.rack.state ≠ 15) ∧
    (Admitted (frameOf 2 .trayFaultClear offTray) .trayFaultClear offTray ∧ safeRefuses offTray = none ∧
      critRefuses offTray = false ∧ leakRefuses offTray = false) :=
  ⟨met (by decide +kernel) (by decide +kernel), met (by decide +kernel) (by decide +kernel),
    met (by decide +kernel) (by decide +kernel)⟩

theorem test_hyp_CrozierCommands :
    (Admitted (frameOf 2 (.crzSetDep ((List.range 120).map defaultDep)) up) (.crzSetDep ((List.range 120).map defaultDep)) up ∧ atRest up = true) ∧
    (Admitted (frameOf 2 (.crzSetConfig 0 (List.replicate 11 20000)) up) (.crzSetConfig 0 (List.replicate 11 20000)) up ∧
      resting up = true) ∧
    (Admitted (frameOf 2 (.crzClearFault 8) up) (.crzClearFault 8) up ∧ (8 : Byte).toNat = (8 : Chan).1 ∧
      up.crz.chan[(8 : Chan)].dir ≠ 3) ∧
    (let s := up.setChan 7 fun c => { c with state := 1 }
     let c := Cmd.crzSetDep ((List.range 120).map defaultDep)
     Admitted (frameOf 2 c s) c s ∧ atRest s = false) :=
  ⟨met (by decide +kernel) (by decide +kernel), met (by decide +kernel) (by decide +kernel), met (by decide +kernel) (by decide +kernel),
    met (by decide +kernel) (by decide +kernel)⟩

/-- A decision pending after ROUTE_BUSY on accelerator 7; then in HOLD; then after a fault. -/
def undecided (g : DrainFor) : State := run.setAcc 7 fun a => { a with decision := some (g, 100000001) }
def undecidedHeld : State := (undecided (.reset true)).modRack fun r => { r with state := 15, heldP := some .run }
def undecidedFault : State := (undecided (.reset true)).setChan 7 fun c => { c with fault := true }

theorem test_hyp_PartitionCommands :
    (Admitted (frameOf 1 (.partitionPowerOn 7) run) (.partitionPowerOn 7) run ∧ run.acc[(7 : Acc)].decision = none ∧
      run.crz.chan[accChan 7].state = 12 ∧ run.crz.chan[accChan 7].target = 12) ∧
    (Admitted (frameOf 1 (.partitionPowerOn 0) (runAt 0 0)) (.partitionPowerOn 0) (runAt 0 0) ∧
      (runAt 0 0).acc[(0 : Acc)].decision = none ∧ (runAt 0 0).crz.chan[accChan 0].state = 0 ∧
      (runAt 0 0).crz.chan[accChan 0].fault = false ∧ (runAt 0 0).bup.acc[(0 : Acc)].failed = false ∧
      raiseReason (runAt 0 0) 0 = 0 ∧ (runAt 0 0).twb.avs[(0 : Acc)].failed = false) ∧
    (Admitted (frameOf 1 (.partitionPowerOff 7 1) (runAt 7 3)) (.partitionPowerOff 7 1) (runAt 7 3) ∧
      (runAt 7 3).acc[(7 : Acc)].decision = none ∧ (runAt 7 3).acc[(7 : Acc)].drain = none ∧ 3 ≤ chState (runAt 7 3) 7) ∧
    (Admitted (frameOf 1 (.partitionPowerOff 0 0) (runAt 0 2)) (.partitionPowerOff 0 0) (runAt 0 2) ∧
      (runAt 0 2).acc[(0 : Acc)].decision = none ∧ (runAt 0 2).acc[(0 : Acc)].drain = none ∧ chState (runAt 0 2) 0 < 3) ∧
    (Admitted (frameOf 1 (.partitionReset 7 0 1) run) (.partitionReset 7 0 1) run ∧ run.acc[(7 : Acc)].decision = none ∧
      run.acc[(7 : Acc)].drain = none ∧ resetReason run 7 = 0 ∧ 3 ≤ chState run 7) ∧
    (Admitted (frameOf 1 (.partitionReset 7 1 1) (undecided (.reset true))) (.partitionReset 7 1 1) (undecided (.reset true)) ∧
      (undecided (.reset true)).acc[(7 : Acc)].decision = some (.reset true, 100000001) ∧
      resetReason (undecided (.reset true)) 7 = 0 ∧ rackHolds (undecided (.reset true)) = false ∧
      9 ≤ chState (undecided (.reset true)) 7) ∧
    (Admitted (frameOf 1 (.partitionReset 7 1 1) undecidedHeld) (.partitionReset 7 1 1) undecidedHeld ∧
      undecidedHeld.acc[(7 : Acc)].decision = some (.reset true, 100000001) ∧ resetReason undecidedHeld 7 = 0 ∧
      rackHolds undecidedHeld = true ∧ 9 ≤ chState undecidedHeld 7) ∧
    (Admitted (frameOf 1 (.partitionReset 7 1 1) undecidedFault) (.partitionReset 7 1 1) undecidedFault ∧
      undecidedFault.acc[(7 : Acc)].decision = some (.reset true, 100000001) ∧ resetReason undecidedFault 7 ≠ 0) ∧
    (Admitted (frameOf 1 (.partitionReset 7 1 0) (undecided (.powerOff true))) (.partitionReset 7 1 0)
      (undecided (.powerOff true)) ∧
      (undecided (.powerOff true)).acc[(7 : Acc)].decision = some (.powerOff true, 100000001)) ∧
    (Admitted (frameOf 1 (.partitionReset 7 2 0) (undecided (.reset true))) (.partitionReset 7 2 0) (undecided (.reset true)) ∧
      (undecided (.reset true)).acc[(7 : Acc)].decision ≠ none) :=
  ⟨met (by decide +kernel) (by decide +kernel), met (by decide +kernel) (by decide +kernel), met (by decide +kernel) (by decide +kernel), met (by decide +kernel) (by decide +kernel),
    met (by decide +kernel) (by decide +kernel), met (by decide +kernel) (by decide +kernel),
    met (by decide +kernel) (by decide +kernel), met (by decide +kernel) (by decide +kernel),
    met (by decide +kernel) (by decide +kernel), met (by decide +kernel) (by decide +kernel)⟩

/-- `run` with accelerator 7 parked, by the cap or not. -/
def parked (cap : Bool) : State :=
  (run.setStr 7 fun a => { a with park := .parked, hostPark := true }).modStr fun x => { x with
    capParked := if cap then [7] else [] }

theorem test_hyp_ParkAndUnparkCommands :
    (Admitted (frameOf 1 (.partitionPark 7) run) (.partitionPark 7) run ∧ run.acc[(7 : Acc)].decision = none ∧
      run.crz.chan[accChan 7].fault = false ∧ (7 : Acc) ∉ run.str.capParked ∧ run.str.acc[(7 : Acc)].park ≠ .parked ∧
      chState run 7 = 12) ∧
    (Admitted (frameOf 1 (.partitionPark 0) (runAt 0 9)) (.partitionPark 0) (runAt 0 9) ∧
      (runAt 0 9).str.acc[(0 : Acc)].park ≠ .parked ∧ chState (runAt 0 9) 0 ≠ 12) ∧
    (Admitted (frameOf 1 (.partitionUnpark 7) (parked true)) (.partitionUnpark 7) (parked true) ∧
      (parked true).acc[(7 : Acc)].decision = none ∧ (parked true).twb.avs[(7 : Acc)].failed = false ∧
      (7 : Acc) ∈ (parked true).str.capParked) ∧
    (Admitted (frameOf 1 (.partitionUnpark 7) (parked false)) (.partitionUnpark 7) (parked false) ∧
      (parked false).acc[(7 : Acc)].decision = none ∧ (parked false).twb.avs[(7 : Acc)].failed = false ∧
      (7 : Acc) ∉ (parked false).str.capParked ∧ (parked false).str.acc[(7 : Acc)].park = .parked) ∧
    (Admitted (frameOf 1 (.partitionUnpark 7) run) (.partitionUnpark 7) run ∧ run.str.acc[(7 : Acc)].park ≠ .parked) :=
  ⟨met (by decide +kernel) (by decide +kernel), met (by decide +kernel) (by decide +kernel),
    met (by decide +kernel) (by decide +kernel), met (by decide +kernel) (by decide +kernel),
    met (by decide +kernel) (by decide +kernel)⟩

theorem test_hyp_SupervisionCommands :
    (let s := (runAt 7 11).setRail 98 fun r => { r with stable := true }
     Admitted (frameOf 2 (.supMargin 98 0xEC) s) (.supMargin 98 0xEC) s ∧ (98 : Byte).toNat = (98 : Rail).1 ∧
       accOfRail 98 = some 7 ∧ marginReason s 98 7 (0xEC : Byte).toInt = 0) ∧
    (Admitted (frameOf 2 (.supSetWindow 0 0x3C18 0) up) (.supSetWindow 0 0x3C18 0) up ∧
      marginFits 0x3C18 up.sup.marginNow[(0 : Rail)] = true) ∧
    (let s := { up with crz := { up.crz with dep := (List.range 120).map fun r => defaultDep r ||| 0x82000000 } }
     Admitted (frameOf 2 (.supSetWindow 119 0x3C18 0x400000) s) (.supSetWindow 119 0x3C18 0x400000) s ∧
       declared s 119 = true) ∧
    Admitted (frameOf 2 (.supSetFastWindow 15 0xA3232) up) (.supSetFastWindow 15 0xA3232) up :=
  ⟨met (by decide +kernel) (by decide +kernel), met (by decide +kernel) (by decide +kernel),
    met (by decide +kernel) (by decide +kernel), admitted_of_ready (by decide +kernel)⟩

theorem test_hyp_SteeringCommands :
    (Admitted (frameOf 1 (.steerSetMode 0x07080001) up) (.steerSetMode 0x07080001) up ∧ up.rack.state.1 < 5) ∧
    Admitted (frameOf 1 (.steerSetPhasePref 7 0xFFFFFFFFFFFFFFFF) up) (.steerSetPhasePref 7 0xFFFFFFFFFFFFFFFF) up ∧
    Admitted (frameOf 1 (.steerSetParkOrder 0x01234567) up) (.steerSetParkOrder 0x01234567) up ∧
    Admitted (frameOf 1 (.steerSetGroup 0x77777777) up) (.steerSetGroup 0x77777777) up ∧
    Admitted (frameOf 2 (.steerSetConfig 0x00100014 10000 0x0008DFFF (List.replicate 15 2000)) up)
      (.steerSetConfig 0x00100014 10000 0x0008DFFF (List.replicate 15 2000)) up :=
  ⟨met (by decide +kernel) (by decide +kernel), admitted_of_ready (by decide +kernel), admitted_of_ready (by decide +kernel),
    admitted_of_ready (by decide +kernel), admitted_of_ready (by decide +kernel)⟩

/-- `run` with the last slot of the Ledger bound to a job. -/
def bound : State := { run with ldg := { run.ldg with slot := run.ldg.slot.set 7 (run.ldg.slot[(7 : Acc)].set 47
  { run.ldg.slot[(7 : Acc)][(47 : Fin 48)] with job := 5 }) } }

theorem test_hyp_LedgerCommands :
    (Admitted (frameOf 1 (.ledgerBindJob 383 1 1) run) (.ledgerBindJob 383 1 1) run ∧
      (383 : BitVec 16).toNat = 48 * (7 : Acc).1 + (47 : Fin 48).1 ∧ slotBound run 7 47 = false ∧
      run.ldg.slot[(7 : Acc)][(47 : Fin 48)].change ≠ some (intervalOf (stepAfter run.sys.tick)) ∧
      run.ldg.slot[(7 : Acc)][(47 : Fin 48)].closing = false) ∧
    (Admitted (frameOf 1 (.ledgerUnbindJob 383) bound) (.ledgerUnbindJob 383) bound ∧
      bound.ldg.slot[(7 : Acc)][(47 : Fin 48)].job ≠ 0 ∧
      bound.ldg.slot[(7 : Acc)][(47 : Fin 48)].change ≠ some (intervalOf (stepAfter bound.sys.tick)) ∧
      bound.ldg.slot[(7 : Acc)][(47 : Fin 48)].closing = false) ∧
    Admitted (frameOf 2 (.ledgerSetCoeff 2 (List.replicate 800 0)) up) (.ledgerSetCoeff 2 (List.replicate 800 0)) up ∧
    Admitted (frameOf 2 (.ledgerSetConfig 0x00641E06) up) (.ledgerSetConfig 0x00641E06) up :=
  ⟨met (by decide +kernel) (by decide +kernel), met (by decide +kernel) (by decide +kernel),
    admitted_of_ready (by decide +kernel), admitted_of_ready (by decide +kernel)⟩

/-- A state with a model's bytes staged, or seated, in a slot. -/
def stagedModel (x : Slot) (b : List Byte) : State := up.setFrd x fun k => { k with staged := b, total := b.length }
def seatedModel (x : Slot) (b : List Byte) (r : Option FrondRun) : State :=
  up.setFrd x fun k => { k with model := some b, state := 2, run := r }

/-- A run that a command waits for no more. -/
def someRun : FrondRun := { launch := 99999000, staleIn := false, reply := none }

theorem test_hyp_FrondCommands :
    Admitted (frameOf 1 (.frondStage 3 1 0 (BitVec.ofNat 32 (32 * 1048576)) [1]) up)
      (.frondStage 3 1 0 (BitVec.ofNat 32 (32 * 1048576)) [1]) up ∧
    (Admitted (frameOf 1 (.frondUnload 3 1) (seatedModel 3 [] none)) (.frondUnload 3 1) (seatedModel 3 [] none) ∧
      (seatedModel 3 [] none).frd.slot[(3 : Slot)].model ≠ none ∧ (seatedModel 3 [] none).frd.slot[(3 : Slot)].run = none) ∧
    Admitted (frameOf 2 (.frondSetSched 0x63636363) up) (.frondSetSched 0x63636363) up ∧
    (Admitted (frameOf 1 (.frondRun 3 3) (seatedModel 3 [] none)) (.frondRun 3 3) (seatedModel 3 [] none) ∧
      (3 : Byte).getLsbD 1 = true ∧ (seatedModel 3 [] none).frd.slot[(3 : Slot)].model = some []) ∧
    (Admitted (frameOf 1 (.frondRun 2 1) (seatedModel 2 [] none)) (.frondRun 2 1) (seatedModel 2 [] none) ∧
      (1 : Byte).getLsbD 1 = false ∧ nextPeriod (seatedModel 2 [] none).frd.slot[(2 : Slot)] = 0 ∧
      (seatedModel 2 [] none).frd.slot[(2 : Slot)].next = none) ∧
    (Admitted (frameOf 1 (.frondRun 2 0) (seatedModel 2 [] (some someRun))) (.frondRun 2 0) (seatedModel 2 [] (some someRun)) ∧
      nextPeriod (seatedModel 2 [] (some someRun)).frd.slot[(2 : Slot)] = 0 ∧
      (seatedModel 2 [] (some someRun)).frd.slot[(2 : Slot)].run ≠ none) :=
  ⟨admitted_of_ready (by decide +kernel), met (by decide +kernel) (by decide +kernel), admitted_of_ready (by decide +kernel),
    met (by decide +kernel) (by decide +kernel), met (by decide +kernel) (by decide +kernel),
    met (by decide +kernel) (by decide +kernel)⟩

/-- frond.load, for a container whose signature the signature check of Config accepts. -/
theorem test_hyp_FrondLoad (b : List Byte) (h : b ≠ []) (ok : loadReason (stagedModel 2 b) 2 b true = 0) :
    Admitted (frameOf 1 (.frondLoad 2 0 1) (stagedModel 2 b)) (.frondLoad 2 0 1) (stagedModel 2 b) ∧
      (stagedModel 2 b).frd.slot[(2 : Slot)].total ≠ 0 ∧
      (stagedModel 2 b).frd.slot[(2 : Slot)].staged.length = (stagedModel 2 b).frd.slot[(2 : Slot)].total ∧
      (stagedModel 2 b).frd.slot[(2 : Slot)].model = none ∧
      loadReason (stagedModel 2 b) 2 (stagedModel 2 b).frd.slot[(2 : Slot)].staged ((1 : Byte).getLsbD 0) = 0 :=
  met rfl ⟨fun e => h (List.length_eq_zero_iff.mp e), rfl, rfl, ok⟩

theorem test_hyp_SorusAndBringupCommands :
    Admitted (frameOf 2 (.srsSetConfig 0x00383064 0x00777777) up) (.srsSetConfig 0x00383064 0x00777777) up ∧
    Admitted (frameOf 2 (.bupSetConfig 0x3E864801) up) (.bupSetConfig 0x3E864801) up ∧
    (Admitted (frameOf 2 (.bupJournalForget 7) up) (.bupJournalForget 7) up ∧
      (∀ n : Acc, up.acc[n].ident = none) ∧ up.nv.journal.length < 16382) ∧
    (Admitted (frameOf 1 (.bupTest 7) run) (.bupTest 7) run ∧ run.crz.chan[accChan 7].state = 12 ∧
      run.crz.chan[accChan 7].target = 12 ∧ run.crz.chan[accChan 7].fault = false ∧
      (∀ i : Fin 48, run.str.acc[(7 : Acc)].ctx[i].active = false) ∧ run.twb.avs[(7 : Acc)].failed = false) :=
  ⟨admitted_of_ready (by decide +kernel), admitted_of_ready (by decide +kernel), met (by decide +kernel) (by decide +kernel),
    met (by decide +kernel) (by decide +kernel)⟩

/-- A failed pump 3 whose loop flows; a zone 7 that was wet and read dry for 10 s; table mode off. -/
def pumpBack : State := up.modCool fun k => { k with
  pump := k.pump.set 3 { k.pump[(3 : Pump)] with state := 4 }, loop := k.loop.set 1 { k.loop[(1 : Loop)] with okSince := some 0 } }
def dryAgain : State := up.modCool fun k => { k with leak := k.leak.set 7 { k.leak[(7 : Fin 10)] with latch := true, dryRun := 201 } }

theorem test_hyp_CoolingSettingCommands :
    Admitted (frameOf 2 (.coolSetConfig 0x3C326420 0x465A) up) (.coolSetConfig 0x3C326420 0x465A) up ∧
    Admitted (frameOf 2 (.coolSetCurve (List.replicate 5 0x6464)) up) (.coolSetCurve (List.replicate 5 0x6464)) up ∧
    Admitted (frameOf 2 (.coolSetTable (List.replicate 8 0x786464)) up) (.coolSetTable (List.replicate 8 0x786464)) up ∧
    (let c := Cmd.coolSetMap (List.replicate 16 0xFF0001FF) (List.replicate 24 0x7FFFF) 0x3FF
     Admitted (frameOf 2 c up) c up) ∧
    Admitted (frameOf 2 (.coolSetLoop [0x8000C864, 0x80000A00]) up) (.coolSetLoop [0x8000C864, 0x80000A00]) up ∧
    (let s := up.modCool fun k => { k with staged := [.coolSetLoop [0x8000C864, 0x80000A00]] }
     running s = true ∧ s.sys.tick % 1000 = 0 ∧ s.cool.staged = [.coolSetLoop [0x8000C864, 0x80000A00]]) :=
  ⟨admitted_of_ready (by decide +kernel), admitted_of_ready (by decide +kernel), admitted_of_ready (by decide +kernel),
    admitted_of_ready (by decide +kernel), admitted_of_ready (by decide +kernel), by decide +kernel⟩

theorem test_hyp_CoolingClearingCommands :
    (Admitted (frameOf 2 (.coolClearFault 8) pumpBack) (.coolClearFault 8) pumpBack ∧
      ∀ p : Pump, (8 : Byte).getLsbD p.1 = true → pumpBack.cool.pump[p].state = 4 ∧
        pumpBack.cool.loop[(⟨p.1 / 2, by omega⟩ : Loop)].okSince ≠ none) ∧
    (Admitted (frameOf 2 (.coolClearLeak 7) dryAgain) (.coolClearLeak 7) dryAgain ∧
      (7 : Byte).toNat = (7 : Fin 10).1 ∧ 201 ≤ dryAgain.cool.leak[(7 : Fin 10)].dryRun) ∧
    (Admitted (frameOf 2 (.coolSetMode 1) up) (.coolSetMode 1) up ∧ up.saf.started = true) ∧
    (Admitted (frameOf 2 (.coolSetMode 0) up) (.coolSetMode 0) up ∧ up.cool.table = false ∧
      tableCause { up with cool := { up.cool with hostTable := false } } = none) :=
  ⟨met (by decide +kernel) (by decide +kernel), met (by decide +kernel) (by decide +kernel),
    met (by decide +kernel) (by decide +kernel), met (by decide +kernel) (by decide +kernel)⟩

/-- `up` with a two-wire port stuck, and with main bus 7 at 400 kHz. -/
def portStuck : State := up.modTwb fun w => { w with port := w.port.set 9 { w.port[(9 : Port)] with stuck := true } }
def portSlow : State := up.modTwb fun w => { w with port := w.port.set 7 { w.port[(7 : Port)] with cfg := 1 } }

theorem test_hyp_TwoWireCommands :
    (let c := Cmd.twbSetConfig (List.replicate 11 0xE02) (List.replicate 8 0x00010000) 0x1000
     Admitted (frameOf 2 c up) c up) ∧
    (Admitted (frameOf 2 (.twbTransfer 9 0x10 7 0 0 255 []) portStuck) (.twbTransfer 9 0x10 7 0 0 255 []) portStuck ∧
      portStuck.twb.port[(9 : Port)].stuck = true) ∧
    (Admitted (frameOf 2 (.twbTransfer 7 0x10 7 0 0 255 []) portSlow) (.twbTransfer 7 0x10 7 0 0 255 []) portSlow ∧
      portSlow.twb.port[(7 : Port)].stuck = false ∧ tooLong portSlow 7 7 0 255 = true) ∧
    (Admitted (frameOf 2 (.twbTransfer 9 0x10 7 0 0 255 []) up) (.twbTransfer 9 0x10 7 0 0 255 []) up ∧
      up.twb.port[(9 : Port)].stuck = false ∧ tooLong up 9 7 0 255 = false) :=
  ⟨admitted_of_ready (by decide +kernel), met (by decide +kernel) (by decide +kernel),
    met (by decide +kernel) (by decide +kernel), met (by decide +kernel) (by decide +kernel)⟩

/-- `up` with the first three leases open for another sender. -/
def otherLease : Lease :=
  { addr := 9, udp := 1, port := 0, records := true, events := true, version := 0, div := 1, expiry := 0 }
def leased : State := up.modNet fun n => { n with leases := #v[some otherLease, some otherLease, some otherLease, none] }

theorem test_hyp_NetworkCommands :
    (let c := Cmd.netSetConfig 1 (List.replicate 4 1) 1; Admitted (frameOf 2 c up) c up) ∧
    (Admitted (frameOf 2 (.netSubscribe 3 0 1000) leased) (.netSubscribe 3 0 1000) leased ∧
      (∀ j : Fin 4, leased.net.leases[j].all (fun l => l.addr != 0) = true) ∧ leased.net.leases[(3 : Fin 4)] = none ∧
      (∀ j : Fin 4, j < 3 → leased.net.leases[j] ≠ none)) :=
  ⟨admitted_of_ready (by decide +kernel), met (by decide +kernel) (by decide +kernel)⟩

/-- `up` with an image staged for a target, verified or not. -/
def staged (k : Fin 3) (v : Bool) (b : List Byte) : State :=
  up.modSec fun c => { c with stage := c.stage.set k { c.stage[k] with verified := v, total := b.length, data := b } }

theorem test_hyp_FirmwareCommands :
    Admitted (frameOf 2 (.fwStage 2 1 0 4096 [0xFF]) up) (.fwStage 2 1 0 4096 [0xFF]) up ∧
    (Admitted (frameOf 2 (.fwActivate 0 1 0) (staged 0 true [])) (.fwActivate 0 1 0) (staged 0 true []) ∧
      (staged 0 true []).sec.stage[(0 : Fin 3)].verified = true ∧ (staged 0 true []).sec.bootSlot ≠ 1 ∧
      inTrial (staged 0 true []) = false ∧ (staged 0 true []).sec.goldenBad[(0 : Fin 3)] = false ∧
      activating (staged 0 true []) = false) ∧
    (Admitted (frameOf 2 (.fwActivate 2 0 0) (staged 2 true [])) (.fwActivate 2 0 0) (staged 2 true []) ∧
      (2 : Byte).toNat = (2 : Fin 3).1 ∧ (staged 2 true []).sec.stage[(2 : Fin 3)].verified = true ∧
      (staged 2 true []).sec.goldenBad[(2 : Fin 3)] = false ∧ activating (staged 2 true []) = false) :=
  ⟨admitted_of_ready (by decide +kernel), met (by decide +kernel) (by decide +kernel),
    met (by decide +kernel) (by decide +kernel)⟩

/-- fw.verify, for an image that the checks of Config accept. -/
theorem test_hyp_FwVerify (b : List Byte) (h : b ≠ []) (v : verifyImage up 2 b = 1) (lo : imgEpochMin b ≤ up.sec.committed)
    (hi : up.sec.committed ≤ imgEpochMax b) (ok : versionOk up 2 b = true) :
    Admitted (frameOf 2 (.fwVerify 2) (staged 2 false b)) (.fwVerify 2) (staged 2 false b) ∧
      stageFull (staged 2 false b).sec.stage[(2 : Fin 3)] = true ∧
      verifyImage (staged 2 false b) 2 (staged 2 false b).sec.stage[(2 : Fin 3)].data = 1 ∧
      imgEpochMin (staged 2 false b).sec.stage[(2 : Fin 3)].data ≤ (staged 2 false b).sec.committed ∧
      (staged 2 false b).sec.committed ≤ imgEpochMax (staged 2 false b).sec.stage[(2 : Fin 3)].data ∧
      versionOk (staged 2 false b) 2 (staged 2 false b).sec.stage[(2 : Fin 3)].data = true := by
  refine met rfl ⟨?_, v, lo, hi, ok⟩
  have : b.length ≠ 0 := fun e => h (List.length_eq_zero_iff.mp e)
  change (b.length != 0 && b.length == b.length) = true
  simp [this]

/-- `up` with a nonce, and in debug level VIEW. -/
def nonced : State := up.modSec fun c => { c with nonce := some (5, 100000001) }
def viewing : State := up.modSec fun c => { c with debug := 1 }

theorem test_hyp_DebugCommands :
    (Admitted (frameOf 2 (.secDebugChallenge 2) up) (.secDebugChallenge 2) up ∧ up.sec.refuseUntil ≤ up.sys.tick) ∧
    (let c := Cmd.secDebugUnlock 1 (List.replicate 2420 0)
     Admitted (frameOf 2 c nonced) c nonced ∧ nonced.sec.nonce = some (5, 100000001) ∧ nonced.sys.tick < 100000001) ∧
    (let s := offTray.modSec fun c => { c with nonce := some (5, 100000001) }
     let s := s.modRack fun r => { r with detached := true }
     let c := Cmd.secDebugUnlock 2 (List.replicate 2420 0)
     Admitted (frameOf 2 c s) c s ∧ s.rack.detached = true ∧ ∀ n : Acc, chState s n = 0) ∧
    (Admitted (frameOf 2 .secDebugLock viewing) .secDebugLock viewing ∧ viewing.sec.debug = 1) :=
  ⟨met (by decide +kernel) (by decide +kernel), met (by decide +kernel) (by decide +kernel),
    met (by decide +kernel) (by decide +kernel), met (by decide +kernel) (by decide +kernel)⟩

/-- `up` in the second lifecycle state, and with an image whose EPOCH_MAX is 1. -/
def development : State := up.modNv fun v => { v with lc := 1 }
def epochOne : State :=
  up.modSec fun c => { c with image := (List.range 256).map fun i => if i = 0x14 then 1 else 0 }

theorem test_hyp_LifecycleAndEpochCommands :
    (let c := Cmd.secSetLifecycle 3 (List.replicate 2420 0)
     Admitted (frameOf 2 c development) c development ∧ lcLegal development.nv.lc 3 = true ∧
       development.sec.lifecycle = none) ∧
    (Admitted (frameOf 2 (.sysCommitEpoch 1) epochOne) (.sysCommitEpoch 1) epochOne ∧
      (1 : BitVec 16).toNat = epochOne.sec.committed + 1 ∧ (1 : BitVec 16).toNat ≤ epochMax epochOne ∧
      quietRack epochOne = true) :=
  ⟨met (by decide +kernel) (by decide +kernel), met (by decide +kernel) (by decide +kernel)⟩

/-- What wraps key 3 of `up`, and the wrapped form of a key other than the blank one. -/
def wrapInput : List Byte := serialBytes up ++ leBytes 8 1 ++ leBytes 1 3
def wrapped : List Byte :=
  let a := leBytes 32 ((blankKey up ^^^ 1) ^^^ Config.kmac (keyOf up 1) wrapInput 256 "FM8 wrap").toNat
  a ++ leBytes 16 (Config.kmac (keyOf up 1) (wrapInput ++ a) 128 "FM8 wtag").toNat

theorem test_hyp_SecSetKey :
    Admitted (frameOf 2 (.secSetKey 3 wrapped) up) (.secSetKey 3 wrapped) up ∧ (3 : Byte).toNat = (2 : Fin 3).1 + 1 ∧
      serialBytes up ++ leBytes 8 (frameOf 2 (.secSetKey 3 wrapped) up).ctr.toNat ++ leBytes 1 3 = wrapInput ∧
      BitVec.ofNat 128 (leNat (wrapped.drop 32)) = Config.kmac (keyOf up 1) (wrapInput ++ wrapped.take 32) 128 "FM8 wtag" ∧
      BitVec.ofNat 256 (leNat (wrapped.take 32)) ^^^ Config.kmac (keyOf up 1) wrapInput 256 "FM8 wrap" ≠ blankKey up := by
  have take : ∀ a b : List Byte, a.length = 32 → (a ++ b).take 32 = a := fun a b h => by simp [← h]
  have drop : ∀ a b : List Byte, a.length = 32 → (a ++ b).drop 32 = b := fun a b h => by simp [← h]
  refine met (by decide +kernel) ⟨by decide +kernel, rfl, ?_, ?_⟩
  · unfold wrapped
    rw [take _ _ (leBytes_length ..), drop _ _ (leBytes_length ..), leNat_leBytes_of_lt (BitVec.isLt _)]
    simp
  · unfold wrapped
    rw [take _ _ (leBytes_length ..), leNat_leBytes_of_lt (BitVec.isLt _), BitVec.ofNat_toNat,
      BitVec.setWidth_eq, BitVec.xor_assoc, BitVec.xor_self, BitVec.xor_zero]
    intro h
    have := congrArg (fun x => blankKey up ^^^ x) h
    simp at this

/-! Witnesses for the hypotheses of the statements about the other rows. -/

theorem test_hyp_ResetAndSelfTestRows :
    (let i : StrapSample := { up := 0x3FF, down := 0, wpN := true, testEn := false }; i.up ≠ i.down) ∧
    noFlashWrite State.reset = true ∧ State.reset.sys.boot = .coldRom ∧ State.reset.saf.started = false ∧
    State.reset.saf.bistFail = false ∧ factoryTest State.reset = false ∧ (0x40 : BitVec 7) ≠ 0 := by decide +kernel

/-- The boot ROM with slot G chosen by the straps and the start-up tests passed. -/
def romG : State :=
  (State.reset.modSaf fun f => { f with started := true }).modSec fun c => { c with bootSel := 3 }

/-- The boot ROM with a boot record for slot 1. -/
def romB : State := (State.reset.modSaf fun f => { f with started := true }).modNv fun v => { v with
  boot := some { active := 1, trial := false, tried := false } }

theorem test_hyp_BootRomReleasesVerifiedImage (b : List Byte) :
    (romG.saf.started = true ∧ factoryTest romG = false ∧ romG.sys.boot = .coldRom ∧
      (romG.modSys fun y => { y with boot := .warmRom }).sys.boot = .warmRom ∧
      (romG.sec.bootSel = 1 ∨ romG.sec.bootSel = 3) ∧ verifyImage romG 0 romG.nv.slot[(2 : Fin 3)] ≠ 1) ∧
    (verifyImage romG 0 b = 1 → let s := romG.modNv fun v => { v with slot := v.slot.set 2 b }
      verifyImage s 0 s.nv.slot[(2 : Fin 3)] = 1) ∧
    (romB.saf.started = true ∧ factoryTest romB = false ∧ romB.sec.bootSel ≠ 1 ∧ romB.sec.bootSel ≠ 3 ∧ romB.nv.boot = some { active := 1, trial := false, tried := false }) ∧
    (verifyImage romB 0 b = 1 → let s := romB.modNv fun v => { v with slot := v.slot.set 1 b }
      verifyImage s 0 (slotImage s 1) = 1) := by
  refine ⟨?_, fun h => h, by decide +kernel, fun h => h⟩
  refine ⟨by decide +kernel, by decide +kernel, by decide +kernel, rfl, by decide +kernel, ?_⟩
  unfold verifyImage
  split
  · decide
  · rw [if_pos (by decide +kernel)]; decide

theorem test_hyp_WatchdogRows :
    (let s := up.modSaf fun f => { f with wdtWritten := false }
     running s = true ∧ s.saf.wdtWritten = false ∧ 10 ≤ (10 : BitVec 16).toNat ∧ (10 : BitVec 16).toNat ≤ 1000) ∧
    (let s := up.modSaf fun f => { f with serveTick := 99997500, wdtMs := 100 }
     s.sys.tick ≤ s.saf.serveTick + 100 * s.saf.wdtMs ∧ 4 * s.saf.serveTick + 100 * s.saf.wdtMs ≤ 4 * s.sys.tick) ∧
    (let s := up.modSaf fun f => { f with serveTick := 99990000, wdtMs := 100, expiries := [40000000] }
     s.saf.serveTick + 100 * s.saf.wdtMs ≤ s.sys.tick ∧
       (s.saf.expiries.filter fun x => decide (s.sys.tick < x + 60000000)).length < 2) ∧
    (let s := up.modSaf fun f => { f with serveTick := 99990000, wdtMs := 100, expiries := [40000001, 40000001] }
     2 ≤ (s.saf.expiries.filter fun x => decide (s.sys.tick < x + 60000000)).length ∧ s.saf.safe = false ∧
       inTrial s = false) := by decide +kernel

theorem test_wrong_token (x : Byte) : x ≠ ~~~x := by
  intro h; have := congrArg (fun y => y.getLsbD 0) h; simp at this

/-- A record as published, and a trial boot from slot 1. -/
def record (gen sealTick : Nat) : Record :=
  { gen := gen, format := 1, sealTick := sealTick, backup := false, late := false, missed := 0, snap := snapOf up, digest := [],
    trunc := false }
def trial : State :=
  (((up.modNv fun v => { v with boot := some { active := 1, trial := true, tried := false } }).modSec fun c =>
    { c with bootSlot := 1 }).modSaf fun f => { f with releaseTick := 97000000 }).modRcd fun r =>
    { r with mirror := some (record 1 97000000) }

/-- Writes under way: of slot 1, of a golden copy, of a lifecycle fuse; a nonce and a warm reset that are due. -/
def writing : State := up.modSec fun c => { c with activate := some { slot := 1, image := [], golden := false } }
def goldenWriting : State := up.modSec fun c => { c with goldenWrite := some (2, []) }
def fusing : State := up.modSec fun c => { c with
  lifecycle := some (4, []), nonce := some (5, 100000000), resetTick := some 100000000 }

theorem test_hyp_FirmwareAndFuseRows :
    (running trial = true ∧ trial.sys.fwRunning = true ∧ (imgFlags trial.sec.image).testBit 0 = false ∧
      trial.nv.boot = some { active := 1, trial := true, tried := false } ∧ trial.sec.bootSlot = 1 ∧
      trial.rcd.mirror.map (·.sealTick) = some trial.saf.releaseTick ∧
      trial.saf.releaseTick + 3000000 ≤ trial.sys.tick) ∧
    (running writing = true ∧ writing.sec.activate.isSome = true) ∧
    (running goldenWriting = true ∧ goldenWriting.sec.activate = none ∧
      goldenWriting.sec.goldenWrite = some ((2 : Fin 3).1, [])) ∧
    (running fusing = true ∧ fusing.sec.resetTick = some fusing.sys.tick ∧ fusing.sec.lifecycle = some (4, []) ∧
      fusing.sec.nonce = some (5, fusing.sys.tick)) := by decide +kernel

/-- The hash that decides a slot's read-back may match: the body of an image whose header holds its hash. -/
theorem test_hyp_FwSlotWritten (rb image : List Byte) (h : Config.sha3 (imgBody rb) = imgHash image) :
    let s := up.modSec fun c => { c with activate := some { slot := 1, image := image, golden := false } }
    running s = true ∧ ∃ a : Activate, s.sec.activate = some a ∧ a.golden = false ∧
      Config.sha3 (imgBody rb) = imgHash a.image := ⟨rfl, _, rfl, rfl, h⟩

theorem test_hyp_EventTickCounts : up.sys.boot ≠ .porst ∧ 96 ≤ up.sys.vidDuty ∧ up.sys.vidDuty ≤ 224 := by decide +kernel

/-- `up` with one event two ticks old in the merger, and one of the present tick. -/
def ev0 : Ev := { stamp := 99999998, cls := 7, unit := 9, object := 0xFF, code := 0x1201, detail := 0 }
def merging : State := up.modRcd fun r => { r with merger :=
  [{ stamp := 99999998, cls := 7, unit := 9, chan := 0, item := .ev ev0 },
   { stamp := 100000000, cls := 7, unit := 9, chan := 0, item := .ev ev0 }] }

theorem test_hyp_EventReleaseAppliesDueEvents : running merging = true ∧
    (dueItems merging).map (·.item) = [ev0].map Item.ev := by decide +kernel

/-- `up` with a record sealed 40 ticks ago in assembly. -/
def sealedAt (t : Nat) (hit : Bool) : State := up.modRcd fun r => { r with
  asm := some { buffer := 1, sealTick := t, sealNo := 1, snap := snapOf up, digest := [], late := false, complete := false,
                eccHit := hit, evt := 0 } }

theorem test_hyp_RecordSealedAndPublished :
    (up.sys.boot ≠ .porst ∧ up.sys.tick % 100 = 0 ∧ up.rcd.asm = none) ∧
    ((sealedAt 99999960 false).rcd.asm.isSome = true ∧
      (sealedAt 99999960 false).rcd.asm.all (fun b => b.sealTick != (sealedAt 99999960 false).sys.tick) = true) ∧
    (up.modSys fun y => { y with tick := 100000001 }).sys.tick % 100 ≠ 0 ∧
    (running (sealedAt 99999960 false) = true ∧ (sealedAt 99999960 false).rcd.asm.all (fun a => !a.eccHit &&
      decide (a.sealTick + 40 ≤ (sealedAt 99999960 false).sys.tick) && decide ((sealedAt 99999960 false).sys.tick ≤ a.sealTick + 40))
        = true) ∧
    ((sealedAt 99999960 true).rcd.asm.all (fun a => a.eccHit && decide (a.sealTick + 40 ≤ (sealedAt 99999960 true).sys.tick)) = true) ∧
    ((sealedAt 99999961 false).rcd.asm.all (fun a => decide ((sealedAt 99999961 false).sys.tick < a.sealTick + 40)) = true) ∧
    ((sealedAt 99999959 false).rcd.asm.all (fun a => !a.complete &&
      decide (a.sealTick + 40 < (sealedAt 99999959 false).sys.tick)) = true) := by decide +kernel

theorem test_hyp_MailboxRows :
    (boxReady up 1 = true ∧ up.mbx.box[(1 : Fin 2)].result = 0xFF ∧
      BitVec.ofNat 16 (leNat (cellsRead up.mbx.mem (areaBase 1 + 2) 2)) = 0 ∧
      BitVec.ofNat 16 (leNat (cellsRead up.mbx.mem (areaBase 1 + 2) 2)) ≠ 1) ∧
    boxReady State.reset 0 = false ∧
    (let s := up.setBox 1 fun b => { b with result := 0, seq := 0 }
     boxReady s 1 = true ∧ BitVec.ofNat 16 (leNat (cellsRead s.mbx.mem (areaBase 1 + 2) 2)) = 0 ∧
       s.mbx.box[(1 : Fin 2)].result ≠ 0xFF ∧ s.mbx.box[(1 : Fin 2)].seq = 0) ∧
    (up.setBox 1 fun b => { b with busy := true }).mbx.box[(1 : Fin 2)].busy = true ∧
    (let s := up.setBox 1 fun b => { b with result := 0 }
     s.mbx.box[(1 : Fin 2)].busy = false ∧ s.mbx.box[(1 : Fin 2)].result ≠ 0xFF) := by decide +kernel

theorem test_hyp_RegisterWriteRow :
    (0x6000 ≤ (0x6FFF : BitVec 16).toNat / 4 * 4 ∧ (0x6FFF : BitVec 16).toNat / 4 * 4 < 0x7000) ∧
    cellsWf up.mbx.mem = true ∧ (0x1B : BitVec 16).toNat / 4 * 4 = 0x18 ∧ (0x1008 : BitVec 16).toNat / 4 * 4 = 0x1008 ∧
    up.sys.boot ≠ .noSlot ∧ up.saf.served = true ∧ (0x100F : BitVec 16).toNat / 4 * 4 = 0x100C ∧
    (0x1007 : BitVec 16).toNat / 4 * 4 = 0x1004 := by decide +kernel

theorem test_hyp_MemoryLeaseStoreAndStagedRows :
    (let s := up.modNet fun n => { n with leases := n.leases.set 3 (some { otherLease with expiry := 100000000 }) }
     s.net.leases[(3 : Fin 4)] = some { otherLease with expiry := 100000000 } ∧
       ({ otherLease with expiry := 100000000 } : Lease).expiry ≤ s.sys.tick) ∧
    (0x2FFFFFFF : BitVec 40).toNat < 0x30000000 ∧
    (let c := Cmd.supSetFastWindow 15 0xA3232
     let q := ticket (reqOf (frameOf 2 c up) c none up) up
     let s := up.modRcd fun r => { r with storeQ := [(c, q)] }
     s.rcd.storeQ = [(c, q)] ∧ (s.modSec fun k => { k with storeDue := true }).sec.storeDue = true) ∧
    (let s := up.modSrs fun x => { x with staged := some (0x00383064, 0x00777777) }
     s.srs.staged = some (0x00383064, 0x00777777) ∧ srsCfgOk 0x00383064 = true ∧ srsEqOk 0x00777777 = true) :=
  ⟨by decide +kernel, by decide +kernel, ⟨rfl, rfl⟩, by decide +kernel⟩

/-- `runAt` with link n in a state since a tick. -/
def linkAt (n : Acc) (k : Fin 13) (state : Nat) : State :=
  (runAt n k).setLink n fun l => { l with state := state, trainTick := 99990000, tries := 2 }

/-- The START block of a frame with its CRC-8, and the TERM block after all of a body. -/
def frameHdr (ftype : Byte) (len : Nat) (body : List Byte) : FrameHdr :=
  let h : FrameHdr := { ftype := ftype, len := BitVec.ofNat 16 len, ver := BitVec.ofNat 8 (fld up.srs.ver 0 8), fseq := 0xFFFF,
                        crc8 := 0, blocks := len, ending := .term (crc32c body) }
  { h with crc8 := startCrc h }

/-- An event frame with a first entry, and further ones that no row names. -/
def events (e : EventEntry) (more : List EventEntry) : EventHdr :=
  { hdr := frameHdr 2 (3 + 2 * more.length) (eventBody (e :: more)), ns := e.ns, more := more }
def oneEvent (code : BitVec 16) (arg : BitVec 16) (data : Word) : EventHdr :=
  events { ns := 0, code := code, arg := arg, data := data } []
def twoEvents (code : BitVec 16) (arg : BitVec 16) (data : Word) : EventHdr :=
  events { ns := 0, code := code, arg := arg, data := data } [{ ns := 1, code := 9, arg := 0, data := 0 }]

/-- An activity frame of an idle accelerator, and sync headers that are all valid, or all invalid. -/
def idleActivity : Activity :=
  { frameNs := 5, avail := 0, tjMax := 0, tjDie0 := 0, tjDie1 := 0, tjHbm := 0, oppApplied := 0, throttleApplied := 0,
    quotaApplied := 0, booted := false, parked := false, dsLock := true, forceSeen := false, testRunning := false,
    ballastApplied := 0, dsErr := 0, envSeq := 0, commitSeq := 0, parkSeq := 0,
    ctx := List.replicate 49 { phase := 0, epoch := 0, runNs := 0, collWaitNs := 0, counters := Vector.replicate 9 0 } }
def goodSync : Vector (BitVec 2) 64 := Vector.replicate 64 0b01
def badSync : Vector (BitVec 2) 64 := Vector.replicate 64 0b11

theorem test_hyp_SorusTrainingRows :
    (let s := (linkAt 7 2 1).setLink 7 fun l => { l with firstLock := some true, trainTick := 99999800 }
     s.srs.link[(7 : Acc)].state = 1 ∧ lockGained goodSync = true ∧ s.srs.link[(7 : Acc)].firstLock = some true ∧
       s.sys.tick ≤ s.srs.link[(7 : Acc)].trainTick + 200) ∧
    (let s := linkAt 7 2 1
     s.srs.link[(7 : Acc)].state = 1 ∧ s.srs.link[(7 : Acc)].trainTick + 200 ≤ s.sys.tick ∧
       ¬(s.srs.link[(7 : Acc)].tries < 2 ∧ linkAllowed s 7 = true)) ∧
    (let s := (linkAt 7 2 1).setLink 7 fun l => { l with tries := 1 }
     s.srs.link[(7 : Acc)].tries < 2 ∧ linkAllowed s 7 = true) ∧
    (let s := linkAt 7 2 3
     s.srs.link[(7 : Acc)].state = 3 ∧ s.srs.link[(7 : Acc)].trainTick + 10000 ≤ s.sys.tick ∧ linkAllowed s 7 = true) ∧
    (let s := (linkAt 7 2 2).setLink 7 fun l => { l with presetTick := some 99999990 }
     s.srs.link[(7 : Acc)].state = 2 ∧ lockFails badSync = true ∧ s.srs.link[(7 : Acc)].presetTick = some 99999990 ∧
       s.sys.tick ≤ 99999990 + 10 ∧ linkAllowed s 7 = true) ∧
    (let s := linkAt 7 1 2; s.srs.link[(7 : Acc)].state = 2 ∧ s.srs.link[(7 : Acc)].presetTick = none ∧ linkAllowed s 7 = false) ∧
    (let s := linkAt 7 2 2
     s.srs.link[(7 : Acc)].lastGood.getD s.srs.link[(7 : Acc)].trainTick + 100 * fld s.srs.cfg 0 8 ≤ s.sys.tick ∧
       s.srs.link[(7 : Acc)].state = 2 ∧ (s.setLink 7 fun l => { l with dsLost := false }).srs.link[(7 : Acc)].dsLost = false) := by
  decide +kernel

/-- A frame of `frameHdr` is whole, whatever its body. -/
theorem frameHdr_whole (ftype : Byte) (len : Nat) (body : List Byte) (h : len < 65536) :
    frameBroken (frameHdr ftype len body) body = false := by
  have e : startCrc (frameHdr ftype len body) = (frameHdr ftype len body).crc8 := rfl
  simp [frameBroken, e]; simp [frameHdr, Nat.mod_eq_of_lt h]

theorem frameHdr_len (ftype : Byte) (len : Nat) (body : List Byte) :
    (frameHdr ftype len body).len = BitVec.ofNat 16 len := rfl

theorem startCrc_crc8 (h : FrameHdr) (c : Byte) : startCrc { h with crc8 := c } = startCrc h := rfl

theorem test_hyp_IntakeFrameRows :
    (goodFrame (linkAt 7 12 2) 7 (frameHdr 1 400 (activityBytes idleActivity)) 1 400 (activityBytes idleActivity) = true ∧
      idleActivity.ctx.length = 49 ∧ (linkAt 7 12 2).srs.link[(7 : Acc)].lastNs = none) ∧
    (frameBroken (frameHdr 1 399 (activityBytes idleActivity)) (activityBytes idleActivity) = false ∧
      (frameHdr 1 399 (activityBytes idleActivity)).len ≠ 400 ∧
      frameBroken { frameHdr 1 400 (activityBytes idleActivity) with crc8 := 0 } (activityBytes idleActivity) = true ∧
      verOk (linkAt 7 12 2) 200 = false) ∧
    (goodEvents (linkAt 7 12 1) 7 (oneEvent 5 1 0xFFFF) { ns := 0, code := 5, arg := 1, data := 0xFFFF } = true ∧
      goodEvents (linkAt 7 12 2) 7 (twoEvents 6 0 3) { ns := 0, code := 6, arg := 0, data := 3 } = true ∧
      goodEvents (linkAt 7 12 2) 7 (oneEvent 7 1 2) { ns := 0, code := 7, arg := 1, data := 2 } = true ∧
      goodEvents (linkAt 7 12 2) 7 (oneEvent 8 1 0) { ns := 0, code := 8, arg := 1, data := 0 } = true) ∧
    running (linkAt 7 12 2) = true ∧ 2 ≤ chState (linkAt 7 12 2) 7 ∧ (linkAt 7 12 2).cool.acc[(7 : Acc)].failed = false := by
  have whole := frameHdr_whole 1 399 (activityBytes idleActivity) (by decide)
  have short : (frameHdr 1 399 (activityBytes idleActivity)).len ≠ 400 := by
    rw [frameHdr_len]; decide
  refine ⟨⟨?_, by decide +kernel, by decide +kernel⟩, ⟨whole, short, ?_, by decide +kernel⟩,
    by decide +kernel, by decide +kernel, by decide +kernel, by decide +kernel⟩
  · have e := frameHdr_whole 1 400 (activityBytes idleActivity) (by decide)
    have h : (frameHdr 1 400 (activityBytes idleActivity)).ftype = 1 ∧ (frameHdr 1 400 (activityBytes idleActivity)).len = 400 ∧
        (frameHdr 1 400 (activityBytes idleActivity)).ver = BitVec.ofNat 8 (fld up.srs.ver 0 8) := ⟨rfl, rfl, rfl⟩
    simp only [goodFrame, e, h]; decide +kernel
  · have e : ((0 : Byte) != startCrc (frameHdr 1 400 (activityBytes idleActivity))) = true := by decide +kernel
    simp only [frameBroken]
    rw [startCrc_crc8, e, Bool.true_or]

theorem test_hyp_IntakeReadSideRows :
    fillOf up.srs.link[(7 : Acc)] = 0 ∧
    (let s := up.setLink 7 fun l => { l with w := 16, rf := 131056 }
     fillOf s.srs.link[(7 : Acc)] ≠ 0 ∧ (16 : Word).toNat % 131072 % 16 = 0 ∧
       ((16 : Word).toNat % 131072 + 131072 - s.srs.link[(7 : Acc)].rf) % 131072 ≤ fillOf s.srs.link[(7 : Acc)] ∧
       fillOf s.srs.link[(7 : Acc)] < ((32 : Word).toNat % 131072 + 131072 - s.srs.link[(7 : Acc)].rf) % 131072) ∧
    (8 : Word).toNat % 131072 % 16 ≠ 0 := by decide +kernel

/-- Accelerator 7 in S9 waiting for boot, its link up. -/
def booting (attempt : Nat) : State :=
  ((linkAt 7 9 2).setBup 7 fun b => { b with stage := 2, attempt := attempt, bootTick := 99000000 }).setAcc 7 fun a =>
    { a with rst := false }

theorem test_hyp_AcceleratorBootRows :
    (goodEvents (booting 1) 7 (twoEvents 1 0 0) { ns := 0, code := 1, arg := 0, data := 0 } = true ∧
      bootAwaited (booting 1) 7 = true ∧ (booting 1).bup.acc[(7 : Acc)].booted = false ∧
      (booting 1).crz.chan[accChan 7].target = 9 ∧ (booting 1).crz.chan[accChan 7].dir ≠ 3 ∧
      (0 : BitVec 16).toNat = (selectOf (booting 1) 7).active ∧
      (0 : Word).toNat = imgVersion (accSlot (booting 1) 7 (selectOf (booting 1) 7).active) ∧
      (1 : BitVec 16).toNat ≠ (selectOf (booting 1) 7).active) ∧
    goodEvents (booting 1) 7 (oneEvent 2 9 0) { ns := 0, code := 2, arg := 9, data := 0 } = true ∧
    (running (booting 1) = true ∧ chState (booting 1) 7 = 9 ∧ (booting 1).bup.acc[(7 : Acc)].stage = 2 ∧
      (booting 1).bup.acc[(7 : Acc)].booted = false ∧ (booting 1).acc[(7 : Acc)].rst = false ∧
      (booting 1).bup.acc[(7 : Acc)].attempt < 2 ∧ (booting 1).bup.acc[(7 : Acc)].bootTick + 1000 * fld (booting 1).bup.cfg 20 12 ≤ (booting 1).sys.tick) ∧
    2 ≤ (booting 2).bup.acc[(7 : Acc)].attempt ∧
    (let s := ((booting 2).setAcc 7 fun a => { a with rst := true, rstTick := 99999900 }).setAccFw 7 fun a =>
       { a with verified := true }
     s.acc[(7 : Acc)].rst = true ∧ s.acc[(7 : Acc)].rstTick + 100 ≤ s.sys.tick ∧ chState s 7 = 9 ∧
       s.bup.acc[(7 : Acc)].stage = 2 ∧ s.sec.acc[(7 : Acc)].verified = true ∧ s.sec.acc[(7 : Acc)].write = none) ∧
    (let s := (runAt 7 8).setAcc 7 fun a => { a with rst := true, rstTick := 99999900 }
     s.acc[(7 : Acc)].rst = true ∧ chState s 7 ≠ 9) := by decide +kernel

/-- Accelerator 7 in S9 with its identity block read or not. -/
def flashing (known : Bool) : State := (runAt 7 9).setAcc 7 fun a => { a with
  ident := if known then some (identity []) else none }

theorem test_hyp_BootFlashRows (b : List Byte) :
    (running (flashing true) = true ∧ (flashing true).sec.acc[(7 : Acc)].write = none ∧ chState (flashing true) 7 ≠ 0 ∧
      chState (flashing true) 7 ≠ 12 ∧ (flashing true).acc[(7 : Acc)].ident ≠ none ∧
      (flashing false).acc[(7 : Acc)].ident = none) ∧
    (verifyAcc (flashing false) 7 (accSlot (flashing false) 7 (selectOf (flashing false) 7).active) ≠ 1) ∧
    (verifyAcc (flashing true) 7 (accSlot (flashing true) 7 (selectOf (flashing true) 7).active) ≠ 1 ∧
      verifyAcc (flashing true) 7 (goldenOf (flashing true) (familyOf (flashing true) 7)) ≠ 1) ∧
    (verifyAcc (flashing true) 7 b = 1 →
      (let s := (flashing true).modNv fun v => { v with golden := v.golden.set 0 b }
       verifyAcc s 7 (goldenOf s (familyOf s 7)) = 1) ∧
      (let s := (flashing true).setAccFw 7 fun a => { a with writing := true, write := some (1, b) }
       s.sec.acc[(7 : Acc)].writing = true ∧ s.sec.acc[(7 : Acc)].write = some (1, b) ∧
         (selectOf s 7).seq + 1 < 2 ^ 32 ∧ verifyAcc s 7 b = 1)) := by
  have bad : ∀ (s : State) (t : Nat), verifyImage s t [] ≠ 1 := by
    intro s t; unfold verifyImage; split
    · decide
    · rw [if_pos (.inl (by rfl))]; decide
  have bad7 : ∀ s : State, verifyAcc s 7 [] ≠ 1 := by
    intro s; unfold verifyAcc; split
    · decide
    · exact bad s _
  have low : (selectOf (flashing true) 7).seq + 1 < 2 ^ 32 := by decide +kernel
  exact ⟨by decide +kernel, bad7 _, ⟨bad7 _, bad7 _⟩, fun h => ⟨h, ⟨rfl, rfl, low, h⟩⟩⟩

/-- Accelerator 7 in training, and in a known-answer run, its link up. -/
def training : State := (linkAt 7 10 2).setBup 7 fun b => { b with training := true, trainTick := 95500000 }
def aRun : TestRun :=
  { runId := 5, seed := 0, fixed := false, attempt := 1, start := 90000000, seen := false, done := false, resends := 0, got := 0,
    failed := [], waiting := [], control := [] }
def testing : State := (linkAt 7 11 2).setBup 7 fun b => { b with run := some aRun }

/-- A test-result frame with one engine. -/
def lastEngine : EngineResult := { engine := 16383, sums := Vector.replicate 4 0 }
def oneResult : TestFrame := { runId := 5, fixedSeed := false, results := [lastEngine] }

theorem test_hyp_TrainingAndTestRows :
    (goodEvents training 7 (twoEvents 3 0x37 3) { ns := 0, code := 3, arg := 0x37, data := 3 } = true ∧
      running training = true ∧ chState training 7 = 10 ∧ training.bup.acc[(7 : Acc)].training = true ∧
      trainItem (0x37 : BitVec 16).toNat = some 19 ∧ (3 : Word).toNat < 4) ∧
    (goodEvents training 7 (oneEvent 3 0xFF 0) { ns := 0, code := 3, arg := 0xFF, data := 0 } = true ∧
      training.crz.chan[accChan 7].target = 10 ∧ training.crz.chan[accChan 7].dir ≠ 3 ∧
      training.bup.acc[(7 : Acc)].trainTick + 4500000 ≤ training.sys.tick) ∧
    (goodEvents testing 7 (oneEvent 4 5 0x01000000) { ns := 0, code := 4, arg := 5, data := 0x01000000 } = true ∧
      runNow testing 7 = some aRun ∧ (5 : BitVec 16).toNat = aRun.runId % 65536 ∧
      fld 0x01000000 24 8 ≠ 0x02 ∧ fld 0x01000000 24 8 ≠ 0x20) ∧
    (goodEvents testing 7 (oneEvent 4 5 0x02000000) { ns := 0, code := 4, arg := 5, data := 0x02000000 } = true ∧
      fld 0x02000000 24 8 = 0x02 ∧ aRun.done = false ∧
      aRun.start + 1000 * fld testing.bup.cfg 12 8 ≤ testing.sys.tick ∧
      runComplete testing 7 { aRun with seen := true, done := true } = true) ∧
    (goodFrame testing 7 (frameHdr 3 6 (testBytes 7 oneResult)) 3 (2 + 4 * oneResult.results.length) (testBytes 7 oneResult)
        = true ∧ testWf oneResult = true ∧ oneResult.runId.toNat = aRun.runId ∧
      runComplete testing 7 (oneResult.results.foldl (fun r x => addResult testing 7 r x) aRun) = false) ∧
    (let s := up.modFrd fun f => { f with refBusy := true }; s.frd.refBusy = true ∧ mayEnd .refs s = true) ∧
    (let s := (run.setBup 7 fun b => { b with merged := true }).setBup 6 fun b => { b with merged := true, failed := true }
     let s := (s.setBup 5 fun b => { b with merged := true, solo := true }).setBup 4 fun b => { b with dropped := true }
     running s = true ∧ planDue s = true ∧ s.bup.acc[(6 : Acc)].merged = true ∧ s.bup.acc[(6 : Acc)].failed = true ∧
       s.bup.acc[(5 : Acc)].merged = true ∧ s.bup.acc[(5 : Acc)].failed = false ∧ s.bup.acc[(5 : Acc)].solo = true ∧
       s.bup.acc[(4 : Acc)].merged = false) := by decide +kernel

/-- A rack state with the line low and driven, or released. -/
def rackAt (k : Fin 16) (driving : Bool) : State :=
  up.modRack fun r => { r with state := k, driving := driving, listened := true, stateTick := 0 }

/-- A follower at rest in state 1, with the line high, armed or not. -/
def followerAt (armed : Bool) : State :=
  (up.modSys fun y => { y with strapUp := 1, strapDown := 1 }).modRack fun r =>
    { r with armed := armed, listened := true }

theorem test_hyp_SeqsyncRows :
    (let s := rackAt 14 false
     s.rack.driving = false ∧ transit s.rack.state = true ∧ s.rack.detached = false ∧ s.rack.listened = true) ∧
    (let s := rackAt 8 false; s.rack.driving = false ∧ transit s.rack.state = false) ∧
    (up.rack.driving = false ∧ resting up = true ∧ up.rack.detached = false ∧ highBefore 10 up = true ∧
      highBefore 199 up = true ∧ highBefore 200 up = true ∧ highBefore 800 up = true ∧ highBefore 999 up = true ∧
      up.rack.state ≠ 15 ∧ isLeader up = true) ∧
    (let s := followerAt true
     s.rack.driving = false ∧ resting s = true ∧ s.rack.detached = false ∧ highBefore 800 s = true ∧ s.rack.state ≠ 15 ∧
       isLeader s = false ∧ s.rack.armed = true) ∧
    (let s := followerAt false
     s.rack.driving = false ∧ resting s = true ∧ s.rack.detached = false ∧ highBefore 200 s = true ∧ s.rack.state ≠ 15 ∧
       isLeader s = false ∧ s.rack.armed = false) ∧
    (resting up = true ∧ up.rack.detached = false ∧ up.rack.line = true ∧ up.rack.driving = false ∧
      up.rack.highTick + 200 ≤ up.sys.tick ∧ resting State.reset = false) ∧
    (let s := (rackAt 0 true)
     transit s.rack.state = true ∧ s.rack.driving = true ∧ s.rack.stateTick + 50 ≤ s.sys.tick ∧ releaseReady s = true ∧
       ¬(s.saf.bistFail = true ∧ s.rack.state = 0)) ∧
    (let s := (rackAt 9 true).modRack fun r => { r with drained := false, deadline := 100000000 }
     s.rack.state = 9 ∧ s.rack.drained = false ∧ s.rack.deadline ≠ 0 ∧ s.rack.deadline ≤ s.sys.tick ∧
       s.rcd.merger = []) ∧
    (let s := (bound.modRack fun r => { r with state := 9, drained := false, deadline := 100000000 }).modCrz fun c =>
       { c with chan := c.chan.set (accChan 7) { c.chan[accChan 7] with state := 12 } }
     s.rack.state = 9 ∧ s.rack.drained = false ∧ s.rack.deadline ≠ 0 ∧ s.rack.deadline ≤ s.sys.tick ∧
       slotsBound s = true ∧ s.rcd.merger = []) ∧
    (let s := ((rackAt 10 true).modRack fun r => { r with quiesced := false }).modBrm fun b => { b with zeroRun := 10 }
     s.rack.state = 10 ∧ s.rack.quiesced = false ∧ 10 ≤ s.brm.zeroRun) ∧
    (let s := up.modCool fun c => { c with rundown := some 100000000 }
     s.cool.rundown = some 100000000 ∧ 100000000 ≤ s.sys.tick) := by decide +kernel

/-- An announcement of slot 0 or 31 with the tag that fits `up`. -/
def heard (slot : Fin 32) : Announce :=
  { announced slot 8 (slot == 0) with tag := announceTag up (announced slot 8 (slot == 0)) }

theorem test_hyp_AnnouncementRows :
    (up.sys.tick % 10000 = 0 ∧ running up = true ∧ up.sec.debug ≠ 2) ∧
    (announceTag up (heard 31) = (heard 31).tag ∧ announceTag up (heard 0) = (heard 0).tag) ∧
    ((∀ k : Fin 32, up.net.annLast[k] = none) ∧ isLeader up = true ∧ (heard 31).slot ≠ 0 ∧ (heard 0).slot = 0 ∧
      (heard 0).device ≠ up.nv.serial ∧ up.rack.state ≠ 15) ∧
    (let s := (followerAt false).modRack fun r => { r with heard := r.heard.set 0 (some (announced 0 8 true, 99900000)) }
     rackDiffers s = true ∧ s.rack.differs = none ∧
       rackDiffers (s.modRack fun r => { r with differs := some 99997999 }) = true ∧ 99997999 + 2000 < s.sys.tick ∧
       isLeader s = false ∧ s.rack.detached = false ∧ s.rack.listened = true ∧ s.rack.leaderLost = false ∧
       s.rack.heard[(0 : Fin 32)] = some (announced 0 8 true, 99900000) ∧ 99900000 + 100000 ≤ s.sys.tick) ∧
    (let s := (followerAt false).modRack fun r => { r with listenTick := some 99900000 }
     s.rack.heard[(0 : Fin 32)] = none ∧ s.rack.listenTick = some 99900000) ∧
    (let s := up.modRack fun r => { r with listenTick := some 99900000, listened := false, heardOther := true }
     s.rack.listenTick = some 99900000 ∧ s.rack.listened = false ∧ s.rack.heardOther = true ∧ s.rack.state ≠ 15) ∧
    (let s := up.modRack fun r => { r with listenTick := some 99900000, listened := false, heardOther := false }
     s.rack.listened = false ∧ s.rack.heardOther = false) :=
  ⟨by decide +kernel, ⟨rfl, rfl⟩, by decide +kernel, by decide +kernel, by decide +kernel, by decide +kernel,
    by decide +kernel⟩

/-- Accelerator 7 in a state with a higher target, its rails steady, the reference clock settled. -/
def climbing (k target : Nat) : State :=
  ((run.setChan 7 fun c => { c with state := k, target := target, stepDone := true, dir := 0 }).modSys fun y =>
    { y with refclkSettled := true }).modCrz fun c =>
      { c with rail := Vector.ofFn fun r : Rail => { c.rail[r] with stable := c.rail[r].stable || decide (112 ≤ r.1) } }

theorem test_hyp_CrozierStepRows :
    (let s := (climbing 7 12).setChan 7 fun c => { c with stagger := some 100000000 }
     s.crz.chan[(7 : Chan)].dir = 0 ∧ s.crz.chan[(7 : Chan)].stepDone = true ∧
       s.crz.chan[(7 : Chan)].state < s.crz.chan[(7 : Chan)].target ∧ s.crz.chan[(7 : Chan)].fault = false ∧
       s.crz.chan[(7 : Chan)].limit = none ∧ heldBy s 7 8 = true ∧ s.crz.chan[accChan 7].stagger = some s.sys.tick) ∧
    (let s := climbing 1 12
     s.crz.chan[(7 : Chan)].dir = 0 ∧ s.crz.chan[(7 : Chan)].stepDone = true ∧
       s.crz.chan[(7 : Chan)].state < s.crz.chan[(7 : Chan)].target ∧ s.crz.chan[(7 : Chan)].fault = false ∧
       s.crz.chan[(7 : Chan)].limit = none ∧ heldBy s 7 2 = false ∧ barred s 7 2 = false) ∧
    (let s := climbing 0 12
     s.crz.chan[(7 : Chan)].dir = 0 ∧ s.crz.chan[(7 : Chan)].stepDone = true ∧
       s.crz.chan[(7 : Chan)].state < s.crz.chan[(7 : Chan)].target ∧ s.crz.chan[(7 : Chan)].fault = false ∧
       s.crz.chan[(7 : Chan)].limit = none ∧ (7 : Chan) = accChan 7 ∧
       heldBy s 7 1 = false ∧ barred s 7 1 = false ∧ s.crz.chan[(7 : Chan)].efuseGood = false ∧
       s.crz.chan[(7 : Chan)].efuseClose = none) ∧
    (let s := (climbing 0 12).setChan 7 fun c => { c with efuseClose := some 99998000 }
     s.crz.chan[accChan 7].efuseClose = some 99998000 ∧ s.crz.chan[accChan 7].efuseGood = false ∧
       99998000 + 2000 ≤ s.sys.tick) ∧
    (let s := ((climbing 1 12).setChan 7 fun c => { c with stepDone := false, dir := 1 }).setRail (railOf 7 0) fun r =>
       { r with stable := true }
     chState s 7 = 1 ∧ s.crz.chan[accChan 7].stepDone = false ∧ s.crz.chan[accChan 7].dir = 1 ∧ s.acc[(7 : Acc)].ident = none ∧
       s.crz.rail[railOf 7 0].stable = true) ∧
    ((identity []).binFuse.toNat ≤ 2 ∧ (identity []).fwFamily.toNat ≤ 1 ∧
      2 < ({ identity [] with binFuse := 3 } : Identity).binFuse.toNat) ∧
    (let s := up.setRail 111 fun r => { r with en := true, stable := false, pg := true, pgAt := 24999999449 }
     s.crz.rail[(111 : Rail)].stable = false ∧ s.crz.rail[(111 : Rail)].pg = true ∧ driven 111 = true ∧
       s.crz.rail[(111 : Rail)].en = true ∧ stableAt s 111 < cyclesNow s ∧ afterWindow s 111 = false) ∧
    (up.crz.rail[(111 : Rail)].pg ≠ true ∧ (up.crz.rail[(111 : Rail)].en && declared up 111) = false) ∧
    (let s := up.setRail 111 fun r => { r with en := true, trans := List.replicate 3 24999999999 }
     s.crz.rail[(111 : Rail)].pg ≠ true ∧ (s.crz.rail[(111 : Rail)].en && declared s 111) = true ∧
       ((250 * s.sys.tick + (249 : Fin 250).1) :: s.crz.rail[(111 : Rail)].trans.filter fun t =>
         decide (250 * s.sys.tick + (249 : Fin 250).1 ≤ t + 250 * railWindow s 111)).length < 5) := by decide +kernel

/-- A rail of `run` that is enabled and stable, with transitions at a tick. -/
def railOn (r : Rail) (l : List Nat) : State := run.setRail r fun x =>
  { x with en := true, stable := true, off := false, pg := true, trans := l }

theorem test_hyp_RailFaultRows :
    (let s := railOn 111 (List.replicate 4 24999999999)
     s.crz.rail[(111 : Rail)].pg ≠ false ∧ s.crz.rail[(111 : Rail)].en = true ∧ declared s 111 = true ∧
       (s.crz.rail[(111 : Rail)].trans.filter fun t =>
         decide (250 * s.sys.tick + (249 : Fin 250).1 ≤ t + 250 * railWindow s 111)).length + 1 = 5) ∧
    (let s := ((climbing 8 12).setChan 7 fun c => { c with stepDone := false, dir := 1, stepStart := some 0 }).setRail
       (railOf 7 11) fun r => { r with en := true, stable := false }
     windowOver s (chanOf (railOf 7 11)) = true ∧ railState s (railOf 7 11) = s.crz.chan[chanOf (railOf 7 11)].state ∧
       s.crz.rail[railOf 7 11].stable = false ∧ s.crz.rail[railOf 7 11].removing = false ∧ s.crz.rail[railOf 7 11].pg = false) ∧
    (let s := (railOn 0 []).setRail 0 fun x => { x with pg := false, pgAt := 24999999449 }
     s.crz.rail[(0 : Rail)].stable = true ∧ s.crz.rail[(0 : Rail)].pg = false ∧ declared s 0 = true ∧
       s.crz.rail[(0 : Rail)].en = true ∧ steadyAt s 0 < cyclesNow s) ∧
    2 ≤ (run.setEntry 119 fun e => { e with outRun := 2 }).sup.entry[(119 : Rail)].outRun ∧
    (let s := (railOn 0 []).setRail 0 fun x => { x with en := false }
     s.crz.rail[(0 : Rail)].off = false ∧ s.crz.rail[(0 : Rail)].en = false ∧ s.crz.rail[(0 : Rail)].offLate = false ∧
       driven 0 = true ∧ s.crz.rail[(0 : Rail)].disTick + 5000 ≤ s.sys.tick) ∧
    (let s := ((railOn 0 []).setRail 0 fun x => { x with en := false }).setEntry 0 fun e => { e with offRun := 2 }
     s.crz.rail[(0 : Rail)].off = false ∧ countsOff s 0 = true ∧ s.crz.rail[(0 : Rail)].en = false) ∧
    (let s := ((railOn 0 []).setChan 0 fun c => { c with dir := 2 }).setEntry 0 fun e => { e with offRun := 2 }
     s.crz.rail[(0 : Rail)].off = false ∧ countsOff s 0 = true ∧ s.crz.rail[(0 : Rail)].en = true ∧
       s.crz.chan[chanOf 0].dir = 2) ∧
    (driven 116 = true ∧ accOfRail 116 = none ∧ accOfRail 112 = none ∧ driven 112 = true ∧ accOfRail 0 = some 0) ∧
    (let s := (railOn 0 []).setChan 0 fun c => { c with efuseOpenTick := some 99990000 }
     s.crz.chan[accChan 0].efuseOpenTick = some 99990000 ∧ 99990000 + 10000 ≤ s.sys.tick ∧
       ∃ i : Fin 14, s.crz.rail[railOf 0 i].off = false) := by decide +kernel

/-- A drain of accelerator 7 for a reset, with XNET_IDLE found high or not. -/
def draining (idle : Bool) : State :=
  let c := Cmd.partitionReset 7 0 1
  let d : Drain :=
    { start := 99995000, goal := .reset true, idle := idle, reply := ticket (reqOf (frameOf 1 c run) c none run) run }
  run.setAcc 7 fun a => { a with xnetDrain := true, drain := some d }

theorem test_hyp_AlertAndDrainRows :
    (let s := run.setAcc 7 fun a => { a with thermArmed := true }
     1000 ≤ 1000 ∧ chState s 7 ≠ 0 ∧ s.acc[(7 : Acc)].thermArmed = true) ∧
    (let s := (run.setAcc 7 fun a => { a with auxTick := 99999900 }).setRail (railOf 7 0) fun r => { r with stable := true }
     chState s 7 ≠ 0 ∧ s.acc[(7 : Acc)].thermArmed = false ∧ s.crz.rail[railOf 7 0].stable = true ∧
       s.acc[(7 : Acc)].auxTick + 100 ≤ s.sys.tick) ∧
    (let s := (run.setRail (coreRail 7 1) fun r => { r with en := true, stable := true }).setAvs 7 fun a =>
       { a with mv := #v[700, 700] }
     (15 : Fin 16).1 = 2 * (7 : Acc).1 + (1 : Fin 2).1 ∧ s.crz.rail[coreRail 7 1].en = true ∧
       s.crz.rail[coreRail 7 1].stable = true ∧ (6499 : Int) < (fastWindow s 15).1 ∧ (fastWindow s 15).2 < (7501 : Nat) ∧
       (fastWindow s 15).1 ≤ (6500 : Nat) ∧ ((7500 : Nat) : Int) ≤ (fastWindow s 15).2 ∧ 200 * fld s.sup.fwc[(15 : Fin 16)] 16 4 ≤ 1000 ∧
       999 < 200 * fld s.sup.fwc[(15 : Fin 16)] 16 4) ∧
    (let s := (run.setAcc 7 fun a => { a with coreTick := 99999900 }).setRail (coreRail 7 0) fun r => { r with stable := true }
     s.crz.rail[coreRail 7 0].stable = true ∧ s.acc[(7 : Acc)].vrArmed = false ∧ s.acc[(7 : Acc)].coreTick + 100 ≤ s.sys.tick) ∧
    (let s := run.setAcc 7 fun a => { a with vrAlertN := true }; s.acc[(7 : Acc)].vrAlertN = true ∧ chState s 7 ≠ 0) ∧
    (let s := run.setAcc 7 fun a => { a with vrAlertN := false, vrArmed := true, holdUntil := some 100000000 }
     s.acc[(7 : Acc)].vrAlertN = false ∧ chState s 7 ≠ 0 ∧ s.acc[(7 : Acc)].vrArmed = true ∧
       s.acc[(7 : Acc)].holdUntil = some s.sys.tick) ∧
    ((draining true).acc[(7 : Acc)].drain.isSome = true ∧ (draining true).acc[(7 : Acc)].drain.all (fun d => d.idle) = true) ∧
    ((draining false).acc[(7 : Acc)].drain.isSome = true ∧
      (draining false).acc[(7 : Acc)].drain.all (fun d => !d.idle && decide (d.start + 5000 ≤ (draining false).sys.tick))
        = true) ∧
    (let s := run.setAcc 7 fun a => { a with decision := some (.powerOff false, 100000000) }
     s.acc[(7 : Acc)].decision = some (.powerOff false, s.sys.tick)) := by decide +kernel

/-- Accelerator 7 with a change to 700 mV under way for 1 ms, its readbacks given; with writes of set-points under way. -/
def changing (rb : Vector (Option Nat) 2) : State :=
  (run.setAcc 7 fun a => { a with
    change := some { mv := 700, oldMv := 600, opp := 8, band := 2, felt := 0, start := 99999900 } }).setAvs 7 fun a =>
      { a with mv := #v[700, 700], rb := rb }
def avsWriting : State := run.setAvs 7 fun a => { a with failed := false, noRun := 3, pend := #v[some (700, 3), some (700, 2)] }

theorem test_hyp_SupervisionRows :
    (let s := up.modSup fun u => { u with scRun := u.scRun.set 1 2 }
     s.sup.scFault[(1 : Fin 2)] = false ∧ 2 ≤ s.sup.scRun[(1 : Fin 2)]) ∧
    (let s := up.modSup fun u => { u with scFault := u.scFault.set 1 true, scRun := u.scRun.set 1 16 }
     s.sup.scFault[(1 : Fin 2)] = true ∧ 16 ≤ s.sup.scRun[(1 : Fin 2)]) ∧
    (let s := (run.modSup fun u => { u with marginTgt := u.marginTgt.set 98 (-20), baseMv := u.baseMv.set 98 800 }).setEntry 98
       fun e => { e with stale := false, rb := some 8050 }
     accOfRail 98 = some 7 ∧ s.sup.marginNow[(98 : Rail)] ≠ s.sup.marginTgt[(98 : Rail)] ∧
       s.sup.marginTick[(98 : Rail)] + 100 ≤ s.sys.tick ∧ marginSettled s 98 = true ∧ s.sup.entry[(98 : Rail)].stale = false) ∧
    (let s := (run.setEntry 110 fun e => { e with readTick := 100000000 - 3001, curTick := 100000000 }).setEntry 109 fun e =>
       { e with readTick := 100000000 - 30, curTick := 100000000 - 31 }
     (110 : Rail).1 % 14 ≠ 8 ∧ s.sup.entry[(110 : Rail)].stale = false ∧
       s.sup.entry[(110 : Rail)].readTick + 3000 < s.sys.tick ∧ (109 : Rail).1 % 14 = 11 ∧
       ¬(s.sup.entry[(109 : Rail)].readTick + 30 < s.sys.tick) ∧ s.sup.entry[(109 : Rail)].curTick + 30 < s.sys.tick) ∧
    ((changing #v[some 695, some 705]).acc[(7 : Acc)].change.isSome = true ∧
      coresNear (changing #v[some 695, some 705]) 7 = true ∧ chState (changing #v[some 695, some 705]) 7 ≠ 7 ∧
      (changing #v[some 695, some 705]).str.acc[(7 : Acc)].park ≠ .parked ∧
      ((changing #v[some 695, some 705]).setStr 7 fun a => { a with park := .unparking }).str.acc[(7 : Acc)].park = .unparking) ∧
    (coresNear (changing #v[some 694, none]) 7 = false ∧
      (changing #v[some 694, none]).acc[(7 : Acc)].change.all (fun c => decide (c.start + 100 ≤ (changing #v[some 694, none]).sys.tick))
        = true ∧ coreNear (changing #v[some 694, none]) 7 0 = false ∧ coreNear (changing #v[some 694, none]) 7 1 = false) ∧
    (let s := run.setAvs 7 fun a => { a with frame := some 10000000 }
     s.twb.avs[(7 : Acc)].frame = some (s.sys.tick / 10) ∧ run.twb.avs[(7 : Acc)].frame ≠ some (run.sys.tick / 10)) ∧
    (avsWriting.twb.avs[(7 : Acc)].failed = false ∧ 3 ≤ avsWriting.twb.avs[(7 : Acc)].noRun ∧
      avsWriting.twb.avs[(7 : Acc)].pend[(0 : Fin 2)] = some (700, 3) ∧
      avsWriting.twb.avs[(7 : Acc)].pend[(1 : Fin 2)] = some (700, 2)) := by decide +kernel

/-- Ticks at which slot B reads the fan groups, or STATUS_WORD. -/
def atSlot (k : Nat) : State := run.modSys fun y => { y with tick := 10 * k }

theorem test_hyp_ScheduledReadRows :
    (run.setPort (mainPort 7) fun p => { p with frameA := some 10000000 }).twb.port[mainPort 7].frameA =
      some (run.sys.tick / 10) ∧
    (busDown run (.efuse 7) = false ∧ run.twb.port[mainPort 7].frameA ≠ some (run.sys.tick / 10) ∧ 0 ≤ linear11 0x1BFF ∧ linear11 0x1BFF ≤ 10000 ∧ 10000 < linear11 0x23FF ∧
      linear11 0x07FF < 0) ∧
    (busDown run (.port 8) = false ∧ run.twb.port[(8 : Port)].frameA ≠ some (run.sys.tick / 10) ∧ 0 ≤ linear11 0x23FF ∧
      linear11 0x23FF ≤ 40000) ∧
    (let s := run.setChan 7 fun c => { c with efuseClose := some 99999000 }
     busDown s (.efuse 7) = false ∧ s.twb.port[mainPort 7].frameB ≠ some (s.sys.tick / 10) ∧
       s.crz.chan[accChan 7].efuseClose ≠ none ∧ s.crz.chan[accChan 7].efuseGood = false ∧ 40 ≤ linear11 0x0028) ∧
    (let s := atSlot 1
     busDown s (.efuse 7) = false ∧ s.twb.port[mainPort 7].frameB ≠ some (s.sys.tick / 10) ∧
       s.crz.chan[accChan 7].efuseClose = none ∧ s.twb.port[mainPort 7].repeatOf = none ∧
       s.twb.port[mainPort 7].efbAlert = false ∧ s.sys.tick / 10 % 100 ≠ 0) ∧
    (let s := atSlot 100
     s.crz.chan[accChan 7].efuseClose = none ∧ s.twb.port[mainPort 7].repeatOf = none ∧ s.sys.tick / 10 % 100 = 0 ∧
       statusFault 0xFFFF = true) ∧
    (let s := run.setPort (mainPort 7) fun p => { p with repeatOf := some 0xFFFF }
     s.crz.chan[accChan 7].efuseClose = none ∧ s.twb.port[mainPort 7].repeatOf = some 0xFFFF) ∧
    (let s := atSlot 104
     busDown s (.port 8) = false ∧ s.sys.tick / 10 % 100 = (3 : Fin 4).1 + 1 ∧
       s.twb.port[(8 : Port)].frameB ≠ some (s.sys.tick / 10) ∧ 0 ≤ linear11 0x00C8 ∧ linear11 0x00C8 ≤ 200) ∧
    (let s := atSlot 108
     busDown s (.port 8) = false ∧ s.twb.port[(8 : Port)].frameB ≠ some (s.sys.tick / 10) ∧ 5 ≤ s.sys.tick / 10 % 100 ∧
       s.sys.tick / 10 % 100 ≤ 8 ∧ (atSlot 100).sys.tick / 10 % 100 = 0 ∧
       (atSlot 100).twb.port[(8 : Port)].frameB ≠ some ((atSlot 100).sys.tick / 10)) ∧
    (busDown run (.port (mainPort 7)) = false ∧ run.twb.port[mainPort 7].burst ≠ some (run.sys.tick / 1000) ∧ (regulator 13).rail = (13 : Fin 14).1 ∧ (13 : Fin 14).1 ≠ 8 ∧
      (regulator 13).iout = .ok 0 ∧ (regulator 13).vout = .ok 0) := by decide +kernel

/-- Ports with their alert input in use, masked, stuck, or with a hung clock. -/
def alerting : State := up.setPort 8 fun p => { p with cfg := 0x602 }
def masked : State := up.setPort 8 fun p => { p with alertMasked := true, maskTick := 99900000 }
def unanswered : State := alerting.setPort 8 fun p => { p with alertLine := true, araNack := true }
def cycled : State := alerting.setPort 8 fun p => { p with alertLine := true, cycles := 16 }
def stuckBus : State := up.setPort 9 fun p => { p with stuck := true, tryTick := 99900000 }
def hungBus : State := up.setPort 9 fun p => { p with state := 3 }

theorem test_hyp_TwoWireFaultRows :
    (fldB alerting.twb.port[(8 : Port)].cfg 10 = true ∧ alerting.twb.port[(8 : Port)].alertMasked = false ∧
      busDown alerting (.port 8) = false ∧ alerter 8 0x4B = some (8, 0xFF) ∧ alerter 8 0x4C = none ∧
      statusFault 0xFFFF = true) ∧
    (fldB unanswered.twb.port[(8 : Port)].cfg 10 = true ∧ unanswered.twb.port[(8 : Port)].alertMasked = false ∧
      unanswered.twb.port[(8 : Port)].alertLine = true ∧ unanswered.twb.port[(8 : Port)].araNack = true) ∧
    (fldB cycled.twb.port[(8 : Port)].cfg 10 = true ∧ cycled.twb.port[(8 : Port)].alertMasked = false ∧
      cycled.twb.port[(8 : Port)].alertLine = true ∧ cycled.twb.port[(8 : Port)].araNack = false ∧
      16 ≤ cycled.twb.port[(8 : Port)].cycles) ∧
    (masked.twb.port[(8 : Port)].alertMasked = true ∧ masked.twb.port[(8 : Port)].maskTick + 100000 ≤ masked.sys.tick) ∧
    (let s := up.setPort 9 fun p => { p with sdaRun := 10 }
     busStuck s (.port 9) = false ∧ busHung s (.port 9) = false ∧ 10 ≤ sdaRunOf s (.port 9)) ∧
    (let s := up.setPort 9 fun p => { p with sclRun := 3500 }; busHung s (.port 9) = false ∧ 3500 ≤ sclRunOf s (.port 9)) ∧
    (busHung hungBus (.port 9) = true ∧ sclRunOf hungBus (.port 9) = 0) ∧
    (busStuck stuckBus (.port 9) = true ∧ busTried stuckBus (.port 9) + 100000 ≤ stuckBus.sys.tick) ∧
    (busAcc (.port 7) = some 7 ∧ busStuck up (.port 7) = false) := by decide +kernel

theorem test_hyp_SteeringAndBrimRows :
    (loopDue (loopTick run) run = true ∧ reqWaits (loopTick run) run = false ∧ ¬(5 ≤ run.rack.state.1 ∧ run.rack.state.1 ≤ 7) ∧
      chState run 7 = 12 ∧ chState (runAt 7 8) 7 < 9) ∧
    loopDue (loopTick up) (up.modStr fun x => { x with lastLoop := 100000000 }) = false ∧
    (let s := run.modRcd fun r => { r with merger :=
       [{ stamp := 100000000, cls := 6, unit := 0, chan := 2,
          item := .req (reqOf (frameOf 2 .rackHold run) .rackHold none run) }] }
     loopDue (loopTick s) s = true ∧ reqWaits (loopTick s) s = true) ∧
    (let s := run.modSys fun y => { y with tick := 100000090 }
     s.sys.tick % 100 = 90 ∧ s.str.lastLoop < s.sys.tick - 90 ∧ s.sys.boot = .running) ∧
    (up.sys.tick % 10 = 0 ∧ brimActive up = false) ∧
    (let s := run.modBrm fun b => { b with gotT := true }
     s.sys.tick % 10 = 0 ∧ brimActive s = true ∧ trayPower (brimSubst (brimAge s)) = some s.brm.bulk ∧ 1 ≤ s.brm.theta ∧
       s.brm.theta ≤ 64) ∧
    (let s := run.modBrm fun b => { b with gotT := false, staleT := 1, staleP := Vector.replicate 8 1, staleA := Vector.replicate 8 1,
                                           gotP := Vector.replicate 8 false, gotA := Vector.replicate 8 false }
     s.sys.tick % 10 = 0 ∧ brimActive s = true ∧ trayPower (brimSubst (brimAge s)) = none ∧ (∀ n : Acc, s.brm.bal[n] = 0) ∧
       (let u := (s.modBrm fun b => { b with bal := b.bal.set 7 4 }).setStr 7 fun a => { a with park := .parked }
        u.sys.tick % 10 = 0 ∧ brimActive u = true ∧ trayPower (brimSubst (brimAge u)) = none ∧ u.brm.bal[(7 : Acc)] ≠ 0 ∧
          ballastOk u 7 = false)) ∧
    (let s := run.modBrm fun b => { b with blindRun := 10, active := true }
     10 ≤ s.brm.blindRun ∧ s.brm.blind = false ∧ s.brm.active = true) := by decide +kernel

theorem test_hyp_LedgerRows :
    (run.sys.tick % 10 = 0 ∧ run.sys.tick % 1000 = 0 ∧ run.ldg.last ≠ run.sys.tick / 1000) ∧
    (let s := run.modLdg fun l => { l with last := 100000 }
     s.sys.tick % 10 = 0 ∧ s.ldg.last = s.sys.tick / 1000) ∧
    (let s := run.modSys fun y => { y with tick := 100000990 }
     s.sys.tick % 10 = 0 ∧ s.sys.tick % 1000 ≠ 0) := by decide +kernel

/-- The posting of an idle interval answers a next state. -/
theorem test_hyp_LedgerPosting : ∃ t, exec .ledgerPosting run = .next t := ⟨_, rfl⟩

/-- A container of period 1, all zero but for that, as the launch rows read it. -/
def periodic : List Byte := (List.range 256).map fun i => if i = 0x20 then 1 else 0

theorem test_hyp_FrondRows :
    (let s := seatedModel 3 periodic (some someRun)
     s.frd.slot[(3 : Slot)].model = some periodic ∧ s.frd.slot[(3 : Slot)].next = none ∧ s.frd.slot[(3 : Slot)].state = 2 ∧
       (frcHeader periodic).period ≠ 0 ∧ pstate s ≠ .safe ∧ s.nv.frondEng ≠ 0 ∧
       s.sys.tick % (frcHeader periodic).period = fld s.frd.sched (8 * (3 : Slot).1) 8 % (frcHeader periodic).period ∧
       s.frd.slot[(3 : Slot)].run = some someRun ∧ (seatedModel 3 periodic none).frd.slot[(3 : Slot)].run = none) ∧
    (let s := seatedModel 3 [] (some someRun)
     s.frd.slot[(3 : Slot)].model = some [] ∧ s.frd.slot[(3 : Slot)].run = some someRun ∧
       s.frd.slot[(3 : Slot)].queue = [] ∧ s.frd.slot[(3 : Slot)].afterReset = false ∧
       s.frd.slot[(3 : Slot)].afterUnload = none ∧ mayEnd (.slot 3) s = true ∧
       mayEnd (.slot 3) (s.modFrd fun k => { k with cur := some (.slot 0), slot := k.slot.set 0 { k.slot[(0 : Slot)] with
         model := some [], run := some someRun } }) = false) ∧
    (let s := up.setFrd 3 fun k => { k with state := 3 }
     s.frd.slot[(3 : Slot)].state = 3 ∧ s.frd.slot[(3 : Slot)].model = none ∧ s.nv.frdFlash[(3 : Slot)] = none) ∧
    ((up.setFrd 0 fun k => { k with state := 1 }).frd.slot[(0 : Slot)].state = 1) ∧
    (let s := up.setFrd 3 fun k => { k with persist := some [] }; s.frd.slot[(3 : Slot)].persist = some []) := by
  decide +kernel

/-- Frond's reload, for a container that the checks accept, or refuse. -/
theorem test_hyp_FrondReload (b : List Byte) : let s := (up.setFrd 3 fun k => { k with state := 3 }).modNv fun v =>
      { v with frdFlash := v.frdFlash.set 3 (some b) }
    s.frd.slot[(3 : Slot)].state = 3 ∧ s.frd.slot[(3 : Slot)].model = none ∧ s.nv.frdFlash[(3 : Slot)] = some b ∧
      (loadReason s 3 b true = 0 ∨ loadReason s 3 b true ≠ 0) := ⟨rfl, rfl, rfl, Classical.em _⟩

/-- `run` with fan 15, or pump 3, in a state. -/
def fanIs (f : FanState) : State := run.setFan 15 fun _ => f
def pumpIs (p : PumpState) : State := run.setPump 3 fun _ => p

/-- Fan 15 at its duty without an edge for 1 s, STALL_CUR on, its group's current having been 4 A and being `now`. -/
def lostTach (now : Nat) : State :=
  (fanIs { state := 2, duty := 20, tach := { edge := some 99900000 } }).modCool fun c => { c with
    cfg := c.cfg ||| 1, groupCur := c.groupCur.set 3 [(99999000, now), (99700000, 4000)] }

theorem test_hyp_CoolingDriveRows :
    (run.sys.tick % 1000 = 0 ∧ running run = true ∧ (takeStaged run).cool.table = false ∧ overridden (takeStaged run) = false ∧
      ((takeStaged (fanIs { state := 2, duty := 50 })).cool.fan[(15 : Fan)].state = 2)) ∧
    (let s := run.modCool fun c => { c with fanTick := some 99970000, kicked := 3 }
     s.cool.fanTick = some 99970000 ∧ s.cool.kicked = (3 : Fin 5).1 ∧ 99970000 + 10000 * 3 ≤ s.sys.tick ∧
       fanUsed s 15 = true ∧ fanUsed (s.modCool fun c => { c with fanMap := c.fanMap.set 15 0 }) 15 = false) ∧
    (let s := fanIs { state := 1, duty := 100, stalled := true, tach := { edges := 2 } }
     s.cool.fan[(15 : Fan)].state = 1 ∧ 2 ≤ s.cool.fan[(15 : Fan)].tach.edges ∧ s.cool.fan[(15 : Fan)].stalled = true) ∧
    (let s := fanIs { state := 1, duty := 100, tick := 99500000, tach := { edges := 1 } }
     s.cool.fan[(15 : Fan)].state = 1 ∧ s.cool.fan[(15 : Fan)].stalled = false ∧ s.cool.fan[(15 : Fan)].tach.edges < 2 ∧
       s.cool.fan[(15 : Fan)].tick + 500000 ≤ s.sys.tick) ∧
    (let s := (lostTach 0).modCool fun c => { c with cfg := c.cfg &&& 0xFFFFFFFE }
     s.cool.fan[(15 : Fan)].state = 2 ∧ 20 ≤ s.cool.fan[(15 : Fan)].duty ∧
       tachLost s.sys.tick s.cool.fan[(15 : Fan)].tach = true ∧ fldB s.cool.cfg 0 = false) ∧
    (let s := fanIs { state := 2, duty := 20, rpm := 999, tach := { slowSince := some 99700000 } }
     s.cool.fan[(15 : Fan)].state = 2 ∧ 20 ≤ s.cool.fan[(15 : Fan)].duty ∧ s.cool.fan[(15 : Fan)].rpm < 1000 ∧
       s.cool.fan[(15 : Fan)].tach.slowSince = some 99700000 ∧ 99700000 + 300000 ≤ s.sys.tick) ∧
    (∀ now ∈ [0, 4000], let s := lostTach now
     s.cool.fan[(15 : Fan)].state = 2 ∧ 20 ≤ s.cool.fan[(15 : Fan)].duty ∧ fldB s.cool.cfg 0 = true ∧
       s.twb.port[(8 : Port)].stuck = false ∧ (3 : Fin 4).1 = (15 : Fan).1 / 4 ∧
       tachLost s.sys.tick s.cool.fan[(15 : Fan)].tach = true ∧
       now = ((s.cool.groupCur[(3 : Fin 4)].head?).map (·.2)).getD 0 ∧
       4000 = groupBefore s.cool.groupCur[(3 : Fin 4)] (s.cool.fan[(15 : Fan)].tach.edge.getD 0) ∧
       1 = ((List.finRange 16).filter fun (y : Fan) => y.1 / 4 == (3 : Fin 4).1 &&
         (s.cool.fan[y].state == 2 || s.cool.fan[y].state == 4)).length) ∧
    (4000 ≤ 2 * 1 * (4000 - 0) ∧ 2 * 1 * (4000 - 4000) < 4000) ∧
    (let s := fanIs { state := 4, duty := 20, tach := { runSince := some 99000000 } }
     s.cool.fan[(15 : Fan)].state = 4 ∧ s.cool.fan[(15 : Fan)].tach.runSince = some 99000000 ∧
       99000000 + 1000000 ≤ s.sys.tick) ∧
    (let s := fanIs { state := 3, tick := 97000000 }
     s.cool.fan[(15 : Fan)].state = 3 ∧ s.cool.fan[(15 : Fan)].tick + 3000000 ≤ s.sys.tick) ∧
    (let s := pumpIs { state := 1, tach := { edges := 2 } }
     s.cool.pump[(3 : Pump)].state = 1 ∧ 2 ≤ s.cool.pump[(3 : Pump)].tach.edges ∧ (1 : Loop).1 = (3 : Pump).1 / 2) ∧
    (let s := ((pumpIs { state := 3 }).setLoop 1 fun l => { l with
         cfg := 0x80003C0A, lowSince := some 99980000, lowLast := 100000000, switched := none }).setPump 2 fun _ =>
       { state := 2, duty := 50, tach := { edge := some 99900000 } }
     loopUsed s 1 = true ∧ s.cool.pump[otherPump s 1].state ≠ 4 ∧ flowLow s 1 = true ∧ s.cool.pump[activePump s 1].state = 2 ∧
       s.cool.loop[(1 : Loop)].switched = none ∧ 0 < s.cool.pump[activePump s 1].duty ∧
       tachLost s.sys.tick s.cool.pump[activePump s 1].tach = true) ∧
    (let s := ((pumpIs { state := 3 }).setLoop 1 fun l => { l with cfg := 0x80003C0A }).setPump 2 fun _ =>
       { state := 1, duty := 100, tick := 99500000 }
     loopUsed s 1 = true ∧ s.cool.pump[otherPump s 1].state ≠ 4 ∧ s.cool.pump[activePump s 1].state = 1 ∧
       s.cool.pump[activePump s 1].tach.edges < 2 ∧ s.cool.pump[activePump s 1].tick + 500000 ≤ s.sys.tick) := by
  decide +kernel

/-- Loop 1 of `run` in use for every accelerator. -/
def looped (f : LoopState → LoopState) : State := run.setLoop 1 fun l => f { l with cfg := 0x80FF3C0A }

/-- The tray channel waiting in T3 for cooling, its fans running. -/
def waitingT3 : State := run.setChan 8 fun c => { c with state := 3, target := 4, stepDone := true }
def coolT3 : State := (waitingT3.modSys fun y => { y with refclkSettled := true }).modCool fun c => { c with
  fan := Vector.ofFn fun f : Fan => { c.fan[f] with state := 2 } }

theorem test_hyp_FlowAndModeRows :
    (let s := looped fun l => { l with switched := some 99800000, lost := false }
     loopUsed s 1 = true ∧ s.cool.loop[(1 : Loop)].lost = false ∧ s.cool.loop[(1 : Loop)].switched = some 99800000 ∧
       99800000 + 200000 ≤ s.sys.tick ∧ (fld s.cool.loop[(1 : Loop)].cfg 16 8).testBit (7 : Acc).1 = true) ∧
    (let s := (looped fun l => { l with lowSince := some 99980000, lowLast := 100000000 }).setPump 3 fun p => { p with state := 4 }
     loopUsed s 1 = true ∧ s.cool.loop[(1 : Loop)].lost = false ∧ s.cool.pump[otherPump s 1].state = 4 ∧ flowLow s 1 = true) ∧
    (let s := looped fun l => { l with okSince := some 99000000, lost := true }
     s.cool.loop[(1 : Loop)].okSince = some 99000000 ∧ s.cool.loop[(1 : Loop)].lost = true ∧ 99000000 + 1000000 ≤ s.sys.tick) ∧
    (let s := run.modCool fun c => { c with chanOut := c.chanOut.set 5 (some 99995000) }
     s.cool.chanOut[(5 : Fin 6)] = some 99995000 ∧ 99995000 + 5000 ≤ s.sys.tick) ∧
    (let s := looped fun l => { l with pressSince := some 99900000, pressLow := false }
     s.cool.loop[(1 : Loop)].pressSince = some 99900000 ∧ s.cool.loop[(1 : Loop)].pressLow = false ∧
       99900000 + 100000 ≤ s.sys.tick) ∧
    (inT3 waitingT3 = true ∧ coolReady waitingT3 = false ∧ waitingT3.cool.estLate = false ∧
      waitingT3.cool.t3Tick + 3000000 ≤ waitingT3.sys.tick) ∧
    (inT3 coolT3 = true ∧ coolReady coolT3 = true ∧ coolT3.sys.refclkSettled = true ∧ rackHolds coolT3 = false) ∧
    (run.rcd.merger = [] ∧ run.cool.hbLost = false ∧ run.cool.hbTick + 100000 * fld run.cool.cfg 24 8 ≤ run.sys.tick ∧
      run.cool.table = false ∧ run.saf.started = true) ∧
    (let s := run.modCool fun c => { c with table := true, loopDone := true }
     s.cool.table = true ∧ tableCause s = none ∧ s.sys.fwRunning = true ∧ s.cool.loopDone = true) := by decide +kernel

/-- `run` with accelerator 7 isolated, asked once for a band, and in it since a tick. -/
def refreshing (band refresh : Nat) (asked : Bool) : State :=
  (run.setAcc 7 fun a => { a with isoEn := true }).setBand 7 fun b => { b with
    band := band, refresh := refresh, refreshed := asked, calmSince := 99900000, mildSince := 99900000 }

/-- What a refresh request needs besides its cause. -/
def mayRefresh (s : State) : Bool :=
  s.acc[(7 : Acc)].isoEn && decide (1 ≤ chState s 7) && !s.twb.port[mainPort 7].stuck && decide (s.cool.acc[(7 : Acc)].retryTick ≤ s.sys.tick)

theorem test_hyp_SensorAndLeakRows :
    (let s := run.setThm 23 fun t => { t with map := 0x10000, outSince := some 99995000 }
     s.cool.thm[(23 : Fin 24)].outSince = some 99995000 ∧ roleOf s 23 ≠ 0 ∧ s.cool.thm[(23 : Fin 24)].failed = false ∧
       99995000 + 5000 ≤ s.sys.tick) ∧
    (let s := run.setThm 23 fun t => { t with inSince := some 99000000, failed := true }
     s.cool.thm[(23 : Fin 24)].inSince = some 99000000 ∧ s.cool.thm[(23 : Fin 24)].failed = true ∧
       99000000 + 1000000 ≤ s.sys.tick) ∧
    (let s := run.setBand 7 fun b => { b with failed := true, tableMax := false, failTick := 99990000 }
     s.cool.acc[(7 : Acc)].failed = true ∧ s.cool.acc[(7 : Acc)].tableMax = false ∧
       s.cool.acc[(7 : Acc)].failTick + 10000 ≤ s.sys.tick) ∧
    (mayRefresh (refreshing 3 0 true) = true ∧ 0 < refreshFor 3 ∧ mayRefresh (refreshing 2 0 false) = true ∧
      (refreshing 2 0 false).cool.acc[(7 : Acc)].refreshed = false) ∧
    (mayRefresh (refreshing 2 1 true) = true ∧ (refreshing 2 1 true).cool.acc[(7 : Acc)].refreshed = true ∧
      (refreshing 2 1 true).cool.acc[(7 : Acc)].calmSince + 100000 ≤ (refreshing 2 1 true).sys.tick) ∧
    (mayRefresh (refreshing 3 2 true) = true ∧ (refreshing 3 2 true).cool.acc[(7 : Acc)].refreshed = true ∧
      (refreshing 3 2 true).cool.acc[(7 : Acc)].mildSince + 100000 ≤ (refreshing 3 2 true).sys.tick) ∧
    (let s := run.modCool fun c => { c with thm := Vector.ofFn fun i : Fin 24 => { c.thm[i] with failed := true } }
     critVote s ≠ 0 ∧ s.cool.crit = false ∧ s.saf.started = true) ∧
    (run.sys.tick % 5000 = 0 ∧ leakUsed run 9 = true ∧ leakUsed (run.setLeak 9 fun l => { l with used := false }) 9 = false) ∧
    (let s := (run.setLeak 7 fun l => { l with confirmed := false, wetRun := 4 }).setLeak 6 fun l => { l with latch := true }
     leakUsed s 7 = true ∧ s.cool.leak[(7 : Fin 10)].confirmed = false ∧ 4 ≤ s.cool.leak[(7 : Fin 10)].wetRun ∧
       zoneWet s 6 = true) ∧
    (let s := run.setLeak 9 fun l => { l with failed := false, openRun := 31 }
     leakUsed s 9 = true ∧ s.cool.leak[(9 : Fin 10)].failed = false ∧ 31 ≤ s.cool.leak[(9 : Fin 10)].openRun) ∧
    (let s := run.setLeak 9 fun l => { l with failed := true, dryRun := 201 }
     leakUsed s 9 = true ∧ s.cool.leak[(9 : Fin 10)].failed = true ∧ 201 ≤ s.cool.leak[(9 : Fin 10)].dryRun) := by decide +kernel

theorem test_hyp_SafeAndFaultLineRows :
    (let s := run.modSaf fun f => { f with ringTwice := 8 }
     s.saf.safe = false ∧ s.saf.ringTwice ≠ 0 ∧ s.saf.ringLow = false ∧ s.saf.started = true) ∧
    (let s := (run.modSaf fun f => { f with ringLow := true }).modSys fun y => { y with paceLow := true }
     s.saf.safe = false ∧ s.saf.ringLow = true ∧ s.sys.paceLow = true) ∧
    (run.saf.ringLow = false ∧ run.saf.ringTwice = 0 ∧ diverges .handshake = true ∧ diverges (.unmatched 500) = true ∧
      diverges (.silent 500) = true) ∧
    (let s := run.modSaf fun f => { f with bothSince := some 99990000 }
     s.saf.safe = false ∧ s.saf.bothSince = some 99990000 ∧ 99990000 + 10000 ≤ s.sys.tick ∧ ∃ n, chState s n ≠ 0) ∧
    (let s := run.modSaf fun f => { f with safe := true, cause := 3, causeTick := 99900000 }
     s.saf.safe = true ∧ s.rack.trayfltDrive = false ∧ s.saf.causeTick + 100000 ≤ s.sys.tick ∧ ∃ n, chState s n ≠ 0) ∧
    run.rack.rackfltDrive = false := by decide +kernel

/-- The CXL link up, with or without its configuration. -/
def linked (loaded : Bool) : State := run.modLk fun l => { l with rate := 4, width := 4, perstN := true, configLoaded := loaded }

theorem test_hyp_ClockAndLinkRows :
    (run.sys.refclkLost = false ∧ run.sys.refclkTick + 10000 ≤ run.sys.tick ∧ run.sys.boot ≠ .porst) ∧
    (let s := run.modSys fun y => { y with refclkLost := true }
     s.sys.refclkLost = true ∧ 2 ≤ chState s 7 ∧ s.srs.link[(7 : Acc)].state = 0) ∧
    (let s := run.modLk fun l => { l with perstN := false }; s.link.perstN = false) ∧
    (let s := run.modLk fun l => { l with perstN := true, rate := 0 }
     (4 : Fin 7).1 ≤ 4 ∧ (4 : Fin 5) ≠ 0 ∧ s.link.perstN = true ∧ s.sys.refclkLost = false ∧ s.sys.boot ≠ .porst ∧
       s.link.rate = 0) ∧
    ((linked false).link.rate ≠ 0 ∧ (linked false).link.configLoaded = false ∧ (linked true).link.rate ≠ 0 ∧
      (linked true).link.configLoaded = true ∧ (0xB : BitVec 12).toNat / 4 = 2) ∧
    (let s := run.modNet fun n => { n with rate := n.rate.set 1 2 }; s.net.rate[(1 : Fin 2)] ≠ 0 ∧ run.net.rate[(1 : Fin 2)] ≠ 2) ∧
    (State.reset.sys.memTrained = false ∧ State.reset.sys.boot ≠ .porst ∧ running State.reset = false) ∧
    (let s := run.modLk fun l => { l with hot := true, coolRun := 16 }; s.link.hot = true ∧ 16 ≤ s.link.coolRun) ∧
    (let s := run.modLk fun l => { l with hot := false, hotRun := 16 }; s.link.hot = false ∧ 16 ≤ s.link.hotRun) := by
  decide +kernel

/-- The SPDM responder of the mailbox after NEGOTIATE_ALGORITHMS, with a session. -/
def spdmUp (e : Bool) : State := (linked true).modSec fun c => { c with
  spdm := c.spdm.set 1 { c.spdm[(1 : Fin 2)] with version := true, caps := true, algs := true, session := some (5, e) } }

theorem test_hyp_SpdmRows :
    (spdmReady .doe (spdmUp false) = true ∧ (spdmUp false).sec.spdm[pathIx .doe].version = true ∧
      (spdmUp false).sec.spdm[pathIx .doe].caps = true ∧ (spdmUp false).sec.spdm[pathIx .doe].algs = true ∧
      (spdmUp false).sec.spdm[pathIx .doe].session = some (5, false)) ∧
    (spdmReady .doe (spdmUp true) = true ∧ (spdmUp true).sec.spdm[(1 : Fin 2)].session = some (5, true)) ∧
    (let s := run.modTwb fun w => { w with eid := 8 }; spdmReady .mctp s = true) := by decide +kernel

/-- `up` with an MCTP endpoint ID. -/
def mctpUp : State := (staged 0 true []).modTwb fun w => { w with eid := 8 }

theorem test_hyp_MctpAndPldmRows :
    (running mctpUp = true ∧ mctpUp.twb.eid ≠ 0 ∧ mctpUp.nv.lc ≠ 4 ∧ running State.reset = false) ∧
    (let c := Cmd.fwStage 2 1 0 4096 [0xFF]
     present mctpUp c = true ∧ paramsOk mctpUp c = true ∧ pldmReason mctpUp c = none) ∧
    (present mctpUp (.fwVerify 2) = true ∧ paramsOk mctpUp (.fwVerify 2) = true ∧ pldmReason mctpUp (.fwVerify 2) = none) ∧
    (let c := Cmd.fwActivate 0 1 0
     present mctpUp c = true ∧ paramsOk mctpUp c = true ∧ pldmReason mctpUp c = none ∧
       mctpUp.sec.stage[(0 : Fin 3)].verified = true ∧ mctpUp.sec.bootSlot ≠ 1 ∧ inTrial mctpUp = false ∧
       mctpUp.sec.goldenBad[(0 : Fin 3)] = false ∧ activating mctpUp = false) := by decide +kernel

/-- PLDM's VerifyComplete, for an image that the checks of Config accept. -/
theorem test_hyp_PldmVerify (b : List Byte) (h : b ≠ []) (v : verifyImage up 2 b = 1) (lo : imgEpochMin b ≤ up.sec.committed)
    (hi : up.sec.committed ≤ imgEpochMax b) (ok : versionOk up 2 b = true) :
    let s := (staged 2 false b).modTwb fun w => { w with eid := 8 }
    running s = true ∧ s.twb.eid ≠ 0 ∧ s.nv.lc ≠ 4 ∧ (2 : Byte).toNat = (2 : Fin 3).1 ∧ present s (.fwVerify 2) = true ∧
      paramsOk s (.fwVerify 2) = true ∧ pldmReason s (.fwVerify 2) = none ∧ stageFull s.sec.stage[(2 : Fin 3)] = true ∧
      verifyImage s 2 s.sec.stage[(2 : Fin 3)].data = 1 ∧ imgEpochMin s.sec.stage[(2 : Fin 3)].data ≤ s.sec.committed ∧
      s.sec.committed ≤ imgEpochMax s.sec.stage[(2 : Fin 3)].data ∧ versionOk s 2 s.sec.stage[(2 : Fin 3)].data = true := by
  refine ⟨rfl, (by decide : (8 : Byte) ≠ 0), (by decide : (0 : Nat) ≠ 4), rfl, rfl, rfl, rfl, ?_, v, lo, hi, ok⟩
  have : b.length ≠ 0 := fun e => h (List.length_eq_zero_iff.mp e)
  change (b.length != 0 && b.length == b.length) = true
  simp [this]

theorem test_hyp_EveryStepKeepsTheInvariant : cellsWf run.mbx.mem = true ∧ cellsWf run.link.config = true ∧
    96 ≤ run.sys.vidDuty ∧ run.sys.vidDuty ≤ 224 ∧ run.mbx.genDiv ≤ 1000 ∧ step run = .next run :=
  ⟨by decide +kernel, by decide +kernel, by decide +kernel, by decide +kernel, by decide +kernel, rfl⟩

/-! Small steps. Expected values are the manual's: the rule stands in each name's comment. -/

/-- A step answers a next state that has a property. -/
def nextHas (o : Host.Outcome State Fault Refusal) (p : State → Bool) : Bool :=
  match o with
  | .next t => p t
  | _ => false

/-- 02 R36: one tick more. -/
theorem test_event_tick : nextHas (exec (.eventTick (tickOf 0)) up) (fun t => t.sys.tick == 100000001) = true := by decide +kernel

/-- 01 R30: a host write to the CXL window counts and does nothing. -/
theorem test_cxl_write : nextHas (exec (.cxlMemWrite 5) up) (fun t => t.sys.cxlWdrop == 1) = true := by decide +kernel

/-- 14 R419: GEN_DIV keeps its value when 1,001 is written, and takes 1,000. -/
theorem test_gen_div : nextHas (exec (.registerWrite 0x1004 1001) up) (fun t => t.mbx.genDiv == up.mbx.genDiv) = true ∧
    nextHas (exec (.registerWrite 0x1004 1000) up) (fun t => t.mbx.genDiv == 1000) = true := by decide +kernel

/-- 14 R420: a word of a command area, the low byte at the low address. -/
theorem test_command_area : nextHas (exec (.registerWrite 0x6040 0x11223344) up)
    (fun t => cellsRead t.mbx.mem 0x6040 4 == [0x44, 0x33, 0x22, 0x11]) = true := by decide +kernel

/-- 14 R422: a GO write with another SEQ is counted in GO_MISMATCH, one to a busy mailbox in GO_BUSY. -/
theorem test_mbx_go : nextHas (exec (.mbxGo 0 7) up) (fun t => t.mbx.box[(0 : Fin 2)].goMismatch == 1) = true ∧
    nextHas (exec (.mbxGo 0 7) (up.setBox 0 fun b => { b with busy := true }))
      (fun t => t.mbx.box[(0 : Fin 2)].goBusy == 1) = true := by decide +kernel

/-- 10 R305: SRS_HEAD of an empty queue is all ones and an UNDERRUN. -/
theorem test_head_empty : nextHas (exec (.srsHeadRead 3) up) (fun t => t.srs.link[(3 : Acc)].underrun == 1 &&
    t.out == [.answer (List.replicate 8 0xFF)]) = true := by decide +kernel

/-- 04 R118, R119: a qualified rise in rack state 14 leads to state 1. -/
theorem test_rise_wraps : nextHas (exec .seqsyncRise (rackAt 14 false)) (fun t => t.rack.state == 1 && !t.rack.driving) = true := by
  decide +kernel

/-- 04 R121: a pulse of 200 us on the leader in state 1 leads to state 2, one of 199 us is counted. -/
theorem test_pulse : nextHas (exec (.seqsyncPulse 200) up) (fun t => t.rack.state == 2) = true ∧
    nextHas (exec (.seqsyncPulse 199) up) (fun t => t.rack.state == 1 && t.rack.badPulses == 1) = true := by decide +kernel

/-- 04 R114: TRAYFLT_N takes every channel to S0 at once, and the power state is OFF. -/
theorem test_trayflt : nextHas (exec .trayflt run) (fun t => chState t 7 == 0 && pstate t == .off) = true := by decide +kernel

/-- 17 R516, 01 R16: a ring twice below its floor at 0.85 V is SAFE with cause 3. -/
theorem test_pace_low : nextHas (exec .paceLow (run.modSaf fun f => { f with ringTwice := 1 }))
    (fun t => t.saf.safe && t.saf.cause == 3 && t.crz.chan[accChan 7].target == 0) = true := by decide +kernel

/-- 13 R386: Linear11, exponent in the top five bits: 80 x 2 ^ -1, and the most negative mantissa. -/
theorem test_linear11 : linear11 0xF850 = 40 ∧ linear11 0x0400 = -1024 := by decide +kernel

/-- 15 R448: the store write done, no command waits any more. -/
theorem test_store_done : nextHas (exec (.configStoreWriteDone true) up) (fun t => t.rcd.storeQ == []) = true := by decide +kernel

/-- 10 R285: CRC-8 with polynomial 0x07 and initial value 0, and CRC-32C, on the digits 1 to 9 (the published check values of the
two codes). -/
theorem test_crcs : crc8 (asciiBytes "123456789") = 0xF4 ∧ crc32c (asciiBytes "123456789") = 0xE3069283 := by decide +kernel

end Sys2Proof.Tests
end

section
/-! SUPPORT. Register writes through BAR0 and reads of its pages (01 R33; 14 R419, R420, R425; 02 R38). -/

namespace Sys2Proof.Machine

open Sys2Proof

/-! Writes: one equation for each range of BAR0 that takes data. -/

theorem exec_registerWrite (o : BitVec 16) (d : Word) (s : State) :
    exec (.registerWrite o d) s = execRegisterWrite o d s := rfl

/-- A word of a command area goes to BAR0 memory (14 R420). -/
theorem registerWrite_commandArea (o : BitVec 16) (d : Word) (s : State)
    (h : (0x4000 ≤ o.toNat / 4 * 4 ∧ o.toNat / 4 * 4 < 0x5000) ∨ (0x6000 ≤ o.toNat / 4 * 4 ∧ o.toNat / 4 * 4 < 0x7000)) :
    exec (.registerWrite o d) s = .next (memWrite (o.toNat / 4 * 4) d s) := by
  simp (disch := omega) only [exec_registerWrite, execRegisterWrite, if_neg, if_pos]

theorem registerWrite_sysStatus (o : BitVec 16) (d : Word) (s : State) (h : o.toNat / 4 * 4 = 0x18) :
    exec (.registerWrite o d) s = .next (s.modSys fun y => { y with
      memEccUe := y.memEccUe && !fldB d 6, paceLow := y.paceLow && !fldB d 5,
      refclkWasLost := y.refclkWasLost && !fldB d 3, lockViol := y.lockViol && !fldB d 2 }) := by
  simp (disch := omega) only [exec_registerWrite, execRegisterWrite, if_pos]

theorem registerWrite_evt (o : BitVec 16) (d : Word) (s : State) (h : o.toNat / 4 * 4 = 0x1008) :
    exec (.registerWrite o d) s =
      .next (hattnCheck (s.modMbx fun m => { m with evt := m.evt &&& ~~~(d.setWidth 16) })) := by
  simp (disch := omega) only [exec_registerWrite, execRegisterWrite, if_neg, if_pos]

theorem registerWrite_evtEn (o : BitVec 16) (d : Word) (s : State) (h : o.toNat / 4 * 4 = 0x100C) :
    exec (.registerWrite o d) s = .next (hattnCheck (s.modMbx fun m => { m with evtEn := d.setWidth 16 })) := by
  simp (disch := omega) only [exec_registerWrite, execRegisterWrite, if_neg, if_pos]

theorem registerWrite_genDiv (o : BitVec 16) (d : Word) (s : State) (h : o.toNat / 4 * 4 = 0x1004) :
    exec (.registerWrite o d) s =
      .next (if 1000 < fld d 0 16 then s else s.modMbx fun m => { m with genDiv := fld d 0 16 }) := by
  simp (disch := omega) only [exec_registerWrite, execRegisterWrite, if_neg, if_pos]

/-! A word in BAR0 memory. -/

theorem memWrite_frame (a : Nat) (w : Word) (s : State) :
    memWrite a w s = { s with mbx := { s.mbx with mem := (memWrite a w s).mbx.mem } } := rfl

/-- The four bytes of a word, the lowest first, stand at its address. -/
theorem cellRead_memWrite (a : Nat) (w : Word) {s : State} (h : cellsWf s.mbx.mem = true) (i : Fin 4) :
    cellRead (memWrite a w s).mbx.mem (a + i.1) = BitVec.ofNat 8 (w.toNat / 2 ^ (8 * i.1)) := by
  have := cellRead_cellsWrite a ((List.range 4).map (byteOf w)) h i.1 (by simp)
  refine this.trans (BitVec.eq_of_toNat_eq ?_)
  simp [byteOf, fld]

/-- The bytes beside a word keep their value. -/
theorem cellRead_memWrite_outside (a : Nat) (w : Word) {s : State} (h : cellsWf s.mbx.mem = true) {x : Nat}
    (hx : x < a ∨ a + 4 ≤ x) : cellRead (memWrite a w s).mbx.mem x = cellRead s.mbx.mem x :=
  cellRead_cellsWrite_outside a _ h x (by simpa using hx)

theorem memWrite_wf (a : Nat) (w : Word) {s : State} (h : cellsWf s.mbx.mem = true) :
    cellsWf (memWrite a w s).mbx.mem = true := cellsWrite_wf a _ h

/-! Reads of the SYS_ page. -/

/-- A read inside one field of the SYS_ page returns those bytes of the field. -/
theorem bar0Read_sysField {s : State} {pre field post : List Byte} (h : sysPage s = pre ++ field ++ post)
    (hp : pre.length + field.length ≤ 0x100) (k n : Nat) (hk : k + n ≤ field.length) :
    bar0Read s (pre.length + k) n = (field.drop k).take n := by
  refine List.ext_getElem (by simp [bar0Read]; omega) fun i h1 _ => ?_
  have hi : i < n := by simpa [bar0Read] using h1
  have hlt : pre.length + k + i < 0x100 := by omega
  have hf : k + i < field.length := by omega
  simp only [bar0Read, List.getElem_map, List.getElem_range, bar0Byte, if_pos hlt, h, List.append_assoc, List.getElem_take,
    List.getElem_drop]
  rw [List.getD_append_right _ _ _ _ (by omega), List.getD_append _ _ _ _ (by omega), List.getD_eq_getElem _ _ (by omega)]
  congr 1
  omega

/-- TICK stands at 0x20 of the SYS_ page, in 8 bytes. -/
theorem sysPage_tick (s : State) :
    ∃ pre post, sysPage s = pre ++ leBytes 8 s.sys.tick ++ post ∧ pre.length = 0x20 :=
  ⟨w32 Config.sysId.toNat ++ w32 Config.sysRev.toNat ++ w64 s.nv.serial.toNat ++ w32 (capUnits s) ++ w32 (fwVer s)
    ++ w32 (sysStatusW s) ++ w32 s.sys.cxlWdrop,
    w64 s.rcd.gen ++ w32 (strapW s) ++ w32 (netW s) ++ w32 (cxlW s), by simp only [sysPage, List.append_assoc]; rfl,
    by simp [w32, w64]⟩

/-- GEN stands at 0x28 of the SYS_ page, in 8 bytes. -/
theorem sysPage_gen (s : State) :
    ∃ pre post, sysPage s = pre ++ leBytes 8 s.rcd.gen ++ post ∧ pre.length = 0x28 :=
  ⟨w32 Config.sysId.toNat ++ w32 Config.sysRev.toNat ++ w64 s.nv.serial.toNat ++ w32 (capUnits s) ++ w32 (fwVer s)
    ++ w32 (sysStatusW s) ++ w32 s.sys.cxlWdrop ++ w64 s.sys.tick,
    w32 (strapW s) ++ w32 (netW s) ++ w32 (cxlW s), by simp only [sysPage, List.append_assoc]; rfl,
    by simp [w32, w64]⟩

/-- A read inside TICK. -/
theorem bar0Read_tick (s : State) (k n : Nat) (hk : k + n ≤ 8) :
    bar0Read s (0x20 + k) n = ((leBytes 8 s.sys.tick).drop k).take n := by
  obtain ⟨pre, post, h, hl⟩ := sysPage_tick s
  rw [← hl]
  exact bar0Read_sysField h (by simp [hl]) k n (by simpa using hk)

/-- A read inside GEN. -/
theorem bar0Read_gen (s : State) (k n : Nat) (hk : k + n ≤ 8) :
    bar0Read s (0x28 + k) n = ((leBytes 8 s.rcd.gen).drop k).take n := by
  obtain ⟨pre, post, h, hl⟩ := sysPage_gen s
  rw [← hl]
  exact bar0Read_sysField h (by simp [hl]) k n (by simpa using hk)

/-- The ranges between the pages of BAR0 read 0 (01 R33). -/
theorem bar0Byte_reserved (a : Nat) (s : State) (h : (0x100 ≤ a ∧ a < 0x1000) ∨ (0x1100 ≤ a ∧ a < 0x2000) ∨
    (0x2100 ≤ a ∧ a < 0x2800) ∨ (0x2808 ≤ a ∧ a < 0x4000)) : bar0Byte s a = 0 := by
  unfold bar0Byte
  simp (disch := omega) only [if_neg]

/-- Settles O33: each range of BAR0 has its equation, and a word in memory is read back by the laws of the cell lists. -/
theorem registerWriteRow : Obligations.RegisterWriteRow := by
  unfold Obligations.RegisterWriteRow
  refine ⟨fun o d s ho hw => ?_, fun o d s ho => registerWrite_sysStatus o d s ho, fun o d s ho => ?_,
    fun o d s ho => ⟨_, registerWrite_evtEn o d s ho, rfl⟩, fun o d s ho => registerWrite_genDiv o d s ho, fun s => ?_,
    bar0Byte_reserved⟩
  · exact ⟨_, registerWrite_commandArea o d s ho, memWrite_frame .., cellRead_memWrite _ d hw,
      fun a ha => cellRead_memWrite_outside _ d hw ha, memWrite_wf _ d hw⟩
  · refine ⟨_, registerWrite_evt o d s ho, rfl, fun hb hserved => ?_⟩
    simp [hattnCheck, hb, hserved]
  · refine ⟨?_, ?_, bar0Read_tick s 0 4 (by omega), ?_, bar0Read_gen s 0 4 (by omega), ?_⟩
    · simpa [List.take_of_length_le] using bar0Read_tick s 0 8 le_rfl
    · simpa [List.take_of_length_le] using bar0Read_gen s 0 8 le_rfl
    · simpa [List.take_of_length_le] using bar0Read_tick s 4 4 le_rfl
    · simpa [List.take_of_length_le] using bar0Read_gen s 4 4 le_rfl

end Sys2Proof.Machine
end

section
/-! SUPPORT. The Sorus links as REFCLK moves them (01 R17; 10 R286, R303), and what of the state their operations can touch. -/

namespace Sys2Proof.Machine

open Sys2Proof

/-- What holds at one index of a fold: `p` holds up to its step, which turns it into `q`, and the other steps keep both. -/
theorem forAll_at {α : Type} (p q : State → Prop) (f : α → State → State) {a : α} {l : List α} (ha : a ∈ l)
    (hp : ∀ x s, p s → p (f x s)) (hpq : ∀ s, p s → q (f a s)) (hq : ∀ x s, q s → q (f x s)) {s : State} (hs : p s) :
    q (forAll l f s) := by
  induction l generalizing s with
  | nil => exact absurd ha List.not_mem_nil
  | cons b l ih =>
    rcases List.mem_cons.1 ha with rfl | ha
    · exact forAll_inv q f l hq _ (hpq s hs)
    · exact ih ha (hp b s hs)

theorem mem_accList (n : Acc) : n ∈ accList := List.mem_finRange n

/-! What the operations on links touch. -/

/-- From `s` to `t` only the record, the accelerator pins, the Frond slots, the links and the words sent may differ, and all that
waits in the merger still waits. -/
structure LinksOnly (s t : State) : Prop where
  frame : t = { s with rcd := t.rcd, acc := t.acc, frd := t.frd, srs := t.srs, out := t.out }
  waits : ∀ w ∈ s.rcd.merger, w ∈ t.rcd.merger

namespace LinksOnly

/-- A step that leaves the record alone too. -/
theorem of_frame {s t : State} (h : t = { s with acc := t.acc, frd := t.frd, srs := t.srs, out := t.out }) : LinksOnly s t :=
  ⟨by rw [h], fun w hw => by rw [h]; exact hw⟩

theorem refl (s : State) : LinksOnly s s := of_frame rfl

theorem trans {s t u : State} (h : LinksOnly s t) (h' : LinksOnly t u) : LinksOnly s u :=
  ⟨by rw [h'.frame, h.frame], fun w hw => h'.waits w (h.waits w hw)⟩

theorem emit (s : State) (cls unit obj code detail : Nat) : LinksOnly s (emit s cls unit obj code detail) :=
  ⟨rfl, fun _ hw => mem_emit hw ..⟩

theorem forAll {α : Type} {f : α → State → State} (h : ∀ x s, LinksOnly s (f x s)) (l : List α) (s : State) :
    LinksOnly s (forAll l f s) :=
  forAll_inv (LinksOnly s) f l (fun x t ht => ht.trans (h x t)) s (refl s)

theorem sys {s t : State} (h : LinksOnly s t) : t.sys = s.sys := by rw [h.frame]
theorem mbx {s t : State} (h : LinksOnly s t) : t.mbx = s.mbx := by rw [h.frame]
theorem net {s t : State} (h : LinksOnly s t) : t.net = s.net := by rw [h.frame]
theorem crz {s t : State} (h : LinksOnly s t) : t.crz = s.crz := by rw [h.frame]
theorem link {s t : State} (h : LinksOnly s t) : t.link = s.link := by rw [h.frame]
theorem nv {s t : State} (h : LinksOnly s t) : t.nv = s.nv := by rw [h.frame]

theorem raised {s t : State} (h : LinksOnly s t) {cls unit obj code detail : Nat} (hr : Raised s cls unit obj code detail) :
    Raised t cls unit obj code detail := hr.mono (by rw [h.sys]) h.waits

end LinksOnly

theorem sendWord_linksOnly (n : Acc) (ty : Byte) (body : List Byte) (s : State) : LinksOnly s (sendWord n ty body s) := by
  refine .of_frame ?_
  unfold sendWord
  split
  · rfl
  · split <;> rfl

theorem setLink_linksOnly (n : Acc) (f : LinkState → LinkState) (s : State) : LinksOnly s (s.setLink n f) := .of_frame rfl

theorem resumeCheck_linksOnly (n : Acc) (s : State) : LinksOnly s (resumeCheck n s) := by
  unfold resumeCheck
  simp only
  split
  · exact (setLink_linksOnly n _ s).trans (sendWord_linksOnly ..)
  · exact .refl s

theorem flushQueue_linksOnly (n : Acc) (s : State) : LinksOnly s (flushQueue n s) :=
  (setLink_linksOnly n _ s).trans (resumeCheck_linksOnly ..)

/-- The downstream lane lost: an event at most, and no word, since it carries none. -/
theorem setDsLost_true_linksOnly (n : Acc) (s : State) : LinksOnly s (setDsLost n true s) := by
  have hpin : LinksOnly s (s.setAcc n fun a => { a with forceLane := true }) := .of_frame rfl
  unfold setDsLost
  simp only [if_true]
  split
  · exact hpin
  · exact (hpin.trans (.emit ..)).trans (setLink_linksOnly ..)

theorem linkStart_linksOnly (n : Acc) (s : State) : LinksOnly s (linkStart n s) := by
  unfold linkStart
  simp only
  have hflush : LinksOnly s (if s.srs.link[n].flushDue then flushQueue n s else s) := by
    split
    · exact flushQueue_linksOnly n s
    · exact .refl s
  exact ((hflush.trans (.of_frame rfl)).trans (setLink_linksOnly ..)).trans (setDsLost_true_linksOnly ..)

theorem linkDown_linksOnly (n : Acc) (cause : Nat) (s : State) : LinksOnly s (linkDown n cause s) := by
  unfold linkDown
  split
  · exact .refl s
  · exact ((LinksOnly.emit ..).trans (setLink_linksOnly ..)).trans (setDsLost_true_linksOnly ..)

/-! The state of one link. -/

/-- State of link `n` (10 R286). -/
def linkStateOf (s : State) (n : Acc) : Nat := s.srs.link[n].state

/-- A change of link `m` is seen on link `m` only. -/
theorem linkStateOf_setLink (m n : Acc) (f : LinkState → LinkState) (s : State) :
    linkStateOf (s.setLink m f) n = if m = n then (f s.srs.link[n]).state else linkStateOf s n := by
  unfold linkStateOf
  by_cases h : m = n
  · subst h; simp [State.setLink]
  · have hv : m.1 ≠ n.1 := fun e => h (Fin.ext e)
    simp [State.setLink, h, Vector.getElem_set_ne _ _ hv]

/-- A change that leaves a link's state alone. -/
theorem linkStateOf_setLink_keep (m n : Acc) (f : LinkState → LinkState) (s : State)
    (hf : ∀ l, (f l).state = l.state := by exact fun _ => rfl) : linkStateOf (s.setLink m f) n = linkStateOf s n := by
  rw [linkStateOf_setLink]
  split
  · exact hf _
  · rfl

theorem linkStateOf_sendWord (m n : Acc) (ty : Byte) (body : List Byte) (s : State) :
    linkStateOf (sendWord m ty body s) n = linkStateOf s n := by
  unfold sendWord
  split
  · rfl
  · split
    · exact linkStateOf_setLink_keep m n _ s
    · rfl

theorem linkStateOf_resumeCheck (m n : Acc) (s : State) : linkStateOf (resumeCheck m s) n = linkStateOf s n := by
  unfold resumeCheck
  simp only
  split
  · exact (linkStateOf_sendWord ..).trans (linkStateOf_setLink_keep m n _ s)
  · rfl

theorem linkStateOf_flushQueue (m n : Acc) (s : State) : linkStateOf (flushQueue m s) n = linkStateOf s n :=
  (linkStateOf_resumeCheck ..).trans (linkStateOf_setLink_keep m n _ s)

theorem linkStateOf_setDsLost_true (m n : Acc) (s : State) : linkStateOf (setDsLost m true s) n = linkStateOf s n := by
  unfold setDsLost
  simp only [if_true]
  split
  · rfl
  · exact linkStateOf_setLink_keep m n _ _

/-- Training starts on its own link (10 R286). -/
theorem linkStateOf_linkStart (m n : Acc) (s : State) :
    linkStateOf (linkStart m s) n = if m = n then 1 else linkStateOf s n := by
  unfold linkStart
  simp only
  rw [linkStateOf_setDsLost_true, linkStateOf_setLink]
  split
  · rfl
  · split
    · exact linkStateOf_flushQueue m n s
    · rfl

/-- A link goes down alone (10 R286). -/
theorem linkStateOf_linkDown (m n : Acc) (cause : Nat) (s : State) :
    linkStateOf (linkDown m cause s) n = if m = n then 0 else linkStateOf s n := by
  unfold linkDown
  split
  next h =>
    split
    next e => subst e; exact h
    · rfl
  · rw [linkStateOf_setDsLost_true, linkStateOf_setLink]
    rfl

/-- Every link goes down with REFCLK (01 R17). -/
theorem linkStateOf_forAll_linkDown (n : Acc) (cause : Nat) (s : State) :
    linkStateOf (forAll accList (linkDown · cause) s) n = 0 :=
  forAll_at (fun _ => True) (fun s => linkStateOf s n = 0) _ (mem_accList n) (fun _ _ _ => trivial)
    (fun s _ => by rw [linkStateOf_linkDown, if_pos rfl])
    (fun m s h => by rw [linkStateOf_linkDown, h, ite_self]) trivial

/-- Training starts on a link that is down where it may (01 R17, 10 R286). -/
def retrain (n : Acc) (s : State) : State :=
  if linkAllowed s n && s.srs.link[n].state == 0 then linkStart n s else s

theorem retrain_linksOnly (n : Acc) (s : State) : LinksOnly s (retrain n s) := by
  unfold retrain
  split
  · exact linkStart_linksOnly n s
  · exact .refl s

theorem LinksOnly.linkAllowed {s t : State} (h : LinksOnly s t) (n : Acc) : linkAllowed t n = linkAllowed s n := by
  unfold Machine.linkAllowed chState
  rw [h.crz, h.sys]

/-- On link `n` a start, whichever link it is tried on, leaves the state or makes it training. -/
theorem linkStateOf_retrain (m n : Acc) (s : State) :
    linkStateOf (retrain m s) n = linkStateOf s n ∨ linkStateOf (retrain m s) n = 1 := by
  unfold retrain
  split
  · rw [linkStateOf_linkStart]
    split <;> simp
  · exact .inl rfl

theorem linkStateOf_retrain_self {n : Acc} {s : State} (ha : linkAllowed s n = true) (h : linkStateOf s n = 0) :
    linkStateOf (retrain n s) n = 1 := by
  have h' : s.srs.link[n].state = 0 := h
  rw [retrain, if_pos (by rw [ha, h']; rfl), linkStateOf_linkStart, if_pos rfl]

/-- With REFCLK back, every link that is down and may train does (01 R17; 10 R286). -/
theorem linkStateOf_forAll_retrain {n : Acc} {s : State} (ha : linkAllowed s n = true) (h : linkStateOf s n = 0) :
    linkStateOf (forAll accList retrain s) n = 1 := by
  have keep1 : ∀ m t, linkStateOf t n = 1 → linkStateOf (retrain m t) n = 1 :=
    fun m t h1 => (linkStateOf_retrain m n t).elim (·.trans h1) id
  refine forAll_at (fun t => linkAllowed t n = true ∧ (linkStateOf t n = 0 ∨ linkStateOf t n = 1))
    (fun t => linkStateOf t n = 1) _ (mem_accList n) (fun m t ⟨ht, hl⟩ => ⟨?_, ?_⟩) (fun t ⟨ht, hl⟩ => ?_) keep1 ⟨ha, .inl h⟩
  · rwa [(retrain_linksOnly m t).linkAllowed]
  · rcases linkStateOf_retrain m n t with e | e
    · rwa [e]
    · exact .inr e
  · exact hl.elim (linkStateOf_retrain_self ht) (keep1 n t)

end Sys2Proof.Machine
end

section
/-! SUPPORT. REFCLK, LPDDR5X and the external links (01 R17, R29, R551; 02 R37; 18 R535 to R549): CXL, the two Ethernet ports and
their messages. -/

namespace Sys2Proof.Machine

open Sys2Proof

/-! What the external ports touch. -/

/-- From `s` to `t` only the record, the network and the CXL link may differ, and all that waits in the merger still waits. -/
structure PortsOnly (s t : State) : Prop where
  frame : t = { s with rcd := t.rcd, net := t.net, link := t.link }
  waits : ∀ w ∈ s.rcd.merger, w ∈ t.rcd.merger

namespace PortsOnly

/-- A step that leaves the record alone too. -/
theorem of_frame {s t : State} (h : t = { s with net := t.net, link := t.link }) : PortsOnly s t :=
  ⟨by rw [h], fun w hw => by rw [h]; exact hw⟩

theorem trans {s t u : State} (h : PortsOnly s t) (h' : PortsOnly t u) : PortsOnly s u :=
  ⟨by rw [h'.frame, h.frame], fun w hw => h'.waits w (h.waits w hw)⟩

theorem emit (s : State) (cls unit obj code detail : Nat) : PortsOnly s (emit s cls unit obj code detail) :=
  ⟨rfl, fun _ hw => mem_emit hw ..⟩

theorem sys {s t : State} (h : PortsOnly s t) : t.sys = s.sys := by rw [h.frame]
theorem mbx {s t : State} (h : PortsOnly s t) : t.mbx = s.mbx := by rw [h.frame]
theorem crz {s t : State} (h : PortsOnly s t) : t.crz = s.crz := by rw [h.frame]
theorem nv {s t : State} (h : PortsOnly s t) : t.nv = s.nv := by rw [h.frame]

theorem raised {s t : State} (h : PortsOnly s t) {cls unit obj code detail : Nat} (hr : Raised s cls unit obj code detail) :
    Raised t cls unit obj code detail := hr.mono (by rw [h.sys]) h.waits

end PortsOnly

/-! The CXL link. -/

/-- A CXL link that is down has only IDE to lose. -/
theorem cxlDown_of_down {s : State} (h : s.link.rate = 0) :
    cxlDown s = s.modLk fun k => { k with ide := false, ideKeys := [] } := if_pos h

/-- A CXL link that is up goes down with its event (18 R542). -/
theorem cxlDown_of_up {s : State} (h : s.link.rate ≠ 0) :
    cxlDown s = emit (s.modLk fun k => { k with
      ide := false, ideKeys := [], rate := 0, width := 0, flit256 := false, downCount := min 255 (k.downCount + 1) })
      7 9 0xFF 0x1202 0 := if_neg h

theorem cxlDown_portsOnly (s : State) : PortsOnly s (cxlDown s) := by
  by_cases h : s.link.rate = 0
  · rw [cxlDown_of_down h]; exact .of_frame rfl
  · rw [cxlDown_of_up h]; exact PortsOnly.trans (.of_frame rfl) (.emit ..)

theorem cxlDown_frame (s : State) : cxlDown s = { s with rcd := (cxlDown s).rcd, link := (cxlDown s).link } := by
  by_cases h : s.link.rate = 0
  · rw [cxlDown_of_down h]; rfl
  · rw [cxlDown_of_up h]; rfl

@[simp] theorem cxlDown_rate (s : State) : (cxlDown s).link.rate = 0 := by
  by_cases h : s.link.rate = 0
  · rw [cxlDown_of_down h]; exact h
  · rw [cxlDown_of_up h]; rfl

@[simp] theorem cxlDown_ideKeys (s : State) : (cxlDown s).link.ideKeys = [] := by
  by_cases h : s.link.rate = 0
  · rw [cxlDown_of_down h]; rfl
  · rw [cxlDown_of_up h]; rfl

theorem raised_cxlDown {s : State} (h : s.link.rate ≠ 0) : Raised (cxlDown s) 7 9 0xFF 0x1202 0 := by
  rw [cxlDown_of_up h]; exact raised_emit _ _ _ _ _ _ (by omega)

/-- The pending messages that leave are sent and no longer pending; nothing else changes (14 R427). -/
theorem msiFlush_frame (s : State) :
    msiFlush s = { s with out := (msiFlush s).out, mbx := { s.mbx with pba := (msiFlush s).mbx.pba } } := by
  refine forAll_inv (fun t => t = { s with out := t.out, mbx := { s.mbx with pba := t.mbx.pba } }) _ _ (fun v t ht => ?_) s rfl
  split
  · rw [ht]; rfl
  · exact ht

theorem Raised.msiFlush {s : State} {cls unit obj code detail : Nat} (h : Raised s cls unit obj code detail) :
    Raised (msiFlush s) cls unit obj code detail :=
  h.mono (by rw [msiFlush_frame]) fun w hw => by rw [msiFlush_frame]; exact hw

/-- The mask of one vector, after it is set or cleared. -/
theorem getLsbD_maskBit (w : BitVec 16) (v : Fin 16) (m : Bool) :
    (if m then w ||| BitVec.ofNat 16 (2 ^ v.1) else w &&& ~~~(BitVec.ofNat 16 (2 ^ v.1))).getLsbD v.1 = m := by
  have hv : (BitVec.ofNat 16 (2 ^ v.1)).getLsbD v.1 = true := by
    rw [BitVec.getLsbD_ofNat, Nat.testBit_two_pow_self, decide_eq_true v.2]; rfl
  cases m with
  | false => rw [if_neg Bool.false_ne_true, BitVec.getLsbD_and, BitVec.getLsbD_not, hv]; simp
  | true => rw [if_pos rfl, BitVec.getLsbD_or, hv, Bool.or_true]

/-- The class code of a CXL memory device stands in bytes 0x09 to 0x0B of configuration space (18 R538). -/
theorem configWord_classCode (s : State) (o : BitVec 12) (x : BitVec 32) (h : o.toNat / 4 = 2) :
    (configWord s o x).toNat / 256 = 0x050210 := by
  have hlow : x.toNat &&& 0xFF < 256 := Nat.lt_of_le_of_lt Nat.and_le_right (by omega)
  have hor : (0x05021000 ||| x.toNat &&& 0xFF) >>> 8 = 0x050210 := by
    rw [Nat.shiftRight_or_distrib, Nat.shiftRight_eq_div_pow _ 8, Nat.shiftRight_eq_div_pow _ 8, Nat.div_eq_of_lt hlow]
    rfl
  simpa [configWord, h, Nat.shiftRight_eq_div_pow] using hor

/-! Ethernet. -/

theorem ethRate_of_ne {p : Fin 2} {r : Nat} {s : State} (h : s.net.rate[p] ≠ r) :
    ethRate p r s = emit (s.modNet fun n => { n with rate := n.rate.set p r }) 7 9 p.1 0x1203 r := if_neg h

theorem ethRate_of_eq {p : Fin 2} {r : Nat} {s : State} (h : s.net.rate[p] = r) : ethRate p r s = s := if_pos h

/-- A port takes its rate, and only the record shows more. -/
theorem ethRate_frame (p : Fin 2) (r : Nat) (s : State) :
    ethRate p r s = { s with rcd := (ethRate p r s).rcd, net := { s.net with rate := s.net.rate.set p r } } := by
  by_cases h : s.net.rate[p] = r
  · have hset : s.net.rate.set p r = s.net.rate := by subst h; simp
    rw [ethRate_of_eq h, hset]
  · rw [ethRate_of_ne h]; rfl

theorem ethRate_portsOnly (p : Fin 2) (r : Nat) (s : State) : PortsOnly s (ethRate p r s) := by
  by_cases h : s.net.rate[p] = r
  · rw [ethRate_of_eq h]; exact .of_frame rfl
  · rw [ethRate_of_ne h]; exact PortsOnly.trans (.of_frame rfl) (.emit ..)

theorem ethRate_net (p : Fin 2) (r : Nat) (s : State) : (ethRate p r s).net = { s.net with rate := s.net.rate.set p r } := by
  rw [ethRate_frame]

@[simp] theorem ethRate_link (p : Fin 2) (r : Nat) (s : State) : (ethRate p r s).link = s.link := by rw [ethRate_frame]

/-- A port that changes its rate records it (18 R545). -/
theorem raised_ethRate {p : Fin 2} {r : Nat} {s : State} (h : s.net.rate[p] ≠ r) (hr : r < 65536) :
    Raised (ethRate p r s) 7 9 p.1 0x1203 r := by
  rw [ethRate_of_ne h]; exact raised_emit _ _ _ _ _ _ hr

/-! REFCLK. -/

/-- Every external link is down and may not train (01 R17). -/
def portsDown (s : State) : State :=
  ethRate 1 0 (ethRate 0 0 ((cxlDown s).modLk fun k => { k with mediaReady := false, training := false }))

theorem portsDown_portsOnly (s : State) : PortsOnly s (portsDown s) :=
  (((cxlDown_portsOnly s).trans (.of_frame rfl)).trans (ethRate_portsOnly 0 0 _)).trans (ethRate_portsOnly 1 0 _)

theorem portsDown_rate (s : State) (p : Fin 2) : (portsDown s).net.rate[p] = 0 := by
  unfold portsDown
  rw [ethRate_net, ethRate_net]
  match p with
  | 0 => simp
  | 1 => simp

theorem portsDown_link (s : State) :
    (portsDown s).link.rate = 0 ∧ (portsDown s).link.training = false ∧ (portsDown s).link.mediaReady = false := by
  simp [portsDown]

/-- SYS_ when REFCLK is lost: power-up steps stop, LPDDR5X refreshes itself (01 R17). -/
def clockLost (s : State) : State :=
  s.modSys fun y => { y with refclkLost := true, refclkWasLost := true, refclkSettled := false, memSelfRefresh := true }

theorem refclkLost_next {s : State} (h : s.sys.refclkLost = false) : exec .refclkLost s =
    .next (forAll accList (linkDown · 3) (portsDown (emit (clockLost s) 1 9 0xFF 0x0102 1))) :=
  if_neg (by simp [h])

/-- SYS_ when REFCLK is back (02 R37). -/
def clockBack (s : State) : State :=
  s.modSys fun y => { y with refclkLost := false, refclkTick := y.tick, memSelfRefresh := false }

/-- REFCLK back, and no lane started yet (01 R551). -/
def portsBack (s : State) : State :=
  (emit (clockBack s) 1 9 0xFF 0x0102 0).modLk fun k => { k with mediaReady := s.sys.memTrained, training := k.perstN }

theorem refclkReturn_next {s : State} (h : s.sys.refclkLost = true) :
    exec .refclkReturn s = .next (forAll accList retrain (portsBack s)) := if_neg (by simp [h])

/-! The rows. -/

/-- REFCLK_LOST (01 R17, R551). -/
theorem refclkLost_row (s : State) (h : s.sys.refclkLost = false) :
    ∃ t, exec .refclkLost s = .next t ∧ t.sys = { s.sys with
        refclkLost := true, refclkWasLost := true, refclkSettled := false, memSelfRefresh := true } ∧
      (∀ n : Acc, t.srs.link[n].state = 0) ∧ t.link.rate = 0 ∧ t.link.training = false ∧ t.link.mediaReady = false ∧
      (∀ p : Fin 2, t.net.rate[p] = 0) ∧ t.crz = s.crz ∧ t.mbx = s.mbx ∧ t.nv = s.nv ∧ Raised t 1 9 0xFF 0x0102 1 := by
  have hp := portsDown_portsOnly (emit (clockLost s) 1 9 0xFF 0x0102 1)
  have hl := LinksOnly.forAll (f := (linkDown · 3)) (fun n => linkDown_linksOnly n 3) accList
    (portsDown (emit (clockLost s) 1 9 0xFF 0x0102 1))
  obtain ⟨hrate, htrain, hready⟩ := portsDown_link (emit (clockLost s) 1 9 0xFF 0x0102 1)
  refine ⟨_, refclkLost_next h, ?_, fun n => linkStateOf_forAll_linkDown n 3 _, ?_, ?_, ?_, fun p => ?_, ?_, ?_, ?_, ?_⟩
  · rw [hl.sys, hp.sys]; rfl
  · rw [hl.link, hrate]
  · rw [hl.link, htrain]
  · rw [hl.link, hready]
  · rw [hl.net, portsDown_rate]
  · rw [hl.crz, hp.crz]; rfl
  · rw [hl.mbx, hp.mbx]; rfl
  · rw [hl.nv, hp.nv]; rfl
  · exact hl.raised (hp.raised (raised_emit _ _ _ _ _ _ (by omega)))

/-- REFCLK_RETURN (02 R37; 01 R551). -/
theorem refclkReturn_row (s : State) (h : s.sys.refclkLost = true) :
    ∃ t, exec .refclkReturn s = .next t ∧ t.sys = { s.sys with
        refclkLost := false, refclkTick := s.sys.tick, memSelfRefresh := false } ∧
      (∀ n : Acc, 2 ≤ chState s n → s.srs.link[n].state = 0 → t.srs.link[n].state = 1) ∧
      t.link = { s.link with mediaReady := s.sys.memTrained, training := s.link.perstN } ∧ t.crz = s.crz ∧ t.mbx = s.mbx ∧
      t.nv = s.nv ∧ Raised t 1 9 0xFF 0x0102 0 := by
  have hl := LinksOnly.forAll retrain_linksOnly accList (portsBack s)
  refine ⟨_, refclkReturn_next h, hl.sys, fun n hc h0 => ?_, hl.link, hl.crz, hl.mbx, hl.nv, ?_⟩
  · have hc' : 2 ≤ chState (portsBack s) n := hc
    exact linkStateOf_forAll_retrain (by rw [linkAllowed, decide_eq_true hc']; rfl) h0
  · have he : Raised (emit (clockBack s) 1 9 0xFF 0x0102 0) 1 9 0xFF 0x0102 0 := raised_emit _ _ _ _ _ _ (by omega)
    exact hl.raised (he.mono rfl fun _ hw => hw)

/-- PERST_N_ASSERT (18 R540). -/
theorem perstNAssert_row (s : State) : ∃ t, exec .perstNAssert s = .next t ∧ t.link.perstN = false ∧ t.link.training = false ∧
    t.link.rate = 0 ∧ t.link.config = [] ∧ t.link.ideKeys = [] ∧ t.mbx.msixEnable = false ∧ t.mbx.vecMask = 0xFFFF ∧
    t.mbx.pba = 0 ∧ t.mbx.evt = s.mbx.evt ∧ t.mbx.box = s.mbx.box ∧
    t = { s with rcd := t.rcd, link := t.link, mbx := t.mbx } ∧ (s.link.rate ≠ 0 → Raised t 7 9 0xFF 0x1202 0) := by
  have hm : (cxlDown s).mbx = s.mbx := (cxlDown_portsOnly s).mbx
  refine ⟨_, rfl, rfl, rfl, cxlDown_rate s, rfl, cxlDown_ideKeys s, rfl, rfl, rfl, by simp [hm], by simp [hm], ?_,
    fun h => ?_⟩
  · rw [cxlDown_frame]
    rfl
  · exact (raised_cxlDown h).mono rfl fun _ hw => hw

/-- CXL_LINK_UP (18 R538, R539, R542). -/
theorem cxlLinkUp_row (r : Fin 7) (w : Fin 5) (fl : Bool) (s : State) (h1 : 1 ≤ r.1) (h4 : r.1 ≤ 4) (hw : w ≠ 0)
    (hp : s.link.perstN = true) (hc : s.sys.refclkLost = false) (hb : s.sys.boot ≠ .porst) (hr : s.link.rate = 0) :
    ∃ t, exec (.cxlLinkUp r w fl) s = .next t ∧ Raised t 7 9 0xFF 0x1202 (16 * r.1 + w.1) ∧
      t = { s with rcd := t.rcd, out := t.out, mbx := { s.mbx with pba := t.mbx.pba }, link := { s.link with
        rate := r.1, width := w.1, flit256 := fl, training := false } } := by
  have hr0 : r ≠ 0 := fun e => by simp [e] at h1
  refine ⟨_, if_neg (by simp [hr0, hw, hp, hc, hb, hr]; omega), (raised_emit _ _ _ _ _ _ (by omega)).msiFlush, ?_⟩
  rw [msiFlush_frame]
  rfl

/-- CXL_LINK_DOWN (18 R542). -/
theorem cxlLinkDown_row (s : State) (h : s.link.rate ≠ 0) : ∃ t, exec .cxlLinkDown s = .next t ∧ Raised t 7 9 0xFF 0x1202 0 ∧
    t = { s with rcd := t.rcd, link := { s.link with
      rate := 0, width := 0, flit256 := false, ide := false, ideKeys := [],
      downCount := min 255 (s.link.downCount + 1), training := s.link.perstN && !s.sys.refclkLost } } := by
  refine ⟨_, if_neg h, (raised_cxlDown h).mono rfl fun _ hw => hw, ?_⟩
  rw [cxlDown_of_up h]
  rfl

/-- CONFIGURATION_REQUEST before the configuration is loaded: Retry Status (18 R539). -/
theorem configurationRequest_retry (req : ConfigRequest) (s : State) (h : s.link.rate ≠ 0) (hl : s.link.configLoaded = false) :
    exec (.configurationRequest req) s = .next { s with out := .config none :: s.out } := by
  change execConfigurationRequest req s = _
  unfold execConfigurationRequest
  rw [if_neg (by simp [cxlUp, h]), if_pos (by simp [hl])]
  rfl

/-- CONFIGURATION_REQUEST with the configuration loaded (18 R538, R539; 14 R427). -/
theorem configurationRequest_loaded (req : ConfigRequest) (s : State) (h : s.link.rate ≠ 0) (hl : s.link.configLoaded = true) :
    ∃ t, exec (.configurationRequest req) s = .next t ∧
      (∀ o, req = .read o → t = { s with free := s.free + 1, out := t.out } ∧
        ∃ v : BitVec 32, t.out = .config (some v) :: s.out ∧ (o.toNat / 4 = 2 → v.toNat / 256 = 0x050210)) ∧
      (∀ o d, req = .write o d → t = { s with out := .config (some 0) :: s.out, link := { s.link with
        config := cellsWrite (o.toNat / 4 * 4) (leBytes 4 d.toNat) s.link.config } }) ∧
      (∀ e m, req = .msixEnable e m → t = { s with out := t.out, mbx := { s.mbx with
        msixEnable := e, msixMask := m, pba := t.mbx.pba } }) ∧
      (∀ v m, req = .vectorMask v m → t.mbx.vecMask.getLsbD v.1 = m ∧ t = { s with out := t.out, mbx := { s.mbx with
        vecMask := t.mbx.vecMask, pba := t.mbx.pba } }) := by
  have hup : ¬(!cxlUp s) = true := by simp [cxlUp, h]
  have hload : ¬(!s.link.configLoaded) = true := by simp [hl]
  cases req with
  | read o =>
    refine ⟨_, (if_neg hup).trans (if_neg hload), ?_, nofun, nofun, nofun⟩
    rintro _ ⟨⟩
    exact ⟨rfl, _, rfl, configWord_classCode s o _⟩
  | write o d =>
    refine ⟨_, (if_neg hup).trans (if_neg hload), nofun, ?_, nofun, nofun⟩
    rintro _ _ ⟨⟩
    rfl
  | msixEnable e m =>
    refine ⟨_, (if_neg hup).trans (if_neg hload), nofun, nofun, ?_, nofun⟩
    rintro _ _ ⟨⟩
    rw [msiFlush_frame]
    rfl
  | vectorMask v m =>
    refine ⟨_, (if_neg hup).trans (if_neg hload), nofun, nofun, nofun, ?_⟩
    rintro _ _ ⟨⟩
    constructor
    · rw [msiFlush_frame]
      exact getLsbD_maskBit ..
    · rw [msiFlush_frame]
      rfl

/-- ETH_LINK_UP (18 R543). -/
theorem ethLinkUp_row (p : Fin 2) (fast : Bool) (s : State) (hc : s.sys.refclkLost = false) (hb : s.sys.boot ≠ .porst) :
    ∃ t, exec (.ethLinkUp p fast) s = .next t ∧ t.net.rate[p] = (if fast then 2 else 1) ∧
      t = { s with rcd := t.rcd, net := { s.net with rate := s.net.rate.set p t.net.rate[p] } } ∧
      (s.net.rate[p] ≠ t.net.rate[p] → Raised t 7 9 p.1 0x1203 t.net.rate[p]) := by
  have hrate : (ethRate p (if fast then 2 else 1) s).net.rate[p] = (if fast then 2 else 1) := by simp [ethRate_net]
  refine ⟨_, if_neg (by simp [hc, hb]), hrate, ?_, fun h => ?_⟩
  · rw [hrate]; exact ethRate_frame ..
  · rw [hrate] at h ⊢
    exact raised_ethRate h (by split <;> omega)

/-- ETH_LINK_DOWN (18 R543). -/
theorem ethLinkDown_row (p : Fin 2) (s : State) : ∃ t, exec (.ethLinkDown p) s = .next t ∧ t.net.rate[p] = 0 ∧
    (s.net.rate[p] ≠ 0 → Raised t 7 9 p.1 0x1203 0) ∧
    t = { s with rcd := t.rcd, net := { s.net with rate := s.net.rate.set p 0 } } :=
  ⟨_, rfl, by simp [ethRate_net], fun h => raised_ethRate h (by omega), ethRate_frame ..⟩

/-- A message to a port that is up is answered from its addresses (18 R544). -/
theorem portAnswer_of_up {p : Fin 2} {s : State} (m : List Byte) (h : s.net.rate[p] ≠ 0) :
    portAnswer p m s = { s with out := .answer (Config.standardAnswer (leBytes 6 (portMac s p).toNat ++
      (portAddrs s p).flatMap (fun a => leBytes 16 a.toNat) ++ m)) :: s.out } := if_neg h

/-- NETWORK_FRAME_DROPPED of a malformed, tagged or IPv4 frame (18 R544, R545). -/
theorem networkFrameDropped_bad {k : NetDrop} (s : State) (h : k ≠ .stopped) : exec (.networkFrameDropped k) s =
    .next { s with net := { s.net with frameErr := min 255 (s.net.frameErr + 1) } } := by
  cases k with
  | stopped => exact absurd rfl h
  | _ => rfl

/-- CTRL_HOT on the way in and on the way out (18 R549). -/
theorem ctrlHot_row (h : Bool) (s : State) (hs : s.link.hot = h) (hin : h = false → 16 ≤ s.link.hotRun)
    (hout : h = true → 16 ≤ s.link.coolRun) : ∃ t, exec .ctrlHot s = .next t ∧
      Raised t 4 9 0xFF 0x1204 (if h then 0 else 1) ∧ t = { s with rcd := t.rcd, link := { s.link with hot := !h } } := by
  cases h with
  | false => exact ⟨_, if_pos (by simp [hs, hin rfl]), raised_emit _ _ _ _ _ _ (by decide), rfl⟩
  | true =>
    exact ⟨_, (if_neg (by simp [hs])).trans (if_pos (by simp [hs, hout rfl])), raised_emit _ _ _ _ _ _ (by decide), rfl⟩

/-- Settles O56: row by row; the links by `forAll_at`, what else a row leaves by the frames of its operations. -/
theorem clockAndLinkRows : Obligations.ClockAndLinkRows := by
  unfold Obligations.ClockAndLinkRows
  refine ⟨refclkLost_row, refclkReturn_row, fun s hc ht => ?_, perstNAssert_row, fun s hp => ?_, fun s hb => ?_,
    cxlLinkUp_row, cxlLinkDown_row, fun req s hr => ⟨configurationRequest_retry req s hr, configurationRequest_loaded req s hr⟩,
    fun p s => ⟨fun fast => ethLinkUp_row p fast s, ethLinkDown_row p s, ?_⟩, fun g s hm hb => ?_,
    fun k s => ⟨networkFrameDropped_bad s, ?_, rfl⟩, ctrlHot_row⟩
  · exact if_neg (by simp [hc]; omega)
  · exact if_neg (by simp [hp])
  · exact if_neg hb
  · rintro i m (rfl | rfl) hp
    · exact congrArg _ (portAnswer_of_up m hp)
    · exact congrArg _ (portAnswer_of_up m hp)
  · exact if_neg (by simp [hm, hb])
  · rintro rfl hrun
    exact if_neg (by simp [hrun])

end Sys2Proof.Machine
end

section
/-! SUPPORT. Uncorrectable errors, the configuration store and staged sets (01 R24, R27, R30; 09 R270; 10 R309, R310; 14 R431; 15
R448; 16 R504): what their operations leave alone. -/

namespace Sys2Proof.Machine

open Sys2Proof

/-! An error in a Frond slot (09 R270) touches the slots, and what it records and raises. -/

/-- From `s` to `t` only the record, the mailboxes and the Frond slots may differ. -/
def FrondOnly (s t : State) : Prop := t = { s with rcd := t.rcd, mbx := t.mbx, frd := t.frd }

namespace FrondOnly

theorem refl (s : State) : FrondOnly s s := rfl

theorem trans {s t u : State} (h : FrondOnly s t) (h' : FrondOnly t u) : FrondOnly s u := by
  unfold FrondOnly at *; rw [h', h]

theorem sys {s t : State} (h : FrondOnly s t) : t.sys = s.sys := by rw [h]
theorem crz {s t : State} (h : FrondOnly s t) : t.crz = s.crz := by rw [h]

end FrondOnly

theorem setFrd_frondOnly (x : Slot) (f : FrdSlot → FrdSlot) (s : State) : FrondOnly s (s.setFrd x f) := rfl

theorem completeLate_frondOnly (q : Reply) (a : Ans) (s : State) : FrondOnly s (completeLate q a s) := rfl

theorem resetSlotState_frondOnly (x : Slot) (why : Nat) (s : State) : FrondOnly s (resetSlotState x why s) := rfl

theorem emptySlot_frondOnly (x : Slot) (why : Nat) (s : State) : FrondOnly s (emptySlot x why s) := rfl

theorem seatModel_frondOnly (x : Slot) (b : List Byte) (s : State) : FrondOnly s (seatModel x b s) := rfl

theorem workEnd_frondOnly (w : FrdWork) (s : State) : FrondOnly s (workEnd w s) := by
  unfold workEnd
  split
  · split <;> rfl
  · rfl

theorem dropQueue_frondOnly (x : Slot) (s : State) : FrondOnly s (dropQueue x s) :=
  forAll_inv (FrondOnly s) _ _ (fun _ _ h => h.trans (completeLate_frondOnly ..)) _ (setFrd_frondOnly x _ s)

theorem afterRun_frondOnly (x : Slot) (s : State) : FrondOnly s (afterRun x s) := by
  have hreset : ∀ (b : Bool) (t : State), FrondOnly t (if b then resetSlotState x 1 t else t) := by
    intro b t
    split
    · exact resetSlotState_frondOnly ..
    · exact .refl t
  have hcleared := (setFrd_frondOnly x (fun k => { k with afterReset := false, afterUnload := none }) s).trans
    (hreset s.frd.slot[x].afterReset _)
  unfold afterRun
  simp only
  split
  · exact hcleared
  · split
    · exact (hcleared.trans (emptySlot_frondOnly ..)).trans (seatModel_frondOnly ..)
    · exact hcleared.trans (emptySlot_frondOnly ..)

/-- The abort of a run is recorded, and its state reset (09 R270). -/
theorem abortNoted_frondOnly (x : Slot) (n : Nat) (s : State) : FrondOnly s
    (resetSlotState x 3 (emit (s.modFrd fun f => { f with ueSeen := true }) 7 9 x.1 0x0905 n)) := rfl

/-- What waits for a slot ends with the error, and the slot empties or reloads (09 R270). -/
theorem frondError_frondOnly (x : Slot) (s : State) : FrondOnly s (frondError x s) := by
  have hfree : ∀ f : FrdSlot → FrdSlot, FrondOnly s (workEnd (.slot x) (s.setFrd x f)) :=
    fun f => (setFrd_frondOnly x f s).trans (workEnd_frondOnly ..)
  have hend : ∀ t, FrondOnly s t → FrondOnly s (
      if s.frd.slot[x].afterUnload.isSome then afterRun x (dropQueue x t)
      else if s.frd.slot[x].model.isSome then
        (emptySlot x 3 (dropQueue x t)).setFrd x fun k => { k with state := 3, next := none }
      else dropQueue x t) := by
    intro t ht
    have hdrop := ht.trans (dropQueue_frondOnly x t)
    split
    · exact hdrop.trans (afterRun_frondOnly ..)
    · split
      · exact (hdrop.trans (emptySlot_frondOnly ..)).trans (setFrd_frondOnly ..)
      · exact hdrop
  unfold frondError
  cases hr : s.frd.slot[x].run with
  | none => simpa only [hr] using hend s (.refl s)
  | some r =>
    cases hq : r.reply with
    | none => simpa only [hr, hq] using hend _ ((hfree _).trans (abortNoted_frondOnly ..))
    | some q =>
      simpa only [hr, hq] using hend _ (((hfree _).trans (abortNoted_frondOnly ..)).trans (completeLate_frondOnly ..))

/-! An uncorrectable error changes nothing of SYS_ but its count and flag, and nothing of Crozier (01 R27). -/

/-- SYS_ and the rails, which data in memory do not hold. -/
def sysAndRails (s : State) : SysState × CrzState := (s.sys, s.crz)

theorem LinksOnly.sysAndRails {s t : State} (h : LinksOnly s t) : sysAndRails t = sysAndRails s :=
  Prod.ext h.sys h.crz

theorem FrondOnly.sysAndRails {s t : State} (h : FrondOnly s t) : sysAndRails t = sysAndRails s :=
  Prod.ext h.sys h.crz

theorem dropRecords_linksOnly (n : Acc) (hit : QRec → Bool) (s : State) : LinksOnly s (dropRecords n hit s) :=
  (setLink_linksOnly n _ s).trans (resumeCheck_linksOnly ..)

theorem abortReference_frondOnly (s : State) : FrondOnly s (abortReference s) := by
  unfold abortReference
  split <;> rfl

theorem discardSram_sysAndRails (a : Nat) (s : State) : sysAndRails (discardSram a s) = sysAndRails s := by
  unfold discardSram
  split
  · exact (dropRecords_linksOnly ..).sysAndRails
  · split
    · rfl
    · split
      · exact (abortReference_frondOnly s).sysAndRails
      · rfl

theorem discardLpddr_sysAndRails (a : Nat) (s : State) : sysAndRails (discardLpddr a s) = sysAndRails s := by
  unfold discardLpddr
  split
  · rfl
  · split
    · rfl
    · split <;> rfl

/-- The error is counted and flagged (01 R27). -/
def eccCounted (s : State) : State := s.modSys fun y => { y with eccUe := y.eccUe + 1, memEccUe := true }

/-- Wherever the error is, the step only adds to the counted state what its data lose. -/
theorem eccUncorrectable_next (x : EccSite) (s : State) :
    ∃ t, exec (.eccUncorrectable x) s = .next t ∧ sysAndRails t = sysAndRails (eccCounted s) := by
  cases x with
  | systemSram a => exact ⟨_, rfl, discardSram_sysAndRails ..⟩
  | lpddr a => exact ⟨_, rfl, discardLpddr_sysAndRails ..⟩
  | assemblyBuffer => exact ⟨_, rfl, rfl⟩
  | frondRun k => exact ⟨_, rfl, (frondError_frondOnly k _).sysAndRails⟩
  | frondWeights k => exact ⟨_, rfl, (frondError_frondOnly k _).sysAndRails⟩
  | frondReference => exact ⟨_, rfl, (abortReference_frondOnly _).sysAndRails⟩
  | sorusRecord n => exact ⟨_, rfl, (dropRecords_linksOnly n _ _).sysAndRails⟩

/-- An error in the assembly buffer marks the record in assembly (02 R49). -/
theorem eccUncorrectable_assembly {s t : State} (h : exec (.eccUncorrectable .assemblyBuffer) s = .next t) :
    t.rcd.asm = s.rcd.asm.map fun a => { a with eccHit := true } := by
  injection h with h
  subst h
  simp [spoilAssembly]

/-- An error in the history ring discards the generation of its place (02 R58). -/
theorem eccUncorrectable_ring {a : BitVec 40} {s t : State} (h : exec (.eccUncorrectable (.lpddr a)) s = .next t)
    (ha : a.toNat < 0x30000000) : t.rcd.ring = s.rcd.ring.filter fun r => r.gen % 12288 != a.toNat / 0x10000 := by
  injection h with h
  subst h
  rw [discardLpddr, if_pos ha]
  rfl

/-! Replies of the commands that wait for the store (15 R448). -/

/-- `r` ends the command of `q` with the result and reason of an answer. -/
def Ends (q : Reply) (a : Ans) (r : Reply) : Prop :=
  r.src = q.src ∧ r.seq = q.seq ∧ r.result = a.res ∧ r.reason = a.reason

theorem completeLate_replies (q : Reply) (a : Ans) (s : State) :
    ∃ r, (completeLate q a s).rcd.replies = s.rcd.replies ++ [r] ∧ Ends q a r :=
  ⟨_, rfl, rfl, rfl, rfl, rfl⟩

/-- A command that waits for the store ends with an answer, after what `g` does to the registers. -/
def endWith (a : Ans) (g : Cmd × Reply → State → State) (p : Cmd × Reply) (s : State) : State := completeLate p.2 a (g p s)

/-- Commands that end together, after a step for each that leaves the record alone, get one reply each behind those before. -/
theorem forAll_completeLate_replies (a : Ans) (g : Cmd × Reply → State → State) (hg : ∀ p s, (g p s).rcd = s.rcd)
    (l : List (Cmd × Reply)) (s : State) :
    ∃ rs, (forAll l (endWith a g) s).rcd.replies = s.rcd.replies ++ rs ∧ rs.length = l.length ∧
      ∀ p ∈ l, ∃ r ∈ rs, Ends p.2 a r := by
  induction l generalizing s with
  | nil => exact ⟨[], by simp [forAll], rfl, by simp⟩
  | cons p l ih =>
    obtain ⟨rs, hrs, hlen, hmem⟩ := ih (endWith a g p s)
    obtain ⟨r, hr, hend⟩ := completeLate_replies p.2 a (g p s)
    refine ⟨r :: rs, hrs.trans ?_, by simp [hlen], fun q hq => ?_⟩
    · rw [endWith, hr, hg, List.append_assoc]; rfl
    · rcases List.mem_cons.1 hq with rfl | hq
      · exact ⟨r, List.mem_cons_self, hend⟩
      · obtain ⟨r', hr', hend'⟩ := hmem q hq
        exact ⟨r', List.mem_cons_of_mem _ hr', hend'⟩

/-- None of them waits for the store again. -/
theorem forAll_completeLate_storeQ (a : Ans) (g : Cmd × Reply → State → State) (hg : ∀ p s, (g p s).rcd = s.rcd)
    (l : List (Cmd × Reply)) (s : State) :
    (forAll l (endWith a g) s).rcd.storeQ = s.rcd.storeQ :=
  forAll_keeps (·.rcd.storeQ) (endWith a g) (fun p s => congrArg (·.storeQ) (hg p s)) l s

/-! Registers that go back to their stored values (15 R448): settings only, no record and nothing non-volatile. -/

theorem rejudge_frame (r : Rail) (s : State) : rejudge r s = { s with sup := (rejudge r s).sup } := by
  unfold rejudge
  split <;> rfl

theorem supPut_frame (x : SupSet) (s : State) : supPut x s = { s with sup := (supPut x s).sup } := by
  cases x with
  | fast k w => rfl
  | window r w d =>
    unfold supPut
    simp only
    split <;> rw [rejudge_frame] <;> rfl

theorem putStored_nv_rcd (c : Cmd) (s : State) : (putStored c s).nv = s.nv ∧ (putStored c s).rcd = s.rcd := by
  cases c with
  | supSetWindow r w d =>
    simp only [putStored]
    split
    · rw [supPut_frame]; exact ⟨rfl, rfl⟩
    · exact ⟨rfl, rfl⟩
  | supSetFastWindow k w =>
    simp only [putStored]
    split <;> exact ⟨rfl, rfl⟩
  | ledgerSetCoeff b l =>
    simp only [putStored]
    split <;> exact ⟨rfl, rfl⟩
  | coolSetMap f t u => exact ⟨State.modCool_nv _ s, State.modCool_rcd _ s⟩
  | coolSetLoop l =>
    exact ⟨forAll_keeps (·.nv) _ (by intros; rfl) _ s, forAll_keeps (·.rcd) _ (by intros; rfl) _ s⟩
  | _ => exact ⟨rfl, rfl⟩

theorem dropStaged_nv_rcd (c : Cmd) (s : State) : (dropStaged c s).nv = s.nv ∧ (dropStaged c s).rcd = s.rcd := by
  cases c <;> exact ⟨rfl, rfl⟩

theorem takeBack_nv (c : Cmd) (s : State) : (takeBack c s).nv = s.nv :=
  (putStored_nv_rcd ..).1.trans (dropStaged_nv_rcd c s).1

theorem takeBack_rcd (c : Cmd) (s : State) : (takeBack c s).rcd = s.rcd :=
  (putStored_nv_rcd ..).2.trans (dropStaged_nv_rcd c s).2

/-! The store write (15 R448, 16 R504). -/

/-- The list of waiting store writes, empty. -/
def storeEmptied (s : State) : State := s.modRcd fun r => { r with storeQ := [] }

/-- Keys and epoch that wait go to the store (16 R504). -/
def keysStored (s : State) : State :=
  if s.sec.storeDue then
    (s.modNv fun v => { v with keys := s.sec.keys, keyBad := Vector.replicate 3 false, epoch := s.sec.committed }).modSec
      fun c => { c with storeDue := false }
  else s

theorem keysStored_frame (s : State) : keysStored s = { s with nv := (keysStored s).nv, sec := (keysStored s).sec } := by
  unfold keysStored
  split <;> rfl

theorem keysStored_storeDue (s : State) : (keysStored s).sec.storeDue = false := by
  unfold keysStored
  split
  · rfl
  next h => simpa using h

theorem keysStored_store (s : State) : (keysStored s).nv.store = s.nv.store := by
  unfold keysStored
  split <;> rfl

/-- Keys and epoch in the store after they waited (16 R504). -/
theorem keysStored_of_due {s : State} (h : s.sec.storeDue = true) :
    (keysStored s).nv.keys = s.sec.keys ∧ (keysStored s).nv.epoch = s.sec.committed := by
  rw [keysStored, if_pos h]; exact ⟨rfl, rfl⟩

/-- The value of one store command goes to the store (15 R448). -/
def valueStored (p : Cmd × Reply) (s : State) : State := s.modNv fun v => { v with store := storePut p.1 v.store }

/-- The registers of one store command go back to their stored values (15 R448). -/
def registersBack (p : Cmd × Reply) (s : State) : State := takeBack p.1 s

theorem configStoreWriteDone_taken (s : State) : exec (.configStoreWriteDone true) s =
    .next (forAll s.rcd.storeQ (endWith {} valueStored) (keysStored (storeEmptied s))) := rfl

theorem configStoreWriteDone_refused (s : State) : exec (.configStoreWriteDone false) s =
    .next (forAll s.rcd.storeQ (endWith (conflict 0x0E03 0xFF) registersBack) (storeEmptied s)) := rfl

/-- The store took what waited (15 R448, 16 R504). -/
theorem configStoreWriteDone_taken_row (s : State) : ∃ t, exec (.configStoreWriteDone true) s = .next t ∧ t.rcd.storeQ = [] ∧
    t.rcd.replies.length = s.rcd.replies.length + s.rcd.storeQ.length ∧
    (∀ p ∈ s.rcd.storeQ, ∃ q ∈ t.rcd.replies, q.src = p.2.src ∧ q.seq = p.2.seq ∧ q.result = .ok) ∧
    (s.sec.storeDue = true → t.nv.keys = s.sec.keys ∧ t.nv.epoch = s.sec.committed) ∧
    (∀ c q, s.rcd.storeQ = [(c, q)] → t.nv.store = storePut c s.nv.store) ∧
    t.sec.storeDue = false ∧ t.crz = s.crz := by
  have hrcd : (keysStored (storeEmptied s)).rcd = (storeEmptied s).rcd := by rw [keysStored_frame]
  obtain ⟨rs, hrs, hlen, hmem⟩ :=
    forAll_completeLate_replies {} valueStored (fun _ _ => rfl) s.rcd.storeQ (keysStored (storeEmptied s))
  rw [hrcd] at hrs
  refine ⟨_, configStoreWriteDone_taken s, ?_, ?_, fun p hp => ?_, fun hdue => ?_, fun c q hq => ?_, ?_, ?_⟩
  · rw [forAll_completeLate_storeQ {} valueStored fun _ _ => rfl, hrcd]; rfl
  · rw [hrs, List.length_append, hlen]; rfl
  · obtain ⟨r, hr, hsrc, hseq, hres, -⟩ := hmem p hp
    exact ⟨r, hrs ▸ List.mem_append_right _ hr, hsrc, hseq, hres⟩
  · obtain ⟨hkeys, hepoch⟩ := keysStored_of_due (s := storeEmptied s) hdue
    exact ⟨(forAll_keeps (·.nv.keys) (endWith {} valueStored) (fun _ _ => rfl) _ _).trans hkeys,
      (forAll_keeps (·.nv.epoch) (endWith {} valueStored) (fun _ _ => rfl) _ _).trans hepoch⟩
  · rw [hq]; exact congrArg (storePut c) (keysStored_store (storeEmptied s))
  · exact (forAll_keeps (·.sec.storeDue) (endWith {} valueStored) (fun _ _ => rfl) _ _).trans (keysStored_storeDue _)
  · exact (forAll_keeps (·.crz) (endWith {} valueStored) (fun _ _ => rfl) _ _).trans (by rw [keysStored_frame]; rfl)

/-- The store could not take what waited (15 R448). -/
theorem configStoreWriteDone_refused_row (s : State) : ∃ t, exec (.configStoreWriteDone false) s = .next t ∧
    t.rcd.storeQ = [] ∧ t.nv = s.nv ∧ ∀ p ∈ s.rcd.storeQ, ∃ q ∈ t.rcd.replies,
      q.src = p.2.src ∧ q.seq = p.2.seq ∧ q.result = .stateConflict ∧ q.reason = 0x0E03 := by
  have hback : ∀ p s, (registersBack p s).rcd = s.rcd := fun p => takeBack_rcd p.1
  obtain ⟨rs, hrs, -, hmem⟩ := forAll_completeLate_replies (conflict 0x0E03 0xFF) registersBack hback s.rcd.storeQ
    (storeEmptied s)
  refine ⟨_, configStoreWriteDone_refused s, ?_, ?_, fun p hp => ?_⟩
  · exact forAll_completeLate_storeQ _ registersBack hback _ (storeEmptied s)
  · exact forAll_keeps (·.nv) (endWith _ registersBack) (fun p s => takeBack_nv p.1 s) _ (storeEmptied s)
  · obtain ⟨r, hr, hsrc, hseq, hres, hreason⟩ := hmem p hp
    exact ⟨r, hrs ▸ List.mem_append_right _ hr, hsrc, hseq, hres, hreason⟩

/-- LEASE_EXPIRY of a lease past its time (14 R431). -/
theorem leaseExpiry_row (k : Fin 4) (l : Lease) (s : State) (hl : s.net.leases[k] = some l) (ht : l.expiry ≤ s.sys.tick) :
    ∃ t, exec (.leaseExpiry k) s = .next t ∧ Raised t 5 9 k.1 0x0E03 0 ∧
      t = { s with rcd := t.rcd, net := { s.net with leases := s.net.leases.set k none } } := by
  refine ⟨emit (s.modNet fun n => { n with leases := n.leases.set k none }) 5 9 k.1 0x0E03 0, ?_,
    raised_emit _ _ _ _ _ _ (by omega), rfl⟩
  change execLeaseExpiry k s = _
  unfold execLeaseExpiry
  rw [hl]
  exact if_neg (by omega)

/-! The staged sets (01 R24). -/

/-- No envelope set stays staged. -/
theorem applyEnvelope_staged (s : State) : (applyEnvelope s).brm.staged = none := by
  unfold applyEnvelope
  split
  next h => exact h
  · split <;> rfl

theorem applySup_frame (s : State) : applySup s = { s with sup := (applySup s).sup } := by
  unfold applySup
  simp only
  split
  · exact forAll_inv (fun t => t = { s with sup := t.sup }) _ _ (fun x t ht => by rw [supPut_frame, ht]) _ rfl
  · rfl

theorem applySup_brm (s : State) : (applySup s).brm = s.brm := by rw [applySup_frame]

theorem supPut_staged (x : SupSet) (s : State) : (supPut x s).sup.staged = s.sup.staged := by
  cases x with
  | fast k w => rfl
  | window r w d =>
    unfold supPut rejudge
    simp only
    split <;> split <;> rfl

/-- No window set stays staged. -/
theorem applySup_staged (s : State) : (applySup s).sup.staged = [] := by
  unfold applySup
  simp only
  split
  · exact forAll_keeps (·.sup.staged) _ supPut_staged _ _
  · rfl

/-- A link with the preset of its band, where it is up (10 R309). -/
def retuned (s : State) (n : Acc) (l : LinkState) : LinkState :=
  let p := fld s.srs.eq (4 * bandOf s n) 3
  if l.state ≠ 2 ∨ l.preset = p then l else { l with preset := p, presetTick := some s.sys.tick }

/-- A link that has its preset keeps it. -/
theorem retuned_idem (s : State) (n : Acc) (l : LinkState) : retuned s n (retuned s n l) = retuned s n l := by
  by_cases h : l.state ≠ 2 ∨ l.preset = fld s.srs.eq (4 * bandOf s n) 3
  · have hl : retuned s n l = l := if_pos h
    rw [hl, hl]
  · have hl : retuned s n l = { l with preset := fld s.srs.eq (4 * bandOf s n) 3, presetTick := some s.sys.tick } := if_neg h
    rw [hl]
    exact if_pos (.inr rfl)

/-- From `s` to `t` only the links themselves may differ. -/
def PresetsOnly (s t : State) : Prop := t = { s with srs := { s.srs with link := t.srs.link } }

theorem PresetsOnly.refl (s : State) : PresetsOnly s s := rfl

theorem PresetsOnly.trans {s t u : State} (h : PresetsOnly s t) (h' : PresetsOnly t u) : PresetsOnly s u := by
  unfold PresetsOnly at *; rw [h', h]

theorem PresetsOnly.brm {s t : State} (h : PresetsOnly s t) : t.brm = s.brm := by rw [h]
theorem PresetsOnly.sup {s t : State} (h : PresetsOnly s t) : t.sup = s.sup := by rw [h]
theorem PresetsOnly.crz {s t : State} (h : PresetsOnly s t) : t.crz = s.crz := by rw [h]

theorem applyPreset_presetsOnly (n : Acc) (s : State) : PresetsOnly s (applyPreset n s) := by
  unfold applyPreset
  simp only
  split <;> rfl

theorem PresetsOnly.retuned {s t : State} (h : PresetsOnly s t) (n : Acc) (l : LinkState) : retuned t n l = retuned s n l := by
  rw [h]; rfl

/-- The preset of a band is applied to its own link alone. -/
theorem applyPreset_link (m n : Acc) (s : State) :
    (applyPreset m s).srs.link[n] = if m = n then retuned s n s.srs.link[n] else s.srs.link[n] := by
  unfold applyPreset retuned
  simp only
  by_cases hm : m = n
  · subst hm
    rw [if_pos rfl]
    split
    · rfl
    · simp [State.setLink]
  · have hv : m.1 ≠ n.1 := fun e => hm (Fin.ext e)
    rw [if_neg hm]
    split
    · rfl
    · simp [State.setLink, Vector.getElem_set_ne _ _ hv]

/-- Every link gets the preset of its band (10 R309). -/
theorem forAll_applyPreset_link (n : Acc) (s : State) :
    (forAll accList applyPreset s).srs.link[n] = retuned s n s.srs.link[n] := by
  have step : ∀ m t, PresetsOnly s t → PresetsOnly s (applyPreset m t) := fun m t h => h.trans (applyPreset_presetsOnly m t)
  refine (forAll_at (fun t => PresetsOnly s t ∧ retuned s n t.srs.link[n] = retuned s n s.srs.link[n])
    (fun t => PresetsOnly s t ∧ t.srs.link[n] = retuned s n s.srs.link[n]) _ (mem_accList n)
    (fun m t ⟨ht, hl⟩ => ⟨step m t ht, ?_⟩) (fun t ⟨ht, hl⟩ => ⟨step n t ht, ?_⟩) (fun m t ⟨ht, hl⟩ => ⟨step m t ht, ?_⟩)
    (s := s) ⟨.refl s, rfl⟩).2
  · rw [applyPreset_link, ht.retuned]
    split
    · rw [retuned_idem, hl]
    · exact hl
  · rw [applyPreset_link, if_pos rfl, ht.retuned, hl]
  · rw [applyPreset_link, ht.retuned, hl, retuned_idem, ite_self]

theorem forAll_applyPreset_presetsOnly (s : State) : PresetsOnly s (forAll accList applyPreset s) :=
  forAll_inv (PresetsOnly s) _ _ (fun m _ h => h.trans (applyPreset_presetsOnly m _)) s (.refl s)

/-- The presets applied, link by link. -/
theorem forAll_applyPreset_srs (s : State) : (forAll accList applyPreset s).srs =
    { s.srs with link := Vector.ofFn fun n : Acc => retuned s n s.srs.link[n] } := by
  have hlink : (forAll accList applyPreset s).srs.link = Vector.ofFn fun n : Acc => retuned s n s.srs.link[n] :=
    Vector.ext fun i hi => by rw [Vector.getElem_ofFn]; exact forAll_applyPreset_link ⟨i, hi⟩ s
  rw [forAll_applyPreset_presetsOnly s, hlink]

/-- SRS_CFG and SRS_EQ in force, no preset applied yet. -/
def srsPut (c e : Word) (s : State) : State := s.modSrs fun r => { r with cfg := c, eq := e, staged := none }

theorem applySrsStaged_legal {c e : Word} {s : State} (h : s.srs.staged = some (c, e)) (hc : srsCfgOk c = true)
    (he : srsEqOk e = true) : applySrsStaged s = forAll accList applyPreset (srsPut c e s) := by
  unfold applySrsStaged
  rw [h]
  exact if_pos (by rw [hc, he]; rfl)

theorem exec_stagedSetApply (s : State) :
    exec .stagedSetApply s = .next (applySrsStaged (applySup (applyEnvelope s))) := rfl

/-- From `s` to `t` only the record, the mailboxes, the envelope and the supervision set may differ. -/
def SetsOnly (s t : State) : Prop := t = { s with rcd := t.rcd, mbx := t.mbx, brm := t.brm, sup := t.sup }

theorem SetsOnly.trans {s t u : State} (h : SetsOnly s t) (h' : SetsOnly t u) : SetsOnly s u := by
  unfold SetsOnly at *; rw [h', h]

theorem SetsOnly.crz {s t : State} (h : SetsOnly s t) : t.crz = s.crz := by rw [h]

theorem applyEnvelope_setsOnly (s : State) : SetsOnly s (applyEnvelope s) := by
  unfold applyEnvelope
  split
  · rfl
  · split <;> rfl

theorem applySup_setsOnly (s : State) : SetsOnly s (applySup s) := by
  unfold SetsOnly; rw [applySup_frame]

/-- The links after the staged SRS_CFG and SRS_EQ, whatever the sets applied before them. -/
theorem forAll_applyPreset_srsPut (c e : Word) {s u : State} (h : SetsOnly s u) :
    (forAll accList applyPreset (srsPut c e u)).srs = { s.srs with
      cfg := c, eq := e, staged := none,
      link := Vector.ofFn fun (n : Acc) =>
        let p := fld e (4 * bandOf s n) 3
        if s.srs.link[n].state ≠ 2 ∨ s.srs.link[n].preset = p then s.srs.link[n]
        else { s.srs.link[n] with preset := p, presetTick := some s.sys.tick } } := by
  rw [forAll_applyPreset_srs, h]
  rfl

/-- STAGED_SET_APPLY with a legal SRS_CFG and SRS_EQ staged (01 R24, 10 R309, R310). -/
theorem stagedSetApply_row (c e : Word) (s : State) (hs : s.srs.staged = some (c, e)) (hc : srsCfgOk c = true)
    (he : srsEqOk e = true) : ∃ t, exec .stagedSetApply s = .next t ∧ t.srs = { s.srs with
        cfg := c, eq := e, staged := none,
        link := Vector.ofFn fun (n : Acc) =>
          let p := fld e (4 * bandOf s n) 3
          if s.srs.link[n].state ≠ 2 ∨ s.srs.link[n].preset = p then s.srs.link[n]
          else { s.srs.link[n] with preset := p, presetTick := some s.sys.tick } } ∧
      t.brm.staged = none ∧ t.sup.staged = [] ∧ t.crz = s.crz := by
  have hu : SetsOnly s (applySup (applyEnvelope s)) := (applyEnvelope_setsOnly s).trans (applySup_setsOnly _)
  have hstaged : (applySup (applyEnvelope s)).srs.staged = some (c, e) := by rw [hu]; exact hs
  have hkept := forAll_applyPreset_presetsOnly (srsPut c e (applySup (applyEnvelope s)))
  refine ⟨_, by rw [exec_stagedSetApply, applySrsStaged_legal hstaged hc he], forAll_applyPreset_srsPut c e hu, ?_, ?_, ?_⟩
  · rw [hkept.brm]; exact (congrArg _ (applySup_brm _)).trans (applyEnvelope_staged s)
  · rw [hkept.sup]; exact applySup_staged _
  · rw [hkept.crz]; exact hu.crz

/-- Settles O34: the rows by their frames; the links of the staged set by `forAll_at`. -/
theorem memoryLeaseStoreAndStagedRows : Obligations.MemoryLeaseStoreAndStagedRows := by
  unfold Obligations.MemoryLeaseStoreAndStagedRows
  refine ⟨fun x s => ?_, fun _ _ => rfl, leaseExpiry_row, configStoreWriteDone_taken_row, configStoreWriteDone_refused_row,
    stagedSetApply_row⟩
  obtain ⟨t, ht, hkeep⟩ := eccUncorrectable_next x s
  obtain ⟨hsys, hcrz⟩ := Prod.ext_iff.1 hkeep
  refine ⟨t, ht, congrArg (·.memEccUe) hsys, congrArg (·.eccUe) hsys, hcrz, ?_, ?_⟩
  · rintro rfl
    exact eccUncorrectable_assembly ht
  · rintro a rfl ha
    exact eccUncorrectable_ring ht ha

end Sys2Proof.Machine
end

section
/-! SUPPORT. The queue, the release of a batch, and the State Record (02 R41 to R62; 14 R425). -/

namespace Sys2Proof.Machine

open Sys2Proof

/-! The queue of waiting commands (notes/assumptions/12.md). -/

/-- The front of the queue runs on the state with the rest. -/
theorem step_of_cons (c : Instr) (rest : List Instr) (s : State) :
    step { s with pending := c :: rest } = exec c { s with pending := rest } := rfl

theorem step_of_nil {s : State} (h : s.pending = []) : step s = .next s := by
  unfold step
  rw [h]

/-- Settles O1: the two branches of `step`. -/
theorem stepRunsFrontCommand : Obligations.StepRunsFrontCommand := by
  unfold Obligations.StepRunsFrontCommand
  exact fun c rest s => ⟨step_of_cons c rest s, step_of_nil⟩

/-! The batch of a tick (02 R41, R42, R44). -/

theorem mem_dueItems {s : State} {w : Waiting} : w ∈ dueItems s ↔ w ∈ s.rcd.merger ∧ w.stamp + 2 ≤ s.sys.tick := by
  simp [dueItems]

/-- What leaves the merger with a batch is gone from it. -/
theorem openBatch_merger (s : State) :
    (openBatch s).rcd.merger = s.rcd.merger.filter fun w => decide (s.sys.tick < w.stamp + 2) := rfl

/-- The host events of the released ticks are no longer due (14 R425). -/
theorem openBatch_evtDue (s : State) :
    (openBatch s).mbx.evtDue = s.mbx.evtDue.filter fun p => decide (s.sys.tick < p.2 + 2) := rfl

/-- Opening a batch touches the record and the host events alone. -/
theorem openBatch_frame (s : State) : openBatch s = { s with
    rcd := (openBatch s).rcd,
    mbx := { s.mbx with evtDue := (openBatch s).mbx.evtDue, evtShown := (openBatch s).mbx.evtShown } } := rfl

/-- An item of a tick that was released before sets LATE, which nothing of the batch clears (02 R42). -/
theorem openBatch_late (s : State) : (openBatch s).rcd.late = true ↔ s.rcd.late = true ∨
    ∃ w ∈ s.rcd.merger, w.stamp + 2 ≤ s.sys.tick ∧ ∃ x, s.rcd.released = some x ∧ w.stamp ≤ x := by
  change (s.rcd.late || (dueItems s).any fun w =>
    match s.rcd.released with | some t => decide (w.stamp ≤ t) | none => false) = true ↔ _
  rw [Bool.or_eq_true, List.any_eq_true]
  cases hr : s.rcd.released with
  | none => simp
  | some x => simp [mem_dueItems, and_assoc]

/-- A batch of events is applied by recording each. -/
theorem forAll_applyItem_events {l : List Waiting} {es : List Ev} (h : l.map (·.item) = es.map Item.ev) (s : State) :
    forAll l applyItem s = forAll es recordApplied s := by
  induction l generalizing es s with
  | nil =>
    cases es with
    | nil => rfl
    | cons e es => simp at h
  | cons w l ih =>
    cases es with
    | nil => simp at h
    | cons e es =>
      obtain ⟨hw, hl⟩ := List.cons_eq_cons.1 h
      have hstep : applyItem w s = recordApplied e s := by simp only [applyItem, hw]
      exact (congrArg (forAll l applyItem) hstep).trans (ih hl _)

/-- Events recorded one by one enter the digest in their order, and touch besides only the log (02 R53). -/
theorem forAll_recordApplied (es : List Ev) (s : State) : forAll es recordApplied s = { s with rcd := { s.rcd with
    digest := s.rcd.digest ++ es, log := (forAll es recordApplied s).rcd.log } } := by
  induction es generalizing s with
  | nil => simp [forAll]
  | cons e es ih =>
    refine (ih (recordApplied e s)).trans ?_
    simp only [recordApplied, State.modRcd, List.append_assoc, List.singleton_append]
    rfl

/-- A batch of events alone: the digest grows by them, and the merger and the host events lose what is released. -/
theorem eventRelease_of_events {es : List Ev} {s : State} (hrun : running s = true)
    (h : (dueItems s).map (·.item) = es.map Item.ev) :
    ∃ t, exec .eventRelease s = .next t ∧ t.rcd.digest = s.rcd.digest ++ es ∧
      t.rcd.merger = (s.rcd.merger.filter fun w => decide (s.sys.tick < w.stamp + 2)) ∧
      t.mbx.evtDue = (s.mbx.evtDue.filter fun p => decide (s.sys.tick < p.2 + 2)) ∧
      t = { s with rcd := t.rcd, mbx := { s.mbx with evtDue := t.mbx.evtDue, evtShown := t.mbx.evtShown } } := by
  have hnext : exec .eventRelease s = .next (forAll es recordApplied (openBatch s)) := by
    rw [← forAll_applyItem_events h]
    exact congrArg _ (if_pos hrun)
  have hrec := forAll_recordApplied es (openBatch s)
  refine ⟨_, hnext, ?_, ?_, ?_, ?_⟩
  · rw [hrec]; rfl
  · rw [hrec]; exact openBatch_merger s
  · rw [hrec]; exact openBatch_evtDue s
  · rw [hrec, openBatch_frame]

/-- Settles O30: the row is `release`; what opening its batch does, then a batch of events by induction over it. -/
theorem eventReleaseAppliesDueEvents : Obligations.EventReleaseAppliesDueEvents := by
  unfold Obligations.EventReleaseAppliesDueEvents
  exact ⟨fun _ => rfl, fun s => ⟨openBatch_merger s, openBatch_late s⟩, fun _ _ => eventRelease_of_events⟩

/-! The seal (02 R46, R49). -/

/-- MISSED_SEALS after one more missed seal; none is counted before generation 1 (02 R49). -/
def missedNext (r : RecState) : Nat := if r.gen = 0 then r.missed else min 0xFFFFFFFF (r.missed + 1)

theorem missSeal_of_none {s : State} (h : s.rcd.asm = none) : missSeal s = s := by
  unfold missSeal
  rw [h]

theorem missSeal_of_some {a : Assembly} {s : State} (h : s.rcd.asm = some a) : missSeal s =
    keepGeneration a.snap ((s.modRcd fun r => { r with asm := none, late := r.late || a.late, missed := missedNext r }).modMbx
      fun m => { m with evtShown := m.evtShown ||| a.evt }) := by
  unfold missSeal
  rw [h]
  rfl

/-- The record after a missed seal: the assembly is gone, and it is counted. -/
theorem missSeal_rcd {a : Assembly} {s : State} (h : s.rcd.asm = some a) :
    (missSeal s).rcd = { s.rcd with asm := none, late := s.rcd.late || a.late, missed := missedNext s.rcd } := by
  rw [missSeal_of_some h]
  rfl

/-- A missed seal touches the record, the host events, and what the blocks count for a generation. -/
theorem missSeal_frame (s : State) : missSeal s = { s with
    rcd := { s.rcd with asm := none, late := (missSeal s).rcd.late, missed := (missSeal s).rcd.missed },
    mbx := { s.mbx with evtShown := (missSeal s).mbx.evtShown },
    brm := (missSeal s).brm, sup := (missSeal s).sup, frd := (missSeal s).frd, srs := (missSeal s).srs } := by
  cases h : s.rcd.asm with
  | none => rw [missSeal_of_none h, ← h]
  | some a => rw [missSeal_of_some h]; rfl

theorem missSeal_sys (s : State) : (missSeal s).sys = s.sys := by rw [missSeal_frame]
theorem missSeal_acc (s : State) : (missSeal s).acc = s.acc := by rw [missSeal_frame]
theorem missSeal_crz (s : State) : (missSeal s).crz = s.crz := by rw [missSeal_frame]
theorem missSeal_rack (s : State) : (missSeal s).rack = s.rack := by rw [missSeal_frame]
theorem missSeal_nv (s : State) : (missSeal s).nv = s.nv := by rw [missSeal_frame]
theorem missSeal_buffer (s : State) : (missSeal s).rcd.buffer = s.rcd.buffer := by rw [missSeal_frame]
theorem missSeal_digest (s : State) : (missSeal s).rcd.digest = s.rcd.digest := by rw [missSeal_frame]
theorem missSeal_seals (s : State) : (missSeal s).rcd.seals = s.rcd.seals := by rw [missSeal_frame]
theorem missSeal_gen (s : State) : (missSeal s).rcd.gen = s.rcd.gen := by rw [missSeal_frame]

/-- The assembly that the strobe of the present tick begins (02 R46). -/
def assemblyOf (s : State) : Assembly :=
  { buffer := s.rcd.buffer, sealTick := s.sys.tick, sealNo := s.rcd.seals + 1, snap := snapOf s, digest := s.rcd.digest,
    late := s.rcd.late, complete := false, eccHit := false, evt := s.mbx.evtShown }

/-- The strobe latched, for the record and for the steering loop (02 R46; 06 R158). -/
def strobed (s : State) : State :=
  newGeneration (((s.modRcd fun r => { r with
    asm := some (assemblyOf s), buffer := r.buffer + 1, seals := s.rcd.seals + 1, late := false }).modStr fun r => { r with
      latch := some (strobeOf s) }).modMbx fun m => { m with evtShown := 0 })

/-- A strobe that is due takes the place of the record still in assembly. -/
theorem stateRecordSeal_due {s : State} (hboot : s.sys.boot ≠ .porst) (htick : s.sys.tick % 100 = 0)
    (hasm : ∀ b, s.rcd.asm = some b → b.sealTick ≠ s.sys.tick) :
    exec .stateRecordSeal s = .next (strobed (missSeal s)) := by
  refine if_neg ?_
  rintro (h | h | h)
  · exact h htick
  · exact hboot h
  · obtain ⟨b, hb, ht⟩ := Option.map_eq_some_iff.1 h
    exact hasm b hb ht

/-- STATE_RECORD_SEAL on its tick (02 R46, R49). -/
theorem stateRecordSeal_row (s : State) (hboot : s.sys.boot ≠ .porst) (htick : s.sys.tick % 100 = 0)
    (hasm : ∀ b, s.rcd.asm = some b → b.sealTick ≠ s.sys.tick) :
    ∃ t a, exec .stateRecordSeal s = .next t ∧ t.rcd.asm = some a ∧ a.sealTick = s.sys.tick ∧ a.sealNo = s.rcd.seals + 1 ∧
      a.buffer = s.rcd.buffer ∧ a.digest = s.rcd.digest ∧ a.complete = false ∧ a.eccHit = false ∧ t.rcd.seals = s.rcd.seals + 1 ∧
      (s.rcd.asm = none → a.snap = snapOf s ∧ t.rcd.missed = s.rcd.missed ∧ t.str.latch = some (strobeOf s)) ∧
      (s.rcd.asm.isSome = true →
        t.rcd.missed = if s.rcd.gen = 0 then s.rcd.missed else min 0xFFFFFFFF (s.rcd.missed + 1)) ∧
      t.rcd.gen = s.rcd.gen ∧ t.crz = s.crz ∧ t.acc = s.acc ∧ t.nv = s.nv ∧ t.rack = s.rack := by
  have hseals : (missSeal s).rcd.seals + 1 = s.rcd.seals + 1 := congrArg (· + 1) (missSeal_seals s)
  refine ⟨strobed (missSeal s), assemblyOf (missSeal s), stateRecordSeal_due hboot htick hasm, rfl,
    congrArg (·.tick) (missSeal_sys s), hseals, missSeal_buffer s, missSeal_digest s, rfl, rfl, hseals, fun h => ?_, fun h => ?_,
    missSeal_gen s, missSeal_crz s, missSeal_acc s, missSeal_nv s, missSeal_rack s⟩
  · rw [missSeal_of_none h]
    exact ⟨rfl, rfl, rfl⟩
  · obtain ⟨b, hb⟩ := Option.isSome_iff_exists.1 h
    exact congrArg (·.missed) (missSeal_rcd hb)

/-- Off its tick the strobe does nothing. -/
theorem stateRecordSeal_off {s : State} (h : s.sys.tick % 100 ≠ 0) : exec .stateRecordSeal s = .next s := if_pos (.inl h)

/-! The deadline (02 R49). -/

theorem sealDeadline_of_some (c : Bool) {a : Assembly} {s : State} (ha : s.rcd.asm = some a)
    (ht : a.sealTick + 40 ≤ s.sys.tick) : exec (.sealDeadline c) s =
      if !c || a.eccHit || !running s then .next (missSeal s)
      else .next (s.modRcd fun r => { r with asm := some { a with complete := true } }) := by
  change execSealDeadline c s = _
  unfold execSealDeadline
  rw [ha]
  exact if_neg (by omega)

/-- With nothing in assembly, or before its deadline, nothing happens. -/
theorem sealDeadline_idle (c : Bool) {s : State} (h : ∀ a, s.rcd.asm = some a → s.sys.tick < a.sealTick + 40) :
    exec (.sealDeadline c) s = .next s := by
  change execSealDeadline c s = _
  unfold execSealDeadline
  cases ha : s.rcd.asm with
  | none => rfl
  | some a => exact if_pos (h a ha)

/-- SEAL_DEADLINE 40 ticks after the strobe (02 R49). -/
theorem sealDeadline_row (a : Assembly) (s : State) (ha : s.rcd.asm = some a) (ht : a.sealTick + 40 ≤ s.sys.tick) :
    (a.eccHit = false → running s = true →
      exec (.sealDeadline true) s = .next { s with rcd := { s.rcd with asm := some { a with complete := true } } }) ∧
    (∀ c : Bool, c = false ∨ a.eccHit = true ∨ running s = false →
      ∃ t, exec (.sealDeadline c) s = .next t ∧ t.rcd.asm = none ∧ t.rcd.gen = s.rcd.gen ∧ t.rcd.ring = s.rcd.ring ∧
        t.rcd.mirror = s.rcd.mirror ∧
        t.rcd.missed = if s.rcd.gen = 0 then s.rcd.missed else min 0xFFFFFFFF (s.rcd.missed + 1)) := by
  refine ⟨fun hecc hrun => ?_, fun c hc => ?_⟩
  · rw [sealDeadline_of_some true ha ht, if_neg (by simp [hecc, hrun])]
    rfl
  · have hmiss : exec (.sealDeadline c) s = .next (missSeal s) := by
      rw [sealDeadline_of_some c ha ht]
      exact if_pos (by rcases hc with h | h | h <;> simp [h])
    rw [missSeal_of_some ha] at hmiss
    exact ⟨_, hmiss, rfl, rfl, rfl, rfl, rfl⟩

/-! Publication (02 R50 to R53, R62): what follows the ring, the mirror and SYS_GEN leaves record and rails alone. -/

/-- The record and the rails. -/
def recordAndRails (s : State) : RecState × CrzState := (s.rcd, s.crz)

theorem streamSend_recordAndRails (l : Lease) (typ : Nat) (body : List Byte) (s : State) :
    recordAndRails (streamSend l typ body s) = recordAndRails s := rfl

theorem serveLease_recordAndRails (r : Record) (evt : BitVec 16) (l : Lease) (s : State) :
    recordAndRails (serveLease r evt l s) = recordAndRails s := by
  have hsend : ∀ {α : Type} (typ : Nat) (body : α → List Byte) (xs : List α) (u : State),
      recordAndRails (forAll xs (fun x t => streamSend l typ (body x) t) u) = recordAndRails u := fun typ body xs u =>
    forAll_keeps recordAndRails _ (fun x t => streamSend_recordAndRails l typ (body x) t) xs u
  unfold serveLease
  simp only
  split <;> split <;> simp only [hsend]

theorem serveLeases_recordAndRails (r : Record) (evt : BitVec 16) (s : State) :
    recordAndRails (serveLeases r evt s) = recordAndRails s := by
  unfold serveLeases
  split
  · rfl
  · refine forAll_keeps recordAndRails _ (fun k t => ?_) _ s
    split
    · exact serveLease_recordAndRails ..
    · rfl

theorem activationShown_recordAndRails (r : Record) (s : State) :
    recordAndRails (activationShown r s) = recordAndRails s := by
  unfold activationShown
  split <;> rfl

theorem raiseEvt_recordAndRails (b : BitVec 16) (s : State) : recordAndRails (raiseEvt b s) = recordAndRails s := by
  unfold raiseEvt
  simp only
  rw [msiFlush_frame]
  rfl

/-- Only net.set_config is kept under its key. -/
theorem storeKey_netSetConfig {c : Cmd} (h : storeKey c = some (0x0E01, 0)) : ∃ u l g, c = .netSetConfig u l g := by
  cases c with
  | netSetConfig u l g => exact ⟨u, l, g, rfl⟩
  | _ => simp [storeKey] at h

theorem netTakesEffect_recordAndRails (q : Reply) (s : State) :
    recordAndRails (netTakesEffect q s) = recordAndRails s := by
  unfold netTakesEffect
  split
  · split
    next c hc =>
      obtain ⟨u, l, g, rfl⟩ := storeKey_netSetConfig (c := c) (by simpa using List.find?_some hc)
      rfl
    · rfl
  · rfl

theorem deliver_recordAndRails (q : Reply) (s : State) : recordAndRails (deliver q s) = recordAndRails s := by
  unfold deliver
  split
  · exact raiseEvt_recordAndRails ..
  · exact netTakesEffect_recordAndRails ..

/-- The record that an assembly becomes (02 R50 to R53). -/
def recordOf (a : Assembly) (s : State) : Record :=
  { gen := s.rcd.gen + 1, format := ifverN s, sealTick := a.sealTick, backup := a.snap.sys.refclkLost, late := a.late,
    missed := s.rcd.missed, snap := a.snap, digest := digestOf a.digest, trunc := decide (1536 < a.digest.length) }

/-- The record and the rails as a publication leaves them: generation, ring, mirror, and the replies known since the seal. -/
theorem publish_recordAndRails (a : Assembly) (s : State) : recordAndRails (publish a s) = ({ s.rcd with
    asm := none, ring := (recordOf a s :: s.rcd.ring).take 12288, mirror := some (recordOf a s), gen := s.rcd.gen + 1,
    digest := s.rcd.digest.drop a.digest.length,
    replies := s.rcd.replies.filter fun q => decide (a.sealNo ≤ q.sealNo) }, s.crz) := by
  unfold publish
  simp only
  rw [forAll_keeps recordAndRails _ (fun q t => deliver_recordAndRails _ t), raiseEvt_recordAndRails,
    activationShown_recordAndRails, serveLeases_recordAndRails]
  rfl

theorem recordPublish_of_some {a : Assembly} {s : State} (ha : s.rcd.asm = some a) : exec .recordPublish s =
    if a.eccHit || !running s || (!a.complete && decide (a.sealTick + 40 < s.sys.tick)) then .next s
    else .next (publish a s) := by
  change execRecordPublish s = _
  unfold execRecordPublish
  rw [ha]

/-- RECORD_PUBLISH of a record completed in time (02 R49, R50, R62). -/
theorem recordPublish_row (a : Assembly) (s : State) (ha : s.rcd.asm = some a) (hecc : a.eccHit = false)
    (hrun : running s = true) (hc : a.complete = true ∨ s.sys.tick ≤ a.sealTick + 40) :
    ∃ t r, exec .recordPublish s = .next t ∧ t.rcd.gen = s.rcd.gen + 1 ∧ t.rcd.mirror = some r ∧ r.gen = s.rcd.gen + 1 ∧
      r.sealTick = a.sealTick ∧ r.snap = a.snap ∧ r.digest = digestOf a.digest ∧ r.late = a.late ∧ r.missed = s.rcd.missed ∧
      t.rcd.ring = (r :: s.rcd.ring).take 12288 ∧
      t.rcd.asm = none ∧ t.rcd.replies = (s.rcd.replies.filter fun q => decide (a.sealNo ≤ q.sealNo)) ∧ t.crz = s.crz := by
  obtain ⟨hrcd, hcrz⟩ := Prod.ext_iff.1 (publish_recordAndRails a s)
  have hnext : exec .recordPublish s = .next (publish a s) := by
    rw [recordPublish_of_some ha, if_neg]
    rcases hc with h | h <;> simp [hecc, hrun, h]
  exact ⟨_, recordOf a s, hnext, congrArg (·.gen) hrcd, congrArg (·.mirror) hrcd, rfl, rfl, rfl, rfl, rfl, rfl,
    congrArg (·.ring) hrcd, congrArg (·.asm) hrcd, congrArg (·.replies) hrcd, hcrz⟩

/-- A record that is spoiled or late, or a stopped cluster, publishes nothing. -/
theorem recordPublish_idle {s : State} (h : ∀ a, s.rcd.asm = some a → a.eccHit = true ∨ running s = false ∨
    (a.complete = false ∧ a.sealTick + 40 < s.sys.tick)) : exec .recordPublish s = .next s := by
  cases ha : s.rcd.asm with
  | none =>
    change execRecordPublish s = _
    unfold execRecordPublish
    rw [ha]
  | some a =>
    rw [recordPublish_of_some ha]
    exact if_pos (by rcases h a ha with h | h | ⟨h, h'⟩ <;> simp [*])

/-- Settles O31: the three rows by their equations; a publication by what its streams, host events and replies leave alone. -/
theorem recordSealedAndPublished : Obligations.RecordSealedAndPublished := by
  unfold Obligations.RecordSealedAndPublished
  exact ⟨stateRecordSeal_row, fun _ => stateRecordSeal_off, sealDeadline_row, fun c _ => sealDeadline_idle c,
    recordPublish_row, fun _ => recordPublish_idle⟩

end Sys2Proof.Machine
end

section
/-! SUPPORT. EVENT_TICK (02 R36, R38): of SYS_ and of the fan table, what the blocks do in a tick changes nothing but what the row
says. -/

namespace Sys2Proof.Machine

open Sys2Proof

/-! What the operations of the blocks leave alone. -/

/-- SYS_, the rows of the fan table, and what else the invariant of every step speaks of: both memories and GEN_DIV. No decision of
a block moves them. -/
structure Steady where
  sys : SysState
  rows : Vector Word 8
  nextRows : Option (Vector Word 8)
  mem : List Host.Cell
  genDiv : Nat
  config : List Host.Cell

/-- These parts of a state. -/
def steady (s : State) : Steady :=
  { sys := s.sys, rows := s.cool.rows, nextRows := s.cool.nextRows, mem := s.mbx.mem, genDiv := s.mbx.genDiv,
    config := s.link.config }

/-! Updates of one block. -/

@[simp] theorem steady_setAcc (n : Acc) (f : AccState → AccState) (s : State) : steady (s.setAcc n f) = steady s := by
  simp [steady]
@[simp] theorem steady_modStr (f : StrState → StrState) (s : State) : steady (s.modStr f) = steady s := by simp [steady]
@[simp] theorem steady_setStr (n : Acc) (f : StrAcc → StrAcc) (s : State) : steady (s.setStr n f) = steady s := by simp [steady]
@[simp] theorem steady_modFrd (f : FrdState → FrdState) (s : State) : steady (s.modFrd f) = steady s := by simp [steady]
@[simp] theorem steady_modSrs (f : SrsState → SrsState) (s : State) : steady (s.modSrs f) = steady s := by simp [steady]
@[simp] theorem steady_setLink (n : Acc) (f : LinkState → LinkState) (s : State) : steady (s.setLink n f) = steady s := by
  simp [steady]
@[simp] theorem steady_modBup (f : BupState → BupState) (s : State) : steady (s.modBup f) = steady s := by simp [steady]
@[simp] theorem steady_setBup (n : Acc) (f : BupAcc → BupAcc) (s : State) : steady (s.setBup n f) = steady s := by simp [steady]
@[simp] theorem steady_setBand (n : Acc) (f : BandState → BandState) (s : State) : steady (s.setBand n f) = steady s := by
  simp [steady]
@[simp] theorem steady_setFan (i : Fan) (f : FanState → FanState) (s : State) : steady (s.setFan i f) = steady s := by
  simp [steady]
@[simp] theorem steady_setPump (p : Pump) (f : PumpState → PumpState) (s : State) : steady (s.setPump p f) = steady s := by
  simp [steady]
@[simp] theorem steady_setLoop (l : Loop) (f : LoopState → LoopState) (s : State) : steady (s.setLoop l f) = steady s := by
  simp [steady]
@[simp] theorem steady_setThm (i : Fin 24) (f : ThmState → ThmState) (s : State) : steady (s.setThm i f) = steady s := by
  simp [steady]
@[simp] theorem steady_modTwb (f : TwbState → TwbState) (s : State) : steady (s.modTwb f) = steady s := by simp [steady]
@[simp] theorem steady_setAvs (n : Acc) (f : AvsState → AvsState) (s : State) : steady (s.setAvs n f) = steady s := by
  simp [steady]
@[simp] theorem steady_setChan (c : Chan) (f : ChanState → ChanState) (s : State) : steady (s.setChan c f) = steady s := by
  simp [steady]
@[simp] theorem steady_setRail (r : Rail) (f : RailState → RailState) (s : State) : steady (s.setRail r f) = steady s := by
  simp [steady]
@[simp] theorem steady_modRack (f : RackState → RackState) (s : State) : steady (s.modRack f) = steady s := by simp [steady]
@[simp] theorem steady_modSup (f : SupState → SupState) (s : State) : steady (s.modSup f) = steady s := by simp [steady]
@[simp] theorem steady_setEntry (r : Rail) (f : RailEntry → RailEntry) (s : State) : steady (s.setEntry r f) = steady s := by
  simp [steady]
@[simp] theorem steady_setAccFw (n : Acc) (f : AccFwState → AccFwState) (s : State) : steady (s.setAccFw n f) = steady s := by
  simp [steady]
@[simp] theorem steady_modSaf (f : SafState → SafState) (s : State) : steady (s.modSaf f) = steady s := by simp [steady]
@[simp] theorem steady_modNv (f : NvState → NvState) (s : State) : steady (s.modNv f) = steady s := by simp [steady]
@[simp] theorem steady_modRcd (f : RecState → RecState) (s : State) : steady (s.modRcd f) = steady s := by simp [steady]
@[simp] theorem steady_modNet (f : NetState → NetState) (s : State) : steady (s.modNet f) = steady s := by simp [steady]
@[simp] theorem steady_modBrm (f : BrmState → BrmState) (s : State) : steady (s.modBrm f) = steady s := by simp [steady]
@[simp] theorem steady_send (m : Out) (s : State) : steady (s.send m) = steady s := by simp [steady]
@[simp] theorem steady_draw (s : State) : steady s.draw.2 = steady s := by simp [steady]

@[simp] theorem steady_modCool {f : CoolState → CoolState} (h : ∀ c, (f c).rows = c.rows ∧ (f c).nextRows = c.nextRows)
    (s : State) : steady (s.modCool f) = steady s := by
  simp [steady, h]

@[simp] theorem steady_modMbx {f : MbxState → MbxState} (h : ∀ m, (f m).mem = m.mem ∧ (f m).genDiv = m.genDiv) (s : State) :
    steady (s.modMbx f) = steady s := by
  simp [steady, h]

@[simp] theorem steady_modLk {f : LinkBlock → LinkBlock} (h : ∀ k, (f k).config = k.config) (s : State) :
    steady (s.modLk f) = steady s := by
  simp [steady, h]

/-- Both branches of a decision are looked at apart. -/
@[simp] theorem steady_ite {c : Prop} {_ : Decidable c} (s t : State) :
    steady (if c then s else t) = if c then steady s else steady t := apply_ite steady c s t

@[simp] theorem steady_dite {c : Prop} {_ : Decidable c} (s : c → State) (t : ¬c → State) :
    steady (if h : c then s h else t h) = if h : c then steady (s h) else steady (t h) := apply_dite steady c s t

@[simp] theorem steady_forAll {α : Type} {f : α → State → State} (h : ∀ x s, steady (f x s) = steady s) (l : List α)
    (s : State) : steady (forAll l f s) = steady s := forAll_keeps steady f h l s

/-! Events, answers and words to the accelerators. -/

@[simp] theorem steady_emit (s : State) (cls unit obj code detail : Nat) :
    steady (emit s cls unit obj code detail) = steady s := by simp [emit]
@[simp] theorem steady_hostEvent (b : Nat) (s : State) : steady (hostEvent b s) = steady s := by simp [hostEvent]
@[simp] theorem steady_complete (q : Reply) (a : Ans) (s : State) : steady (complete q a s) = steady s := by simp [complete]
@[simp] theorem steady_completeLate (q : Reply) (a : Ans) (s : State) : steady (completeLate q a s) = steady s := by
  simp [completeLate]
@[simp] theorem steady_sendWord (n : Acc) (ty : Byte) (body : List Byte) (s : State) :
    steady (sendWord n ty body s) = steady s := by simp [sendWord]
@[simp] theorem steady_sendEnvelope (n : Acc) (s : State) : steady (sendEnvelope n s) = steady s := by simp [sendEnvelope]
@[simp] theorem steady_sendFlow (n : Acc) (s : State) : steady (sendFlow n s) = steady s := by simp [sendFlow]
@[simp] theorem steady_sendParkWord (n : Acc) (s : State) : steady (sendParkWord n s) = steady s := by simp [sendParkWord]
@[simp] theorem steady_sendCommit (n : Acc) (whole : Bool) (s : State) : steady (sendCommit n whole s) = steady s := by
  simp [sendCommit]

@[simp] theorem steady_drainWords (k : Nat) (n : Acc) (s : State) : steady (drainWords k n s) = steady s := by
  induction k generalizing s with
  | zero => rfl
  | succ k ih =>
    unfold drainWords
    split
    · simp [ih]
    · rfl

@[simp] theorem steady_arbitrate {f : State → State} (h : ∀ s, steady (f s) = steady s) (s : State) :
    steady (arbitrate f s) = steady s := by
  simp [arbitrate, h]

@[simp] theorem steady_sendFull (n : Acc) (s : State) : steady (sendFull n s) = steady s := by simp [sendFull]
@[simp] theorem steady_setDsLost (n : Acc) (lost : Bool) (s : State) : steady (setDsLost n lost s) = steady s := by
  simp [setDsLost]
@[simp] theorem steady_linkDown (n : Acc) (cause : Nat) (s : State) : steady (linkDown n cause s) = steady s := by
  simp [linkDown]
@[simp] theorem steady_resumeCheck (n : Acc) (s : State) : steady (resumeCheck n s) = steady s := by simp [resumeCheck]
@[simp] theorem steady_flushQueue (n : Acc) (s : State) : steady (flushQueue n s) = steady s := by simp [flushQueue]
@[simp] theorem steady_linkStart (n : Acc) (s : State) : steady (linkStart n s) = steady s := by simp [linkStart]
@[simp] theorem steady_sendTest (n : Acc) (op : Byte) (body : List Byte) (s : State) :
    steady (sendTest n op body s) = steady s := by simp [sendTest]
@[simp] theorem steady_sendStart (n : Acc) (r : TestRun) (s : State) : steady (sendStart n r s) = steady s := by
  simp [sendStart]

/-! Set-points and margins. -/

@[simp] theorem steady_avsWrite (n : Acc) (k : Fin 2) (s : State) : steady (avsWrite n k s) = steady s := by simp [avsWrite]
@[simp] theorem steady_avsWrites (n : Acc) (s : State) : steady (avsWrites n s) = steady s := by simp [avsWrites]
@[simp] theorem steady_startSet (n : Acc) (mv opp felt : Nat) (s : State) : steady (startSet n mv opp felt s) = steady s := by
  simp [startSet]
@[simp] theorem steady_marginsHome (n : Acc) (s : State) : steady (marginsHome n s) = steady s := by simp [marginsHome]

@[simp] theorem steady_dropMargin (r : Rail) (s : State) : steady (dropMargin r s) = steady s := by
  simp only [dropMargin, steady_ite]
  cases accOfRail r with
  | none => simp
  | some n =>
    simp only [steady_ite]
    simp

@[simp] theorem steady_marginsBack (c : Chan) (s : State) : steady (marginsBack c s) = steady s := by
  unfold marginsBack
  split
  · simp
  · rfl

/-! Bring-up. -/

@[simp] theorem steady_appendEntry (e : JEntry) (s : State) : steady (appendEntry e s) = steady s := by simp [appendEntry]
@[simp] theorem steady_declareFailed (n : Acc) (detail : Nat) (s : State) : steady (declareFailed n detail s) = steady s := by
  simp [declareFailed]
@[simp] theorem steady_demote (n : Acc) (bin : Nat) (s : State) : steady (demote n bin s) = steady s := by simp [demote]

@[simp] theorem steady_judgeBin (n : Acc) (s : State) : steady (judgeBin n s) = steady s := by
  simp only [judgeBin, steady_ite]
  split
  · simp
  split
  · simp
  · split <;> simp

@[simp] theorem steady_mergeRun (n : Acc) (r : TestRun) (untested : List Nat) (s : State) :
    steady (mergeRun n r untested s) = steady s := by simp [mergeRun]

@[simp] theorem steady_finishRun (n : Acc) (s : State) : steady (finishRun n s) = steady s := by
  unfold finishRun
  split
  · rfl
  · simp

@[simp] theorem steady_compareWaiting (n : Acc) (s : State) : steady (compareWaiting n s) = steady s := by
  unfold compareWaiting
  split
  · rfl
  · simp

@[simp] theorem steady_refsProgress (n : Acc) (s : State) : steady (refsProgress n s) = steady s := by simp [refsProgress]
@[simp] theorem steady_startRefs (n : Acc) (r : Nat × BitVec 64) (s : State) : steady (startRefs n r s) = steady s := by
  simp [startRefs]

@[simp] theorem steady_drawRun (n : Acc) (s : State) : steady (drawRun n s).2 = steady s := by
  simp [drawRun]

@[simp] theorem steady_startRun (n : Acc) (attempt : Nat) (d : Nat × BitVec 64) (s : State) :
    steady (startRun n attempt d s) = steady s := by simp [startRun]

@[simp] theorem steady_writeSettings (n : Acc) (s : State) : steady (writeSettings n s) = steady s := by
  unfold writeSettings
  simp only
  split
  · simp
  split
  · simp
  · simp

@[simp] theorem steady_abandonRun (n : Acc) (s : State) : steady (abandonRun n s) = steady s := by simp [abandonRun]
@[simp] theorem steady_endPark (n : Acc) (s : State) : steady (endPark n s) = steady s := by simp [endPark]

/-! Rails and channels. -/

@[simp] theorem steady_putState (c : Chan) (k : Nat) (s : State) : steady (putState c k s) = steady s := by simp [putState]
@[simp] theorem steady_holdReset (n : Acc) (s : State) : steady (holdReset n s) = steady s := by simp [holdReset]

@[simp] theorem steady_disableRail (r : Rail) (s : State) : steady (disableRail r s) = steady s := by
  unfold disableRail
  simp only
  split
  · rfl
  split
  · simp
  · simp

@[simp] theorem steady_enableRail (r : Rail) (s : State) : steady (enableRail r s) = steady s := by simp [enableRail]

@[simp] theorem steady_dropDrain (n : Acc) (s : State) : steady (dropDrain n s) = steady s := by
  unfold dropDrain
  split
  · rfl
  · simp

@[simp] theorem steady_leaveTop (n : Acc) (s : State) : steady (leaveTop n s) = steady s := by simp [leaveTop]
@[simp] theorem steady_leaveDown (n : Acc) (s : State) : steady (leaveDown n s) = steady s := by simp [leaveDown]
@[simp] theorem steady_enterS0 (n : Acc) (s : State) : steady (enterS0 n s) = steady s := by simp [enterS0]
@[simp] theorem steady_enterS9 (n : Acc) (s : State) : steady (enterS9 n s) = steady s := by simp [enterS9]

@[simp] theorem steady_enterS10 (n : Acc) (s : State) : steady (enterS10 n s) = steady s := by
  simp only [enterS10, steady_ite]
  simp

@[simp] theorem steady_enterS11 (n : Acc) (s : State) : steady (enterS11 n s) = steady s := by
  unfold enterS11
  split
  · simp
  split
  · simp
  · simp

@[simp] theorem steady_enterS12 (n : Acc) (s : State) : steady (enterS12 n s) = steady s := by simp [enterS12]
@[simp] theorem steady_enterAcc (n : Acc) (k : Nat) (s : State) : steady (enterAcc n k s) = steady s := by simp [enterAcc]

@[simp] theorem steady_enterHook (c : Chan) (k : Nat) (s : State) : steady (enterHook c k s) = steady s := by
  unfold enterHook
  split
  · simp
  · rfl

@[simp] theorem steady_enableReady (c : Chan) (s : State) : steady (enableReady c s) = steady s := by simp [enableReady]
@[simp] theorem steady_startStep (c : Chan) (k : Nat) (s : State) : steady (startStep c k s) = steady s := by simp [startStep]

@[simp] theorem steady_efuseBack (c : Chan) (s : State) : steady (efuseBack c s) = steady s := by
  unfold efuseBack
  split
  · rfl
  · simp

@[simp] theorem steady_tryStep (c : Chan) (k : Nat) (s : State) : steady (tryStep c k s) = steady s := by
  unfold tryStep
  simp only
  split
  · simp
  split
  · simp
  · simp

@[simp] theorem steady_crzUp (c : Chan) (s : State) : steady (crzUp c s) = steady s := by simp [crzUp]
@[simp] theorem steady_stepOver (c : Chan) (s : State) : steady (stepOver c s) = steady s := by simp [stepOver]
@[simp] theorem steady_settle (c : Chan) (s : State) : steady (settle c s) = steady s := by simp [settle]

@[simp] theorem steady_crzDown (fuel : Nat) (c : Chan) (s : State) : steady (crzDown fuel c s) = steady s := by
  induction fuel generalizing s with
  | zero => rfl
  | succ k ih =>
    unfold crzDown
    simp only [steady_ite]
    cases accOf c.1 with
    | none => simp [ih]
    | some n => simp [ih]

@[simp] theorem steady_removeGo (s : State) : steady (removeGo s) = steady s := by simp [removeGo]

@[simp] theorem steady_endFault (c : Chan) (s : State) : steady (endFault c s) = steady s := by
  unfold endFault
  simp only
  split
  · simp
  · simp

@[simp] theorem steady_emptyS0 (c : Chan) (s : State) : steady (emptyS0 c s) = steady s := by simp [emptyS0]
@[simp] theorem steady_finishFault (c : Chan) (s : State) : steady (finishFault c s) = steady s := by simp [finishFault]
@[simp] theorem steady_resumeStep (c : Chan) (s : State) : steady (resumeStep c s) = steady s := by simp [resumeStep]

@[simp] theorem steady_resetLater (c : Chan) (s : State) : steady (resetLater c s) = steady s := by
  unfold resetLater
  simp only
  split
  · split
    · simp
    · simp
  · rfl

@[simp] theorem steady_crzTick (c : Chan) (s : State) : steady (crzTick c s) = steady s := by
  unfold crzTick
  cases accOf c.1 with
  | none => simp
  | some n => simp

@[simp] theorem steady_crzTicks (s : State) : steady (crzTicks s) = steady s := by simp [crzTicks]

/-! Samples. -/

@[simp] theorem steady_takeThm (i : Fin 24) (v : Nat) (ok : Bool) (s : State) : steady (takeThm i v ok s) = steady s := by
  simp [takeThm]
@[simp] theorem steady_takeDie (c : Fin 2) (v : Nat) (s : State) : steady (takeDie c v s) = steady s := by simp [takeDie]
@[simp] theorem steady_takeFlow (l : Loop) (v : Nat) (ok : Bool) (s : State) : steady (takeFlow l v ok s) = steady s := by
  simp [takeFlow]
@[simp] theorem steady_takePress (ch : Fin 4) (v : Nat) (ok : Bool) (s : State) : steady (takePress ch v ok s) = steady s := by
  simp [takePress]
@[simp] theorem steady_takeCheck (c : Fin 2) (k v : Nat) (s : State) : steady (takeCheck c k v s) = steady s := by
  simp [takeCheck]
@[simp] theorem steady_skipRail (r : Rail) (s : State) : steady (skipRail r s) = steady s := by simp [skipRail]
@[simp] theorem steady_takeRail (r : Rail) (v : Nat) (s : State) : steady (takeRail r v s) = steady s := by simp [takeRail]

@[simp] theorem steady_takeSlow (c : Fin 2) (sub : Fin 16) (v : Nat) (s : State) : steady (takeSlow c sub v s) = steady s := by
  simp only [takeSlow, steady_ite, steady_dite]
  simp

@[simp] theorem steady_takeChannel (c : Fin 2) (k v : Nat) (s : State) : steady (takeChannel c k v s) = steady s := by
  unfold takeChannel
  split
  · simp
  split
  · simp
  split
  · rfl
  · simp

@[simp] theorem steady_takeSample (c : Fin 2) (v : Nat) (s : State) : steady (takeSample c v s) = steady s := by
  simp [takeSample]
@[simp] theorem steady_takeScan (i : TickIn) (s : State) : steady (takeScan i s) = steady s := by simp [takeScan]
@[simp] theorem steady_pumpTach (edge : Bool) (p : Pump) (s : State) : steady (pumpTach edge p s) = steady s := by
  simp [pumpTach]
@[simp] theorem steady_fanTach (edge : Bool) (f : Fan) (s : State) : steady (fanTach edge f s) = steady s := by simp [fanTach]
@[simp] theorem steady_takeTach (e : BitVec 20) (s : State) : steady (takeTach e s) = steady s := by simp [takeTach]
@[simp] theorem steady_takeRings (rings : BitVec 4) (s : State) : steady (takeRings rings s) = steady s := by simp [takeRings]
@[simp] theorem steady_bothFaulty (s : State) : steady (bothFaulty s) = steady s := by simp [bothFaulty]
@[simp] theorem steady_presentCauses (s : State) : steady (presentCauses s) = steady s := by simp [presentCauses]

@[simp] theorem steady_sampleIdle (bits : BitVec 8) (s : State) : steady (sampleIdle bits s) = steady s := by
  refine steady_forAll (fun n t => ?_) _ s
  split
  · rfl
  · simp

@[simp] theorem steady_onDieCheck (n : Acc) (s : State) : steady (onDieCheck n s) = steady s := by simp [onDieCheck]

/-! The rest of a tick. -/

@[simp] theorem steady_ageLinks (s : State) : steady (ageLinks s) = steady s := by simp [ageLinks]
@[simp] theorem steady_freezeForced (s : State) : steady (freezeForced s) = steady s := by simp [freezeForced]
@[simp] theorem steady_takeRefs (k : Nat) (s : State) : steady (takeRefs k s) = steady s := by simp [takeRefs]
@[simp] theorem steady_startAccWrites (s : State) : steady (startAccWrites s) = steady s := by simp [startAccWrites]

@[simp] theorem steady_pulseEnds (s : State) : steady (pulseEnds s) = steady s := by
  unfold pulseEnds
  split
  · simp
  · rfl

@[simp] theorem steady_driveAll (fall : Rat) (s : State) : steady (driveAll fall s) = steady s := by simp [driveAll]

@[simp] theorem steady_tableCheck (s : State) : steady (tableCheck s) = steady s := by
  unfold tableCheck
  split
  · rfl
  split
  · rfl
  · simp

@[simp] theorem steady_endDrain (outcome : Nat) (s : State) : steady (endDrain outcome s) = steady s := by simp [endDrain]
@[simp] theorem steady_drainCheck (s : State) : steady (drainCheck s) = steady s := by simp [drainCheck]
@[simp] theorem steady_startDrain (s : State) : steady (startDrain s) = steady s := by simp [startDrain]
@[simp] theorem steady_rackCompare (s : State) : steady (rackCompare s) = steady s := by simp [rackCompare]
@[simp] theorem steady_leaveMargins (s : State) : steady (leaveMargins s) = steady s := by simp [leaveMargins]
@[simp] theorem steady_announce (s : State) : steady (announce s) = steady s := by simp [announce]
@[simp] theorem steady_setTarget (c : Chan) (t : Nat) (s : State) : steady (setTarget c t s) = steady s := by simp [setTarget]
@[simp] theorem steady_setAccTarget (n : Acc) (t : Nat) (s : State) : steady (setAccTarget n t s) = steady s := by
  simp [setAccTarget]

@[simp] theorem steady_aim (c : Chan) (t : Nat) (s : State) : steady (aim c t s) = steady s := by
  unfold aim
  simp only
  split
  · simp
  · simp

@[simp] theorem steady_aimAcc (n : Acc) (t : Nat) (s : State) : steady (aimAcc n t s) = steady s := by simp [aimAcc]
@[simp] theorem steady_lowerAll (t : Nat) (s : State) : steady (lowerAll t s) = steady s := by simp [lowerAll]
@[simp] theorem steady_raiseAll (t : Nat) (s : State) : steady (raiseAll t s) = steady s := by simp [raiseAll]
@[simp] theorem steady_clearStagger (s : State) : steady (clearStagger s) = steady s := by simp [clearStagger]
@[simp] theorem steady_armStagger (s : State) : steady (armStagger s) = steady s := by simp [armStagger]
@[simp] theorem steady_startRecovery (s : State) : steady (startRecovery s) = steady s := by simp [startRecovery]
@[simp] theorem steady_quiesceTargets (s : State) : steady (quiesceTargets s) = steady s := by simp [quiesceTargets]

@[simp] theorem steady_rackActions (k : Nat) (s : State) : steady (rackActions k s) = steady s := by
  unfold rackActions
  split <;> simp

@[simp] theorem steady_enterRack (k : Fin 16) (s : State) : steady (enterRack k s) = steady s := by simp [enterRack]
@[simp] theorem steady_rackLocal (s : State) : steady (rackLocal s) = steady s := by simp [rackLocal]

@[simp] theorem steady_takeLines (sda scl : BitVec 19) (s : State) : steady (takeLines sda scl s) = steady s := by
  simp [takeLines]

/-! What a tick does change (02 R36; 12 R369; 18 R528, R532). -/

/-- The tick is counted, and the errors corrected in it (02 R36, 01 R27). -/
def tickCounted (i : TickIn) (s : State) : State :=
  s.modSys fun y => { y with tick := (y.tick + 1) % 2 ^ 64, eccCe := y.eccCe + i.eccCorrected }

/-- WP_N is at its level, whatever a write of slot G loses by it (18 R528). -/
theorem steady_followWp (level : Bool) (s : State) :
    steady (followWp level s) = { steady s with sys := { s.sys with wpN := level } } := by
  unfold followWp
  split
  · split
    · rfl
    · rfl
  · rfl

/-- Staged rows take effect together (12 R369). -/
theorem steady_applyRows (s : State) : steady (applyRows s) =
    { steady s with rows := (steady s).nextRows.getD (steady s).rows, nextRows := none } := rfl

/-- The trim is of SYS_ alone. -/
theorem steady_trimVid (up down : Bool) (s : State) :
    steady (trimVid up down s) = { steady s with sys := (trimVid up down s).sys } := rfl

/-- Of SYS_ the trim moves VID_PWM alone (18 R532). -/
theorem trimVid_sys (up down : Bool) (s : State) : (trimVid up down s).sys =
    { s.sys with vidDriven := (trimVid up down s).sys.vidDriven, vidDuty := (trimVid up down s).sys.vidDuty } := rfl

/-- From a duty in its range the trim goes by at most one, and stays in the range (18 R532). -/
theorem trimVid_duty (up down : Bool) {s : State} (hlo : 96 ≤ s.sys.vidDuty) (hhi : s.sys.vidDuty ≤ 224) :
    96 ≤ (trimVid up down s).sys.vidDuty ∧ (trimVid up down s).sys.vidDuty ≤ 224 ∧
      (trimVid up down s).sys.vidDuty ≤ s.sys.vidDuty + 1 ∧ s.sys.vidDuty ≤ (trimVid up down s).sys.vidDuty + 1 := by
  have hd : (trimVid up down s).sys.vidDuty = if !s.sys.memTrained || up == down then s.sys.vidDuty
    else if up then min 224 (s.sys.vidDuty + 1) else max 96 (s.sys.vidDuty - 1) := rfl
  rw [hd]
  split
  · omega
  · split <;> omega

/-! The row. -/

/-- A tick up to the trim of VID_PWM: the counter and what it samples. -/
def tickSampled (i : TickIn) (s : State) : State :=
  let s := freezeForced (ageLinks (applyRows (takeLines i.sdaHeld i.sclHeld (followWp i.wpN (tickCounted i s)))))
  sampleIdle i.xnetIdle (presentCauses (takeRings i.rings (takeTach i.tach (takeRefs i.refs (takeScan i s)))))

/-- The decisions of a tick boundary. -/
def tickDecided (s : State) : State :=
  tableCheck (drainCheck (rackCompare (rackLocal (startAccWrites (crzTicks (pulseEnds (forAll accList onDieCheck s)))))))

/-- With the part out of reset, a tick samples, trims and decides. -/
theorem eventTick_next (i : TickIn) {s : State} (h : s.sys.boot ≠ .porst) :
    exec (.eventTick i) s = .next (tickDecided (trimVid i.trimUp i.trimDown (tickSampled i s))) := if_neg h

theorem steady_tickSampled (i : TickIn) (s : State) : steady (tickSampled i s) = { steady s with
    sys := { s.sys with tick := (s.sys.tick + 1) % 2 ^ 64, eccCe := s.sys.eccCe + i.eccCorrected, wpN := i.wpN },
    rows := s.cool.nextRows.getD s.cool.rows, nextRows := none } := by
  have h : steady (tickSampled i s) =
      steady (applyRows (takeLines i.sdaHeld i.sclHeld (followWp i.wpN (tickCounted i s)))) := by
    simp [tickSampled]
  rw [h, steady_applyRows, steady_takeLines, steady_followWp]
  rfl

theorem steady_tickDecided (s : State) : steady (tickDecided s) = steady s := by
  simp [tickDecided]

/-- A tick ends with what its samples `u` left of the steady parts, the trim of VID_PWM apart. -/
theorem eventTick_steady (i : TickIn) {s : State} (h : s.sys.boot ≠ .porst) :
    ∃ u t, exec (.eventTick i) s = .next t ∧ steady t = { steady u with sys := (trimVid i.trimUp i.trimDown u).sys } ∧
      steady u = { steady s with
        sys := { s.sys with tick := (s.sys.tick + 1) % 2 ^ 64, eccCe := s.sys.eccCe + i.eccCorrected, wpN := i.wpN },
        rows := s.cool.nextRows.getD s.cool.rows, nextRows := none } :=
  ⟨tickSampled i s, _, eventTick_next i h, (steady_tickDecided _).trans (steady_trimVid ..), steady_tickSampled i s⟩

/-- Settles O29: the samples and the decisions of a tick are steady, so that what the row changes is its counter, WP_N, the rows
and the trim. -/
theorem eventTickCounts : Obligations.EventTickCounts := by
  unfold Obligations.EventTickCounts
  intro i s hboot
  obtain ⟨u, t, hnext, ht, hu⟩ := eventTick_steady i hboot
  have hut : t.sys = (trimVid i.trimUp i.trimDown u).sys := congrArg Steady.sys ht
  have hus : u.sys = { s.sys with
      tick := (s.sys.tick + 1) % 2 ^ 64, eccCe := s.sys.eccCe + i.eccCorrected, wpN := i.wpN } := congrArg Steady.sys hu
  have hduty : u.sys.vidDuty = s.sys.vidDuty := by rw [hus]
  refine ⟨t, hnext, ?_, ?_, ?_, ?_, ?_, fun hlo hhi => ?_⟩
  · rw [hut, trimVid_sys, hus]
  · rw [hut, trimVid_sys, hus]
  · rw [hut, trimVid_sys, hus]
  · exact (congrArg Steady.rows ht).trans (congrArg Steady.rows hu)
  · exact (congrArg Steady.nextRows ht).trans (congrArg Steady.nextRows hu)
  · rw [hut, ← hduty]
    exact trimVid_duty _ _ (hduty ▸ hlo) (hduty ▸ hhi)

end Sys2Proof.Machine
end

section
/-! SUPPORT. The accelerator interface (01 R18, R26; 03 R70 to R75; 04 R91, R103, R106; 05 R140): what the operations that take an
accelerator down leave of its pins, its channel and its rails, the emergency shutdown, the alert inputs, and the drains. -/

namespace Sys2Proof.Machine

open Sys2Proof

/-! What waits for the record stays. -/

/-- From `s` to `t` SYS_ is the same, all that waits in the merger still waits, and every host event due stays due. -/
structure RecordGrows (s t : State) : Prop where
  sys : t.sys = s.sys
  waits : ∀ w ∈ s.rcd.merger, w ∈ t.rcd.merger
  due : ∀ p ∈ s.mbx.evtDue, p ∈ t.mbx.evtDue

namespace RecordGrows

/-- A step that leaves SYS_, the record and the mailboxes alone. -/
theorem of_eq {s t : State} (hsys : t.sys = s.sys := by rfl) (hrcd : t.rcd = s.rcd := by rfl)
    (hmbx : t.mbx = s.mbx := by rfl) : RecordGrows s t :=
  ⟨hsys, fun _ hw => hrcd ▸ hw, fun _ hp => hmbx ▸ hp⟩

theorem refl (s : State) : RecordGrows s s := of_eq

theorem trans {s t u : State} (h : RecordGrows s t) (h' : RecordGrows t u) : RecordGrows s u :=
  ⟨h'.sys.trans h.sys, fun w hw => h'.waits w (h.waits w hw), fun p hp => h'.due p (h.due p hp)⟩

theorem emit (s : State) (cls unit obj code detail : Nat) : RecordGrows s (emit s cls unit obj code detail) :=
  ⟨rfl, fun _ hw => mem_emit hw .., fun _ hp => hp⟩

theorem hostEvent (b : Nat) (s : State) : RecordGrows s (hostEvent b s) :=
  ⟨rfl, fun _ hw => hw, fun _ hp => List.mem_append_left _ hp⟩

theorem raised {s t : State} (h : RecordGrows s t) {cls unit obj code detail : Nat} (hr : Raised s cls unit obj code detail) :
    Raised t cls unit obj code detail := hr.mono (by rw [h.sys]) h.waits

theorem hostDue {s t : State} (h : RecordGrows s t) {b : Nat} (hd : HostDue s b) : HostDue t b :=
  hd.mono (by rw [h.sys]) h.due

end RecordGrows

theorem setAcc_recordGrows (n : Acc) (f : AccState → AccState) (s : State) : RecordGrows s (s.setAcc n f) := .of_eq
theorem setChan_recordGrows (c : Chan) (f : ChanState → ChanState) (s : State) : RecordGrows s (s.setChan c f) := .of_eq
theorem setRail_recordGrows (r : Rail) (f : RailState → RailState) (s : State) : RecordGrows s (s.setRail r f) := .of_eq

theorem completeLate_recordGrows (q : Reply) (a : Ans) (s : State) : RecordGrows s (completeLate q a s) :=
  RecordGrows.trans (t := complete q a s) ⟨rfl, fun _ hw => hw, fun _ hp => hp⟩ (.emit ..)

/-! Margins. -/

/-- A margin that is dropped shows in the record, the supervision and at its regulator (05 R152). -/
theorem dropMargin_frame (r : Rail) (s : State) :
    dropMargin r s = { s with rcd := (dropMargin r s).rcd, sup := (dropMargin r s).sup, twb := (dropMargin r s).twb,
                              out := (dropMargin r s).out } := by
  unfold dropMargin
  simp only
  split
  · rfl
  split
  · rfl
  split
  · rfl
  split
  · rfl
  split
  · rfl
  split <;> rfl

@[simp] theorem dropMargin_acc (r : Rail) (s : State) : (dropMargin r s).acc = s.acc := by rw [dropMargin_frame]
@[simp] theorem dropMargin_crz (r : Rail) (s : State) : (dropMargin r s).crz = s.crz := by rw [dropMargin_frame]

theorem dropMargin_recordGrows (r : Rail) (s : State) : RecordGrows s (dropMargin r s) := by
  refine ⟨by rw [dropMargin_frame], fun w hw => ?_, fun p hp => by rwa [dropMargin_frame]⟩
  unfold dropMargin
  simp only
  split
  · exact hw
  split
  · exact hw
  split
  · exact hw
  have he {cls unit obj code detail : Nat} {u : State} (hu : u.rcd = s.rcd) :
      w ∈ (emit u cls unit obj code detail).rcd.merger := mem_emit (hu ▸ hw) ..
  split
  · exact he rfl
  split
  · exact he rfl
  split <;> exact he rfl

/-- Only the supervision holds the targets of margins (05 R152). -/
theorem marginsBack_frame (c : Chan) (s : State) : marginsBack c s = { s with sup := (marginsBack c s).sup } := by
  unfold marginsBack
  split
  · split <;> rfl
  · rfl

@[simp] theorem marginsBack_crz (c : Chan) (s : State) : (marginsBack c s).crz = s.crz := by rw [marginsBack_frame]

theorem marginsBack_recordGrows (c : Chan) (s : State) : RecordGrows s (marginsBack c s) :=
  .of_eq (by rw [marginsBack_frame]) (by rw [marginsBack_frame]) (by rw [marginsBack_frame])

/-! An accelerator's channel on its way down. -/

theorem accOf_accChan (n : Acc) : accOf (accChan n).1 = some n := dif_pos n.2

/-- A drain that a fault ends leaves its pins (15 R454). -/
theorem dropDrain_frame (n : Acc) (s : State) :
    dropDrain n s = { s with rcd := (dropDrain n s).rcd, acc := (dropDrain n s).acc } := by
  unfold dropDrain
  split <;> rfl

@[simp] theorem dropDrain_crz (n : Acc) (s : State) : (dropDrain n s).crz = s.crz := by rw [dropDrain_frame]

theorem dropDrain_recordGrows (n : Acc) (s : State) : RecordGrows s (dropDrain n s) := by
  unfold dropDrain
  split
  · exact .refl s
  · exact (setAcc_recordGrows ..).trans (completeLate_recordGrows ..)

theorem endPark_frame (n : Acc) (s : State) :
    endPark n s = { s with str := (endPark n s).str, srs := (endPark n s).srs } := by
  unfold endPark
  split <;> rfl

theorem abandonRun_frame (n : Acc) (s : State) : abandonRun n s = { s with bup := (abandonRun n s).bup } := rfl

/-- Leaving S9 to S12 ends the set-point change, and keeps the other pins and the channel (11 R342). -/
theorem leaveTop_frame (n : Acc) (s : State) :
    leaveTop n s = { s with str := (leaveTop n s).str, srs := (leaveTop n s).srs, bup := (leaveTop n s).bup,
                            acc := s.acc.set n { s.acc[n] with change := none } } := by
  unfold leaveTop
  rw [abandonRun_frame, endPark_frame]
  rfl

/-- The pins of an accelerator in reset (03 R70). -/
def AccState.inReset (a : AccState) (now : Nat) : AccState :=
  { a with change := none, rst := true, rstTick := if a.rst then a.rstTick else now, forceCrz := true }

/-- The channel of a power-down from S9 or higher (04 R91). -/
def ChanState.leftTop (c : ChanState) (now : Nat) : ChanState :=
  { c with state := 8, chTick := now, dir := if c.dir = 3 then 3 else 2, stepDone := true, waiting := false }

/-- The first tick of a power-down holds the accelerator in reset and puts its channel into S8 (04 R91). -/
theorem leaveDown_frame (n : Acc) (s : State) :
    leaveDown n s = { s with
      sup := (leaveDown n s).sup, str := (leaveDown n s).str, srs := (leaveDown n s).srs, bup := (leaveDown n s).bup,
      acc := s.acc.set n (s.acc[n].inReset s.sys.tick),
      crz := { s.crz with chan := s.crz.chan.set (accChan n) (s.crz.chan[accChan n].leftTop s.sys.tick) } } := by
  have hc : ¬(accChan n = 8 ∧ (8 : Nat) < 4) := by omega
  unfold leaveDown putState
  rw [if_neg hc, leaveTop_frame, marginsBack_frame]
  simp [holdReset, State.setAcc, State.setChan, AccState.inReset, ChanState.leftTop]

@[simp] theorem leaveDown_acc (n : Acc) (s : State) : (leaveDown n s).acc = s.acc.set n (s.acc[n].inReset s.sys.tick) := by
  rw [leaveDown_frame]
@[simp] theorem leaveDown_crz (n : Acc) (s : State) : (leaveDown n s).crz =
    { s.crz with chan := s.crz.chan.set (accChan n) (s.crz.chan[accChan n].leftTop s.sys.tick) } := by
  rw [leaveDown_frame]

theorem leaveDown_recordGrows (n : Acc) (s : State) : RecordGrows s (leaveDown n s) :=
  .of_eq (by rw [leaveDown_frame]) (by rw [leaveDown_frame]) (by rw [leaveDown_frame])

/-- A stopped channel shows its fault and holds its accelerator in reset (04 R103). -/
theorem stopChan_fault_rst (n : Acc) (s : State) :
    (stopChan (accChan n) s).crz.chan[accChan n].fault = true ∧ (stopChan (accChan n) s).acc[n].rst = true := by
  unfold stopChan
  simp only [accOf_accChan]
  split
  · simp [AccState.inReset, ChanState.leftTop]
  · simp [holdReset]

theorem stopChan_recordGrows (n : Acc) (s : State) : RecordGrows s (stopChan (accChan n) s) := by
  unfold stopChan
  simp only [accOf_accChan]
  have hstop := (setChan_recordGrows (accChan n) (fun x => { x with fault := true, dir := 3, waiting := false }) s).trans
    ((dropDrain_recordGrows n _).trans (marginsBack_recordGrows (accChan n) _))
  split
  · exact hstop.trans (leaveDown_recordGrows ..)
  · exact hstop.trans (setAcc_recordGrows ..)

/-! Rails. -/

/-- Of Crozier, disabling a rail that is on changes that rail alone (05 R152). -/
theorem disableRail_crz {r : Rail} {s : State} (h : s.crz.rail[r].en = true) :
    (disableRail r s).crz = { s.crz with
      rail := s.crz.rail.set r { s.crz.rail[r] with en := false, stable := false, disTick := s.sys.tick } } := by
  unfold disableRail
  simp only [h, Bool.not_true, Bool.false_eq_true, if_false]
  split
  · simp
  split
  · simp
  split <;> simp

theorem disableRail_of_off {r : Rail} {s : State} (h : s.crz.rail[r].en = false) : disableRail r s = s := by
  unfold disableRail
  rw [if_pos (by rw [h]; rfl)]

@[simp] theorem disableRail_chan (r : Rail) (s : State) : (disableRail r s).crz.chan = s.crz.chan := by
  cases h : s.crz.rail[r].en with
  | false => rw [disableRail_of_off h]
  | true => rw [disableRail_crz h]

/-- The enable of the rail goes (04 R71). -/
theorem disableRail_en (r : Rail) (s : State) : (disableRail r s).crz.rail[r].en = false := by
  cases h : s.crz.rail[r].en with
  | false => rwa [disableRail_of_off h]
  | true => simp [disableRail_crz h]

/-- No other rail is enabled by it. -/
theorem disableRail_en_off {r q : Rail} {s : State} (h : s.crz.rail[q].en = false) :
    (disableRail r s).crz.rail[q].en = false := by
  by_cases hq : r = q
  · subst hq; exact disableRail_en r s
  cases hr : s.crz.rail[r].en with
  | false => rwa [disableRail_of_off hr]
  | true =>
    have hne : r.1 ≠ q.1 := fun e => hq (Fin.ext e)
    simpa [disableRail_crz hr, Vector.getElem_set_ne _ _ hne] using h

/-- A change of an accelerator's block that leaves its reset pin alone. -/
theorem setAcc_rst (m n : Acc) {f : AccState → AccState} (hf : ∀ a, (f a).rst = a.rst) (s : State) :
    (s.setAcc m f).acc[n].rst = s.acc[n].rst := by
  by_cases h : m = n
  · subst h; simp [hf]
  · have hne : m.1 ≠ n.1 := fun e => h (Fin.ext e)
    simp [Vector.getElem_set_ne _ _ hne]

/-- Disabling a rail disarms inputs of its accelerator and moves no output (03 R72). -/
theorem disableRail_rst (r : Rail) (n : Acc) (s : State) : (disableRail r s).acc[n].rst = s.acc[n].rst := by
  unfold disableRail
  simp only
  split
  · rfl
  split
  · simp
  split
  · rw [setAcc_rst]
    · simp
    · exact fun _ => rfl
  split
  · rw [setAcc_rst]
    · simp
    · exact fun _ => rfl
  · simp

theorem disableRail_recordGrows (r : Rail) (s : State) : RecordGrows s (disableRail r s) := by
  unfold disableRail
  simp only
  split
  · exact .refl s
  have hdrop := (setRail_recordGrows r (fun q => { q with en := false, stable := false, disTick := s.sys.tick }) s).trans
    (dropMargin_recordGrows r _)
  split
  · exact hdrop
  split
  · exact hdrop.trans (setAcc_recordGrows ..)
  split
  · exact hdrop.trans (setAcc_recordGrows ..)
  · exact hdrop

/-! The emergency shutdown (04 R106). -/

/-- A noted fault tells the host (14 R425). -/
theorem hostDue_noteFault (c : Chan) (code rail trans : Nat) (s : State) : HostDue (noteFault c code rail trans s) 6 :=
  hostDue_hostEvent 6 _

theorem noteFault_recordGrows (c : Chan) (code rail trans : Nat) (s : State) : RecordGrows s (noteFault c code rail trans s) :=
  (setChan_recordGrows ..).trans (.hostEvent 6 _)

/-- Both core rails of an accelerator are disabled (04 R106). -/
def coresOff (n : Acc) (s : State) : State := disableRail (coreRail n 1) (disableRail (coreRail n 0) s)

theorem coresOff_en (n : Acc) (s : State) :
    (coresOff n s).crz.rail[coreRail n 0].en = false ∧ (coresOff n s).crz.rail[coreRail n 1].en = false :=
  ⟨disableRail_en_off (disableRail_en _ s), disableRail_en _ _⟩

theorem coresOff_chan (n : Acc) (s : State) : (coresOff n s).crz.chan = s.crz.chan :=
  (disableRail_chan ..).trans (disableRail_chan ..)

theorem coresOff_rst (n : Acc) (s : State) : (coresOff n s).acc[n].rst = s.acc[n].rst :=
  (disableRail_rst ..).trans (disableRail_rst ..)

theorem coresOff_recordGrows (n : Acc) (s : State) : RecordGrows s (coresOff n s) :=
  (disableRail_recordGrows ..).trans (disableRail_recordGrows ..)

/-- The channel of an emergency shutdown, on its way to S3 or below; `ch` is the channel that it found (04 R106). -/
def ChanState.toS3 (c ch : ChanState) : ChanState :=
  { c with
    emergency := true, stagger := none
    target := min ch.target (min 3 (if ch.stepDone then ch.state else ch.state - 1)) }

/-- The event of an emergency shutdown, its fault on the channel, the core rails, the way down. -/
theorem emergencyStop_eq (n : Acc) (code rail : Nat) (s : State) :
    emergencyStop n code rail s =
      (coresOff n (stopChan (accChan n) (noteFault (accChan n) code rail 0
        (emit s 1 n.1 (if rail = 0x7F then 0xFF else rail) (0x200 + code) (chState s n))))).setChan (accChan n)
          fun x => x.toS3 s.crz.chan[accChan n] := rfl

/-- All of 04 R106, whichever state the accelerator was in. -/
theorem emergencyStopped_emergencyStop (n : Acc) (code rail : Nat) (s : State) :
    EmergencyStopped n code (if rail = 0x7F then 0xFF else rail) s (emergencyStop n code rail s) := by
  rw [emergencyStop_eq]
  have hraised := raised_emit_mod s 1 n.1 (if rail = 0x7F then 0xFF else rail) (0x200 + code) (chState s n)
  generalize emit s 1 n.1 (if rail = 0x7F then 0xFF else rail) (0x200 + code) (chState s n) = recorded at hraised ⊢
  have hdue := hostDue_noteFault (accChan n) code rail 0 recorded
  replace hraised := (noteFault_recordGrows (accChan n) code rail 0 recorded).raised hraised
  generalize noteFault (accChan n) code rail 0 recorded = noted at hraised hdue ⊢
  have hoff := (stopChan_recordGrows n noted).trans (coresOff_recordGrows n _)
  have hend : RecordGrows noted ((coresOff n (stopChan (accChan n) noted)).setChan (accChan n)
      fun x => x.toS3 s.crz.chan[accChan n]) := hoff.trans (setChan_recordGrows ..)
  obtain ⟨hfault, hrst⟩ := stopChan_fault_rst n noted
  obtain ⟨hen0, hen1⟩ := coresOff_en n (stopChan (accChan n) noted)
  refine ⟨hend.raised hraised, hend.hostDue hdue, hen0, hen1, ?_, ?_, ?_, (coresOff_rst n _).trans hrst⟩
  · simpa [ChanState.toS3, coresOff_chan] using hfault
  · simp [ChanState.toS3]
  · simp only [State.setChan_crz, Fin.getElem_fin, Vector.getElem_set_self, ChanState.toS3]
    omega

/-! Alert inputs (01 R18, R26; 03 R70 to R72; 05 R140). -/

/-- Two changes of one accelerator's block are one. -/
theorem setAcc_setAcc (n : Acc) (f g : AccState → AccState) (s : State) :
    (s.setAcc n f).setAcc n g = s.setAcc n fun a => g (f a) := by simp [State.setAcc]

/-- A trip of an armed input (03 R72). -/
theorem thermtrip_emergency {n : Acc} {ns : Nat} {s : State} (hns : 1000 ≤ ns) (hst : chState s n ≠ 0)
    (harm : s.acc[n].thermArmed = true) : ∃ t, exec (.thermtrip n ns) s = .next t ∧ EmergencyStopped n 6 0xFF s t := by
  refine ⟨emergencyStop n 6 0x7F s, ?_, emergencyStopped_emergencyStop n 6 0x7F s⟩
  exact (if_neg (Nat.not_lt.2 hns)).trans ((if_neg hst).trans (if_pos harm))

/-- The input is armed 1 ms after regulation, and a level that has lasted takes effect (03 R72). -/
theorem alertArming_thermtrip_next {n : Acc} {s : State} (hstable : s.crz.rail[railOf n 0].stable = true)
    (harm : s.acc[n].thermArmed = false) (htick : s.acc[n].auxTick + 100 ≤ s.sys.tick) (ns : Nat) :
    exec (.alertArming n (.thermtrip ns)) s = .next (
      if 1000 ≤ ns ∧ chState s n ≠ 0 then emergencyStop n 6 0x7F (s.setAcc n fun a => { a with thermArmed := true })
      else s.setAcc n fun a => { a with thermArmed := true }) := by
  refine if_neg ?_
  rw [hstable, harm]
  simpa using htick

theorem alertArming_emergency {n : Acc} {ns : Nat} {s : State} (hns : 1000 ≤ ns) (hst : chState s n ≠ 0)
    (harm : s.acc[n].thermArmed = false) (hstable : s.crz.rail[railOf n 0].stable = true)
    (htick : s.acc[n].auxTick + 100 ≤ s.sys.tick) :
    ∃ t, exec (.alertArming n (.thermtrip ns)) s = .next t ∧ EmergencyStopped n 6 0xFF s t :=
  ⟨_, (alertArming_thermtrip_next hstable harm htick ns).trans (congrArg _ (if_pos ⟨hns, hst⟩)),
    emergencyStopped_emergencyStop n 6 0x7F (s.setAcc n fun a => { a with thermArmed := true })⟩

/-- A comparator acts while the core it watches is on and outside its thresholds (05 R140). -/
def coreOutside (n : Acc) (k : Fin 2) (w : Fin 16) (level : Nat) (s : State) : Prop :=
  s.crz.rail[coreRail n k].en = true ∧ s.crz.rail[coreRail n k].stable = true ∧
    ((level : Int) < (fastWindow s w).1 ∨ (fastWindow s w).2 < level)

/-- A core found outside its window (05 R147). -/
def fastOutSeen (r : Rail) (s : State) : State := s.setEntry r fun e => { e with fastOut := true }

/-- The comparator `w` is that of core `k` of accelerator `n` (05 R137). -/
theorem coreWindow_next {w : Fin 16} {n : Acc} {k : Fin 2} (hw : w.1 = 2 * n.1 + k.1) (level ns : Nat) (s : State) :
    exec (.coreWindow w level ns) s =
      if !(s.crz.rail[coreRail n k].en && s.crz.rail[coreRail n k].stable &&
          (decide ((level : Int) < (fastWindow s w).1) || decide ((fastWindow s w).2 < level))) then .next s
      else .next (if 200 * fld s.sup.fwc[w] 16 4 ≤ ns then emergencyStop n 5 (coreRail n k).1 (fastOutSeen (coreRail n k) s)
        else fastOutSeen (coreRail n k) s) := by
  obtain rfl : n = ⟨w.1 / 2, by clear hw; omega⟩ := Fin.ext (by simp only; omega)
  obtain rfl : k = ⟨w.1 % 2, by clear hw; omega⟩ := Fin.ext (by simp only at hw ⊢; omega)
  rfl

theorem coreWindow_outside {w : Fin 16} {n : Acc} {k : Fin 2} {level : Nat} {s : State} (hw : w.1 = 2 * n.1 + k.1)
    (hout : coreOutside n k w level s) (ns : Nat) : exec (.coreWindow w level ns) s =
      .next (if 200 * fld s.sup.fwc[w] 16 4 ≤ ns then emergencyStop n 5 (coreRail n k).1 (fastOutSeen (coreRail n k) s)
        else fastOutSeen (coreRail n k) s) := by
  obtain ⟨hen, hstable, hlevel⟩ := hout
  refine (coreWindow_next hw level ns s).trans (if_neg ?_)
  rw [hen, hstable, Bool.or_eq_true_iff.2 (hlevel.imp decide_eq_true decide_eq_true)]
  exact Bool.false_ne_true

theorem coreWindow_inside {w : Fin 16} {n : Acc} {k : Fin 2} {level : Nat} {s : State} (hw : w.1 = 2 * n.1 + k.1)
    (hlo : (fastWindow s w).1 ≤ level) (hhi : (level : Int) ≤ (fastWindow s w).2) (ns : Nat) :
    exec (.coreWindow w level ns) s = .next s := by
  refine (coreWindow_next hw level ns s).trans (if_pos ?_)
  rw [decide_eq_false (Int.not_lt.2 hlo), decide_eq_false (Int.not_lt.2 hhi)]
  simp

/-- A core outside its window for the filter's time (04 R106; 05 R140). -/
theorem coreWindow_emergency {w : Fin 16} {n : Acc} {k : Fin 2} {level ns : Nat} {s : State} (hw : w.1 = 2 * n.1 + k.1)
    (hout : coreOutside n k w level s) (hns : 200 * fld s.sup.fwc[w] 16 4 ≤ ns) :
    ∃ t, exec (.coreWindow w level ns) s = .next t ∧ EmergencyStopped n 5 (coreRail n k).1 s t := by
  have hrail : (coreRail n k).1 ≠ 0x7F := by simp only [coreRail, railOf]; omega
  have hstop := emergencyStopped_emergencyStop n 5 (coreRail n k).1 (fastOutSeen (coreRail n k) s)
  rw [if_neg hrail] at hstop
  exact ⟨_, (coreWindow_outside hw hout ns).trans (congrArg _ (if_pos hns)), hstop⟩

/-- A trip before arming is recorded (03 R552). -/
theorem thermtrip_unarmed {n : Acc} {ns : Nat} {s : State} (hns : 1000 ≤ ns) (hst : chState s n ≠ 0)
    (harm : s.acc[n].thermArmed = false) : exec (.thermtrip n ns) s = .next (emit s 3 n.1 0xFF 0x0302 0) :=
  (if_neg (Nat.not_lt.2 hns)).trans ((if_neg hst).trans (if_neg (by rw [harm]; exact Bool.false_ne_true)))

theorem alertArming_vralert_next {n : Acc} {s : State}
    (hstable : s.crz.rail[coreRail n 0].stable = true ∨ s.crz.rail[coreRail n 1].stable = true)
    (harm : s.acc[n].vrArmed = false) (htick : s.acc[n].coreTick + 100 ≤ s.sys.tick) :
    exec (.alertArming n .vralert) s =
      .next (s.setAcc n fun a => { a with vrArmed := true, forceL0 := a.forceL0 || !a.vrAlertN }) := by
  refine if_neg ?_
  rw [Bool.or_eq_true_iff.2 hstable, harm]
  simpa using htick

/-- A falling VRALERT_N is recorded, and makes the level-0 demand where it is armed (01 R18; 03 R552). -/
theorem vralertFall_next {n : Acc} {s : State} (hhigh : s.acc[n].vrAlertN = true) (hst : chState s n ≠ 0) :
    exec (.vralertFall n) s = .next (emit (s.setAcc n fun a => if s.acc[n].vrArmed then
        { a with vrAlertN := false, forceL0 := true, holdUntil := none } else { a with vrAlertN := false })
      3 n.1 0xFF 0x0301 (if s.acc[n].vrArmed then 1 else 3)) := by
  have hst' : ¬chState (s.setAcc n fun a => { a with vrAlertN := false }) n = 0 := hst
  change execVralertFall n s = _
  unfold execVralertFall
  simp only [hhigh, hst', Bool.not_true, Bool.false_eq_true, if_false]
  cases s.acc[n].vrArmed with
  | true => simp [setAcc_setAcc]
  | false => simp

/-- A rising VRALERT_N starts the holdoff of a demand that stands (01 R26). -/
theorem vralertRise_next {n : Acc} {s : State} (hlow : s.acc[n].vrAlertN = false) (hst : chState s n ≠ 0)
    (harm : s.acc[n].vrArmed = true) :
    exec (.vralertRise n) s = .next (emit (s.setAcc n fun a => { a with
        vrAlertN := true, holdUntil := if a.forceL0 then some (s.sys.tick + 100) else none }) 3 n.1 0xFF 0x0301 0) := by
  have hst' : ¬chState (s.setAcc n fun a => { a with vrAlertN := true }) n = 0 := hst
  change execVralertRise n s = _
  unfold execVralertRise
  simp only [hlow, hst', harm, Bool.not_true, Bool.false_eq_true, or_self, if_false, setAcc_setAcc, State.setAcc_sys]

theorem holdoffEnd_next {n : Acc} {x : Nat} {s : State} (hhold : s.acc[n].holdUntil = some x) (hx : x ≤ s.sys.tick) :
    exec (.holdoffEnd n) s = .next (s.setAcc n fun a => { a with holdUntil := none }) := by
  change execHoldoffEnd n s = _
  unfold execHoldoffEnd
  simp only [hhold, if_neg (Nat.not_lt.2 hx)]

/-! Drains (03 R74, R75). -/

/-- A command in flight is answered (14 R442). -/
theorem mem_completeLate (q : Reply) (a : Ans) (s : State) :
    ∃ r ∈ (completeLate q a s).rcd.replies, r.src = q.src ∧ r.seq = q.seq ∧ r.result = a.res := by
  obtain ⟨r, hr, hsrc, hseq, -, hres, -⟩ := mem_complete q a s
  exact ⟨r, hr, hsrc, hseq, hres⟩

/-- A reset carried out: the test is wanted or not, and the channel goes back to S12; no drain begins (15 R454). -/
theorem carryOut_reset (n : Acc) (test : Bool) (s : State) :
    (carryOut n (.reset test) s).acc[n].testWanted = test ∧ (carryOut n (.reset test) s).crz.chan[accChan n].target = 12 ∧
      (carryOut n (.reset test) s).acc[n].drain = s.acc[n].drain := by
  unfold carryOut
  simp only
  split
  · simp [setAccTarget, setTarget]
  split
  · simp [setAccTarget, setTarget]
  · simp [setAccTarget, setTarget, AccState.inReset]

/-- A new target of an accelerator's channel, S8 or below beginning in this tick, begins no drain (04 R91). -/
theorem aimAcc_target_drain (n : Acc) (t : Nat) (s : State) :
    (aimAcc n t s).crz.chan[accChan n].target = t ∧ (aimAcc n t s).acc[n].drain = s.acc[n].drain := by
  unfold aimAcc aim
  simp only [accOf_accChan]
  split
  · simp [setTarget, AccState.inReset, ChanState.leftTop]
  · simp [setTarget]

/-- A power-off carried out: the channel goes to S3 or S0, or stays lower (15 R453). -/
theorem carryOut_powerOff (n : Acc) (full : Bool) (s : State) :
    (carryOut n (.powerOff full) s).crz.chan[accChan n].setOff = true ∧
      (carryOut n (.powerOff full) s).crz.chan[accChan n].target = min s.crz.chan[accChan n].target (if full then 0 else 3) ∧
      (carryOut n (.powerOff full) s).acc[n].drain = s.acc[n].drain := by
  obtain ⟨htarget, hdrain⟩ := aimAcc_target_drain n (min s.crz.chan[accChan n].target (if full then 0 else 3)) s
  exact ⟨by simp [carryOut], by simpa [carryOut] using htarget, hdrain⟩

theorem carryOut_drain (n : Acc) (g : DrainFor) (s : State) : (carryOut n g s).acc[n].drain = s.acc[n].drain := by
  cases g with
  | reset test =>
    obtain ⟨-, -, hdrain⟩ := carryOut_reset n test s
    exact hdrain
  | powerOff full =>
    obtain ⟨-, -, hdrain⟩ := carryOut_powerOff n full s
    exact hdrain

theorem drainSuccess_next {n : Acc} {d : Drain} {s : State} (hd : s.acc[n].drain = some d) (hidle : d.idle = true) :
    exec (.drainSuccess n) s =
      .next (completeLate d.reply {} (carryOut n d.goal (s.setAcc n fun a => { a with drain := none }))) := by
  change execDrainSuccess n s = _
  unfold execDrainSuccess
  simp only [hd, hidle, Bool.not_true, Bool.false_eq_true, if_false]

theorem drainTimeout_next {n : Acc} {d : Drain} {s : State} (hd : s.acc[n].drain = some d) (hidle : d.idle = false)
    (htick : d.start + 5000 ≤ s.sys.tick) :
    exec (.drainTimeout n) s = .next (hostEvent 9 (completeLate d.reply { res := .routeBusy } (s.setAcc n fun a => { a with
      drain := none, decision := some (d.goal, s.sys.tick + 1000000) }))) := by
  change execDrainTimeout n s = _
  unfold execDrainTimeout
  simp only [hd, hidle, Bool.false_eq_true, false_or, if_neg (Nat.not_lt.2 htick)]

theorem routeAbort_next {n : Acc} {g : DrainFor} {x : Nat} {s : State} (hdec : s.acc[n].decision = some (g, x))
    (hx : x ≤ s.sys.tick) : exec (.routeAbort n) s = .next (emit (abortDrain n s) 7 n.1 0xFF 0x0303 0) := by
  change execRouteAbort n s = _
  unfold execRouteAbort
  simp only [hdec, if_neg (Nat.not_lt.2 hx)]

/-- Settles O45: each alert and each end of a drain has its equation, and an alert that stops the accelerator is one
emergency shutdown (`emergencyStopped_emergencyStop`). -/
theorem alertAndDrainRows : Obligations.AlertAndDrainRows := by
  unfold Obligations.AlertAndDrainRows
  refine ⟨fun i n code obj s h => ?_, fun w n k level ns s hw => ⟨fun ⟨hlo, hhi⟩ => coreWindow_inside hw hlo hhi ns, ?_⟩,
    fun n ns s => ⟨fun hns => if_pos hns, fun hns hst harm => ?_⟩, fun n s => ⟨?_, ?_, ?_, ?_, ?_⟩,
    fun n d s hd hidle => ?_, fun n d s hd hidle htick => ?_, fun n g x s hdec hx => ?_⟩
  · rcases h with ⟨ns, rfl, hns, hst, harm, rfl, rfl⟩ | ⟨ns, rfl, hns, hst, harm, hstable, htick, rfl, rfl⟩ |
      ⟨k, w, level, ns, rfl, hw, hen, hstable, hlevel, hns, rfl, rfl⟩
    · exact thermtrip_emergency hns hst harm
    · exact alertArming_emergency hns hst harm hstable htick
    · exact coreWindow_emergency hw ⟨hen, hstable, hlevel⟩ hns
  · intro hen hstable hlevel hns
    exact (coreWindow_outside hw ⟨hen, hstable, hlevel⟩ ns).trans (congrArg _ (if_neg (Nat.not_le.2 hns)))
  · exact ⟨_, thermtrip_unarmed hns hst harm, raised_emit _ _ _ _ _ _ (by omega), rfl⟩
  · intro ns hstable harm htick hns
    exact (alertArming_thermtrip_next hstable harm htick ns).trans (congrArg _ (if_neg fun h => by omega))
  · exact fun hstable harm htick => alertArming_vralert_next hstable harm htick
  · exact fun hhigh hst => ⟨_, vralertFall_next hhigh hst, raised_emit _ _ _ _ _ _ (by split <;> omega), rfl⟩
  · exact fun hlow hst harm => ⟨_, vralertRise_next hlow hst harm, raised_emit _ _ _ _ _ _ (by omega), rfl⟩
  · exact fun x hhold hx => holdoffEnd_next hhold hx
  · refine ⟨_, drainSuccess_next hd hidle, (carryOut_drain n d.goal _).trans (by simp), mem_completeLate .., ?_, ?_⟩
    · intro w hgoal
      obtain ⟨htest, htarget, -⟩ := carryOut_reset n w (s.setAcc n fun a => { a with drain := none })
      rw [hgoal]
      exact ⟨htest, htarget⟩
    · intro f hgoal
      obtain ⟨hoff, htarget, -⟩ := carryOut_powerOff n f (s.setAcc n fun a => { a with drain := none })
      rw [hgoal]
      exact ⟨hoff, htarget⟩
  · exact ⟨_, drainTimeout_next hd hidle htick, hostDue_hostEvent .., mem_completeLate .., rfl⟩
  · exact ⟨_, routeAbort_next hdec hx, raised_emit _ _ _ _ _ _ (by omega), rfl⟩

end Sys2Proof.Machine
end

section
/-! SUPPORT. The rack states (04 R118 to R124): what new targets and the actions of a rack state leave alone, the entry to a rack
state and to HOLD, and SEQSYNC with the timers of rack states 9, 10 and 13. -/

namespace Sys2Proof.Machine

open Sys2Proof

/-! New targets. -/

/-- From `s` to `t` only the channels, the accelerators' pins, set-points, parking, links and bring-up may differ. -/
structure ChannelsOnly (s t : State) : Prop where
  frame : t = { s with acc := t.acc, crz := t.crz, sup := t.sup, str := t.str, srs := t.srs, bup := t.bup }

namespace ChannelsOnly

theorem refl (s : State) : ChannelsOnly s s := ⟨rfl⟩

theorem trans {s t u : State} (h : ChannelsOnly s t) (h' : ChannelsOnly t u) : ChannelsOnly s u :=
  ⟨by rw [h'.frame, h.frame]⟩

theorem forAll {α : Type} {f : α → State → State} (h : ∀ x s, ChannelsOnly s (f x s)) (l : List α) (s : State) :
    ChannelsOnly s (forAll l f s) :=
  forAll_inv (ChannelsOnly s) f l (fun x t ht => ht.trans (h x t)) s (refl s)

/-- A step that is made only under a condition. -/
theorem ite {s t : State} {c : Prop} [Decidable c] (h : ChannelsOnly s t) : ChannelsOnly s (if c then t else s) := by
  split
  · exact h
  · exact refl s

theorem sys {s t : State} (h : ChannelsOnly s t) : t.sys = s.sys := by rw [h.frame]
theorem rack {s t : State} (h : ChannelsOnly s t) : t.rack = s.rack := by rw [h.frame]
theorem cool {s t : State} (h : ChannelsOnly s t) : t.cool = s.cool := by rw [h.frame]
theorem saf {s t : State} (h : ChannelsOnly s t) : t.saf = s.saf := by rw [h.frame]

end ChannelsOnly

theorem leaveDown_channelsOnly (n : Acc) (s : State) : ChannelsOnly s (leaveDown n s) :=
  ⟨by rw [leaveDown_frame]⟩

theorem setChan_channelsOnly (c : Chan) (f : ChanState → ChanState) (s : State) : ChannelsOnly s (s.setChan c f) := ⟨rfl⟩
theorem setTarget_channelsOnly (c : Chan) (k : Nat) (s : State) : ChannelsOnly s (setTarget c k s) := ⟨rfl⟩

theorem aim_channelsOnly (c : Chan) (k : Nat) (s : State) : ChannelsOnly s (aim c k s) := by
  have htarget := setTarget_channelsOnly c k s
  unfold aim
  simp only
  split
  · split
    · exact htarget.trans (leaveDown_channelsOnly ..)
    · exact htarget
  · exact htarget

theorem lowerAll_channelsOnly (k : Nat) (s : State) : ChannelsOnly s (lowerAll k s) :=
  .forAll (fun n t => .ite (aim_channelsOnly (accChan n) k t)) _ _

theorem raiseAll_channelsOnly (k : Nat) (s : State) : ChannelsOnly s (raiseAll k s) :=
  .forAll (fun n t => .ite (setTarget_channelsOnly (accChan n) k t)) _ _

theorem clearStagger_channelsOnly (s : State) : ChannelsOnly s (clearStagger s) :=
  .forAll (fun n t => setChan_channelsOnly (accChan n) _ t) _ _

theorem armStagger_channelsOnly (s : State) : ChannelsOnly s (armStagger s) :=
  .forAll (fun n t => setChan_channelsOnly (accChan n) _ t) _ _

/-- The tray channel gets its target and nothing else happens (04 R112). -/
theorem aim_tray (k : Nat) (s : State) : aim trayChan k s = setTarget trayChan k s := rfl

theorem accChan_injective {m n : Acc} (h : accChan m = accChan n) : m = n := Fin.castSucc_injective _ h

theorem trayChan_ne_accChan (n : Acc) : trayChan ≠ accChan n := by
  intro h
  have := congrArg Fin.val h
  simp [trayChan, accChan] at this
  omega

/-- A change of one channel leaves the others. -/
theorem setChan_chan_of_ne {c d : Chan} (h : d ≠ c) (f : ChanState → ChanState) (s : State) :
    (s.setChan d f).crz.chan[c] = s.crz.chan[c] := by
  have hne : d.1 ≠ c.1 := fun e => h (Fin.ext e)
  simp [Vector.getElem_set_ne _ _ hne]

/-- A new target of one accelerator's channel leaves the other channels. -/
theorem aimAcc_chan_of_ne {m : Acc} {c : Chan} (h : accChan m ≠ c) (k : Nat) (s : State) :
    (aimAcc m k s).crz.chan[c] = s.crz.chan[c] := by
  have hne : (accChan m).1 ≠ c.1 := fun e => h (Fin.ext e)
  unfold aimAcc aim
  simp only [accOf_accChan]
  split
  · simp [Vector.getElem_set_ne _ _ hne]
  · exact setChan_chan_of_ne h _ s

/-- The target of one accelerator's channel. -/
def accTarget (s : State) (n : Acc) : Nat := s.crz.chan[accChan n].target

theorem accTarget_aimAcc (m n : Acc) (k : Nat) (s : State) :
    accTarget (aimAcc m k s) n = if m = n then k else accTarget s n := by
  split
  next h =>
    obtain ⟨htarget, -⟩ := aimAcc_target_drain m k s
    rw [← h]
    exact htarget
  next h => exact congrArg ChanState.target (aimAcc_chan_of_ne (fun e => h (accChan_injective e)) k s)

/-- A target of the tray channel is none of an accelerator's. -/
theorem accTarget_aim_tray (n : Acc) (k : Nat) (s : State) : accTarget (aim trayChan k s) n = accTarget s n :=
  congrArg ChanState.target (setChan_chan_of_ne (trayChan_ne_accChan n) _ s)

/-- Every target is lowered to `k` (04 R118). -/
theorem accTarget_lowerAll (n : Acc) (k : Nat) (s : State) : accTarget (lowerAll k s) n = min (accTarget s n) k := by
  have hstep : ∀ (m : Acc) (t : State), accTarget (if k < t.crz.chan[accChan m].target then aimAcc m k t else t) n =
      if m = n then min (accTarget t n) k else accTarget t n := by
    intro m t
    rw [apply_ite (accTarget · n), accTarget_aimAcc]
    by_cases h : m = n
    · subst h
      simp only [accTarget, if_true]
      split <;> omega
    · simp only [if_neg h, ite_self]
  refine forAll_at (fun t => accTarget t n = accTarget s n ∨ accTarget t n = min (accTarget s n) k)
    (fun t => accTarget t n = min (accTarget s n) k) _ (mem_accList n) (fun m t ht => ?_) (fun t ht => ?_) (fun m t ht => ?_)
    (.inl rfl)
  · rw [hstep]; split <;> omega
  · rw [hstep, if_pos rfl]; omega
  · rw [hstep]; split <;> omega

/-- Every target goes to 0 (17 R516; 15 R451). -/
theorem accTarget_forAll_aimAcc (n : Acc) (k : Nat) (s : State) : accTarget (forAll accList (fun m s => aimAcc m k s) s) n = k :=
  forAll_at (fun _ => True) (fun t => accTarget t n = k) _ (mem_accList n) (fun _ _ _ => trivial)
    (fun t _ => by rw [accTarget_aimAcc, if_pos rfl]) (fun m t ht => by rw [accTarget_aimAcc, ht, ite_self]) trivial

/-! The announcement of a state (04 R123). -/

theorem announce_frame (s : State) : announce s = { s with
    free := (announce s).free, out := (announce s).out, net := { s.net with annSeq := (announce s).net.annSeq } } := by
  unfold announce
  split <;> rfl

@[simp] theorem announce_sys (s : State) : (announce s).sys = s.sys := by rw [announce_frame]
@[simp] theorem announce_mbx (s : State) : (announce s).mbx = s.mbx := by rw [announce_frame]
@[simp] theorem announce_acc (s : State) : (announce s).acc = s.acc := by rw [announce_frame]
@[simp] theorem announce_crz (s : State) : (announce s).crz = s.crz := by rw [announce_frame]
@[simp] theorem announce_rack (s : State) : (announce s).rack = s.rack := by rw [announce_frame]
@[simp] theorem announce_frd (s : State) : (announce s).frd = s.frd := by rw [announce_frame]
@[simp] theorem announce_cool (s : State) : (announce s).cool = s.cool := by rw [announce_frame]
@[simp] theorem announce_saf (s : State) : (announce s).saf = s.saf := by rw [announce_frame]
@[simp] theorem announce_link (s : State) : (announce s).link = s.link := by rw [announce_frame]
@[simp] theorem announce_nv (s : State) : (announce s).nv = s.nv := by rw [announce_frame]
@[simp] theorem announce_pending (s : State) : (announce s).pending = s.pending := by rw [announce_frame]

/-! Entering a rack state (04 R118, R119). -/

/-- The actions of a rack state leave the firmware's blocks alone; of the rack they touch the drain and the quiescence. -/
structure RackActed (s t : State) : Prop where
  frame : t = { s with
    rcd := t.rcd, mbx := t.mbx, acc := t.acc, crz := t.crz, sup := t.sup, str := t.str, brm := t.brm, srs := t.srs, bup := t.bup,
    cool := t.cool, rack := { s.rack with
      deadline := t.rack.deadline, drained := t.rack.drained, quiesced := t.rack.quiesced } }

namespace RackActed

theorem trans {s t u : State} (h : RackActed s t) (h' : RackActed t u) : RackActed s u :=
  ⟨by rw [h'.frame, h.frame]⟩

theorem of_channelsOnly {s t : State} (h : ChannelsOnly s t) : RackActed s t := ⟨by rw [h.frame]⟩

end RackActed

theorem modCool_rackActed (f : CoolState → CoolState) (s : State) : RackActed s (s.modCool f) := ⟨rfl⟩
theorem modBup_rackActed (f : BupState → BupState) (s : State) : RackActed s (s.modBup f) := ⟨rfl⟩
theorem modBrm_rackActed (f : BrmState → BrmState) (s : State) : RackActed s (s.modBrm f) := ⟨rfl⟩
theorem startRecovery_rackActed (s : State) : RackActed s (startRecovery s) := ⟨rfl⟩

theorem startDrain_rackActed (s : State) : RackActed s (startDrain s) := by
  unfold startDrain
  simp only
  split
  · exact ⟨rfl⟩
  split <;> exact ⟨rfl⟩

theorem quiesceTargets_rackActed (s : State) : RackActed s (quiesceTargets s) := by
  have hdone : ∀ t : State, RackActed t (t.modRack fun r => { r with quiesced := true }) := fun _ => ⟨rfl⟩
  exact (RackActed.of_channelsOnly (lowerAll_channelsOnly 8 s)).trans (hdone _)

theorem rackActions_rackActed (k : Nat) (s : State) : RackActed s (rackActions k s) := by
  have hclear := clearStagger_channelsOnly s
  unfold rackActions
  split
  · exact .of_channelsOnly ((hclear.trans (lowerAll_channelsOnly ..)).trans (aim_channelsOnly ..))
  · exact .of_channelsOnly (aim_channelsOnly ..)
  · exact .of_channelsOnly (aim_channelsOnly ..)
  · exact .of_channelsOnly (aim_channelsOnly ..)
  · exact .of_channelsOnly ((raiseAll_channelsOnly 8 s).trans (armStagger_channelsOnly _))
  · exact .of_channelsOnly (raiseAll_channelsOnly ..)
  · exact (modBup_rackActed _ s).trans (.of_channelsOnly (raiseAll_channelsOnly ..))
  · exact .of_channelsOnly (raiseAll_channelsOnly ..)
  · exact .trans (.trans (.of_channelsOnly (hclear.trans (raiseAll_channelsOnly ..))) (modBup_rackActed ..))
      (startRecovery_rackActed _)
  · exact startDrain_rackActed s
  · split
    · exact (modBrm_rackActed _ s).trans (quiesceTargets_rackActed _)
    · exact ⟨rfl⟩
  · exact .of_channelsOnly ((lowerAll_channelsOnly 3 s).trans (armStagger_channelsOnly _))
  · exact .of_channelsOnly (hclear.trans (lowerAll_channelsOnly ..))
  · exact modCool_rackActed ..
  · exact .of_channelsOnly (aim_channelsOnly ..)
  · exact ⟨rfl⟩

/-- CRZ_RACK and its timers on the entry to rack state `k` (04 R118, R119). -/
def RackState.entered (r : RackState) (k : Fin 16) (now : Nat) : RackState :=
  { r with
    state := k, stateTick := now, armed := if transit k then false else r.armed, driving := transit k && !r.detached,
    line := r.line && !(transit k && !r.detached), differs := none, heldP := none, pulse := none }

/-- The state in which the actions of rack state `k` begin. -/
def rackBegun (k : Fin 16) (s : State) : State := s.modRack fun r => r.entered k s.sys.tick

theorem enterRack_eq (k : Fin 16) (s : State) : enterRack k s = announce (rackActions k.1 (rackBegun k s)) := rfl

/-- On entry the rack block is `entered`, but for what the actions of the state do to the drain and the quiescence. -/
theorem enterRack_rack (k : Fin 16) (s : State) : (enterRack k s).rack = { s.rack.entered k s.sys.tick with
    deadline := (enterRack k s).rack.deadline, drained := (enterRack k s).rack.drained,
    quiesced := (enterRack k s).rack.quiesced } := by
  simp only [enterRack_eq, announce_rack]
  conv_lhs => rw [(rackActions_rackActed k.1 (rackBegun k s)).frame]
  rfl

@[simp] theorem enterRack_sys (k : Fin 16) (s : State) : (enterRack k s).sys = s.sys := by
  rw [enterRack_eq, announce_sys, (rackActions_rackActed k.1 _).frame]; rfl
@[simp] theorem enterRack_nv (k : Fin 16) (s : State) : (enterRack k s).nv = s.nv := by
  rw [enterRack_eq, announce_nv, (rackActions_rackActed k.1 _).frame]; rfl
@[simp] theorem enterRack_link (k : Fin 16) (s : State) : (enterRack k s).link = s.link := by
  rw [enterRack_eq, announce_link, (rackActions_rackActed k.1 _).frame]; rfl
@[simp] theorem enterRack_saf (k : Fin 16) (s : State) : (enterRack k s).saf = s.saf := by
  rw [enterRack_eq, announce_saf, (rackActions_rackActed k.1 _).frame]; rfl
@[simp] theorem enterRack_frd (k : Fin 16) (s : State) : (enterRack k s).frd = s.frd := by
  rw [enterRack_eq, announce_frd, (rackActions_rackActed k.1 _).frame]; rfl
@[simp] theorem enterRack_pending (k : Fin 16) (s : State) : (enterRack k s).pending = s.pending := by
  rw [enterRack_eq, announce_pending, (rackActions_rackActed k.1 _).frame]; rfl

theorem enterRack_state (k : Fin 16) (s : State) : (enterRack k s).rack.state = k := by rw [enterRack_rack]; rfl
theorem enterRack_detached (k : Fin 16) (s : State) : (enterRack k s).rack.detached = s.rack.detached := by
  rw [enterRack_rack]; rfl

/-- From a state whose rack block differs from that of `s` in what an entry overwrites, the entry is one of `s`. -/
theorem rackEntered_enterRack (k : Fin 16) {s u : State} (hsys : u.sys = s.sys) (hdetached : u.rack.detached = s.rack.detached) :
    RackEntered k s (enterRack k u) := by
  refine ⟨enterRack_state k u, ?_, ?_, fun htransit => ?_⟩
  · rw [enterRack_rack, ← hsys]; rfl
  · rw [enterRack_rack, ← hdetached]; rfl
  · rw [enterRack_rack]; exact if_pos htransit

/-- Nothing but the tray moves. -/
theorem enterRack_rackMoved (k : Fin 16) {s u : State} (hu : u = { s with rack := u.rack }) :
    enterRack k u = rackMoved s (enterRack k u) := by
  have hview : ∀ {α : Type} (g : State → α), g { s with rack := u.rack } = g s → g u = g s := fun g h =>
    (congrArg g hu).trans h
  unfold rackMoved
  rw [← hview State.sys rfl, ← hview State.nv rfl, ← hview State.link rfl, ← hview State.saf rfl, ← hview State.frd rfl,
    ← hview State.pending rfl, ← enterRack_sys k u, ← enterRack_nv k u, ← enterRack_link k u, ← enterRack_saf k u,
    ← enterRack_frd k u, ← enterRack_pending k u]

/-- State 0 takes every accelerator's channel to S0 (04 R118). -/
theorem accTarget_enterRack_zero (n : Acc) (s : State) : accTarget (enterRack 0 s) n = 0 := by
  have hactions : accTarget (rackActions 0 (rackBegun 0 s)) n = 0 := by
    refine (accTarget_aim_tray n 1 _).trans ?_
    rw [accTarget_lowerAll, Nat.min_zero]
  rw [enterRack_eq, accTarget, announce_crz]
  exact hactions

/-! HOLD (04 R122). -/

/-- CRZ_RACK and its timers on the entry to HOLD with power state `p` (04 R122). -/
def RackState.held (r : RackState) (p : PState) (now : Nat) : RackState :=
  { r with state := 15, stateTick := now, heldP := some p, driving := false, armed := false, differs := none, pulse := none }

/-- HOLD is announced, and the host told (04 R122). -/
theorem enterHold_of_ne {s : State} (h : s.rack.state ≠ 15) :
    enterHold s = announce (hostEvent 15 (s.modRack fun r => r.held (pstate s) s.sys.tick)) := if_neg h

theorem enterHold_rack {s : State} (h : s.rack.state ≠ 15) :
    (enterHold s).rack = s.rack.held (pstate s) s.sys.tick := by
  rw [enterHold_of_ne h, announce_rack]; rfl

@[simp] theorem enterHold_acc (s : State) : (enterHold s).acc = s.acc := by
  unfold enterHold
  split
  · rfl
  · exact announce_acc _

@[simp] theorem enterHold_crz (s : State) : (enterHold s).crz = s.crz := by
  unfold enterHold
  split
  · rfl
  · exact announce_crz _

theorem hostDue_enterHold {s : State} (h : s.rack.state ≠ 15) : HostDue (enterHold s) 15 := by
  rw [enterHold_of_ne h]
  refine (hostDue_hostEvent 15 (s.modRack fun r => r.held (pstate s) s.sys.tick)).mono ?_ fun p hp => ?_
  · rw [announce_sys]
  · rwa [announce_mbx]

/-- From a state with the tick, the rack state and the power state of `s`, the entry to HOLD is one of `s`. -/
theorem holdEntered_enterHold {s u : State} (h : s.rack.state ≠ 15) (hstate : u.rack.state = s.rack.state)
    (hp : pstate u = pstate s) : HoldEntered s (enterHold u) := by
  have hu : u.rack.state ≠ 15 := hstate ▸ h
  refine ⟨?_, ?_, ?_, ?_, hostDue_enterHold hu⟩ <;> rw [enterHold_rack hu]
  · rfl
  · rw [← hp]; rfl
  · rfl
  · rfl

/-! SEQSYNC (04 R117 to R121). -/

theorem seqsyncRise_transit {s : State} (hdriving : s.rack.driving = false) (htransit : transit s.rack.state = true)
    (hdetached : s.rack.detached = false) (hlistened : s.rack.listened = true) :
    exec .seqsyncRise s = .next (enterRack (nextRack s.rack.state) (lineRises s)) := by
  refine (if_neg (by rw [hdriving]; exact Bool.false_ne_true)).trans (if_pos ?_)
  rw [htransit, hdetached, hlistened]
  rfl

theorem seqsyncRise_rest {s : State} (hdriving : s.rack.driving = false)
    (hrest : transit s.rack.state = false ∨ s.rack.detached = true) : exec .seqsyncRise s = .next (lineRises s) := by
  refine (if_neg (by rw [hdriving]; exact Bool.false_ne_true)).trans (if_neg ?_)
  rcases hrest with h | h <;> simp [h]

/-- The line is high again after a low of the leader's, or of another's (04 R120). -/
def pulseSeen (s : State) : State := (lineRises s).modRack fun r => { r with pulse := none }

/-- A low that counts is judged by its width (04 R120). -/
theorem seqsyncPulse_next {us : Nat} {s : State} (hus : 10 ≤ us) (hdriving : s.rack.driving = false)
    (hresting : resting s = true) (hdetached : s.rack.detached = false) (hhigh : highBefore us s = true) :
    exec (.seqsyncPulse us) s =
      if us < 200 then .next ((pulseSeen s).modRack fun r => { r with badPulses := r.badPulses + 1 })
      else if us ≤ 800 then .next (startPulse (pulseSeen s))
      else if us < 1000 then .next (enterHold (pulseSeen s))
      else .next (pulseSeen s) := by
  refine (if_neg ?_).trans (if_neg ?_)
  · rw [hdriving]
    rintro (h | h)
    · omega
    · exact Bool.false_ne_true h
  · rw [hresting, hdetached, hhigh]
    exact Bool.false_ne_true

/-- A start pulse is followed by the leader, and by a follower that is armed (04 R121). -/
theorem startPulse_of_armed {s : State} (hstate : s.rack.state ≠ 15) (h : isLeader s = true ∨ s.rack.armed = true) :
    startPulse s = enterRack (nextRack s.rack.state) s := by
  refine (if_neg hstate).trans (if_neg ?_)
  rcases h with h | h <;> simp [h]

theorem startPulse_of_unarmed {s : State} (hstate : s.rack.state ≠ 15) (hleader : isLeader s = false)
    (harmed : s.rack.armed = false) : startPulse s = enterHold s :=
  (if_neg hstate).trans (if_pos (by rw [hleader, harmed]; rfl))

/-- A low of 1 ms after 1 ms of high counts as a reset pulse (04 R120). -/
def resetCounts (s : State) : Bool :=
  resting s && !s.rack.detached && (s.rack.line || s.rack.pulse.isSome) && (s.rack.pulse.isSome || !s.rack.driving) &&
    decide (s.rack.highTick + 200 ≤ s.sys.tick)

theorem resetCounts_iff (s : State) : resetCounts s = true ↔
    resting s = true ∧ s.rack.detached = false ∧ (s.rack.line = true ∨ s.rack.pulse.isSome = true) ∧
      (s.rack.pulse.isSome = true ∨ s.rack.driving = false) ∧ s.rack.highTick + 200 ≤ s.sys.tick := by
  simp [resetCounts, and_assoc]

/-- The line is low (04 R117). -/
def lineFalls (s : State) : State := s.modRack fun r => { r with line := false }

theorem seqsyncResetPulse_next (s : State) :
    exec .seqsyncResetPulse s = .next (if resetCounts s then enterRack 0 (lineFalls s) else lineFalls s) := rfl

theorem seqsyncRelease_next {s : State} (htransit : transit s.rack.state = true) (hdriving : s.rack.driving = true)
    (htick : s.rack.stateTick + 50 ≤ s.sys.tick) (hready : releaseReady s = true)
    (htests : ¬(s.saf.bistFail = true ∧ s.rack.state = 0)) :
    exec .seqsyncRelease s = .next (s.modRack fun r => { r with driving := false }) := by
  refine if_pos ?_
  simp only [htransit, hdriving, hready, decide_eq_true htick, Bool.true_and, Bool.not_eq_true', Bool.and_eq_false_iff,
    beq_eq_false_iff_ne]
  by_cases h : s.saf.bistFail = true
  · exact .inr fun h0 => htests ⟨h, h0⟩
  · exact .inl (by simpa using h)

/-! Timers of rack states 9, 10 and 13 (07 R217; 12 R367; 14 R441). -/

theorem drainDeadline_next {s : State} (hstate : s.rack.state = 9) (hdrained : s.rack.drained = false)
    (hset : s.rack.deadline ≠ 0) (hdue : s.rack.deadline ≤ s.sys.tick)
    (hwaits : ∀ w ∈ s.rcd.merger, ∀ r, w.item = .req r → s.rack.deadline < w.stamp) :
    exec .drainDeadline s = .next (endDrain (if slotsBound s then 3 else 2) s) := by
  change execDrainDeadline s = _
  unfold execDrainDeadline
  refine if_neg fun h => ?_
  simp only [Bool.or_eq_true, List.any_eq_true, Bool.and_eq_true, decide_eq_true_eq] at h
  obtain (((⟨w, hw, hstamp, hreq⟩ | h) | h) | h) | h := h
  · cases hitem : w.item with
    | req r => exact absurd hstamp (Nat.not_le.2 (hwaits w hw r hitem))
    | _ => simp [hitem] at hreq
  · simp [hstate] at h
  · simp [hdrained] at h
  · simp [hset] at h
  · omega

theorem quiesceBallastClear_next {s : State} (hstate : s.rack.state = 10) (hquiesced : s.rack.quiesced = false)
    (hzero : 10 ≤ s.brm.zeroRun) : exec .quiesceBallastClear s = .next (quiesceTargets s) := by
  refine if_neg ?_
  rw [hstate, hquiesced]
  simpa using hzero

theorem accTarget_quiesceTargets (n : Acc) (s : State) : accTarget (quiesceTargets s) n = min (accTarget s n) 8 := by
  rw [← accTarget_lowerAll]
  simp only [accTarget, quiesceTargets, State.modRack_crz]

theorem coolRundown_next {x : Nat} {s : State} (hx : s.cool.rundown = some x) (hdue : x ≤ s.sys.tick) :
    exec .coolRundown s =
      .next (setTarget trayChan (if s.rack.state = 0 then 1 else 2) (s.modCool fun c => { c with rundown := none })) := by
  change execCoolRundown s = _
  unfold execCoolRundown
  simp only [hx, if_neg (Nat.not_lt.2 hdue), aim_tray]

/-- Settles O41: each row has its equation, and an entry to a rack state or to HOLD its lemma (`rackEntered_enterRack`,
`holdEntered_enterHold`). -/
theorem seqsyncRows : Obligations.SeqsyncRows := by
  unfold Obligations.SeqsyncRows
  refine ⟨fun s hdriving htransit hdetached hlistened => ?_, fun s hdriving hrest => seqsyncRise_rest hdriving hrest,
    fun us s hdriving hresting hdetached hhigh => ⟨fun hlo hus => ?_, fun hlo hhi hstate harmed => ?_,
      fun hlo hhi hstate hleader harmed => ?_, fun hlo hhi hstate => ?_⟩,
    fun s => ⟨fun hcounts => ?_, fun hcounts => ?_⟩,
    fun s htransit hdriving htick hready htests => seqsyncRelease_next htransit hdriving htick hready htests,
    fun s hstate hdrained hset hdue hwaits => ?_, fun s hstate hquiesced hzero => ?_,
    fun x s hx hdue => coolRundown_next hx hdue⟩
  · exact ⟨_, seqsyncRise_transit hdriving htransit hdetached hlistened, rackEntered_enterRack _ rfl rfl,
      enterRack_rackMoved _ rfl⟩
  · exact (seqsyncPulse_next hlo hdriving hresting hdetached hhigh).trans (if_pos hus)
  · have hnext := seqsyncPulse_next (by omega) hdriving hresting hdetached hhigh
    rw [if_neg (by omega), if_pos hhi, startPulse_of_armed (s := pulseSeen s) hstate harmed] at hnext
    exact ⟨_, hnext, rackEntered_enterRack _ rfl rfl, enterRack_rackMoved _ rfl⟩
  · have hnext := seqsyncPulse_next (by omega) hdriving hresting hdetached hhigh
    rw [if_neg (by omega), if_pos hhi, startPulse_of_unarmed (s := pulseSeen s) hstate hleader harmed] at hnext
    exact ⟨_, hnext, holdEntered_enterHold hstate rfl rfl, enterHold_crz _⟩
  · have hnext := seqsyncPulse_next (by omega) hdriving hresting hdetached hhigh
    rw [if_neg (by omega), if_neg (by omega), if_pos hhi] at hnext
    exact ⟨_, hnext, holdEntered_enterHold hstate rfl rfl, enterHold_crz _⟩
  · refine ⟨_, (seqsyncResetPulse_next s).trans (congrArg _ (if_pos ((resetCounts_iff s).2 hcounts))),
      rackEntered_enterRack _ rfl rfl, enterRack_rackMoved _ rfl, fun n => accTarget_enterRack_zero n _⟩
  · exact (seqsyncResetPulse_next s).trans (congrArg _ (if_neg fun h => hcounts ((resetCounts_iff s).1 h)))
  · exact ⟨_, drainDeadline_next hstate hdrained hset hdue hwaits, raised_emit _ _ _ _ _ _ (by split <;> omega), rfl⟩
  · refine ⟨_, quiesceBallastClear_next hstate hquiesced hzero, ?_, fun n => accTarget_quiesceTargets n s⟩
    simp only [quiesceTargets, State.modRack_rack, (lowerAll_channelsOnly 8 s).rack]

end Sys2Proof.Machine
end

section
/-! SUPPORT. Announcements between trays (04 R123, R125; 14 R432, R435). -/

namespace Sys2Proof.Machine

open Sys2Proof

/-- What this tray announces, with counter value `q` and the tag left open (14 R432). -/
def announcementOf (s : State) (q : Nat) : Announce :=
  { device := s.nv.serial, seq := (Config.freeValue s.free).setWidth 16, slot := ⟨slotNo s % 32, by omega⟩,
    rackState := s.rack.state, detached := s.rack.detached, armed := s.rack.armed, leader := isLeader s,
    boot := BitVec.ofNat 32 s.nv.boots, tick := BitVec.ofNat 64 s.sys.tick, ctr := BitVec.ofNat 64 (s.nv.boots * 2 ^ 32 + q),
    tag := 0 }

/-- The same under its tag (14 R435). -/
def taggedAnnouncement (s : State) (q : Nat) : Announce :=
  { announcementOf s q with tag := announceTag s (announcementOf s q) }

/-- The tag does not cover itself. -/
theorem taggedAnnouncement_tag (s : State) (q : Nat) :
    (taggedAnnouncement s q).tag = announceTag s (taggedAnnouncement s q) := rfl

theorem slotNo_lt (s : State) : slotNo s < 32 := Nat.mod_lt _ (by omega)

theorem announce_of_running {s : State} (hrun : running s = true) (hdebug : s.sec.debug ≠ 2) :
    announce s = { s with
      free := s.free + 1
      out := .announce (taggedAnnouncement s ((s.net.annSeq + 1) % 2 ^ 32)) ((s.net.annSeq + 1) % 2 ^ 32) :: s.out
      net := { s.net with annSeq := (s.net.annSeq + 1) % 2 ^ 32 } } := by
  refine if_neg ?_
  simpa [hrun] using hdebug

theorem rackAnnounceTx_next {s : State} (htick : s.sys.tick % 10000 = 0) : exec .rackAnnounceTx s = .next (announce s) :=
  if_neg (not_not.2 htick)

/-- A counter that rises over the one kept (14 R432). -/
theorem announceOk_of_rises {a : Announce} {s : State} (hrun : running s = true) (hdebug : s.sec.debug ≠ 2)
    (htag : announceTag s a = a.tag) (hctr : ∀ c, s.net.annLast[a.slot] = some c → c < a.ctr) : announceOk a s = true := by
  unfold announceOk
  cases hlast : s.net.annLast[a.slot] with
  | none => simp [hrun, sealed, hdebug, htag]
  | some c => simpa [hrun, sealed, hdebug, htag] using hctr c hlast

/-- An accepted announcement is kept with its tick and its counter (04 R123, 14 R432). -/
def announcementKept (a : Announce) (s : State) : State :=
  { s with
    net := { s.net with annLast := s.net.annLast.set a.slot (some a.ctr) }
    rack := { s.rack with heard := s.rack.heard.set a.slot (some (a, s.sys.tick)),
                          heardOther := s.rack.heardOther || (!s.rack.listened && a.rackState != 0),
                          leaderLost := s.rack.leaderLost && a.slot != 0 } }

/-- The leader hears another device under slot 0 (04 R123). -/
def secondLeader (a : Announce) (s : State) : Bool := isLeader s && a.slot == 0 && a.device != s.nv.serial

theorem secondLeader_iff (a : Announce) (s : State) :
    secondLeader a s = true ↔ isLeader s = true ∧ a.slot = 0 ∧ a.device ≠ s.nv.serial := by
  simp [secondLeader, and_assoc]

/-- CRZ_RACK.DUP_LEADER (04 R126). -/
def dupLeaderSeen (s : State) : State := s.modRack fun r => { r with dupLeader := true }

theorem rackAnnounceRx_next {a : Announce} {s : State} (hok : announceOk a s = true) :
    exec (.rackAnnounceRx a) s =
      if secondLeader a s then .next (hostEvent 15 (enterHold (dupLeaderSeen (announcementKept a s))))
      else .next (announcementKept a s) :=
  if_neg (by rw [hok]; exact Bool.false_ne_true)

/-- An entry to HOLD stays one while another host event falls due. -/
theorem HoldEntered.hostEvent {s t : State} (h : HoldEntered s t) (b : Nat) : HoldEntered s (hostEvent b t) := by
  obtain ⟨hstate, hheld, hdriving, harmed, hdue⟩ := h
  exact ⟨hstate, hheld, hdriving, harmed, (RecordGrows.hostEvent b t).hostDue hdue⟩

/-- The difference is kept with the tick at which it began (04 R123). -/
theorem rackCompare_of_differs {s : State} (h : rackDiffers s = true) :
    rackCompare s = s.modRack fun r => { r with differs := r.differs.or (some s.sys.tick) } := by
  unfold rackCompare
  simp only [h, if_true]

/-- CRZ_RACK.MISMATCH (04 R126). -/
def mismatchSeen (s : State) : State := s.modRack fun r => { r with mismatch := true }

theorem rackMismatch_held {x : Nat} {s : State} (hdiffers : rackDiffers s = true) (hx : s.rack.differs = some x)
    (hlong : x + 2000 < s.sys.tick) :
    exec .rackMismatch s = .next (hostEvent 15 (enterHold (mismatchSeen (rackCompare s)))) := by
  change execRackMismatch s = _
  unfold execRackMismatch
  have hsince : (rackCompare s).rack.differs = some x := by rw [rackCompare_of_differs hdiffers, State.modRack_rack, hx]; rfl
  have htick : (rackCompare s).sys = s.sys := rfl
  simp only [hsince, htick, if_neg (Nat.not_le.2 hlong)]
  rfl

theorem rackMismatch_begins {s : State} (hdiffers : rackDiffers s = true) (hnone : s.rack.differs = none) :
    exec .rackMismatch s = .next (s.modRack fun r => { r with differs := some s.sys.tick }) := by
  change execRackMismatch s = _
  unfold execRackMismatch
  simp only [rackCompare_of_differs hdiffers, State.modRack_rack, State.modRack_sys, hnone, Option.none_or,
    Nat.le_add_right, if_true]
  simp [State.modRack, hnone]

/-- A rack that differs is not in HOLD (04 R123). -/
theorem state_ne_of_rackDiffers {s : State} (h : rackDiffers s = true) : s.rack.state ≠ 15 := by
  unfold rackDiffers at h
  simp only [Bool.and_eq_true, bne_iff_ne] at h
  obtain ⟨⟨-, hstate⟩, -⟩ := h
  exact hstate

/-- The leader was last heard at tick `x`, or never since listening began at `x` (04 R123). -/
def leaderSilentSince (x : Nat) (s : State) : Prop :=
  (∃ a, s.rack.heard[(0 : Fin 32)] = some (a, x)) ∨ (s.rack.heard[(0 : Fin 32)] = none ∧ s.rack.listenTick = some x)

theorem leaderLost_next {x : Nat} {s : State} (hleader : isLeader s = false) (hdetached : s.rack.detached = false)
    (hlistened : s.rack.listened = true) (hlost : s.rack.leaderLost = false) (hsilent : leaderSilentSince x s)
    (hlong : x + 100000 ≤ s.sys.tick) :
    exec .leaderLost s = .next (hostEvent 15 (s.modRack fun r => { r with leaderLost := true })) := by
  change execLeaderLost s = _
  unfold execLeaderLost
  rcases hsilent with ⟨a, ha⟩ | ⟨hnone, hx⟩
  · simp [ha, hleader, hdetached, hlistened, hlost, hlong]
  · simp [hnone, hx, hleader, hdetached, hlistened, hlost, hlong]

/-- The listening time is over (04 R125). -/
def listenedOut (s : State) : State := s.modRack fun r => { r with listened := true }

theorem rackListenEnd_next {x : Nat} {s : State} (hx : s.rack.listenTick = some x) (hlistened : s.rack.listened = false)
    (hlong : x + 100000 ≤ s.sys.tick) : exec .rackListenEnd s =
      if s.rack.heardOther then .next (enterHold (detach (listenedOut s))) else .next (enterRack 0 (listenedOut s)) := by
  change execRackListenEnd s = _
  unfold execRackListenEnd
  have hdue : ¬(s.rack.listened = true ∨ s.sys.tick < x + 100000) := by
    rw [hlistened]
    rintro (h | h)
    · exact Bool.false_ne_true h
    · omega
  simp only [hx, if_neg hdue]
  rfl

/-- Settles O42: what is sent and what is kept by the equations of their rows, the entries to HOLD by `holdEntered_enterHold`. -/
theorem announcementRows : Obligations.AnnouncementRows := by
  unfold Obligations.AnnouncementRows
  refine ⟨fun s htick hrun hdebug => ?_, fun a s hrun hdebug htag hctr =>
      ⟨fun hother => ?_, fun hleader hslot hdevice hstate => ?_⟩,
    fun x s hdiffers hx hlong => ?_, fun s hdiffers hnone => rackMismatch_begins hdiffers hnone,
    fun x s hleader hdetached hlistened hlost hsilent hlong =>
      leaderLost_next hleader hdetached hlistened hlost hsilent hlong,
    fun x s hx hlistened hlong => ⟨fun hheard => ?_, fun hheard hstate => ?_⟩⟩
  · exact ⟨_, taggedAnnouncement s ((s.net.annSeq + 1) % 2 ^ 32), (rackAnnounceTx_next htick).trans
      (congrArg _ (announce_of_running hrun hdebug)), rfl, rfl, Nat.mod_eq_of_lt (slotNo_lt s), rfl, rfl, rfl, rfl,
      taggedAnnouncement_tag .., rfl⟩
  · refine (rackAnnounceRx_next (announceOk_of_rises hrun hdebug htag hctr)).trans (if_neg ?_)
    rwa [secondLeader_iff]
  · have hsecond := (secondLeader_iff a s).2 ⟨hleader, hslot, hdevice⟩
    have hheld : HoldEntered s (enterHold (dupLeaderSeen (announcementKept a s))) := holdEntered_enterHold hstate rfl rfl
    refine ⟨_, (rackAnnounceRx_next (announceOk_of_rises hrun hdebug htag hctr)).trans (if_pos hsecond),
      hheld.hostEvent 15, ?_, ?_⟩
    · rw [hostEvent_rack, enterHold_rack (s := dupLeaderSeen (announcementKept a s)) hstate]
      rfl
    · exact enterHold_crz _
  · have hstate := state_ne_of_rackDiffers hdiffers
    have hheld : HoldEntered s (enterHold (mismatchSeen (rackCompare s))) := holdEntered_enterHold hstate rfl rfl
    refine ⟨_, rackMismatch_held hdiffers hx hlong, hheld.hostEvent 15, ?_, ?_⟩
    · rw [hostEvent_rack, enterHold_rack (s := mismatchSeen (rackCompare s)) hstate]
      rfl
    · exact enterHold_crz _
  · have hnext := rackListenEnd_next hx hlistened hlong
    rw [if_neg (by rw [hheard]; exact Bool.false_ne_true)] at hnext
    refine ⟨_, hnext, rackEntered_enterRack 0 rfl rfl, ?_⟩
    rw [enterRack_rack]
    rfl
  · have hnext := rackListenEnd_next hx hlistened hlong
    rw [if_pos hheard] at hnext
    refine ⟨_, hnext, holdEntered_enterHold hstate rfl rfl, ?_, ?_, enterHold_crz _⟩ <;>
      rw [enterHold_rack (s := detach (listenedOut s)) hstate] <;> rfl

end Sys2Proof.Machine
end

section
/-! SUPPORT. The rack and tray commands (04 R121 to R126; 14 R441; 15 R450, R451). -/

namespace Sys2Proof.Machine

open Sys2Proof

/-! What a command that is taken leaves of the values that its rules read. -/

section
variable (f : Frame) (c : Cmd) (s : State)

@[simp] theorem isLeader_taken : isLeader (taken f c s) = isLeader s := by rw [taken_frame]; rfl
@[simp] theorem lineHigh_taken : lineHigh (taken f c s) = lineHigh s := by rw [taken_frame]; rfl
@[simp] theorem resting_taken : resting (taken f c s) = resting s := by rw [taken_frame]; rfl
@[simp] theorem pstate_taken : pstate (taken f c s) = pstate s := by rw [taken_frame]; rfl
@[simp] theorem leaderState_taken : leaderState (taken f c s) = leaderState s := by rw [taken_frame]; rfl
@[simp] theorem localState_taken : localState (taken f c s) = localState s := by rw [taken_frame]; rfl
@[simp] theorem convOk_taken (d : Chan) : convOk (taken f c s) d = convOk s d := by rw [taken_frame]; rfl
@[simp] theorem safeRefuses_taken : safeRefuses (taken f c s) = safeRefuses s := by rw [taken_frame]; rfl
@[simp] theorem critRefuses_taken : critRefuses (taken f c s) = critRefuses s := by rw [taken_frame]; rfl
@[simp] theorem leakRefuses_taken : leakRefuses (taken f c s) = leakRefuses s := by rw [taken_frame]; rfl
@[simp] theorem armedRack_taken (r : RackState) : armedRack (taken f c s) r = armedRack s r := by rw [taken_frame]; rfl

end

/-! A command whose rule ends it with OK. -/

/-- Applying an admitted command gives `u` and the answer OK, and its registers are not stored: it ends answered, with the traces of
a command on `u`. -/
theorem settled_done (c : Cmd) {f : Frame} {s u : State} (hkey : storeKey c = none) (h : applied f c none s = done u) :
    (applied f c none s).1 = u ∧ Answered f c .ok (settled f c none s) := by
  have hans : (applied f c none s).2 = some {} := congrArg Prod.snd h
  have hwaits : storeWaits (reqOf f c none s) {} = none := by
    have hcmd : (reqOf f c none s).cmd = some c := rfl
    simp [storeWaits, hcmd, hkey]
  obtain ⟨q, hq, hsrc, hseq, hcode, hres, -⟩ := settled_answered hans hwaits
  exact ⟨congrArg Prod.fst h, q, hq, hsrc, hseq, hcode, hres⟩

/-- A command that moves CRZ_RACK and drives SEQSYNC leaves besides only its traces. -/
theorem settled_bookkept_rack {f : Frame} {c : Cmd} {bus : Option TransferEnd} {s : State} {r : RackState} {o : List Out}
    (h : (applied f c bus s).1 = { taken f c s with rack := r, out := o }) :
    settled f c bus s = { bookkept s (settled f c bus s) with rack := r, out := o } := by
  apply State.eq_of
  case h_net =>
    have e : (settled f c bus s).net = _ := settled_net f c bus s
    rw [h] at e
    simp only [bookkept]
    rw [e, taken_net]
  case h_cool => rw [settled_cool, h, taken_cool]; rfl
  case h_mbx => simp only [bookkept, settled_mbx, h]; rw [taken_mbx]
  case h_nv => simp only [bookkept, settled_nv, h]; rw [taken_nv]
  all_goals simp [bookkept, h]

theorem hostDue_settled {f : Frame} {c : Cmd} {bus : Option TransferEnd} {s : State} {b : Nat}
    (h : HostDue (applied f c bus s).1 b) : HostDue (settled f c bus s) b :=
  h.mono (by rw [settled_sys]) fun p hp => by rwa [settled_mbx]

/-! rack.power_on, rack.power_off and rack.reset (04 R121, R126). -/

/-- The leader pulses, a follower is armed (04 R121). -/
theorem startOrArm_eq (s : State) :
    startOrArm s = { s with rack := armedRack s s.rack, out := if isLeader s then .pulse 400 :: s.out else s.out } := by
  have hleader : isLeader (s.modRack fun r => { r with armed := true }) = isLeader s := rfl
  unfold startOrArm armedRack
  simp only [hleader]
  split <;> rfl

theorem applyRackOn_done {s : State} (hdetached : s.rack.detached = false) (hstate : s.rack.state = 1)
    (hhigh : isLeader s = true → lineHigh s = true) : applyRackOn s = done (startOrArm s) := by
  unfold applyRackOn
  cases hleader : isLeader s with
  | false => simp [hdetached, hstate]
  | true => simp [hdetached, hstate, hhigh hleader]

/-- The grace and the immediate flag of a drain to come (14 R441). -/
def drainArmed (grace flags : Byte) (s : State) : State :=
  s.modRack fun r => { r with grace := grace.toNat, immediate := flags.getLsbD 0 }

/-- The same with the pulse or the arming of 04 R121. -/
theorem startOrArm_drainArmed (grace flags : Byte) (s : State) : startOrArm (drainArmed grace flags s) = { s with
    rack := armedRack s { s.rack with grace := grace.toNat, immediate := flags.getLsbD 0 }
    out := if isLeader s then .pulse 400 :: s.out else s.out } := startOrArm_eq _

theorem applyRackOff_done {grace flags : Byte} {s : State} (hdetached : s.rack.detached = false) (hstate : s.rack.state = 8)
    (hhigh : isLeader s = true → lineHigh s = true) :
    applyRackOff grace flags s = done (startOrArm (drainArmed grace flags s)) := by
  unfold applyRackOff
  cases hleader : isLeader s with
  | false => simp [hdetached, hstate, drainArmed]
  | true => simp [hdetached, hstate, hhigh hleader, drainArmed]

/-- The leader's pulse (04 R121). -/
theorem drivePulse_eq (k : Nat) (s : State) : drivePulse k s = { s with
    rack := { s.rack with driving := true, line := false, pulse := some (s.sys.tick + k) }
    out := .pulse (10 * k) :: s.out } := rfl

theorem applyRackReset_done {s : State} (hdetached : s.rack.detached = false) (hleader : isLeader s = true)
    (hresting : resting s = true) (hhigh : lineHigh s = true) : applyRackReset s = done (drivePulse 200 s) := by
  unfold applyRackReset
  simp [hdetached, hleader, hresting, hhigh]

/-! rack.join (04 R122, R124). -/

theorem applyRackJoin_joined {s : State} (hstrap : s.rack.strapDetached = false) (hdetached : s.rack.detached = false)
    (hstate : s.rack.state ≠ 15) : applyRackJoin s = done s := by
  unfold applyRackJoin
  simp [hstrap, hdetached, hstate]

theorem applyRackJoin_rejoin {s : State} {k : Fin 16} (hstrap : s.rack.strapDetached = false)
    (hout : s.rack.detached = true ∨ s.rack.state = 15) (hk : k = 1 ∨ k = 8) (hleader : leaderState s = some k)
    (hlocal : localState s = k) : applyRackJoin s = done (rejoin k s) := by
  have hnot : ¬(k ≠ 1 ∧ k ≠ 8) := fun ⟨h1, h8⟩ => hk.elim h1 h8
  have hin : ¬((!s.rack.detached && decide (s.rack.state ≠ 15)) = true) := by rcases hout with h | h <;> simp [h]
  unfold applyRackJoin
  rw [if_neg (by rw [hstrap]; exact Bool.false_ne_true), if_neg hin]
  simp only [hleader, if_neg hnot, if_pos hlocal]

theorem applyRackJoin_leaveHold {s : State} {k : Fin 16} (hstrap : s.rack.strapDetached = false)
    (hdetached : s.rack.detached = false) (hstate : s.rack.state = 15) (hk : k = 1 ∨ k = 8)
    (hleader : leaderState s = some k) (hlocal : localState s ≠ k) : applyRackJoin s = done (leaveHold k s) := by
  have hnot : ¬(k ≠ 1 ∧ k ≠ 8) := fun ⟨h1, h8⟩ => hk.elim h1 h8
  unfold applyRackJoin
  simp [hstrap, hdetached, hstate, hleader, hnot, hlocal]

/-- A resting state taken up again: the rack block, and nothing of channels and pins (04 R122, R124). -/
theorem rejoin_tray (k : Fin 16) (s : State) : (rejoin k s).rack.state = k ∧ (rejoin k s).rack.detached = false ∧
    (rejoin k s).crz = s.crz ∧ (rejoin k s).acc = s.acc := by
  unfold rejoin
  simp only
  split <;> simp [startRecovery]

theorem leaveHold_rack (k : Fin 16) (s : State) :
    (leaveHold k s).rack.state = k ∧ (leaveHold k s).rack.detached = s.rack.detached := by
  refine ⟨enterRack_state k _, (enterRack_detached k _).trans ?_⟩
  split
  · rw [((clearStagger_channelsOnly s).trans (lowerAll_channelsOnly 0 _)).rack]
  · rfl

/-! HOLD and detachment as commands (04 R122, R124). -/

/-- An FM8 in HOLD stays in it. -/
theorem enterHold_of_hold {s : State} (h : s.rack.state = 15) : enterHold s = s := if_pos h

theorem enterHold_state (s : State) : (enterHold s).rack.state = 15 := by
  by_cases h : s.rack.state = 15
  · rw [enterHold_of_hold h, h]
  · rw [enterHold_rack h]; rfl

theorem enterHold_detached (s : State) : (enterHold s).rack.detached = s.rack.detached := by
  by_cases h : s.rack.state = 15
  · rw [enterHold_of_hold h]
  · rw [enterHold_rack h]; rfl

/-- Settles O7: each command by the rule that applies it, on the state in which it is taken. -/
theorem rackCommands : Obligations.RackCommands := by
  unfold Obligations.RackCommands
  refine ⟨fun f s h hdetached hstate hhigh => ?_, fun f grace flags s h hdetached hstate hhigh => ?_,
    fun f s h hdetached hleader hresting hhigh => ?_, fun f s h => ?_, fun f s h => ?_,
    fun f s h hstrap hdetached hstate => ?_, fun f s h hstrap hout hk hleader => ?_,
    fun f k s h hstrap hdetached hstate hleader hk => ?_⟩
  · obtain ⟨happlied, hans⟩ := settled_done .rackPowerOn (f := f) (s := s) rfl
      (applyRackOn_done (by simpa using hdetached) (by simpa using hstate) (by simpa using hhigh))
    refine ⟨_, runCommand_settled h none, settled_bookkept_rack (happlied.trans ?_), hans⟩
    rw [startOrArm_eq, armedRack_taken, isLeader_taken, taken_rack, taken_out]
  · obtain ⟨happlied, hans⟩ := settled_done (.rackPowerOff grace flags) (f := f) (s := s) rfl
      (applyRackOff_done (by simpa using hdetached) (by simpa using hstate) (by simpa using hhigh))
    refine ⟨_, runCommand_settled h none, settled_bookkept_rack (happlied.trans ?_), hans⟩
    rw [startOrArm_drainArmed, armedRack_taken, isLeader_taken, taken_rack, taken_out]
  · obtain ⟨happlied, hans⟩ := settled_done .rackReset (f := f) (s := s) rfl
      (applyRackReset_done (by simpa using hdetached) (by simpa using hleader) (by simpa using hresting)
        (by simpa using hhigh))
    refine ⟨_, runCommand_settled h none, settled_bookkept_rack (happlied.trans ?_), hans⟩
    rw [drivePulse_eq, taken_rack, taken_out, congrArg SysState.tick (taken_sys f .rackReset s)]
  · obtain ⟨happlied, hans⟩ := settled_done .rackHold (f := f) (s := s) rfl rfl
    refine ⟨_, runCommand_settled h none, ?_, ?_, ?_, fun hstate => ⟨?_, ?_⟩, fun hstate => ?_, ?_, hans⟩
    · rw [settled_rack, happlied, enterHold_state]
    · rw [settled_crz, happlied, enterHold_crz, taken_crz]
    · rw [settled_acc, happlied, enterHold_acc, taken_acc]
    · rw [settled_rack, happlied, enterHold_rack (by simpa using hstate), pstate_taken]
      rfl
    · refine hostDue_settled ?_
      rw [happlied]
      exact hostDue_enterHold (by simpa using hstate)
    · rw [settled_rack, happlied, enterHold_of_hold (by simpa using hstate), taken_rack]
    · rw [settled_rack, happlied, enterHold_detached, taken_rack]
  · obtain ⟨happlied, hans⟩ := settled_done .rackDetach (f := f) (s := s) rfl rfl
    refine ⟨_, runCommand_settled h none, ?_, ?_, ?_, hans⟩
    · rw [settled_rack, happlied, announce_rack, detach, State.modRack_rack, taken_rack]
    · rw [settled_crz, happlied, announce_crz, detach, State.modRack_crz, taken_crz]
    · rw [settled_acc, happlied, announce_acc, detach, State.modRack_acc, taken_acc]
  · obtain ⟨happlied, hans⟩ := settled_done .rackJoin (f := f) (s := s) rfl
      (applyRackJoin_joined (by simpa using hstrap) (by simpa using hdetached) (by simpa using hstate))
    exact ⟨_, runCommand_settled h none, settled_bookkept happlied, hans⟩
  · obtain ⟨happlied, hans⟩ := settled_done .rackJoin (f := f) (s := s) rfl
      (applyRackJoin_rejoin (by simpa using hstrap) (by simpa using hout) hk (by simpa using hleader) (by simp))
    obtain ⟨hstate, hdetached, hcrz, hacc⟩ := rejoin_tray (localState s) (taken f .rackJoin s)
    refine ⟨_, runCommand_settled h none, ?_, ?_, ?_, ?_, hans⟩
    · rw [settled_rack, happlied, hstate]
    · rw [settled_rack, happlied, hdetached]
    · rw [settled_crz, happlied, hcrz, taken_crz]
    · rw [settled_acc, happlied, hacc, taken_acc]
  · by_cases hlocal : localState s = k
    · obtain ⟨happlied, hans⟩ := settled_done .rackJoin (f := f) (s := s) rfl
        (applyRackJoin_rejoin (by simpa using hstrap) (by simp [hstate]) hk (by simpa using hleader) (by simpa using hlocal))
      obtain ⟨hentered, hattached, -⟩ := rejoin_tray k (taken f .rackJoin s)
      refine ⟨_, runCommand_settled h none, ?_, ?_, hans⟩
      · rw [settled_rack, happlied, hentered]
      · rw [settled_rack, happlied, hattached]
    · obtain ⟨happlied, hans⟩ := settled_done .rackJoin (f := f) (s := s) rfl
        (applyRackJoin_leaveHold (by simpa using hstrap) (by simpa using hdetached) (by simpa using hstate) hk
          (by simpa using hleader) (by simpa using hlocal))
      obtain ⟨hentered, hkept⟩ := leaveHold_rack k (taken f .rackJoin s)
      refine ⟨_, runCommand_settled h none, ?_, ?_, hans⟩
      · rw [settled_rack, happlied, hentered]
      · rw [settled_rack, happlied, hkept, taken_rack, hdetached]

/-! tray.power_on and tray.power_off (04 R124; 14 R441). -/

theorem applyTrayOn_done {s : State} (hdetached : s.rack.detached = true) (hstate : s.rack.state ≠ 15)
    (hconv : convOk s trayChan = true) : applyTrayOn s = done (enterRack 2 s) := by
  unfold applyTrayOn
  simp [hdetached, hstate, hconv]

theorem applyTrayOff_done {grace flags : Byte} {s : State} (hdetached : s.rack.detached = true) (hstate : s.rack.state ≠ 15) :
    applyTrayOff grace flags s = done (enterRack 9 (drainArmed grace flags s)) := by
  unfold applyTrayOff
  simp [hdetached, hstate, drainArmed]

/-- Rack state 2 sets the tray target to T2, and nothing else of channels and pins (04 R118). -/
theorem enterRack_two (s : State) : (enterRack 2 s).crz = (setTarget trayChan 2 s).crz ∧ (enterRack 2 s).acc = s.acc := by
  rw [enterRack_eq, announce_crz, announce_acc]
  exact ⟨rfl, rfl⟩

/-- A drain that starts tells the host, and leaves channels and pins (14 R441). -/
theorem startDrain_host (s : State) : HostDue (startDrain s) 5 ∧ (startDrain s).crz = s.crz ∧ (startDrain s).acc = s.acc := by
  have hdue : ∀ t : State, t.sys = s.sys → t.mbx.evtDue = s.mbx.evtDue ++ [(5, s.sys.tick)] → HostDue t 5 := by
    intro t hsys hevt
    rw [HostDue, hsys, hevt]
    simp
  unfold startDrain
  simp only
  split
  · exact ⟨hdue _ rfl rfl, rfl, rfl⟩
  split
  · exact ⟨hdue _ rfl rfl, rfl, rfl⟩
  · exact ⟨hdue _ rfl rfl, rfl, rfl⟩

theorem enterRack_nine (s : State) :
    HostDue (enterRack 9 s) 5 ∧ (enterRack 9 s).crz = s.crz ∧ (enterRack 9 s).acc = s.acc := by
  obtain ⟨hdue, hcrz, hacc⟩ := startDrain_host (rackBegun 9 s)
  rw [enterRack_eq, announce_crz, announce_acc]
  refine ⟨hdue.mono (by rw [announce_sys]; rfl) fun p hp => ?_, hcrz, hacc⟩
  rw [announce_mbx]
  exact hp

/-! tray.fault_clear (15 R451; 17 R520). -/

theorem islandForce_channelsOnly (s : State) : ChannelsOnly s (islandForce s) :=
  .forAll (fun _ _ => ⟨rfl⟩) _ _

/-- CRZ_RACK without the lines and latches of a tray fault (15 R451). -/
def RackState.released (r : RackState) : RackState :=
  { r with trayfltDrive := false, rackfltDrive := false, shdn := false, offLatch := false, fastDown := false }

theorem releaseFaults_rack (s : State) : (releaseFaults s).rack = s.rack.released := by
  unfold releaseFaults
  simp only
  split <;> rfl

@[simp] theorem releaseFaults_sys (s : State) : (releaseFaults s).sys = s.sys := by
  unfold releaseFaults
  simp only
  split <;> rfl

/-- The latches of the cooling and of SAFE go (12 R372, R377; 17 R520). -/
theorem releaseFaults_latches (s : State) : (releaseFaults s).saf.safe = false ∧ (releaseFaults s).cool.crit = false ∧
    ∀ c : Fin 10, (releaseFaults s).cool.leak[c].latch = false := by
  unfold releaseFaults
  simp only
  split
  · simp
  next h =>
    refine ⟨?_, rfl, fun c => ?_⟩
    · simpa using h
    · simp

/-- The channels on their way to S0 and, unless a run-down goes on, the tray to T1 (12 R367, 15 R451). -/
def faultTargets (s : State) : State :=
  let s := forAll accList (fun n s => aimAcc n 0 s) (islandForce s)
  if s.cool.rundown.isSome then s else aim trayChan 1 s

theorem faultTargets_channelsOnly (s : State) : ChannelsOnly s (faultTargets s) := by
  have hdown := (islandForce_channelsOnly s).trans (.forAll (fun n => aim_channelsOnly (accChan n) 0) accList _)
  unfold faultTargets
  simp only
  split
  · exact hdown
  · exact hdown.trans (aim_channelsOnly ..)

theorem accTarget_faultTargets (n : Acc) (s : State) : accTarget (faultTargets s) n = 0 := by
  have hdown := accTarget_forAll_aimAcc n 0 (islandForce s)
  unfold faultTargets
  simp only
  split
  · exact hdown
  · rw [accTarget_aim_tray]
    exact hdown

/-- CRZ_RACK in state 0 after tray.fault_clear: detached where a fault or the strap detached it, else listening (04 R116, R125). -/
def RackState.cleared (r : RackState) (now : Nat) : RackState :=
  { r with
    state := 0, stateTick := now, detached := r.faultDetached || r.strapDetached, driving := false, armed := false,
    listened := r.faultDetached || r.strapDetached, heardOther := false, heldP := none, differs := none }

theorem applyFaultClear_done {s : State} (hsafe : safeRefuses s = none) (hcrit : critRefuses s = false)
    (hleak : leakRefuses s = false) : applyFaultClear s = done (announce
      ((faultTargets (releaseFaults s)).modRack fun r => r.cleared (faultTargets (releaseFaults s)).sys.tick)) := by
  unfold applyFaultClear faultTargets RackState.cleared
  rw [hsafe]
  simp only [hcrit, hleak, Bool.false_eq_true, if_false]

/-- Settles O8: each command by the rule that applies it; what an entry to its rack state leaves by `enterRack_two` and
`enterRack_nine`, the release of faults by `releaseFaults_rack` and `releaseFaults_latches`. -/
theorem trayCommands : Obligations.TrayCommands := by
  unfold Obligations.TrayCommands
  refine ⟨fun f s h hdetached hstate hconv => ?_, fun f grace flags s h hdetached hstate => ?_,
    fun f s h hsafe hcrit hleak => ?_⟩
  · obtain ⟨happlied, hans⟩ := settled_done .trayPowerOn (f := f) (s := s) rfl
      (applyTrayOn_done (by simpa using hdetached) (by simpa using hstate) (by simpa using hconv))
    obtain ⟨hcrz, hacc⟩ := enterRack_two (taken f .trayPowerOn s)
    refine ⟨_, runCommand_settled h none, ?_, ?_, ?_, ?_, hans⟩
    · rw [settled_rack, happlied, enterRack_state]
    · rw [settled_rack, happlied, enterRack_detached, taken_rack, hdetached]
    · rw [settled_crz, happlied, hcrz, setTarget_crz, taken_crz]
      rfl
    · rw [settled_acc, happlied, hacc, taken_acc]
  · obtain ⟨happlied, hans⟩ := settled_done (.trayPowerOff grace flags) (f := f) (s := s) rfl
      (applyTrayOff_done (by simpa using hdetached) (by simpa using hstate))
    obtain ⟨hdue, hcrz, hacc⟩ := enterRack_nine (drainArmed grace flags (taken f (.trayPowerOff grace flags) s))
    refine ⟨_, runCommand_settled h none, ?_, ?_, ?_, ?_, ?_, ?_, hostDue_settled (by rwa [happlied]), hans⟩
    · rw [settled_rack, happlied, enterRack_state]
    · rw [settled_rack, happlied, enterRack_detached, drainArmed, State.modRack_rack, taken_rack, hdetached]
    · rw [settled_rack, happlied, enterRack_rack]; rfl
    · rw [settled_rack, happlied, enterRack_rack]; rfl
    · rw [settled_crz, happlied, hcrz, drainArmed, State.modRack_crz, taken_crz]
    · rw [settled_acc, happlied, hacc, drainArmed, State.modRack_acc, taken_acc]
  · obtain ⟨happlied, hans⟩ := settled_done .trayFaultClear (f := f) (s := s) rfl
      (applyFaultClear_done (by simpa using hsafe) (by simpa using hcrit) (by simpa using hleak))
    have hmoved := faultTargets_channelsOnly (releaseFaults (taken f .trayFaultClear s))
    have hrack : (settled f .trayFaultClear none s).rack = s.rack.released.cleared s.sys.tick := by
      rw [settled_rack, happlied, announce_rack, State.modRack_rack, hmoved.rack, hmoved.sys, releaseFaults_rack, releaseFaults_sys,
        taken_rack, taken_sys]
    obtain ⟨hsafe', hcrit', hleak'⟩ := releaseFaults_latches (taken f .trayFaultClear s)
    refine ⟨_, runCommand_settled h none, ?_, ?_, ?_, ?_, ?_, ?_, ?_, fun c => ?_, fun n => ?_, ?_, hans⟩
    · rw [hrack]; rfl
    · rw [hrack]; rfl
    · rw [hrack]; rfl
    · rw [hrack]; rfl
    · rw [hrack]; rfl
    · rw [settled_saf, happlied, announce_saf, State.modRack_saf, hmoved.saf, hsafe']
    · rw [settled_cool, happlied, announce_cool, State.modRack_cool, hmoved.cool, hcrit']
    · rw [settled_cool, happlied, announce_cool, State.modRack_cool, hmoved.cool, hleak']
    · rw [settled_crz, happlied, announce_crz, State.modRack_crz]
      exact accTarget_faultTargets n _
    · rw [hrack]; rfl

end Sys2Proof.Machine
end

section
/-! SUPPORT. Steps of a channel (03 R64 to R66; 04 R86 to R89, R99, R101, R112, R127): what entering a state and enabling its rails
leave of Crozier, the faults that stop a channel in place, and the rows of a step. -/

namespace Sys2Proof.Machine

open Sys2Proof

/-- The channel of an accelerator, or the tray's (00 R8). -/
theorem accOf_eq_some {c : Chan} {n : Acc} (h : accOf c.1 = some n) : c = accChan n := by
  unfold accOf at h
  split at h
  · obtain rfl := Option.some.inj h
    rfl
  · exact absurd h (by simp)

/-- What a change of a channel leaves in it. -/
theorem setChan_chan_self (c : Chan) (f : ChanState → ChanState) (s : State) :
    (s.setChan c f).crz.chan[c] = f s.crz.chan[c] := by simp

/-! What the operations of bring-up leave of Crozier. -/

@[simp] theorem sendWord_crz (n : Acc) (ty : Byte) (body : List Byte) (s : State) : (sendWord n ty body s).crz = s.crz :=
  (sendWord_linksOnly n ty body s).crz

@[simp] theorem linkStart_crz (n : Acc) (s : State) : (linkStart n s).crz = s.crz := (linkStart_linksOnly n s).crz

@[simp] theorem avsWrite_crz (n : Acc) (k : Fin 2) (s : State) : (avsWrite n k s).crz = s.crz := by
  unfold avsWrite
  simp only
  split <;> rfl

@[simp] theorem startSet_crz (n : Acc) (mv opp felt : Nat) (s : State) : (startSet n mv opp felt s).crz = s.crz := by
  simp [startSet, avsWrites]

@[simp] theorem writeSettings_crz (n : Acc) (s : State) : (writeSettings n s).crz = s.crz := by
  unfold writeSettings
  simp only
  split
  · rfl
  split <;> rfl

@[simp] theorem enterS9_crz (n : Acc) (s : State) : (enterS9 n s).crz = s.crz := by simp [enterS9]

@[simp] theorem startRefs_crz (n : Acc) (r : Nat × BitVec 64) (s : State) : (startRefs n r s).crz = s.crz := by
  simp [startRefs, apply_ite State.crz]

@[simp] theorem drawRun_crz (n : Acc) (s : State) : (drawRun n s).2.crz = s.crz := by simp [drawRun]

@[simp] theorem startRun_crz (n : Acc) (attempt : Nat) (d : Nat × BitVec 64) (s : State) :
    (startRun n attempt d s).crz = s.crz := by simp [startRun, sendStart, sendTest]

@[simp] theorem enterS10_crz (n : Acc) (s : State) : (enterS10 n s).crz = s.crz := by
  unfold enterS10
  simp only
  split
  · split <;> simp
  · rfl

@[simp] theorem enterS12_crz (n : Acc) (s : State) : (enterS12 n s).crz = s.crz := rfl

/-- What a step completes at once: the channel's step is over, or stays as it is. -/
def StepFlagOnly (c : Chan) (s t : State) : Prop :=
  ∃ b, t.crz = { s.crz with chan := s.crz.chan.set c { s.crz.chan[c] with stepDone := b } }

theorem StepFlagOnly.of_crz {c : Chan} {s t : State} (h : t.crz = s.crz) : StepFlagOnly c s t :=
  ⟨s.crz.chan[c].stepDone, h.trans (congrArg (fun l => { s.crz with chan := l }) (Vector.set_getElem_self c.2).symm)⟩

theorem enterS11_stepFlagOnly (n : Acc) (s : State) : StepFlagOnly (accChan n) s (enterS11 n s) := by
  unfold enterS11
  split
  · exact ⟨true, rfl⟩
  split
  · exact .of_crz (by simp)
  · exact .of_crz (by simp)

/-- Of Crozier, entering a state does no more than complete its step (04 R86). -/
theorem enterAcc_stepFlagOnly (n : Acc) (k : Nat) (s : State) : StepFlagOnly (accChan n) s (enterAcc n k s) := by
  unfold enterAcc
  simp only
  split
  · split <;> exact .of_crz (by simp)
  split
  · split <;> exact .of_crz (by simp)
  split
  · exact .of_crz (by simp)
  split
  · exact .of_crz (by simp)
  split
  · exact .of_crz (by simp)
  split
  · exact enterS11_stepFlagOnly n s
  split
  · exact ⟨true, by simp⟩
  · exact .of_crz rfl

theorem enterHook_stepFlagOnly (c : Chan) (k : Nat) (s : State) : StepFlagOnly c s (enterHook c k s) := by
  unfold enterHook
  split
  next n h =>
    rw [accOf_eq_some h]
    exact enterAcc_stepFlagOnly n k s
  · exact .of_crz rfl

/-! Enabling the rails of a step (04 R88). -/

/-- A rail that is on already, or that Crozier does not drive, is none that a step enables (04 R88, R94). -/
def settledRail (s : State) (r : Rail) : Prop := driven r = true → s.crz.rail[r].en = true

theorem driven_and_off {r : Rail} {s : State} (h : settledRail s r) : (driven r && !s.crz.rail[r].en) = false := by
  cases hdriven : driven r with
  | false => rfl
  | true => rw [h hdriven]; rfl

theorem enableRail_rail_of_ne {q r : Rail} (h : q ≠ r) (s : State) : (enableRail q s).crz.rail[r] = s.crz.rail[r] := by
  have hne : q.1 ≠ r.1 := fun e => h (Fin.ext e)
  simp [enableRail, Vector.getElem_set_ne _ _ hne]

theorem forAll_enableRail_rail {r : Rail} {l : List Rail} (h : r ∉ l) (s : State) :
    (forAll l enableRail s).crz.rail[r] = s.crz.rail[r] := by
  induction l generalizing s with
  | nil => rfl
  | cons q l ih =>
    rw [List.mem_cons, not_or] at h
    obtain ⟨hne, hmem⟩ := h
    exact (ih hmem (enableRail q s)).trans (enableRail_rail_of_ne (Ne.symm hne) s)

theorem enableReady_rail {r : Rail} {s : State} (h : settledRail s r) (c : Chan) :
    (enableReady c s).crz.rail[r] = s.crz.rail[r] := by
  unfold enableReady
  simp only
  split
  · rfl
  · refine forAll_enableRail_rail (fun hr => ?_) s
    simp only [List.mem_filter, Bool.and_eq_true, Bool.not_eq_true'] at hr
    obtain ⟨-, ⟨⟨hdriven, hoff⟩, -⟩, -⟩ := hr
    rw [h hdriven] at hoff
    exact absurd hoff (by simp)

/-- Of the channels, enabling rails changes the first tick of the step alone (04 R88). -/
theorem enableReady_chan (c : Chan) (s : State) :
    ∃ x, (enableReady c s).crz.chan = s.crz.chan.set c { s.crz.chan[c] with stepStart := x } := by
  unfold enableReady
  simp only
  split
  · exact ⟨s.crz.chan[c].stepStart, (Vector.set_getElem_self c.2).symm⟩
  · refine ⟨s.crz.chan[c].stepStart.or (some s.sys.tick), ?_⟩
    have hchan : ∀ l : List Rail, (forAll l enableRail s).crz.chan = s.crz.chan :=
      fun l => forAll_keeps (fun t => t.crz.chan) enableRail (fun _ _ => rfl) l s
    simp [hchan]

/-! A step that starts (04 R88). -/

theorem putState_crz (c : Chan) (k : Nat) (s : State) : (putState c k s).crz = { s.crz with
    chan := s.crz.chan.set c { s.crz.chan[c] with state := k, chTick := s.sys.tick } } := by
  unfold putState
  simp only
  split <;> rfl

/-- The channel of a step to state `k` that starts at `now` (04 R88). -/
def ChanState.begun (x : ChanState) (k now : Nat) : ChanState :=
  { x with state := k, chTick := now, stepDone := false, stepStart := none, dir := 1, waiting := false }

/-- The state in which what entering state `k` does begins. -/
def stepBegun (c : Chan) (k : Nat) (s : State) : State :=
  (putState c k s).setChan c fun x => { x with stepDone := false, stepStart := none, dir := 1, waiting := false }

theorem stepBegun_crz (c : Chan) (k : Nat) (s : State) : (stepBegun c k s).crz =
    { s.crz with chan := s.crz.chan.set c (s.crz.chan[c].begun k s.sys.tick) } := by
  simp [stepBegun, putState_crz, ChanState.begun]

theorem startStep_eq (c : Chan) (k : Nat) (s : State) :
    startStep c k s = enableReady c (enterHook c k (stepBegun c k s)) := rfl

/-- The channel is in state `k` from this tick on, whatever the step completes or enables at once. -/
theorem startStep_chan (c : Chan) (k : Nat) (s : State) : ∃ b x,
    (startStep c k s).crz.chan[c] = { s.crz.chan[c].begun k s.sys.tick with stepDone := b, stepStart := x } := by
  obtain ⟨b, hb⟩ := enterHook_stepFlagOnly c k (stepBegun c k s)
  obtain ⟨x, hx⟩ := enableReady_chan c (enterHook c k (stepBegun c k s))
  refine ⟨b, x, ?_⟩
  rw [startStep_eq]
  simp [hx, hb, stepBegun_crz]

theorem startStep_rail {r : Rail} {s : State} (h : settledRail s r) (c : Chan) (k : Nat) :
    (startStep c k s).crz.rail[r] = s.crz.rail[r] := by
  have hbegun : (enterHook c k (stepBegun c k s)).crz.rail[r] = s.crz.rail[r] := by
    obtain ⟨b, hb⟩ := enterHook_stepFlagOnly c k (stepBegun c k s)
    rw [hb, stepBegun_crz]
  rw [startStep_eq, enableReady_rail (by rwa [settledRail, hbegun]), hbegun]

/-- What stops an upward step that could follow (04 R88, R112), apart from the e-fuse. -/
theorem tryStep_held {c : Chan} {k : Nat} {s : State} (h : heldBy s c k = true) :
    tryStep c k s = s.setChan c fun x => { x with waiting := true } := if_pos h

/-- A channel that nothing holds waits no more. -/
def unwaiting (c : Chan) (s : State) : State := s.setChan c fun x => { x with waiting := false }

theorem barred_unwaiting (s : State) (c : Chan) (k : Nat) : barred (unwaiting c s) c k = barred s c k := rfl

theorem tryStep_starts {c : Chan} {k : Nat} {s : State} (hheld : heldBy s c k = false) (hbarred : barred s c k = false)
    (hfuse : c = 8 ∨ k ≠ 1 ∨ s.crz.chan[c].efuseGood = true) : tryStep c k s = startStep c k (unwaiting c s) := by
  have hbar : ¬(barred (unwaiting c s) c k = true) := by rw [barred_unwaiting, hbarred]; exact Bool.false_ne_true
  refine (if_neg (by rw [hheld]; exact Bool.false_ne_true)).trans ?_
  cases hacc : accOf c.1 with
  | none => exact if_neg hbar
  | some n =>
    refine (if_neg hbar).trans (if_neg fun ⟨hk, hgood⟩ => ?_)
    rcases hfuse with h | h | h
    · rw [h] at hacc
      exact Option.some_ne_none n hacc.symm
    · exact h hk
    · rw [setChan_chan_self, h] at hgood
      exact Bool.false_ne_true hgood

/-- The e-fuse is closed first (04 R87). -/
theorem tryStep_closes {n : Acc} {s : State} (hheld : heldBy s (accChan n) 1 = false) (hbarred : barred s (accChan n) 1 = false)
    (hgood : s.crz.chan[accChan n].efuseGood = false) (hclose : s.crz.chan[accChan n].efuseClose = none) :
    tryStep (accChan n) 1 s = { s with
      acc := s.acc.set n { s.acc[n] with efuseOn := true }
      crz := { s.crz with chan := s.crz.chan.set (accChan n) { s.crz.chan[accChan n] with
        efuseClose := some s.sys.tick, efuseOpenTick := none, dir := 1, waiting := false } } } := by
  have hbar : ¬(barred (unwaiting (accChan n) s) (accChan n) 1 = true) := by
    rw [barred_unwaiting, hbarred]; exact Bool.false_ne_true
  refine (if_neg (by rw [hheld]; exact Bool.false_ne_true)).trans ?_
  simp only [accOf_accChan]
  refine (if_neg hbar).trans ((if_pos ?_).trans ((if_neg ?_).trans ?_))
  · rw [setChan_chan_self, hgood]
    exact ⟨trivial, rfl⟩
  · rw [setChan_chan_self, hclose]
    exact Bool.false_ne_true
  · simp [State.setAcc, State.setChan]

/-- A channel that may go on to its next state (04 R86 to R89, R107). -/
structure MayRise (x : ChanState) : Prop where
  dir : x.dir = 0 ∨ x.dir = 1
  stepDone : x.stepDone = true
  lower : x.state < x.target
  fault : x.fault = false
  limit : x.limit = none

theorem crzUp_of_mayRise {c : Chan} {s : State} (h : MayRise s.crz.chan[c]) :
    crzUp c s = tryStep c (s.crz.chan[c].state + 1) s := by
  have hdir : ¬(s.crz.chan[c].dir = 3 ∨ (!s.crz.chan[c].stepDone) = true) := by
    rw [h.stepDone]
    rintro (e | e)
    · rcases h.dir with e' | e' <;> omega
    · exact Bool.false_ne_true e
  unfold crzUp
  simp only [if_neg hdir, if_neg (Nat.not_le.2 h.lower), h.fault, h.limit, Bool.false_eq_true, if_false, reduceCtorEq]

/-- The channel rests at its target, or is on its way down from it (04 R86). -/
def atTarget (c : Chan) (s : State) : State :=
  (efuseBack c s).setChan c fun x => { x with
    waiting := false, dir := (if s.crz.chan[c].target = s.crz.chan[c].state then 0 else x.dir),
    limit := (if s.crz.chan[c].target = s.crz.chan[c].state then none else x.limit) }

/-- The channel rests below its target, at the limit of an early collapse (04 R107). -/
def atLimit (c : Chan) (s : State) : State :=
  s.setChan c fun x => { x with target := x.state, dir := 0, limit := none, waiting := false }

/-- What the completion of a step can lead to (04 R86 to R89, R107). -/
theorem crzUp_cases (c : Chan) (s : State) : crzUp c s = s ∨ crzUp c s = atTarget c s ∨ crzUp c s = atLimit c s ∨
    (s.crz.chan[c].state < s.crz.chan[c].target ∧ crzUp c s = tryStep c (s.crz.chan[c].state + 1) s) := by
  unfold crzUp
  simp only
  split
  · exact .inl rfl
  split
  · exact .inr (.inl rfl)
  next hlower =>
    have hlt := Nat.lt_of_not_le hlower
    split
    · exact .inl rfl
    cases hlimit : s.crz.chan[c].limit with
    | none => exact .inr (.inr (.inr ⟨hlt, rfl⟩))
    | some l =>
      simp only
      split
      · exact .inl rfl
      split
      · exact .inr (.inr (.inl rfl))
      · exact .inr (.inr (.inr ⟨hlt, rfl⟩))

theorem crzStepStart_next {c : Chan} {s : State} (h : MayRise s.crz.chan[c]) :
    exec (.crzStepStart c) s = .next (tryStep c (s.crz.chan[c].state + 1) s) := by
  have hstill : ¬(s.crz.chan[c].dir = 3 ∨ s.crz.chan[c].dir = 2 ∧ (!s.crz.chan[c].stepDone) = true ∨
      s.crz.chan[c].target < s.crz.chan[c].state) := by
    have hlower := h.lower
    rintro (e | ⟨e, -⟩ | e)
    · rcases h.dir with e' | e' <;> omega
    · rcases h.dir with e' | e' <;> omega
    · omega
  refine congrArg _ ((if_neg hstill).trans ((if_neg ?_).trans (crzUp_of_mayRise h)))
  rw [h.stepDone]
  exact Bool.false_ne_true

/-! The end of a step, seen from a rail that is settled (04 R88). -/

theorem rail_congr {s t : State} (h : t.crz.rail = s.crz.rail) (r : Rail) : t.crz.rail[r] = s.crz.rail[r] := by rw [h]

theorem efuseBack_rail (c : Chan) (s : State) : (efuseBack c s).crz.rail = s.crz.rail := by
  unfold efuseBack
  split
  · rfl
  · split <;> rfl

theorem tryStep_rail {r : Rail} {s : State} (h : settledRail s r) (c : Chan) (k : Nat) :
    (tryStep c k s).crz.rail[r] = s.crz.rail[r] := by
  have hstart : (startStep c k (unwaiting c s)).crz.rail[r] = s.crz.rail[r] := startStep_rail (s := unwaiting c s) h c k
  unfold tryStep
  split
  · rfl
  simp only
  split
  · split
    · rfl
    · exact hstart
  split
  · split <;> rfl
  split
  · split <;> rfl
  · exact hstart

theorem crzUp_rail {r : Rail} {s : State} (h : settledRail s r) (c : Chan) : (crzUp c s).crz.rail[r] = s.crz.rail[r] := by
  rcases crzUp_cases c s with e | e | e | ⟨-, e⟩ <;> rw [e]
  · exact rail_congr (efuseBack_rail c s) r
  · rfl
  · exact tryStep_rail h c _

theorem stepOver_rail {r : Rail} {s : State} (h : settledRail s r) (c : Chan) : (stepOver c s).crz.rail[r] = s.crz.rail[r] := by
  unfold stepOver
  simp only
  split
  · refine (crzUp_rail ?_ c).trans rfl
    exact h
  · refine (crzUp_rail ?_ c).trans rfl
    exact h

theorem settle_rail {r : Rail} {s : State} (h : settledRail s r) (c : Chan) : (settle c s).crz.rail[r] = s.crz.rail[r] := by
  unfold settle
  simp only
  split
  · rfl
  split
  · exact stepOver_rail h c
  · rfl

/-! Power-good (04 R99, R101). -/

theorem startPumps_crz (s : State) : (startPumps s).crz = s.crz := by
  refine forAll_keeps State.crz _ (fun l t => ?_) _ s
  simp only
  split
  · split <;> split <;> rfl
  · rfl

theorem stableHook_crz (r : Rail) (s : State) : (stableHook r s).crz = s.crz := by
  unfold stableHook
  split
  · simp only
    split
    · rfl
    split
    · split <;> rfl
    · split <;> rfl
  · split
    · rfl
    split
    · exact startPumps_crz s
    · rfl

/-- A rail that counts as stable (04 R99). -/
def railSettled (r : Rail) (s : State) : State := s.setRail r fun x => { x with stable := true, off := false }

theorem railStable_next {r : Rail} {s : State} (hstable : s.crz.rail[r].stable = false) (hpg : s.crz.rail[r].pg = true)
    (hen : settledRail s r) (hlong : stableAt s r < cyclesNow s) (hwindow : afterWindow s r = false) :
    exec (.railStable r) s = .next (settle (chanOf r) (stableHook r (railSettled r s))) := by
  refine if_neg ?_
  simp only [hstable, hpg, driven_and_off hen, Nat.not_le.2 hlong, hwindow, decide_false, Bool.not_true, Bool.or_false,
    Bool.false_eq_true, not_false_eq_true]

theorem railStable_rail {r : Rail} {s : State} (hen : settledRail s r) :
    (settle (chanOf r) (stableHook r (railSettled r s))).crz.rail[r] = { s.crz.rail[r] with stable := true, off := false } := by
  have hset : (railSettled r s).crz.rail[r] = { s.crz.rail[r] with stable := true, off := false } := by simp [railSettled]
  have hhook : settledRail (stableHook r (railSettled r s)) r := by
    intro hdriven
    rw [stableHook_crz, hset]
    exact hen hdriven
  rw [settle_rail hhook, stableHook_crz, hset]

/-- A transition of the filtered input at cycle `now` (04 R101). -/
def pgSeen (r : Rail) (level : Bool) (now : Nat) (s : State) : State :=
  s.setRail r fun x => { x with pg := level, pgAt := now }

/-- The transitions within a window before `now`, with the one at `now` (04 R101). -/
def windowTrans (s : State) (r : Rail) (now : Nat) : List Nat :=
  now :: s.crz.rail[r].trans.filter fun t => decide (now ≤ t + 250 * railWindow s r)

/-- The same with what is kept of them. -/
def transKept (r : Rail) (level : Bool) (now : Nat) (s : State) : State :=
  (pgSeen r level now s).setRail r fun x => { x with trans := windowTrans s r now }

/-- A transition is kept with the times of a rail that is watched; the fifth within a window is a fault (04 R101). -/
theorem railPgChange_next {r : Rail} {level : Bool} {y : Fin 250} {s : State} (hpg : s.crz.rail[r].pg ≠ level) :
    exec (.railPgChange r level y) s =
      if !s.crz.rail[r].en || !declared s r then .next (pgSeen r level (250 * s.sys.tick + y.1) s)
      else .next (if 5 ≤ (windowTrans s r (250 * s.sys.tick + y.1)).length then
          confirmFault r 2 (windowTrans s r (250 * s.sys.tick + y.1)).length
            (windowTrans s r (250 * s.sys.tick + y.1)).length (transKept r level (250 * s.sys.tick + y.1) s)
        else transKept r level (250 * s.sys.tick + y.1) s) :=
  if_neg (by simpa using hpg)

/-- Fewer than five transitions within a window, or a rail that is not watched, leave the rail and its times (04 R101). -/
theorem railPgChange_few {r : Rail} {level : Bool} {y : Fin 250} {s : State} (hpg : s.crz.rail[r].pg ≠ level)
    (hfew : (s.crz.rail[r].en && declared s r) = false ∨ (windowTrans s r (250 * s.sys.tick + y.1)).length < 5) :
    exec (.railPgChange r level y) s = .next (s.setRail r fun x => { x with
      pg := level, pgAt := 250 * s.sys.tick + y.1,
      trans := if s.crz.rail[r].en && declared s r then windowTrans s r (250 * s.sys.tick + y.1) else s.crz.rail[r].trans }) := by
  have hunwatched : (!s.crz.rail[r].en || !declared s r) = !(s.crz.rail[r].en && declared s r) := (Bool.not_and ..).symm
  rw [railPgChange_next hpg, hunwatched]
  cases hwatched : s.crz.rail[r].en && declared s r with
  | false => simp [pgSeen, State.setRail]
  | true =>
    have hlen := hfew.resolve_left (by rw [hwatched]; exact Bool.noConfusion)
    rw [Bool.not_true, if_neg Bool.false_ne_true, if_neg (Nat.not_le.2 hlen)]
    simp [transKept, pgSeen, State.setRail]

/-! Faults that stop a channel in place (03 R64, R65; 04 R87). -/

/-- CRZ_FAULT of a channel after a fault is noted (04 R104). -/
def ChanState.noted (x : ChanState) (code rail trans now : Nat) : ChanState :=
  if x.fCode ≠ 0 ∧ x.fTick = now ∧ (faultClass x.fCode < faultClass code ∨
      (faultClass x.fCode = faultClass code ∧ x.fRail ≤ rail)) then x
  else { x with fCode := code, fRail := rail, fTrans := min 255 trans, fState := x.state, fTick := now }

/-- Noting a fault changes CRZ_FAULT and CRZ_FAULT_TICK of its channel and tells the host; nothing else moves (04 R104). -/
theorem ChanState.noted_rest (x : ChanState) (code rail trans now : Nat) : x.noted code rail trans now = { x with
    fCode := (x.noted code rail trans now).fCode, fRail := (x.noted code rail trans now).fRail,
    fTrans := (x.noted code rail trans now).fTrans, fState := (x.noted code rail trans now).fState,
    fTick := (x.noted code rail trans now).fTick } := by
  unfold ChanState.noted
  split <;> rfl

theorem noteFault_eq (c : Chan) (code rail trans : Nat) (s : State) : noteFault c code rail trans s =
    hostEvent 6 (s.setChan c fun x => x.noted code rail trans (s.sys.tick % 2 ^ 32)) := rfl

/-- The channel of a fault that takes no rail down (03 R64). -/
def ChanState.stoppedHere (x : ChanState) : ChanState :=
  { x with fault := true, target := x.state, dir := 0, waiting := false }

/-- It is recorded, the host is told, and the channel stays where it is with FAULT (03 R64). -/
theorem faultInPlace_spec (c : Chan) (code : Nat) (s : State) :
    HostDue (faultInPlace c code s) 6 ∧
      Raised (faultInPlace c code s) (faultClass code) c.1 0xFF (0x200 + code) (s.crz.chan[c].state % 65536) ∧
      (faultInPlace c code s).acc = s.acc ∧ (faultInPlace c code s).crz.chan[c] =
        (s.crz.chan[c].noted code 0x7F 0 (s.sys.tick % 2 ^ 32)).stoppedHere := by
  have hraised := raised_emit_mod s (faultClass code) c.1 0xFF (0x200 + code) s.crz.chan[c].state
  have hnoted := noteFault_recordGrows c code 0x7F 0 (emit s (faultClass code) c.1 0xFF (0x200 + code) s.crz.chan[c].state)
  have hstop := setChan_recordGrows c ChanState.stoppedHere
    (noteFault c code 0x7F 0 (emit s (faultClass code) c.1 0xFF (0x200 + code) s.crz.chan[c].state))
  refine ⟨hstop.hostDue (hostDue_noteFault ..), (hnoted.trans hstop).raised hraised, rfl, ?_⟩
  simp [faultInPlace, noteFault_eq, ChanState.stoppedHere]

/-- The e-fuse opens again (04 R87). -/
def efuseReopened (n : Acc) (s : State) : State :=
  (s.setAcc n fun a => { a with efuseOn := false }).setChan (accChan n) fun c => { c with efuseClose := none }

theorem efuseCloseTimeout_next {n : Acc} {x : Nat} {s : State} (hclose : s.crz.chan[accChan n].efuseClose = some x)
    (hgood : s.crz.chan[accChan n].efuseGood = false) (hx : x + 2000 ≤ s.sys.tick) : exec (.efuseCloseTimeout n) s =
      .next ((faultInPlace (accChan n) 9 (efuseReopened n s)).setChan (accChan n) fun c => { c with target := 0 }) := by
  change execEfuseCloseTimeout n s = _
  unfold execEfuseCloseTimeout
  simp only [hclose]
  refine if_neg ?_
  rw [hgood]
  rintro (h | h)
  · exact Bool.false_ne_true h
  · omega

/-! The identity block (03 R64 to R66; 11 R322). -/

/-- The identity block of an accelerator is awaited (03 R64). -/
structure IdentityAwaited (s : State) (n : Acc) : Prop where
  state : chState s n = 1
  stepDone : s.crz.chan[accChan n].stepDone = false
  dir : s.crz.chan[accChan n].dir = 1
  ident : s.acc[n].ident = none
  stable : s.crz.rail[railOf n 0].stable = true

/-- A block is taken, and an image of the other family counts as a failed verification (16 R498). -/
def identityTaken (n : Acc) (x : Identity) (s : State) : State :=
  if imgTarget (accSlot (loadIdentity n x s) n (selectOf (loadIdentity n x s) n).active) = 1 + x.fwFamily.toNat then
    loadIdentity n x s
  else (loadIdentity n x s).setAccFw n fun a => { a with verified := false, state := 0 }

theorem identityRead_next {n : Acc} {s : State} (h : IdentityAwaited s n) (id : Option Identity) :
    exec (.identityRead n id) s = match id with
      | none => .next (faultInPlace (accChan n) 10 s)
      | some x => if 2 < x.binFuse.toNat ∨ 1 < x.fwFamily.toNat then
          .next (faultInPlace (accChan n) 13 (s.setAcc n fun a => { a with bin := 0xFF }))
        else .next (settle (accChan n) (identityTaken n x s)) := by
  have hstate : s.crz.chan[accChan n].state = 1 := h.state
  have hgo : ¬(s.crz.chan[accChan n].state ≠ 1 ∨ s.crz.chan[accChan n].stepDone = true ∨ s.crz.chan[accChan n].dir ≠ 1 ∨
      s.acc[n].ident.isSome = true ∨ (!s.crz.rail[railOf n 0].stable) = true) := by
    simp only [hstate, h.stepDone, h.dir, h.ident, h.stable, ne_eq, not_true, Option.isSome_none, Bool.not_true,
      Bool.false_eq_true, or_self, not_false_eq_true]
  exact (if_neg hgo).trans (by cases id <;> rfl)

/-- From `s` to `t` the accelerator keeps its identity block, its bin and its masks, and its channel keeps FAULT. -/
structure IdentityKept (n : Acc) (s t : State) : Prop where
  ident : t.acc[n].ident = s.acc[n].ident
  bin : t.acc[n].bin = s.acc[n].bin
  standing : t.bup.acc[n].standing = s.bup.acc[n].standing
  fault : t.crz.chan[accChan n].fault = s.crz.chan[accChan n].fault

namespace IdentityKept

theorem refl (n : Acc) (s : State) : IdentityKept n s s := ⟨rfl, rfl, rfl, rfl⟩

theorem trans {n : Acc} {s t u : State} (h : IdentityKept n s t) (h' : IdentityKept n t u) : IdentityKept n s u :=
  ⟨h'.ident.trans h.ident, h'.bin.trans h.bin, h'.standing.trans h.standing, h'.fault.trans h.fault⟩

/-- A change of Crozier that leaves FAULT. -/
theorem of_fault {n : Acc} {s t : State} (hacc : t.acc = s.acc) (hbup : t.bup = s.bup)
    (hfault : t.crz.chan[accChan n].fault = s.crz.chan[accChan n].fault) : IdentityKept n s t :=
  ⟨by rw [hacc], by rw [hacc], by rw [hbup], hfault⟩

/-- A change of the channel that leaves FAULT. -/
theorem setChan (n : Acc) {f : ChanState → ChanState} (s : State) (hf : ∀ x, (f x).fault = x.fault := by exact fun _ => rfl) :
    IdentityKept n s (s.setChan (accChan n) f) :=
  of_fault rfl rfl (by rw [setChan_chan_self, hf])

/-- A change of the pins that leaves the identity. -/
theorem setAcc (n : Acc) {f : AccState → AccState} (s : State) (hident : ∀ a, (f a).ident = a.ident := by exact fun _ => rfl)
    (hbin : ∀ a, (f a).bin = a.bin := by exact fun _ => rfl) : IdentityKept n s (s.setAcc n f) :=
  ⟨by simp [hident], by simp [hbin], rfl, rfl⟩

end IdentityKept

@[simp] theorem sendWord_acc (n : Acc) (ty : Byte) (body : List Byte) (s : State) : (sendWord n ty body s).acc = s.acc := by
  unfold sendWord
  split
  · rfl
  · split <;> rfl

@[simp] theorem flushQueue_acc (n : Acc) (s : State) : (flushQueue n s).acc = s.acc := by
  unfold flushQueue resumeCheck
  simp only
  split
  · exact sendWord_acc ..
  · rfl

/-- Of the pins, a link that starts asserts the lane's FORCEMIN_N demand alone (10 R299). -/
theorem linkStart_acc (n : Acc) (s : State) : (linkStart n s).acc = s.acc.set n { s.acc[n] with forceLane := true } := by
  unfold linkStart setDsLost
  simp only
  split <;> split <;> simp

theorem linkStart_identityKept (n : Acc) (s : State) : IdentityKept n s (linkStart n s) := by
  refine ⟨?_, ?_, ?_, by rw [linkStart_crz]⟩
  · rw [linkStart_acc]; simp
  · rw [linkStart_acc]; simp
  · rw [(linkStart_linksOnly n s).frame]

theorem enableReady_identityKept (n : Acc) (s : State) : IdentityKept n s (enableReady (accChan n) s) := by
  have hrest : (enableReady (accChan n) s).acc = s.acc ∧ (enableReady (accChan n) s).bup = s.bup := by
    have hrails : ∀ l : List Rail, (forAll l enableRail s).acc = s.acc ∧ (forAll l enableRail s).bup = s.bup := fun l =>
      ⟨forAll_keeps State.acc enableRail (fun _ _ => rfl) l s, forAll_keeps State.bup enableRail (fun _ _ => rfl) l s⟩
    unfold enableReady
    simp only
    split
    · exact ⟨rfl, rfl⟩
    · exact hrails _
  obtain ⟨x, hx⟩ := enableReady_chan (accChan n) s
  exact .of_fault hrest.1 hrest.2 (by rw [hx]; simp)

theorem stepBegun_identityKept (n : Acc) (k : Nat) (s : State) : IdentityKept n s (stepBegun (accChan n) k s) := by
  have hrest : (stepBegun (accChan n) k s).acc = s.acc ∧ (stepBegun (accChan n) k s).bup = s.bup := by
    unfold stepBegun putState
    simp only
    split <;> exact ⟨rfl, rfl⟩
  refine .of_fault hrest.1 hrest.2 ?_
  rw [stepBegun_crz]
  simp [ChanState.begun]

/-- Going on to S2 the link may start; the identity stays (04 R86). -/
theorem startStep_two_identityKept (n : Acc) (s : State) : IdentityKept n s (startStep (accChan n) 2 s) := by
  have hhook : ∀ t, IdentityKept n t (enterHook (accChan n) 2 t) := by
    intro t
    have henter : enterHook (accChan n) 2 t = if linkAllowed t n then linkStart n t else t := by
      unfold enterHook
      simp only [accOf_accChan]
      rfl
    rw [henter]
    split
    · exact linkStart_identityKept n t
    · exact .refl n t
  rw [startStep_eq]
  exact ((stepBegun_identityKept n 2 s).trans (hhook _)).trans (enableReady_identityKept n _)

theorem tryStep_two_identityKept (n : Acc) (s : State) : IdentityKept n s (tryStep (accChan n) 2 s) := by
  have hwait : IdentityKept n s (unwaiting (accChan n) s) := .setChan n s
  unfold tryStep
  split
  · exact .setChan n s
  simp only [accOf_accChan]
  split
  · split
    · omega
    · exact hwait
  split
  · omega
  · exact hwait.trans (startStep_two_identityKept n _)

theorem efuseBack_identityKept (n : Acc) (s : State) : IdentityKept n s (efuseBack (accChan n) s) := by
  unfold efuseBack
  simp only [accOf_accChan]
  split
  · exact (IdentityKept.setAcc n s).trans (.setChan n _)
  · exact .refl n s

theorem crzUp_identityKept {n : Acc} {s : State} (hstate : chState s n = 1) : IdentityKept n s (crzUp (accChan n) s) := by
  rcases crzUp_cases (accChan n) s with e | e | e | ⟨-, e⟩ <;> rw [e]
  · exact .refl n s
  · exact (efuseBack_identityKept n s).trans (.setChan n _)
  · exact .setChan n s
  · rw [show s.crz.chan[accChan n].state = 1 from hstate]
    exact tryStep_two_identityKept n s

/-- A step of S1 that ends keeps the identity (03 R64, 04 R86). -/
theorem settle_identityKept {n : Acc} {s : State} (hstate : chState s n = 1) : IdentityKept n s (settle (accChan n) s) := by
  have hdone : IdentityKept n s (s.setChan (accChan n) fun x => { x with stepDone := true }) := .setChan n s
  have hstate' : chState (s.setChan (accChan n) fun x => { x with stepDone := true }) n = 1 := by
    rw [chState, setChan_chan_self]
    exact hstate
  have htray : ¬(accChan n = 8 ∧ (s.setChan (accChan n) fun x => { x with stepDone := true }).crz.chan[accChan n].state = 3) :=
    fun ⟨h, _⟩ => trayChan_ne_accChan n h.symm
  unfold settle
  simp only
  split
  · exact .refl n s
  split
  · unfold stepOver
    simp only [if_neg htray]
    exact hdone.trans (crzUp_identityKept hstate')
  · exact .refl n s

/-- What a good block leaves (03 R64, 11 R322). -/
theorem identityTaken_spec (n : Acc) (x : Identity) (s : State) : (identityTaken n x s).acc[n].ident = some x ∧
    (identityTaken n x s).acc[n].bin =
      ((serialEntries s x.serial).filter fun e => e.kind == 7).foldl (fun b e => max b e.bin) x.binFuse.toNat ∧
    (identityTaken n x s).bup.acc[n].standing = standingOf s x ∧ (identityTaken n x s).crz = s.crz := by
  unfold identityTaken
  split <;> simp [loadIdentity]

/-- Settles O43: a step by the equations of `tryStep`; an e-fuse or identity that fails by `faultInPlace_spec`; what follows a good
identity block or a stable rail by what settling the step keeps (`settle_identityKept`, `settle_rail`). -/
theorem crozierStepRows : Obligations.CrozierStepRows := by
  unfold Obligations.CrozierStepRows
  refine ⟨fun c s hdir hdone hlower hfault hlimit => ?_, fun n x s hx hdue => ?_, fun n x s hclose hgood hx => ?_,
    fun n s hstate hdone hdir hident hstable => ?_, fun r s hstable hpg hen hlong hwindow => ?_,
    fun r level y s hpg => ?_⟩
  · have hnext := crzStepStart_next ⟨hdir, hdone, hlower, hfault, hlimit⟩
    refine ⟨fun hheld => ?_, fun hheld hbarred hfuse => ?_, fun n hn hk hheld hbarred hgood hclose => ?_⟩
    · exact hnext.trans (congrArg _ (tryStep_held hheld))
    · obtain ⟨b, x, hchan⟩ := startStep_chan c (s.crz.chan[c].state + 1) (unwaiting c s)
      refine ⟨_, hnext.trans (congrArg _ (tryStep_starts hheld hbarred hfuse)), ?_, ?_, ?_⟩ <;> rw [hchan] <;> rfl
    · subst hn
      rw [hk] at hnext hheld hbarred
      exact hnext.trans (congrArg _ (tryStep_closes hheld hbarred hgood hclose))
  · change execStaggerStart n s = _
    unfold execStaggerStart
    simp only [hx, if_neg (Nat.not_lt.2 hdue)]
    rfl
  · obtain ⟨hdue, hraised, hacc, hchan⟩ := faultInPlace_spec (accChan n) 9 (efuseReopened n s)
    have hend := setChan_recordGrows (accChan n) (fun c => { c with target := 0 }) (faultInPlace (accChan n) 9 (efuseReopened n s))
    refine ⟨_, efuseCloseTimeout_next hclose hgood hx, hacc, ?_, ?_, ?_, hend.hostDue hdue, ?_⟩
    · rw [setChan_chan_self, hchan]; rfl
    · rw [setChan_chan_self]
    · rw [setChan_chan_self, hchan, ChanState.noted_rest]
      simp [ChanState.stoppedHere, efuseReopened]
    · have hkept : (efuseReopened n s).crz.chan[accChan n].state = chState s n := by
        rw [efuseReopened, setChan_chan_self]
        rfl
      rw [hkept] at hraised
      exact hend.raised hraised
  · have hread := identityRead_next (n := n) (s := s) ⟨hstate, hdone, hdir, hident, hstable⟩
    refine ⟨?_, fun x hbad => ?_, fun x hbin hfamily => ?_⟩
    · obtain ⟨hdue, hraised, hacc, hchan⟩ := faultInPlace_spec (accChan n) 10 s
      rw [show s.crz.chan[accChan n].state = 1 from hstate] at hraised
      exact ⟨_, hread none, by rw [hchan]; rfl, hacc, hdue, hraised⟩
    · obtain ⟨hdue, hraised, hacc, hchan⟩ := faultInPlace_spec (accChan n) 13 (s.setAcc n fun a => { a with bin := 0xFF })
      rw [show (s.setAcc n fun a => { a with bin := 0xFF }).crz.chan[accChan n].state = 1 from hstate] at hraised
      exact ⟨_, (hread (some x)).trans (if_pos hbad), by rw [hchan]; rfl, hacc, hdue, hraised⟩
    · obtain ⟨htaken, hbinTaken, hmasks, hcrz⟩ := identityTaken_spec n x s
      have hkept := settle_identityKept (n := n) (s := identityTaken n x s) (by rw [chState, hcrz]; exact hstate)
      refine ⟨_, (hread (some x)).trans (if_neg (by omega)), hkept.ident.trans htaken, hkept.bin.trans hbinTaken,
        hkept.standing.trans hmasks, hkept.fault.trans (by rw [hcrz])⟩
  · refine ⟨_, railStable_next hstable hpg hen hlong hwindow, ?_, ?_, ?_, ?_⟩ <;> rw [railStable_rail hen]
    exact hpg
  · intro now l watched hfew
    exact railPgChange_few hpg hfew

end Sys2Proof.Machine
end

section
/-! SUPPORT. Faults of rails (04 R92, R100 to R110, R114, R115; 05 R135): what stopping channels and removing rails leave of Crozier
and of the record, a confirmed fault, a rail that counts as off, and the tray taken down at once. -/

namespace Sys2Proof.Machine

open Sys2Proof

/-! What waits for the record stays, over folds and over the operations that take an accelerator down. -/

theorem RecordGrows.forAll {α : Type} {f : α → State → State} (h : ∀ x s, RecordGrows s (f x s)) (l : List α) (s : State) :
    RecordGrows s (forAll l f s) :=
  forAll_inv (RecordGrows s) f l (fun x t ht => ht.trans (h x t)) s (.refl s)

theorem RecordGrows.ite {s t : State} {c : Prop} [Decidable c] (h : RecordGrows s t) : RecordGrows s (if c then t else s) := by
  split
  · exact h
  · exact refl s

theorem leaveTop_recordGrows (n : Acc) (s : State) : RecordGrows s (leaveTop n s) :=
  .of_eq (by rw [leaveTop_frame]) (by rw [leaveTop_frame]) (by rw [leaveTop_frame])

/-- A stopped channel, an accelerator's or the tray's, records nothing itself (04 R103). -/
theorem stopChan_grows (c : Chan) (s : State) : RecordGrows s (stopChan c s) := by
  cases hacc : accOf c.1 with
  | some n =>
    rw [accOf_eq_some hacc]
    exact stopChan_recordGrows n s
  | none =>
    unfold stopChan
    simp only [hacc]
    exact .of_eq

/-! A channel that is stopped. -/

/-- Of Crozier, stopping a channel changes that channel alone, and leaves it stopped with FAULT (04 R103). -/
theorem stopChan_crz (c : Chan) (s : State) :
    ∃ x : ChanState, x.fault = true ∧ x.dir = 3 ∧ (stopChan c s).crz = { s.crz with chan := s.crz.chan.set c x } := by
  cases hacc : accOf c.1 with
  | some n =>
    obtain rfl := accOf_eq_some hacc
    unfold stopChan
    simp only [accOf_accChan]
    split
    · exact ⟨_, rfl, rfl, by simp [ChanState.leftTop]; rfl⟩
    · exact ⟨_, rfl, rfl, by simp [holdReset]; rfl⟩
  | none =>
    unfold stopChan
    simp only [hacc]
    exact ⟨_, rfl, rfl, rfl⟩

/-- A channel that a fault stops: the fault is noted, and the channel stops (04 R103). -/
def faultStop (c : Chan) (code rail trans : Nat) (s : State) : State := stopChan c (noteFault c code rail trans s)

theorem faultStop_crz (c : Chan) (code rail trans : Nat) (s : State) : ∃ x : ChanState, x.fault = true ∧ x.dir = 3 ∧
    (faultStop c code rail trans s).crz = { s.crz with chan := s.crz.chan.set c x } := by
  obtain ⟨x, hfault, hdir, hx⟩ := stopChan_crz c (noteFault c code rail trans s)
  exact ⟨x, hfault, hdir, by rw [faultStop, hx, noteFault_eq]; simp⟩

theorem faultStop_chan_self (c : Chan) (code rail trans : Nat) (s : State) :
    (faultStop c code rail trans s).crz.chan[c].fault = true ∧ (faultStop c code rail trans s).crz.chan[c].dir = 3 := by
  obtain ⟨x, hfault, hdir, hx⟩ := faultStop_crz c code rail trans s
  simpa [hx] using ⟨hfault, hdir⟩

theorem faultStop_chan_of_ne {c d : Chan} (h : d ≠ c) (code rail trans : Nat) (s : State) :
    (faultStop d code rail trans s).crz.chan[c] = s.crz.chan[c] := by
  have hne : d.1 ≠ c.1 := fun e => h (Fin.ext e)
  obtain ⟨x, -, -, hx⟩ := faultStop_crz d code rail trans s
  simp [hx, Vector.getElem_set_ne _ _ hne]

theorem faultStop_rail (c : Chan) (code rail trans : Nat) (s : State) :
    (faultStop c code rail trans s).crz.rail = s.crz.rail := by
  obtain ⟨x, -, -, hx⟩ := faultStop_crz c code rail trans s
  rw [hx]

theorem faultStop_recordGrows (c : Chan) (code rail trans : Nat) (s : State) :
    RecordGrows s (faultStop c code rail trans s) := (noteFault_recordGrows ..).trans (stopChan_grows ..)

/-! Rails that are removed (04 R103). -/

theorem disableRail_rail_of_ne {q r : Rail} (h : q ≠ r) (s : State) : (disableRail q s).crz.rail[r] = s.crz.rail[r] := by
  have hne : q.1 ≠ r.1 := fun e => h (Fin.ext e)
  cases hen : s.crz.rail[q].en with
  | false => rw [disableRail_of_off hen]
  | true => simp [disableRail_crz hen, Vector.getElem_set_ne _ _ hne]

theorem setRail_rail_self (r : Rail) (f : RailState → RailState) (s : State) :
    (s.setRail r f).crz.rail[r] = f s.crz.rail[r] := by simp

theorem setRail_rail_of_ne {q r : Rail} (h : q ≠ r) (f : RailState → RailState) (s : State) :
    (s.setRail q f).crz.rail[r] = s.crz.rail[r] := by
  have hne : q.1 ≠ r.1 := fun e => h (Fin.ext e)
  simp [Vector.getElem_set_ne _ _ hne]

/-- A rail marked for removal, or no more. -/
def markRemoval (b : Bool) (r : Rail) (s : State) : State := s.setRail r fun x => { x with removing := b }

/-- The mark aside, the rails stay. -/
theorem markRemoval_rail (b : Bool) (q r : Rail) (s : State) :
    (markRemoval b q s).crz.rail[r] = { s.crz.rail[r] with removing := (markRemoval b q s).crz.rail[r].removing } := by
  by_cases h : q = r
  · subst h
    rw [markRemoval, setRail_rail_self]
  · rw [markRemoval, setRail_rail_of_ne h]

/-- A rail that is off stays as it is. -/
def OffRailKept (r : Rail) (s t : State) : Prop := s.crz.rail[r].en = false → t.crz.rail[r] = s.crz.rail[r]

namespace OffRailKept

theorem refl (r : Rail) (s : State) : OffRailKept r s s := fun _ => rfl

theorem trans {r : Rail} {s t u : State} (h : OffRailKept r s t) (h' : OffRailKept r t u) : OffRailKept r s u := by
  intro hoff
  rw [h' (by rw [h hoff, hoff]), h hoff]

theorem of_rail {r : Rail} {s t : State} (h : t.crz.rail = s.crz.rail) : OffRailKept r s t := fun _ => rail_congr h r

theorem forAll {α : Type} {r : Rail} {f : α → State → State} (h : ∀ x s, OffRailKept r s (f x s)) (l : List α) (s : State) :
    OffRailKept r s (forAll l f s) :=
  forAll_inv (OffRailKept r s) f l (fun x t ht => ht.trans (h x t)) s (refl r s)

theorem either {r : Rail} {s t u : State} {c : Prop} {_ : Decidable c} (h : OffRailKept r s t) (h' : OffRailKept r s u) :
    OffRailKept r s (if c then t else u) := by
  split
  · exact h
  · exact h'

theorem ite {r : Rail} {s t : State} {c : Prop} {_ : Decidable c} (h : OffRailKept r s t) :
    OffRailKept r s (if c then t else s) := either h (refl r s)

theorem en_false {r : Rail} {s t : State} (h : OffRailKept r s t) (hoff : s.crz.rail[r].en = false) :
    t.crz.rail[r].en = false := by rw [h hoff, hoff]

end OffRailKept

theorem disableRail_offRailKept (q r : Rail) (s : State) : OffRailKept r s (disableRail q s) := by
  intro hoff
  by_cases h : q = r
  · subst h
    rw [disableRail_of_off hoff]
  · exact disableRail_rail_of_ne h s

theorem removeGo_offRailKept (r : Rail) (s : State) : OffRailKept r s (removeGo s) :=
  .forAll (fun q t => disableRail_offRailKept q r t) _ s

theorem removeGo_chan (s : State) : (removeGo s).crz.chan = s.crz.chan :=
  forAll_keeps (fun t => t.crz.chan) disableRail disableRail_chan _ s

theorem removeGo_recordGrows (s : State) : RecordGrows s (removeGo s) := .forAll disableRail_recordGrows _ s

/-! The graph (04 R96). -/

theorem closeDeps_congr {s t : State} (h : t.crz.dep = s.crz.dep) (k m : Nat) : closeDeps t k m = closeDeps s k m := by
  have hpre : ∀ r, prereqMask t r = prereqMask s r := fun r => by simp [prereqMask, depOf, h]
  have hgrow : ∀ m, growDeps t m = growDeps s m := fun m => by simp [growDeps, hpre]
  induction k generalizing m with
  | zero => rfl
  | succ k ih =>
    unfold closeDeps
    simp only [hgrow, ih]

theorem dependants_congr {s t : State} (h : t.crz.dep = s.crz.dep) (r : Rail) : dependants t r = dependants s r :=
  congrArg (· - 2 ^ r.1) (closeDeps_congr h 120 _)

/-! A confirmed fault (04 R103, R104). -/

/-- The enabled rails that depend on `r` (04 R103). -/
def lostRails (s : State) (r : Rail) : List Rail :=
  (List.finRange 120).filter fun q => (dependants s r).testBit q.1 && s.crz.rail[q].en

theorem mem_lostRails {s : State} {q r : Rail} :
    q ∈ lostRails s r ↔ (dependants s r).testBit q.1 = true ∧ s.crz.rail[q].en = true := by
  simp [lostRails]

/-- The rail goes, and what is enabled of its dependants is marked for removal (04 R103). -/
def railsRemoved (r : Rail) (lost : List Rail) (on : Bool) (s : State) : State :=
  forAll lost (markRemoval true)
    ((disableRail r s).setRail r fun q => { q with removing := on && driven r, stable := false })

/-- The other channels of those rails stop with the same fault (04 R103). -/
def othersStopped (r : Rail) (lost : List Rail) (code trans : Nat) (s : State) : State :=
  forAll chanList (fun d s =>
    if d ≠ chanOf r ∧ lost.any (fun q => chanOf q == d) then faultStop d code r.1 trans s else s) s

/-- What a recorded fault of a rail does. -/
def faultCarriedOut (r : Rail) (code trans : Nat) (s : State) : State :=
  removeGo (othersStopped r (lostRails s r) code trans
    (railsRemoved r (lostRails s r) s.crz.rail[r].en (faultStop (chanOf r) code r.1 trans s)))

theorem confirmFault_eq (r : Rail) (code detail trans : Nat) (s : State) : confirmFault r code detail trans s =
    faultCarriedOut r code trans (emit s 2 (chanOf r).1 r.1 (0x200 + code) detail) := rfl

theorem railsRemoved_chan (r : Rail) (lost : List Rail) (on : Bool) (s : State) :
    (railsRemoved r lost on s).crz.chan = s.crz.chan :=
  (forAll_keeps (fun t => t.crz.chan) (markRemoval true) (fun _ _ => rfl) lost _).trans (disableRail_chan r s)

theorem railsRemoved_en (r : Rail) (lost : List Rail) (on : Bool) (s : State) :
    (railsRemoved r lost on s).crz.rail[r].en = false := by
  refine forAll_inv (fun t => t.crz.rail[r].en = false) (markRemoval true) lost (fun q t ht => ?_) _ ?_
  · rw [markRemoval_rail]
    exact ht
  · rw [setRail_rail_self]
    exact disableRail_en r s

theorem railsRemoved_recordGrows (r : Rail) (lost : List Rail) (on : Bool) (s : State) :
    RecordGrows s (railsRemoved r lost on s) :=
  ((disableRail_recordGrows r s).trans (setRail_recordGrows ..)).trans (.forAll (fun _ _ => .of_eq) lost _)

theorem othersStopped_rail (r : Rail) (lost : List Rail) (code trans : Nat) (s : State) :
    (othersStopped r lost code trans s).crz.rail = s.crz.rail := by
  refine forAll_keeps (fun t => t.crz.rail) _ (fun d t => ?_) chanList s
  split
  · exact faultStop_rail ..
  · rfl

theorem othersStopped_chan_self (r : Rail) (lost : List Rail) (code trans : Nat) (s : State) :
    (othersStopped r lost code trans s).crz.chan[chanOf r] = s.crz.chan[chanOf r] := by
  refine forAll_keeps (fun t => t.crz.chan[chanOf r]) _ (fun d t => ?_) chanList s
  split
  next h => exact faultStop_chan_of_ne h.1 ..
  · rfl

theorem othersStopped_recordGrows (r : Rail) (lost : List Rail) (code trans : Nat) (s : State) :
    RecordGrows s (othersStopped r lost code trans s) :=
  .forAll (fun d t => .ite (faultStop_recordGrows d code r.1 trans t)) chanList s

/-- The channel of a dependant that was enabled stops, where it has not already (04 R103). -/
theorem othersStopped_fault {q r : Rail} {lost : List Rail} (hq : q ∈ lost) (code trans : Nat) {s : State}
    (hr : s.crz.chan[chanOf r].fault = true) : (othersStopped r lost code trans s).crz.chan[chanOf q].fault = true := by
  by_cases h : chanOf q = chanOf r
  · refine (congrArg (fun c : Chan => (othersStopped r lost code trans s).crz.chan[c].fault) h).trans ?_
    simp only [othersStopped_chan_self, hr]
  · refine forAll_at (fun _ => True) (fun t => t.crz.chan[chanOf q].fault = true) _ (List.mem_finRange (chanOf q))
      (fun _ _ _ => trivial) (fun t _ => ?_) (fun d t ht => ?_) trivial
    · rw [if_pos ⟨h, List.any_eq_true.2 ⟨q, hq, beq_self_eq_true _⟩⟩]
      exact (faultStop_chan_self ..).1
    · split
      · by_cases hd : d = chanOf q
        · subst hd
          exact (faultStop_chan_self ..).1
        · rwa [faultStop_chan_of_ne hd]
      · exact ht

/-- All of 04 R103, seen from a state with the graph and the enables of the one in which the fault is confirmed. -/
theorem railFaulted_confirmFault (r : Rail) (code detail trans : Nat) {s u : State} (hdep : u.crz.dep = s.crz.dep)
    (hen : ∀ q : Rail, u.crz.rail[q].en = s.crz.rail[q].en) : RailFaulted r code detail s (confirmFault r code detail trans u) := by
  rw [confirmFault_eq]
  have hraised := raised_emit_mod u 2 (chanOf r).1 r.1 (0x200 + code) detail
  have hdep' : (emit u 2 (chanOf r).1 r.1 (0x200 + code) detail).crz.dep = s.crz.dep := hdep
  have hen' : ∀ q : Rail, (emit u 2 (chanOf r).1 r.1 (0x200 + code) detail).crz.rail[q].en = s.crz.rail[q].en := hen
  generalize emit u 2 (chanOf r).1 r.1 (0x200 + code) detail = recorded at hraised hdep' hen' ⊢
  have hdue : HostDue (faultStop (chanOf r) code r.1 trans recorded) 6 := (stopChan_grows ..).hostDue (hostDue_noteFault ..)
  replace hraised := (faultStop_recordGrows (chanOf r) code r.1 trans recorded).raised hraised
  obtain ⟨hfault, hdir⟩ := faultStop_chan_self (chanOf r) code r.1 trans recorded
  unfold faultCarriedOut
  generalize faultStop (chanOf r) code r.1 trans recorded = stopped at hraised hdue hfault hdir ⊢
  have hrest := ((railsRemoved_recordGrows r (lostRails recorded r) recorded.crz.rail[r].en stopped).trans
    (othersStopped_recordGrows r (lostRails recorded r) code trans _)).trans (removeGo_recordGrows _)
  have hoff := railsRemoved_en r (lostRails recorded r) recorded.crz.rail[r].en stopped
  have hchan := railsRemoved_chan r (lostRails recorded r) recorded.crz.rail[r].en stopped
  generalize railsRemoved r (lostRails recorded r) recorded.crz.rail[r].en stopped = removed at hrest hoff hchan ⊢
  rw [← hchan] at hfault hdir
  refine ⟨hrest.raised hraised, hrest.hostDue hdue, ?_, ?_, ?_, fun q hq hqen => ?_⟩
  · refine (removeGo_offRailKept r _).en_false ?_
    rwa [othersStopped_rail]
  · rw [removeGo_chan, othersStopped_chan_self, hfault]
  · rw [removeGo_chan, othersStopped_chan_self, hdir]
  · have hlost : q ∈ lostRails recorded r := mem_lostRails.2 ⟨by rwa [dependants_congr hdep'], by rwa [hen']⟩
    rw [removeGo_chan]
    exact othersStopped_fault hlost code trans hfault

/-! The rows that confirm one (04 R100 to R102; 05 R135). -/

/-- The fifth transition within a window is PG_CHATTER (04 R101). -/
theorem railPgChange_faulted {r : Rail} {level : Bool} {y : Fin 250} {detail : Nat} {s : State} (hpg : s.crz.rail[r].pg ≠ level)
    (hen : s.crz.rail[r].en = true) (hdeclared : declared s r = true) (hfive : 5 ≤ detail)
    (hdetail : detail = (windowTrans s r (250 * s.sys.tick + y.1)).length) :
    ∃ t, exec (.railPgChange r level y) s = .next t ∧ RailFaulted r 2 detail s t := by
  have hwatched : ¬((!s.crz.rail[r].en || !declared s r) = true) := by
    rw [hen, hdeclared]
    exact Bool.false_ne_true
  have hnext := (railPgChange_next (y := y) hpg).trans (if_neg hwatched)
  rw [← hdetail, if_pos hfive] at hnext
  refine ⟨_, hnext, railFaulted_confirmFault r 2 detail detail rfl fun q => ?_⟩
  by_cases h : r = q
  · subst h
    rw [transKept, setRail_rail_self, pgSeen, setRail_rail_self]
  · rw [transKept, setRail_rail_of_ne h, pgSeen, setRail_rail_of_ne h]

theorem pgTimeout_faulted {r : Rail} {s : State} (hover : windowOver s (chanOf r) = true)
    (hstate : railState s r = s.crz.chan[chanOf r].state) (hstable : s.crz.rail[r].stable = false)
    (hremoving : s.crz.rail[r].removing = false)
    (hlate : s.crz.rail[r].pg = false ∨ s.crz.rail[r].en = false ∨ afterWindow s r = true) :
    ∃ t, exec (.pgTimeout r) s = .next t ∧ RailFaulted r 1 s.crz.chan[chanOf r].state s t := by
  refine ⟨_, if_neg ?_, railFaulted_confirmFault r 1 _ 0 rfl fun _ => rfl⟩
  have hlate' : (!s.crz.rail[r].pg || !s.crz.rail[r].en || afterWindow s r) = true := by
    rcases hlate with h | h | h <;> simp only [h, Bool.not_false, Bool.or_true, Bool.true_or]
  simp only [hover, hstate, hstable, hremoving, hlate', bne_self_eq_false, Bool.not_true, Bool.or_false, Bool.false_eq_true,
    not_false_eq_true]

theorem pgLost_faulted {r : Rail} {s : State} (hstable : s.crz.rail[r].stable = true) (hpg : s.crz.rail[r].pg = false)
    (hdeclared : declared s r = true) (hen : settledRail s r) (hlong : steadyAt s r < cyclesNow s) :
    ∃ t, exec (.pgLost r) s = .next t ∧ RailFaulted r 3 s.crz.chan[chanOf r].state s t := by
  refine ⟨_, if_neg ?_, railFaulted_confirmFault r 3 _ 0 rfl fun _ => rfl⟩
  simp only [hstable, hpg, driven_and_off hen, hdeclared, Nat.not_le.2 hlong, decide_false, Bool.not_true, Bool.or_false,
    Bool.false_eq_true, not_false_eq_true]

theorem window_faulted {r : Rail} {s : State} (hrun : 2 ≤ s.sup.entry[r].outRun) :
    ∃ t, exec (.window r) s = .next t ∧ RailFaulted r 4 s.crz.chan[chanOf r].state s t :=
  ⟨_, if_neg (Nat.not_lt.2 hrun), railFaulted_confirmFault r 4 _ 0 rfl fun _ => rfl⟩

/-! What the operations that take an accelerator down leave alone, apart from channels and rails. -/

theorem disableRail_frame (r : Rail) (s : State) : disableRail r s = { s with
    rcd := (disableRail r s).rcd, twb := (disableRail r s).twb, acc := (disableRail r s).acc, crz := (disableRail r s).crz,
    sup := (disableRail r s).sup, out := (disableRail r s).out } := by
  unfold disableRail
  simp only
  split
  · rfl
  rw [dropMargin_frame]
  split
  · rfl
  split
  · rfl
  split <;> rfl

/-- From `s` to `t` no more than the record, the accelerators and the blocks that follow them differ, and all that waits in the merger
still waits. -/
structure AccDown (s t : State) : Prop where
  frame : t = { s with
    rcd := t.rcd, twb := t.twb, acc := t.acc, crz := t.crz, sup := t.sup, str := t.str, srs := t.srs, frd := t.frd, bup := t.bup,
    cool := t.cool, out := t.out }
  waits : ∀ w ∈ s.rcd.merger, w ∈ t.rcd.merger

namespace AccDown

theorem refl (s : State) : AccDown s s := ⟨rfl, fun _ hw => hw⟩

theorem trans {s t u : State} (h : AccDown s t) (h' : AccDown t u) : AccDown s u :=
  ⟨by rw [h'.frame, h.frame], fun w hw => h'.waits w (h.waits w hw)⟩

theorem ite {s t : State} {c : Prop} [Decidable c] (h : AccDown s t) : AccDown s (if c then t else s) := by
  split
  · exact h
  · exact refl s

theorem rack {s t : State} (h : AccDown s t) : t.rack = s.rack := by rw [h.frame]

theorem recordGrows {s t : State} (h : AccDown s t) : RecordGrows s t :=
  ⟨by rw [h.frame], h.waits, fun p hp => by rw [h.frame]; exact hp⟩

end AccDown

theorem setAcc_accDown (n : Acc) (f : AccState → AccState) (s : State) : AccDown s (s.setAcc n f) := ⟨rfl, fun _ hw => hw⟩
theorem setChan_accDown (c : Chan) (f : ChanState → ChanState) (s : State) : AccDown s (s.setChan c f) := ⟨rfl, fun _ hw => hw⟩
theorem setRail_accDown (r : Rail) (f : RailState → RailState) (s : State) : AccDown s (s.setRail r f) := ⟨rfl, fun _ hw => hw⟩
theorem setLink_accDown (n : Acc) (f : LinkState → LinkState) (s : State) : AccDown s (s.setLink n f) := ⟨rfl, fun _ hw => hw⟩
theorem setAvs_accDown (n : Acc) (f : AvsState → AvsState) (s : State) : AccDown s (s.setAvs n f) := ⟨rfl, fun _ hw => hw⟩
theorem setStr_accDown (n : Acc) (f : StrAcc → StrAcc) (s : State) : AccDown s (s.setStr n f) := ⟨rfl, fun _ hw => hw⟩
theorem setBup_accDown (n : Acc) (f : BupAcc → BupAcc) (s : State) : AccDown s (s.setBup n f) := ⟨rfl, fun _ hw => hw⟩
theorem setBand_accDown (n : Acc) (f : BandState → BandState) (s : State) : AccDown s (s.setBand n f) := ⟨rfl, fun _ hw => hw⟩

theorem LinksOnly.accDown {s t : State} (h : LinksOnly s t) : AccDown s t := ⟨by rw [h.frame], h.waits⟩

theorem disableRail_accDown (r : Rail) (s : State) : AccDown s (disableRail r s) :=
  ⟨by rw [disableRail_frame], (disableRail_recordGrows r s).waits⟩
theorem leaveTop_accDown (n : Acc) (s : State) : AccDown s (leaveTop n s) :=
  ⟨by rw [leaveTop_frame], (leaveTop_recordGrows n s).waits⟩
theorem dropDrain_accDown (n : Acc) (s : State) : AccDown s (dropDrain n s) :=
  ⟨by rw [dropDrain_frame], (dropDrain_recordGrows n s).waits⟩

theorem putState_accDown (c : Chan) (k : Nat) (s : State) : AccDown s (putState c k s) := by
  unfold putState
  simp only
  split <;> exact ⟨rfl, fun _ hw => hw⟩

/-! S0 (03 R71; 04 R91). -/

/-- A rail of an accelerator is disabled. -/
def accRailOff (n : Acc) (i : Fin 14) (s : State) : State := disableRail (railOf n i) s

/-- The rails of an accelerator are disabled. -/
def accRailsOff (n : Acc) (s : State) : State := forAll (List.finRange 14) (accRailOff n) s

/-- The accelerator is held in reset, its link goes down, and a drain ends with its command (03 R71; 10 R306; 15 R454). -/
def accUnlinked (n : Acc) (s : State) : State := linkDown n 4 (dropDrain n (holdReset n s))

/-- The pins of an accelerator in S0 (03 R71). -/
def AccState.inS0 (a : AccState) : AccState :=
  { a with
    efuseOn := false, isoEn := false, xnetDrain := false, forceL0 := false, holdUntil := none, vrArmed := false,
    thermArmed := false, change := none, decision := none, setMv := 0 }

/-- What S0 clears of the pins, the e-fuse, the set-points, the link, the bands and the masks (03 R71; 10 R306; 12 R349; 13
R385). -/
def accCleared (n : Acc) (s : State) : State :=
  let s := s.setLink n fun l => { l with flushDue := true, parkOn := none, parkedSeen := none, commits := [], fmaxSent := [] }
  let s := s.setAcc n AccState.inS0
  let s := s.setChan (accChan n) fun c => { c with efuseGood := false, efuseClose := none }
  let s := s.setAvs n fun a => { a with pend := Vector.replicate 2 none, rb := Vector.replicate 2 none,
                                        mv := Vector.replicate 2 0 }
  let s := s.setStr n fun a => { a with fmaxBands := [], feltCaps := [] }
  (s.setBup n fun b => { b with failed := false }).setBand n fun x => { failed := x.failed }

theorem enterS0_eq (n : Acc) (s : State) : enterS0 n s = accCleared n (accUnlinked n (accRailsOff n s)) := rfl

/-! Its rails. -/

theorem accRailsOff_inv (p : State → Prop) (n : Acc) (h : ∀ r t, p t → p (disableRail r t)) {s : State} (hs : p s) :
    p (accRailsOff n s) := forAll_inv p (accRailOff n) (List.finRange 14) (fun i t ht => h (railOf n i) t ht) s hs

theorem accRailsOff_chan (n : Acc) (s : State) : (accRailsOff n s).crz.chan = s.crz.chan :=
  accRailsOff_inv (fun t => t.crz.chan = s.crz.chan) n (fun r t ht => (disableRail_chan r t).trans ht) rfl

theorem accRailsOff_accDown (n : Acc) (s : State) : AccDown s (accRailsOff n s) :=
  accRailsOff_inv (AccDown s) n (fun r t ht => ht.trans (disableRail_accDown r t)) (.refl s)

theorem accRailsOff_offRailKept (n : Acc) (r : Rail) (s : State) : OffRailKept r s (accRailsOff n s) :=
  accRailsOff_inv (OffRailKept r s) n (fun q t ht => ht.trans (disableRail_offRailKept q r t)) (.refl r s)

theorem accRailsOff_en (n : Acc) (i : Fin 14) (s : State) : (accRailsOff n s).crz.rail[railOf n i].en = false := by
  have hself : ∀ t, (accRailOff n i t).crz.rail[railOf n i].en = false := fun t => disableRail_en (railOf n i) t
  have hkept : ∀ j t, t.crz.rail[railOf n i].en = false → (accRailOff n j t).crz.rail[railOf n i].en = false :=
    fun j t ht => disableRail_en_off ht
  unfold accRailsOff
  exact forAll_at (fun _ => True) (fun t => t.crz.rail[railOf n i].en = false) (accRailOff n) (List.mem_finRange i)
    (fun _ _ _ => trivial) (fun t _ => hself t) hkept trivial

theorem accRailsOff_rail_of_ne {n : Acc} {r : Rail} (h : ∀ i, railOf n i ≠ r) (s : State) :
    (accRailsOff n s).crz.rail[r] = s.crz.rail[r] := by
  have hkept : ∀ i t, (accRailOff n i t).crz.rail[r] = t.crz.rail[r] := fun i t => disableRail_rail_of_ne (h i) t
  unfold accRailsOff
  exact forAll_keeps (fun t => t.crz.rail[r]) (accRailOff n) hkept (List.finRange 14) s

/-! The rest. -/

theorem accUnlinked_crz (n : Acc) (s : State) : (accUnlinked n s).crz = s.crz := by
  rw [accUnlinked, (linkDown_linksOnly n 4 _).crz, dropDrain_crz, holdReset, State.setAcc_crz]

theorem accUnlinked_accDown (n : Acc) (s : State) : AccDown s (accUnlinked n s) := by
  have hreset : AccDown s (holdReset n s) := setAcc_accDown n _ s
  exact (hreset.trans (dropDrain_accDown n _)).trans (linkDown_linksOnly n 4 _).accDown

theorem accCleared_acc (n : Acc) (s : State) : (accCleared n s).acc = s.acc.set n s.acc[n].inS0 := rfl

theorem accCleared_crz (n : Acc) (s : State) : (accCleared n s).crz = { s.crz with
    chan := s.crz.chan.set (accChan n) { s.crz.chan[accChan n] with efuseGood := false, efuseClose := none } } := rfl

theorem accCleared_accDown (n : Acc) (s : State) : AccDown s (accCleared n s) := by
  unfold accCleared
  refine AccDown.trans ?_ (setBand_accDown n _ _)
  refine AccDown.trans ?_ (setBup_accDown n _ _)
  refine AccDown.trans ?_ (setStr_accDown n _ _)
  refine AccDown.trans ?_ (setAvs_accDown n _ _)
  refine AccDown.trans ?_ (setChan_accDown (accChan n) _ _)
  exact (setLink_accDown n _ s).trans (setAcc_accDown n _ _)

/-! S0 as a whole. -/

theorem enterS0_accDown (n : Acc) (s : State) : AccDown s (enterS0 n s) := by
  rw [enterS0_eq]
  exact ((accRailsOff_accDown n s).trans (accUnlinked_accDown n _)).trans (accCleared_accDown n _)

theorem enterS0_rails (n : Acc) (s : State) : (enterS0 n s).crz.rail = (accRailsOff n s).crz.rail := by
  rw [enterS0_eq, accCleared_crz, accUnlinked_crz]

/-- Every enable of the accelerator is low in S0 (03 R71). -/
theorem enterS0_en (n : Acc) (i : Fin 14) (s : State) : (enterS0 n s).crz.rail[railOf n i].en = false := by
  rw [rail_congr (enterS0_rails n s), accRailsOff_en]

theorem enterS0_offRailKept (n : Acc) (r : Rail) (s : State) : OffRailKept r s (enterS0 n s) :=
  (accRailsOff_offRailKept n r s).trans (.of_rail (enterS0_rails n s))

/-- S0 leaves the rails of the tray and of other accelerators. -/
theorem enterS0_rail_of_ne {n : Acc} {r : Rail} (h : ∀ i, railOf n i ≠ r) (s : State) :
    (enterS0 n s).crz.rail[r] = s.crz.rail[r] := by
  rw [rail_congr (enterS0_rails n s), accRailsOff_rail_of_ne h]

/-- Of the channels, S0 clears the e-fuse of its own (03 R71). -/
theorem enterS0_chan (n : Acc) (s : State) : (enterS0 n s).crz.chan = s.crz.chan.set (accChan n)
    { s.crz.chan[accChan n] with efuseGood := false, efuseClose := none } := by
  rw [enterS0_eq, accCleared_crz, accUnlinked_crz]
  simp only [accRailsOff_chan]

theorem enterS0_efuseOn (n : Acc) (s : State) : (enterS0 n s).acc[n].efuseOn = false := by
  rw [enterS0_eq, accCleared_acc]
  simp [AccState.inS0]

end Sys2Proof.Machine
end

section
/-! SUPPORT. Rails that count as off or not in time, and the tray taken down at once (04 R92, R107 to R110, R114, R115). -/

namespace Sys2Proof.Machine

open Sys2Proof

/-! No rail that is off comes on while channels end their faults or go down (04 R91, R103). -/

theorem putState_offRailKept (c : Chan) (k : Nat) (r : Rail) (s : State) : OffRailKept r s (putState c k s) :=
  .of_rail (by rw [putState_crz])

theorem marginsBack_offRailKept (c : Chan) (r : Rail) (s : State) : OffRailKept r s (marginsBack c s) :=
  .of_rail (by rw [marginsBack_frame])

theorem setChan_offRailKept (c : Chan) (f : ChanState → ChanState) (r : Rail) (s : State) : OffRailKept r s (s.setChan c f) :=
  .of_rail rfl

theorem forAll_markRemoval_rail {r : Rail} {l : List Rail} (h : r ∉ l) (b : Bool) (s : State) :
    (forAll l (markRemoval b) s).crz.rail[r] = s.crz.rail[r] := by
  induction l generalizing s with
  | nil => rfl
  | cons q l ih =>
    rw [List.mem_cons, not_or] at h
    obtain ⟨hne, hmem⟩ := h
    exact (ih hmem (markRemoval b q s)).trans (setRail_rail_of_ne (fun e => hne e.symm) _ s)

theorem endFault_offRailKept (c : Chan) (r : Rail) (s : State) : OffRailKept r s (endFault c s) := by
  have hput : ∀ k, OffRailKept r s (if k = s.crz.chan[c].state then s else putState c k s) := fun k =>
    .either (.refl r s) (putState_offRailKept c k r s)
  unfold endFault
  simp only
  split
  · exact ((hput _).trans (setChan_offRailKept c _ r _)).trans (.ite (enterS0_offRailKept _ r _))
  · exact (hput _).trans (setChan_offRailKept c _ r _)

theorem emptyS0_offRailKept (c : Chan) (r : Rail) (s : State) : OffRailKept r s (emptyS0 c s) := by
  unfold emptyS0
  refine .either (endFault_offRailKept c r s) ?_
  refine OffRailKept.trans (t := forAll _ (markRemoval true) s) (fun hoff => ?_) (removeGo_offRailKept r _)
  refine forAll_markRemoval_rail (fun hmem => ?_) true s
  rw [List.mem_filter, hoff, Bool.and_false] at hmem
  exact Bool.false_ne_true hmem.2

/-- The rails of a step down that nothing depends on any more are disabled (04 R91). -/
def railsDown (c : Chan) (k : Nat) (s : State) : State :=
  forAll (railsOf s c k) (fun r t =>
    if driven r && (dependants t r &&& (railMask fun r => !s.crz.rail[r].off) == 0) then disableRail r t else t) s

theorem railsDown_offRailKept (c : Chan) (k : Nat) (r : Rail) (s : State) : OffRailKept r s (railsDown c k s) :=
  .forAll (fun q t => .ite (disableRail_offRailKept q r t)) (railsOf s c k) s

theorem crzDown_offRailKept (fuel : Nat) (c : Chan) (r : Rail) (s : State) : OffRailKept r s (crzDown fuel c s) := by
  induction fuel generalizing s with
  | zero => exact .refl r s
  | succ fuel ih =>
    have hdown : ∀ k f, OffRailKept r s ((marginsBack c (railsDown c k s)).setChan c f) := fun k f =>
      ((railsDown_offRailKept c k r s).trans (marginsBack_offRailKept c r _)).trans (setChan_offRailKept c f r _)
    unfold crzDown
    refine .either (setChan_offRailKept c _ r s) (.either (setChan_offRailKept c _ r s)
      (.either (setChan_offRailKept c _ r s) (.either (.either ((hdown _ _).trans (ih _)) ?_) (hdown _ _))))
    refine OffRailKept.trans ?_ (ih _)
    split
    · exact (((hdown _ _).trans (putState_offRailKept c _ r _)).trans (setChan_offRailKept c _ r _)).trans
        (.ite (enterS0_offRailKept _ r _))
    · exact ((hdown _ _).trans (putState_offRailKept c _ r _)).trans (setChan_offRailKept c _ r _)

theorem finishFault_offRailKept (c : Chan) (r : Rail) (s : State) : OffRailKept r s (finishFault c s) := by
  unfold finishFault
  refine .either (.refl r s) (.either ?_ (emptyS0_offRailKept c r s))
  exact (crzDown_offRailKept 20 c r s).trans (.either (.refl r _) (emptyS0_offRailKept c r _))

/-! A rail that counts as off (04 R92, R107). -/

theorem supplyGone_crz (r : Rail) (s : State) : (supplyGone r s).crz = s.crz := by
  unfold supplyGone
  split
  · rfl
  · split <;> rfl

theorem supplyGone_recordGrows (r : Rail) (s : State) : RecordGrows s (supplyGone r s) := by
  unfold supplyGone
  split
  · exact .of_eq
  · split
    · exact .of_eq
    · exact .refl s

/-- A rail that is disabled and counts as off. -/
def offSeen (r : Rail) (s : State) : State := s.setRail r fun x => { x with off := true, removing := false }

/-- What follows when a disabled rail counts as off leaves it at that. -/
theorem railGone_offRail {r : Rail} {s : State} (hoff : s.crz.rail[r].off = false) (hen : s.crz.rail[r].en = false) :
    (railGone r s).crz.rail[r] = { s.crz.rail[r] with off := true, removing := false } := by
  have hseen : (offSeen r s).crz.rail[r] = { s.crz.rail[r] with off := true, removing := false } := setRail_rail_self r _ s
  have hkept : OffRailKept r (offSeen r s) (railGone r s) := by
    unfold railGone
    simp only [hoff, hen, Bool.false_eq_true, if_false]
    have hends : ∀ t, OffRailKept r t
        (forAll chanList (fun d s => if s.crz.chan[d].dir = 3 then finishFault d s else s) (removeGo t)) := fun t =>
      (removeGo_offRailKept r t).trans (.forAll (fun d t => .ite (finishFault_offRailKept d r t)) chanList _)
    have hopen : ∀ (c : Prop) (_ : Decidable c) d f, OffRailKept r (offSeen r s)
        (if c then (offSeen r s).setChan d f else offSeen r s) := fun c _ d f => .ite (setChan_offRailKept d f r _)
    exact ((hopen _ _ _ _).trans (hends _)).trans (.ite (crzDown_offRailKept 20 _ r _))
  rw [hkept (by rw [hseen]; exact hen), hseen]

/-- The step of the row: for Crozier, `railGone`. -/
theorem railOff_next {r : Rail} {s : State} (h : countsOff s r = true) :
    ∃ t, exec (.railOff r) s = .next t ∧ t.crz = (railGone r s).crz ∧ RecordGrows (railGone r s) t := by
  refine ⟨_, if_neg ?_, ?_⟩
  · rw [h]
    exact Bool.false_ne_true
  · split
    · exact ⟨supplyGone_crz .., supplyGone_recordGrows ..⟩
    · exact ⟨rfl, .refl _⟩

/-- A rail that collapses goes at once (04 R107). -/
def collapsedNow (r : Rail) (s : State) : State :=
  (disableRail r s).setRail r fun q => { q with off := true, collapsed := true, removing := false }

/-- A rail that has collapsed: off, and no longer enabled. -/
structure Collapsed (r : Rail) (s : State) : Prop where
  en : s.crz.rail[r].en = false
  off : s.crz.rail[r].off = true
  collapsed : s.crz.rail[r].collapsed = true

theorem collapsed_collapsedNow (r : Rail) (s : State) : Collapsed r (collapsedNow r s) := by
  have hrail := setRail_rail_self r (fun q => { q with off := true, collapsed := true, removing := false }) (disableRail r s)
  exact ⟨(congrArg RailState.en hrail).trans (disableRail_en r s), congrArg RailState.off hrail,
    congrArg RailState.collapsed hrail⟩

theorem Collapsed.markRemoval {r : Rail} {s : State} (h : Collapsed r s) (b : Bool) (q : Rail) :
    Collapsed r (markRemoval b q s) := by
  have hrail := markRemoval_rail b q r s
  exact ⟨(congrArg RailState.en hrail).trans h.en, (congrArg RailState.off hrail).trans h.off,
    (congrArg RailState.collapsed hrail).trans h.collapsed⟩

theorem Collapsed.of_offRailKept {r : Rail} {s t : State} (h : Collapsed r s) (hkept : OffRailKept r s t) : Collapsed r t := by
  have hrail := hkept h.en
  exact ⟨(congrArg RailState.en hrail).trans h.en, (congrArg RailState.off hrail).trans h.off,
    (congrArg RailState.collapsed hrail).trans h.collapsed⟩

/-- A collapse, recorded, leaves the rail so, whatever goes with it (04 R107). -/
theorem collapse_spec (r : Rail) (s : State) : Collapsed r (collapse r s) ∧
    Raised (collapse r s) 2 (chanOf r).1 r.1 0x207 (s.crz.chan[chanOf r].state % 65536) := by
  have hraised := (noteFault_recordGrows (chanOf r) 7 r.1 0 _).raised
    (raised_emit_mod s 2 (chanOf r).1 r.1 0x207 s.crz.chan[chanOf r].state)
  unfold collapse
  simp only
  generalize noteFault (chanOf r) 7 r.1 0 (emit s 2 (chanOf r).1 r.1 0x207 s.crz.chan[chanOf r].state) = noted at hraised ⊢
  have hnow : RecordGrows noted (collapsedNow r noted) := (disableRail_recordGrows r noted).trans (setRail_recordGrows ..)
  have hmarks : ∀ l, Collapsed r (forAll l (markRemoval true) (collapsedNow r noted)) := fun l =>
    forAll_inv (Collapsed r) (markRemoval true) l (fun q t ht => ht.markRemoval true q) _ (collapsed_collapsedNow r noted)
  have hgrow : ∀ l, RecordGrows noted (forAll l (markRemoval true) (collapsedNow r noted)) := fun l =>
    hnow.trans (.forAll (fun _ _ => .of_eq) l _)
  exact ⟨((hmarks _).of_offRailKept (setChan_offRailKept _ _ r _)).of_offRailKept (removeGo_offRailKept r _),
    (((hgrow _).trans (setChan_recordGrows ..)).trans (removeGo_recordGrows _)).raised hraised⟩

/-- A disabled rail that counts as off is off, its removal done (04 R92). -/
theorem railOff_disabled {r : Rail} {s : State} (hoff : s.crz.rail[r].off = false) (h : countsOff s r = true)
    (hen : s.crz.rail[r].en = false) :
    ∃ t, exec (.railOff r) s = .next t ∧ t.crz.rail[r].off = true ∧ t.crz.rail[r].removing = false := by
  obtain ⟨t, ht, hcrz, -⟩ := railOff_next h
  have hrail := (rail_congr (by rw [hcrz]) r).trans (railGone_offRail hoff hen)
  exact ⟨t, ht, congrArg RailState.off hrail, congrArg RailState.removing hrail⟩

/-- An enabled rail that counts as off in a power-down has collapsed (04 R107). -/
theorem railOff_collapsed {r : Rail} {s : State} (hoff : s.crz.rail[r].off = false) (h : countsOff s r = true)
    (hen : s.crz.rail[r].en = true) (hdown : s.crz.chan[chanOf r].dir = 2) :
    ∃ t, exec (.railOff r) s = .next t ∧ Raised t 2 (chanOf r).1 r.1 0x207 (s.crz.chan[chanOf r].state % 65536) ∧
      Collapsed r t := by
  have hgone : railGone r s = collapse r s := by
    unfold railGone
    simp only [hoff, hen, hdown, Bool.false_eq_true, if_false, if_true, true_or]
  obtain ⟨hcollapsed, hraised⟩ := collapse_spec r s
  obtain ⟨t, ht, hcrz, hgrow⟩ := railOff_next h
  rw [hgone] at hcrz hgrow
  exact ⟨t, ht, hgrow.raised hraised, hcollapsed.of_offRailKept (.of_rail (by rw [hcrz]))⟩

/-! A rail that is not off in time (04 R108, R110). -/

/-- A rail that goes at once (04 R108, R114). -/
def railCut (r : Rail) (s : State) : State := (disableRail r s).setRail r fun q => { q with removing := false }

theorem railCut_accDown (r : Rail) (s : State) : AccDown s (railCut r s) :=
  (disableRail_accDown r s).trans (setRail_accDown r _ _)

def accRailCut (n : Acc) (i : Fin 14) (s : State) : State := railCut (railOf n i) s

/-- What takes the rails of an accelerator down, a run and a drain first (04 R108). -/
def timeoutCut (n : Acc) (s : State) : State :=
  forAll (List.finRange 14) (accRailCut n) (dropDrain n (if 9 ≤ s.crz.chan[accChan n].state then leaveTop n s else s))

theorem timeoutCut_accDown (n : Acc) (s : State) : AccDown s (timeoutCut n s) :=
  forAll_inv (AccDown s) (accRailCut n) (List.finRange 14) (fun i _ ht => ht.trans (railCut_accDown (railOf n i) _)) _
    ((AccDown.ite (leaveTop_accDown n s)).trans (dropDrain_accDown n _))

/-- The channel of an accelerator cut off so (04 R108). -/
def ChanState.cutOff (x : ChanState) (now : Nat) : ChanState :=
  { x with
    fault := true, efuseOpen := true, efuseOpenTick := x.efuseOpenTick.or (some now), target := 0, dir := 0, stepDone := true,
    waiting := false, emergency := false, limit := none, stagger := none }

def cutOff (n : Acc) (s : State) : State := (putState (accChan n) 0 s).setChan (accChan n) fun x => x.cutOff s.sys.tick

theorem cutOff_accDown (n : Acc) (s : State) : AccDown s (cutOff n s) :=
  (putState_accDown (accChan n) 0 s).trans (setChan_accDown (accChan n) _ _)

theorem cutOff_chan (n : Acc) (s : State) : (cutOff n s).crz.chan[accChan n] =
    { s.crz.chan[accChan n] with state := 0, chTick := s.sys.tick }.cutOff s.sys.tick := by
  rw [cutOff, setChan_chan_self, putState_crz]
  simp only [Fin.getElem_fin, Vector.getElem_set_self]

theorem offTimeoutAcc_eq (n : Acc) (r : Rail) (s : State) :
    offTimeoutAcc n r s =
      enterS0 n (cutOff n (timeoutCut n (noteFault (accChan n) 8 r.1 0
        (emit s 2 (accChan n).1 r.1 0x208 s.crz.chan[accChan n].state)))) := by
  unfold offTimeoutAcc cutOff ChanState.cutOff timeoutCut accRailCut railCut
  dsimp only

/-- The e-fuse of the accelerator opens, and it is in S0 with FAULT (04 R108). -/
theorem offTimeoutAcc_spec (n : Acc) (r : Rail) (s : State) {t : State} (ht : t = offTimeoutAcc n r s) :
    Raised t 2 (accChan n).1 r.1 0x208 (s.crz.chan[accChan n].state % 65536) ∧ HostDue t 6 ∧
      t.crz.chan[accChan n].state = 0 ∧ t.crz.chan[accChan n].fault = true ∧ t.crz.chan[accChan n].efuseOpen = true ∧
      t.acc[n].efuseOn = false ∧ ∀ i : Fin 14, t.crz.rail[railOf n i].en = false := by
  have hraised := raised_emit_mod s 2 (accChan n).1 r.1 0x208 s.crz.chan[accChan n].state
  rw [offTimeoutAcc_eq] at ht
  generalize emit s 2 (accChan n).1 r.1 0x208 s.crz.chan[accChan n].state = recorded at ht hraised
  have hdue := hostDue_noteFault (accChan n) 8 r.1 0 recorded
  replace hraised := (noteFault_recordGrows (accChan n) 8 r.1 0 recorded).raised hraised
  generalize noteFault (accChan n) 8 r.1 0 recorded = noted at ht hraised hdue
  have hcut := timeoutCut_accDown n noted
  generalize timeoutCut n noted = cut at ht hcut
  have hgrow := ((hcut.trans (cutOff_accDown n cut)).trans (enterS0_accDown n (cutOff n cut))).recordGrows
  have hchan : (enterS0 n (cutOff n cut)).crz.chan[accChan n] =
      { (cutOff n cut).crz.chan[accChan n] with efuseGood := false, efuseClose := none } := by
    rw [enterS0_chan]
    simp only [Fin.getElem_fin, Vector.getElem_set_self]
  rw [cutOff_chan] at hchan
  subst ht
  exact ⟨hgrow.raised hraised, hgrow.hostDue hdue, congrArg ChanState.state hchan, congrArg ChanState.fault hchan,
    congrArg ChanState.efuseOpen hchan, enterS0_efuseOn n _, fun i => enterS0_en n i _⟩

/-! The e-fuse and the reset of an accelerator. -/

/-- From `s` to `t` the e-fuse and the reset pin of accelerator `n` stay. -/
structure PinsKept (n : Acc) (s t : State) : Prop where
  efuse : t.acc[n].efuseOn = s.acc[n].efuseOn
  rst : t.acc[n].rst = s.acc[n].rst

namespace PinsKept

theorem refl (n : Acc) (s : State) : PinsKept n s s := ⟨rfl, rfl⟩

theorem trans {n : Acc} {s t u : State} (h : PinsKept n s t) (h' : PinsKept n t u) : PinsKept n s u :=
  ⟨h'.efuse.trans h.efuse, h'.rst.trans h.rst⟩

theorem of_acc {n : Acc} {s t : State} (h : t.acc = s.acc) : PinsKept n s t := by
  constructor <;> rw [h]

theorem setAcc_of_ne {m n : Acc} (h : m ≠ n) (f : AccState → AccState) (s : State) : PinsKept n s (s.setAcc m f) := by
  have hne : m.1 ≠ n.1 := fun e => h (Fin.ext e)
  constructor <;> simp [Vector.getElem_set_ne _ _ hne]

/-- A change of other pins. -/
theorem setAcc (m n : Acc) {f : AccState → AccState} (s : State)
    (hf : ∀ a, (f a).efuseOn = a.efuseOn ∧ (f a).rst = a.rst := by exact fun _ => ⟨rfl, rfl⟩) : PinsKept n s (s.setAcc m f) := by
  by_cases h : m = n
  · subst h
    constructor <;> simp [hf]
  · exact setAcc_of_ne h f s

theorem either {n : Acc} {s t u : State} {c : Prop} {_ : Decidable c} (h : PinsKept n s t) (h' : PinsKept n s u) :
    PinsKept n s (if c then t else u) := by
  split
  · exact h
  · exact h'

end PinsKept

/-- Disabling a rail disarms inputs of its accelerator (03 R72). -/
theorem disableRail_pinsKept (r : Rail) (n : Acc) (s : State) : PinsKept n s (disableRail r s) := by
  have hdrop : ∀ f, PinsKept n s (dropMargin r (s.setRail r f)) := fun f => .of_acc (dropMargin_acc r _)
  unfold disableRail
  refine .either (.refl n s) ?_
  split
  · exact hdrop _
  · refine .either ?_ (.either ?_ (hdrop _))
    · exact (hdrop _).trans (.setAcc _ n _)
    · exact (hdrop _).trans (.setAcc _ n _)

theorem dropDrain_pinsKept (m n : Acc) (s : State) : PinsKept n s (dropDrain m s) := by
  unfold dropDrain
  split
  · exact .refl n s
  · exact (PinsKept.setAcc m n s).trans (.of_acc (completeLate_acc ..))

theorem leaveTop_pinsKept (m n : Acc) (s : State) : PinsKept n s (leaveTop m s) := by
  rw [leaveTop_frame]
  exact (PinsKept.setAcc m n (f := fun a => { a with change := none }) s).trans (.of_acc rfl)

theorem linkDown_pinsKept (m n : Acc) (cause : Nat) (s : State) : PinsKept n s (linkDown m cause s) := by
  unfold linkDown setDsLost
  simp only [if_true]
  have hcause : PinsKept n s ((emit s 7 m.1 0xFF 0x0A02 cause).setLink m fun l =>
    { l with state := 0, upLock := false, tries := 0, waiting := [] }) := .of_acc rfl
  refine .either (.refl n s) (.either ?_ ?_)
  · exact hcause.trans (.setAcc m n _)
  · exact (hcause.trans (.setAcc m n (f := fun a => { a with forceLane := true }) _)).trans (.of_acc rfl)

/-- S0 of an accelerator leaves the pins of the others. -/
theorem enterS0_pinsKept {m n : Acc} (h : m ≠ n) (s : State) : PinsKept n s (enterS0 m s) := by
  have hrails : PinsKept n s (accRailsOff m s) :=
    accRailsOff_inv (PinsKept n s) m (fun r t ht => ht.trans (disableRail_pinsKept r n t)) (.refl n s)
  have hunlinked : ∀ t, PinsKept n t (accUnlinked m t) := fun t =>
    ((PinsKept.setAcc_of_ne h _ t).trans (dropDrain_pinsKept m n _)).trans (linkDown_pinsKept m n 4 _)
  have hcleared : ∀ t, PinsKept n t (accCleared m t) := fun t =>
    (PinsKept.setAcc_of_ne h AccState.inS0 t).trans (.of_acc (accCleared_acc m t))
  rw [enterS0_eq]
  exact (hrails.trans (hunlinked _)).trans (hcleared _)

/-- S0 holds its accelerator in reset (03 R71). -/
theorem enterS0_rst (n : Acc) (s : State) : (enterS0 n s).acc[n].rst = true := by
  have hheld : ∀ t, (holdReset n t).acc[n].rst = true := fun t => by simp [holdReset]
  have hunlinked : ∀ t, (accUnlinked n t).acc[n].rst = true := fun t =>
    ((dropDrain_pinsKept n n (holdReset n t)).trans (linkDown_pinsKept n n 4 _)).rst.trans (hheld t)
  rw [enterS0_eq, accCleared_acc]
  simpa [AccState.inS0] using hunlinked (accRailsOff n s)

/-! The tray taken down at once (04 R114). -/

/-- A run and a drain of an accelerator end. -/
def accUndrained (n : Acc) (s : State) : State :=
  dropDrain n (if 9 ≤ s.crz.chan[accChan n].state then leaveTop n s else s)

/-- The channel of an accelerator that goes with the tray. -/
def ChanState.trayGone (x : ChanState) (now : Nat) : ChanState :=
  { x with
    target := 0, state := 0, dir := 0, stepDone := true, waiting := false, emergency := false, stagger := none,
    limit := none, efuseGood := false, efuseClose := none, chTick := if x.state = 0 then x.chTick else now }

/-- Its channel is in S0 and its e-fuse open. -/
def accGone (n : Acc) (s : State) : State :=
  ((accUndrained n s).setChan (accChan n) fun x => x.trayGone (accUndrained n s).sys.tick).setAcc n fun a =>
    { a with efuseOn := false }

/-- An accelerator goes with the tray. -/
def accTrayOff (n : Acc) (s : State) : State :=
  if (accUndrained n s).crz.chan[accChan n].state = 0 then holdReset n (accGone n s) else enterS0 n (accGone n s)

/-- A rail goes with the tray, if it is not NET's. -/
def railTrayOff (r : Rail) (s : State) : State := if r.1 = 116 then s else railCut r s

/-- The tray channel of a tray taken down. -/
def ChanState.trayLow (x : ChanState) (now : Nat) : ChanState :=
  { x with
    target := min x.target 1, state := min x.state 1, dir := 0, stepDone := true, waiting := false,
    chTick := if x.state ≤ 1 then x.chTick else now }

/-- The rails that go with the tray. -/
def railsTrayOff (s : State) : State := forAll (List.finRange 120) railTrayOff s

/-- The accelerators that go with the tray. -/
def accsTrayOff (s : State) : State := forAll accList accTrayOff s

/-- Below T2, and off until the lines are high again (04 R115). -/
def trayLatched (s : State) : State :=
  (s.setChan trayChan fun x => x.trayLow s.sys.tick).modRack fun r => { r with offLatch := true }

theorem trayOff_eq (s : State) : trayOff s = trayLatched (accsTrayOff (railsTrayOff (noteFault trayChan 11 0x7F 0
    (emit s 1 8 0xFF 0x20B s.crz.chan[trayChan].state)))) := by
  unfold trayOff trayLatched accsTrayOff railsTrayOff railTrayOff railCut accTrayOff accGone accUndrained ChanState.trayLow
    ChanState.trayGone
  dsimp only

/-! One accelerator that goes with the tray. -/

theorem accUndrained_crz (n : Acc) (s : State) : (accUndrained n s).crz = s.crz := by
  rw [accUndrained, dropDrain_crz]
  split
  · rw [leaveTop_frame]
  · rfl

theorem accUndrained_accDown (n : Acc) (s : State) : AccDown s (accUndrained n s) :=
  (AccDown.ite (leaveTop_accDown n s)).trans (dropDrain_accDown n _)

theorem accUndrained_pinsKept (m n : Acc) (s : State) : PinsKept n s (accUndrained m s) :=
  (PinsKept.either (leaveTop_pinsKept m n s) (.refl n s)).trans (dropDrain_pinsKept m n _)

theorem accGone_accDown (n : Acc) (s : State) : AccDown s (accGone n s) :=
  ((accUndrained_accDown n s).trans (setChan_accDown (accChan n) _ _)).trans (setAcc_accDown n _ _)

theorem accGone_crz (n : Acc) (s : State) : (accGone n s).crz = { s.crz with
    chan := s.crz.chan.set (accChan n) (s.crz.chan[accChan n].trayGone (accUndrained n s).sys.tick) } := by
  rw [accGone, State.setAcc_crz, State.setChan_crz, accUndrained_crz]

theorem accGone_pinsKept {m n : Acc} (h : m ≠ n) (s : State) : PinsKept n s (accGone m s) :=
  ((accUndrained_pinsKept m n s).trans (.of_acc (State.setChan_acc ..))).trans (.setAcc_of_ne h _ _)

theorem accTrayOff_accDown (n : Acc) (s : State) : AccDown s (accTrayOff n s) := by
  unfold accTrayOff
  split
  · exact (accGone_accDown n s).trans (setAcc_accDown n _ _)
  · exact (accGone_accDown n s).trans (enterS0_accDown n _)

theorem accTrayOff_pinsKept {m n : Acc} (h : m ≠ n) (s : State) : PinsKept n s (accTrayOff m s) := by
  unfold accTrayOff
  split
  · exact (accGone_pinsKept h s).trans (.setAcc_of_ne h _ _)
  · exact (accGone_pinsKept h s).trans (enterS0_pinsKept h _)

/-- Of the channels, its own goes to S0, with S0 as its target. -/
theorem accTrayOff_chan (n : Acc) (s : State) : ∃ x : ChanState, x.state = 0 ∧ x.target = 0 ∧
    (accTrayOff n s).crz.chan = s.crz.chan.set (accChan n) x := by
  unfold accTrayOff
  split
  · exact ⟨_, rfl, rfl, congrArg (·.chan) (accGone_crz n s)⟩
  · refine ⟨{ s.crz.chan[accChan n].trayGone (accUndrained n s).sys.tick with efuseGood := false, efuseClose := none },
      rfl, rfl, ?_⟩
    rw [enterS0_chan, accGone_crz]
    simp

theorem accTrayOff_chan_of_ne {n : Acc} {c : Chan} (h : accChan n ≠ c) (s : State) :
    (accTrayOff n s).crz.chan[c] = s.crz.chan[c] := by
  have hne : (accChan n).1 ≠ c.1 := fun e => h (Fin.ext e)
  obtain ⟨x, -, -, hx⟩ := accTrayOff_chan n s
  simp [hx, Vector.getElem_set_ne _ _ hne]

theorem accGone_rail (n : Acc) (s : State) : (accGone n s).crz.rail = s.crz.rail := by rw [accGone_crz]

theorem accTrayOff_offRailKept (n : Acc) (r : Rail) (s : State) : OffRailKept r s (accTrayOff n s) := by
  have hgone : OffRailKept r s (accGone n s) := .of_rail (accGone_rail n s)
  exact .either hgone (hgone.trans (enterS0_offRailKept n r _))

/-- Another block's rails stay. -/
theorem accTrayOff_rail_of_ne {n : Acc} {r : Rail} (h : ∀ i, railOf n i ≠ r) (s : State) :
    (accTrayOff n s).crz.rail[r] = s.crz.rail[r] := by
  unfold accTrayOff
  split
  · exact rail_congr (accGone_rail n s) r
  · rw [enterS0_rail_of_ne h, rail_congr (accGone_rail n s)]

/-- An accelerator that has gone with the tray: in S0, its e-fuse open, in reset. -/
structure AccGone (n : Acc) (s : State) : Prop where
  state : s.crz.chan[accChan n].state = 0
  target : s.crz.chan[accChan n].target = 0
  efuse : s.acc[n].efuseOn = false
  rst : s.acc[n].rst = true

theorem accGone_accTrayOff (n : Acc) (s : State) : AccGone n (accTrayOff n s) := by
  obtain ⟨x, hstate, htarget, hx⟩ := accTrayOff_chan n s
  have hchan : (accTrayOff n s).crz.chan[accChan n] = x := by simp [hx]
  refine ⟨by rw [hchan, hstate], by rw [hchan, htarget], ?_, ?_⟩
  · unfold accTrayOff
    split
    · simp [holdReset, accGone]
    · exact enterS0_efuseOn n _
  · unfold accTrayOff
    split
    · simp [holdReset]
    · exact enterS0_rst n _

theorem AccGone.accTrayOff {n : Acc} {s : State} (h : AccGone n s) (m : Acc) : AccGone n (accTrayOff m s) := by
  by_cases hmn : m = n
  · subst hmn
    exact accGone_accTrayOff m s
  · have hchan := accTrayOff_chan_of_ne (fun e => hmn (accChan_injective e)) (c := accChan n) s
    have hpins := accTrayOff_pinsKept hmn s
    exact ⟨(congrArg ChanState.state hchan).trans h.state, (congrArg ChanState.target hchan).trans h.target,
      hpins.efuse.trans h.efuse, hpins.rst.trans h.rst⟩

/-! The tray as a whole. -/

theorem railCut_en (r : Rail) (s : State) : (railCut r s).crz.rail[r].en = false := by
  rw [railCut, setRail_rail_self]
  exact disableRail_en r s

theorem railCut_rail_of_ne {q r : Rail} (h : q ≠ r) (s : State) : (railCut q s).crz.rail[r] = s.crz.rail[r] := by
  rw [railCut, setRail_rail_of_ne h, disableRail_rail_of_ne h]

theorem railCut_chan (r : Rail) (s : State) : (railCut r s).crz.chan = s.crz.chan := disableRail_chan r s

theorem railTrayOff_accDown (r : Rail) (s : State) : AccDown s (railTrayOff r s) := by
  unfold railTrayOff
  split
  · exact .refl s
  · exact railCut_accDown r s

theorem railTrayOff_chan (r : Rail) (s : State) : (railTrayOff r s).crz.chan = s.crz.chan := by
  unfold railTrayOff
  split
  · rfl
  · exact railCut_chan r s

theorem railTrayOff_net (r : Rail) (s : State) : (railTrayOff r s).crz.rail[(116 : Rail)] = s.crz.rail[(116 : Rail)] := by
  unfold railTrayOff
  split
  · rfl
  next h => exact railCut_rail_of_ne (fun e => h (congrArg Fin.val e)) s

theorem railTrayOff_en_off {q r : Rail} {s : State} (h : s.crz.rail[r].en = false) :
    (railTrayOff q s).crz.rail[r].en = false := by
  unfold railTrayOff
  split
  · exact h
  · by_cases hq : q = r
    · subst hq
      exact railCut_en q s
    · rwa [railCut_rail_of_ne hq]

theorem railsTrayOff_en {r : Rail} (h : r.1 ≠ 116) (s : State) : (railsTrayOff s).crz.rail[r].en = false := by
  have hself : ∀ t, (railTrayOff r t).crz.rail[r].en = false := fun t => by
    rw [railTrayOff, if_neg h, railCut_en]
  have hmem : r ∈ List.finRange 120 := List.mem_finRange r
  unfold railsTrayOff
  generalize List.finRange 120 = l at hmem ⊢
  exact forAll_at (fun _ => True) (fun t => t.crz.rail[r].en = false) railTrayOff hmem
    (fun _ _ _ => trivial) (fun t _ => hself t) (fun _ _ ht => railTrayOff_en_off ht) trivial

theorem railsTrayOff_net (s : State) : (railsTrayOff s).crz.rail[(116 : Rail)] = s.crz.rail[(116 : Rail)] := by
  unfold railsTrayOff
  generalize List.finRange 120 = l
  exact forAll_keeps (fun t => t.crz.rail[(116 : Rail)]) railTrayOff railTrayOff_net l s

theorem railsTrayOff_chan (s : State) : (railsTrayOff s).crz.chan = s.crz.chan := by
  unfold railsTrayOff
  generalize List.finRange 120 = l
  exact forAll_keeps (fun t => t.crz.chan) railTrayOff railTrayOff_chan l s

theorem railsTrayOff_accDown (s : State) : AccDown s (railsTrayOff s) := by
  unfold railsTrayOff
  generalize List.finRange 120 = l
  exact forAll_inv (AccDown s) railTrayOff l (fun r _ ht => ht.trans (railTrayOff_accDown r _)) s (.refl s)

theorem accsTrayOff_gone (n : Acc) (s : State) : AccGone n (accsTrayOff s) := by
  unfold accsTrayOff
  exact forAll_at (fun _ => True) (AccGone n) accTrayOff (mem_accList n) (fun _ _ _ => trivial)
    (fun t _ => accGone_accTrayOff n t) (fun m _ ht => ht.accTrayOff m) trivial

theorem accsTrayOff_accDown (s : State) : AccDown s (accsTrayOff s) := by
  unfold accsTrayOff
  generalize accList = l
  exact forAll_inv (AccDown s) accTrayOff l (fun n _ ht => ht.trans (accTrayOff_accDown n _)) s (.refl s)

theorem accsTrayOff_offRailKept (r : Rail) (s : State) : OffRailKept r s (accsTrayOff s) := by
  unfold accsTrayOff
  generalize accList = l
  exact .forAll (fun n t => accTrayOff_offRailKept n r t) l s

theorem accsTrayOff_net (s : State) : (accsTrayOff s).crz.rail[(116 : Rail)] = s.crz.rail[(116 : Rail)] := by
  have hnet : ∀ n i, railOf n i ≠ 116 := fun n i e => by
    have hval := congrArg Fin.val e
    simp only [railOf] at hval
    omega
  unfold accsTrayOff
  generalize accList = l
  exact forAll_keeps (fun t => t.crz.rail[(116 : Rail)]) accTrayOff (fun n t => accTrayOff_rail_of_ne (hnet n) t) l s

theorem accsTrayOff_tray (s : State) : (accsTrayOff s).crz.chan[trayChan] = s.crz.chan[trayChan] := by
  unfold accsTrayOff
  generalize accList = l
  exact forAll_keeps (fun t => t.crz.chan[trayChan]) accTrayOff
    (fun n t => accTrayOff_chan_of_ne (fun e => trayChan_ne_accChan n e.symm) t) l s

theorem trayLatched_tray (s : State) :
    (trayLatched s).crz.chan[trayChan] = s.crz.chan[trayChan].trayLow s.sys.tick := by
  rw [trayLatched, State.modRack_crz, setChan_chan_self]

theorem noteFault_tray_rest (code rail trans : Nat) (s : State) :
    (noteFault trayChan code rail trans s).crz.chan[trayChan].state = s.crz.chan[trayChan].state ∧
      (noteFault trayChan code rail trans s).crz.chan[trayChan].fault = s.crz.chan[trayChan].fault := by
  have hchan : (noteFault trayChan code rail trans s).crz.chan[trayChan] =
      s.crz.chan[trayChan].noted code rail trans (s.sys.tick % 2 ^ 32) := by
    rw [noteFault_eq, hostEvent_crz, setChan_chan_self]
  rw [hchan, ChanState.noted_rest]
  exact ⟨rfl, rfl⟩

theorem trayLatched_recordGrows (s : State) : RecordGrows s (trayLatched s) := .of_eq

theorem trayLatched_drive (s : State) : (trayLatched s).rack.trayfltDrive = s.rack.trayfltDrive := rfl

/-- The tray channel and the latch complete it. -/
theorem trayDown_trayLatched {s v : State} (hraised : Raised v 1 8 0xFF 0x20B (s.crz.chan[trayChan].state % 65536))
    (hoff : ∀ r : Rail, r.1 ≠ 116 → v.crz.rail[r].en = false)
    (hnet : v.crz.rail[(116 : Rail)].en = s.crz.rail[(116 : Rail)].en) (hgone : ∀ n, AccGone n v) :
    TrayDown s (trayLatched v) := by
  refine ⟨(trayLatched_recordGrows v).raised hraised, rfl, hoff, hnet, fun n => ?_, ?_⟩
  · obtain ⟨hstate, htarget, hefuse, hrst⟩ := hgone n
    have hchan : (trayLatched v).crz.chan[accChan n] = v.crz.chan[accChan n] := by
      rw [trayLatched, State.modRack_crz, setChan_chan_of_ne (trayChan_ne_accChan n)]
    exact ⟨(congrArg ChanState.state hchan).trans hstate, (congrArg ChanState.target hchan).trans htarget, hefuse, hrst⟩
  · rw [trayLatched_tray]
    exact Nat.min_le_right _ 1

theorem noteFault_rack (c : Chan) (code rail trans : Nat) (s : State) : (noteFault c code rail trans s).rack = s.rack := by
  rw [noteFault_eq, hostEvent_rack, State.setChan_rack]

/-- The line takes the tray down (04 R114). -/
theorem trayDown_trayOff (s : State) : TrayDown s (trayOff s) := by
  have hraised := (noteFault_recordGrows trayChan 11 0x7F 0 _).raised
    (raised_emit_mod s 1 8 0xFF 0x20B s.crz.chan[trayChan].state)
  have hrail : (noteFault trayChan 11 0x7F 0 (emit s 1 8 0xFF 0x20B s.crz.chan[trayChan].state)).crz.rail = s.crz.rail := by
    rw [noteFault_eq, hostEvent_crz, State.setChan_crz, emit_crz]
  rw [trayOff_eq]
  generalize noteFault trayChan 11 0x7F 0 (emit s 1 8 0xFF 0x20B s.crz.chan[trayChan].state) = noted at hraised hrail ⊢
  have hgrow := ((railsTrayOff_accDown noted).trans (accsTrayOff_accDown _)).recordGrows
  refine trayDown_trayLatched (hgrow.raised hraised) (fun r hr => ?_) ?_ fun n => accsTrayOff_gone n _
  · exact (accsTrayOff_offRailKept r _).en_false (railsTrayOff_en hr noted)
  · rw [accsTrayOff_net, railsTrayOff_net, rail_congr hrail]

/-- Going down so, the tray channel keeps its FAULT, and the line what drives it. -/
theorem trayOff_kept (s : State) : RecordGrows s (trayOff s) ∧
    (trayOff s).crz.chan[trayChan].fault = s.crz.chan[trayChan].fault ∧
    (trayOff s).rack.trayfltDrive = s.rack.trayfltDrive := by
  have hnote : (noteFault trayChan 11 0x7F 0 (emit s 1 8 0xFF 0x20B s.crz.chan[trayChan].state)).crz.chan[trayChan].fault =
      s.crz.chan[trayChan].fault := (noteFault_tray_rest ..).2
  have hrack : (noteFault trayChan 11 0x7F 0 (emit s 1 8 0xFF 0x20B s.crz.chan[trayChan].state)).rack = s.rack :=
    noteFault_rack ..
  have hgrow : RecordGrows s (noteFault trayChan 11 0x7F 0 (emit s 1 8 0xFF 0x20B s.crz.chan[trayChan].state)) :=
    (RecordGrows.emit ..).trans (noteFault_recordGrows ..)
  rw [trayOff_eq]
  generalize noteFault trayChan 11 0x7F 0 (emit s 1 8 0xFF 0x20B s.crz.chan[trayChan].state) = noted at hnote hrack hgrow ⊢
  have hdown := (railsTrayOff_accDown noted).trans (accsTrayOff_accDown _)
  have htray : (accsTrayOff (railsTrayOff noted)).crz.chan[trayChan] = noted.crz.chan[trayChan] := by
    rw [accsTrayOff_tray, railsTrayOff_chan]
  generalize accsTrayOff (railsTrayOff noted) = down at hdown htray ⊢
  refine ⟨(hgrow.trans hdown.recordGrows).trans (trayLatched_recordGrows _), ?_, ?_⟩
  · rw [trayLatched_tray, htray]
    exact hnote
  · exact (trayLatched_drive down).trans (congrArg RackState.trayfltDrive (hdown.rack.trans hrack))

/-- The tray drives the line itself (04 R115). -/
theorem driveTrayflt_kept (s : State) : RecordGrows s (driveTrayflt s) ∧
    (driveTrayflt s).crz.chan[trayChan].fault = s.crz.chan[trayChan].fault := by
  have hdrive : RecordGrows s (s.modRack fun r => { r with trayfltDrive := true }) := .of_eq
  have hcrz : (s.modRack fun r => { r with trayfltDrive := true }).crz = s.crz := State.modRack_crz ..
  unfold driveTrayflt
  generalize s.modRack (fun r => { r with trayfltDrive := true }) = driving at hdrive hcrz ⊢
  obtain ⟨hoff, hkept, -⟩ := trayOff_kept driving
  exact ⟨hdrive.trans hoff, by rw [hkept, hcrz]⟩

/-! A tray rail that is not off in time, and an e-fuse that does not open (04 R108, R110). -/

/-- What starts from a state with the tray channel's state and NET's enable goes down as from that one. -/
theorem TrayDown.of_start {s u t : State} (h : TrayDown u t)
    (hstate : u.crz.chan[trayChan].state = s.crz.chan[trayChan].state)
    (hnet : u.crz.rail[(116 : Rail)].en = s.crz.rail[(116 : Rail)].en) : TrayDown s t := by
  obtain ⟨hraised, hlatch, hrails, hsame, haccs, htray⟩ := h
  exact ⟨hstate ▸ hraised, hlatch, hrails, hsame.trans hnet, haccs, htray⟩

/-- The tray channel in FAULT; a rail under BULK12 drives the line with it (04 R110). -/
def trayFaulted (r : Rail) (s : State) : State :=
  let s := s.setChan trayChan fun x => { x with fault := true }
  if underBulk s r then driveTrayflt s else s

theorem trayFaulted_spec (r : Rail) (s : State) :
    RecordGrows s (trayFaulted r s) ∧ (trayFaulted r s).crz.chan[trayChan].fault = true := by
  have hfault : (s.setChan trayChan fun x => { x with fault := true }).crz.chan[trayChan].fault = true := by
    rw [setChan_chan_self]
  have hgrow := setChan_recordGrows trayChan (fun x => { x with fault := true }) s
  obtain ⟨hdriven, hkept⟩ := driveTrayflt_kept (s.setChan trayChan fun x => { x with fault := true })
  unfold trayFaulted
  simp only
  split
  · exact ⟨hgrow.trans hdriven, hkept.trans hfault⟩
  · exact ⟨hgrow, hfault⟩

theorem offTimeoutTray_eq (r : Rail) (s : State) : offTimeoutTray r s =
    if r.1 = 116 then noteFault trayChan 8 r.1 0 (emit s 2 8 r.1 0x208 s.crz.chan[trayChan].state)
    else trayFaulted r (noteFault trayChan 8 r.1 0 (emit s 2 8 r.1 0x208 s.crz.chan[trayChan].state)) := rfl

theorem offTimeoutTray_spec (r : Rail) (s : State) :
    Raised (offTimeoutTray r s) 2 8 r.1 0x208 (s.crz.chan[trayChan].state % 65536) ∧
      (r.1 ≠ 116 → HostDue (offTimeoutTray r s) 6 ∧ (offTimeoutTray r s).crz.chan[trayChan].fault = true) ∧
      (r.1 = 116 → (offTimeoutTray r s).crz.chan[trayChan].fault = s.crz.chan[trayChan].fault) := by
  have hnote : (noteFault trayChan 8 r.1 0 (emit s 2 8 r.1 0x208 s.crz.chan[trayChan].state)).crz.chan[trayChan].fault =
      s.crz.chan[trayChan].fault := (noteFault_tray_rest ..).2
  have hraised := (noteFault_recordGrows trayChan 8 r.1 0 _).raised
    (raised_emit_mod s 2 8 r.1 0x208 s.crz.chan[trayChan].state)
  have hdue := hostDue_noteFault trayChan 8 r.1 0 (emit s 2 8 r.1 0x208 s.crz.chan[trayChan].state)
  rw [offTimeoutTray_eq]
  generalize noteFault trayChan 8 r.1 0 (emit s 2 8 r.1 0x208 s.crz.chan[trayChan].state) = noted at hnote hraised hdue ⊢
  by_cases h : r.1 = 116
  · rw [if_pos h]
    exact ⟨hraised, fun hne => absurd h hne, fun _ => hnote⟩
  · rw [if_neg h]
    obtain ⟨hgrow, hfault⟩ := trayFaulted_spec r noted
    exact ⟨hgrow.raised hraised, fun _ => ⟨hgrow.hostDue hdue, hfault⟩, fun e => absurd e h⟩

/-! The obligation. -/

theorem accOfRail_some {r : Rail} {n : Acc} (h : accOfRail r = some n) : chanOf r = accChan n := by
  unfold accOfRail accOf at h
  split at h
  next hlt =>
    obtain rfl := Option.some.inj h
    exact dif_pos (by omega)
  · contradiction

theorem accOfRail_none {r : Rail} (h : accOfRail r = none) : chanOf r = trayChan := by
  unfold accOfRail accOf at h
  split at h
  · contradiction
  next hge => exact dif_neg (by omega)

/-- The step of OFF_TIMEOUT (04 R108). -/
theorem offTimeout_next {r : Rail} {s : State} (hen : s.crz.rail[r].en = false) (hoff : s.crz.rail[r].off = false)
    (hlate : s.crz.rail[r].offLate = false) (hdriven : driven r = true) (htime : s.crz.rail[r].disTick + 5000 ≤ s.sys.tick) :
    exec (.offTimeout r) s = .next (match accOfRail r with
      | some n => offTimeoutAcc n r (s.setRail r fun x => { x with offLate := true })
      | none => offTimeoutTray r (s.setRail r fun x => { x with offLate := true })) := by
  refine if_neg ?_
  simp only [hen, hoff, hlate, hdriven, Nat.not_lt.2 htime, Bool.not_true, Bool.false_eq_true, or_self, not_false_eq_true]

/-- A rail of an accelerator, or of the tray, that is not off in time (04 R108, R110). -/
theorem offTimeout_spec {r : Rail} {s : State} (hen : s.crz.rail[r].en = false) (hoff : s.crz.rail[r].off = false)
    (hlate : s.crz.rail[r].offLate = false) (hdriven : driven r = true) (htime : s.crz.rail[r].disTick + 5000 ≤ s.sys.tick) :
    ∃ t, exec (.offTimeout r) s = .next t ∧ Raised t 2 (chanOf r).1 r.1 0x208 (s.crz.chan[chanOf r].state % 65536) ∧
      (∀ n : Acc, accOfRail r = some n → HostDue t 6 ∧ t.crz.chan[accChan n].state = 0 ∧ t.crz.chan[accChan n].fault = true ∧
        t.crz.chan[accChan n].efuseOpen = true ∧ t.acc[n].efuseOn = false ∧
        ∀ i : Fin 14, t.crz.rail[railOf n i].en = false) ∧
      (accOfRail r = none → r.1 ≠ 116 → HostDue t 6 ∧ t.crz.chan[trayChan].fault = true) ∧
      (r.1 = 116 → t.crz.chan[trayChan].fault = s.crz.chan[trayChan].fault) := by
  have hnext := offTimeout_next hen hoff hlate hdriven htime
  cases hacc : accOfRail r with
  | some n =>
    rw [hacc] at hnext
    obtain ⟨hraised, hdue, hrest⟩ := offTimeoutAcc_spec n r (s.setRail r fun x => { x with offLate := true }) rfl
    refine ⟨_, hnext, ?_, fun m hm => ?_, fun h => absurd h (Option.some_ne_none n), fun h => ?_⟩
    · rw [State.setRail_crz] at hraised
      exact Eq.subst (motive := fun c : Chan => Raised _ 2 c.1 r.1 0x208 (s.crz.chan[c].state % 65536))
        (accOfRail_some hacc).symm hraised
    · obtain rfl := Option.some.inj hm
      exact ⟨hdue, hrest⟩
    · rw [accOfRail, h, accOf, dif_neg (by decide)] at hacc
      contradiction
  | none =>
    rw [hacc] at hnext
    obtain ⟨hraised, hfault, hnet⟩ := offTimeoutTray_spec r (s.setRail r fun x => { x with offLate := true })
    refine ⟨_, hnext, ?_, fun m hm => absurd hm.symm (Option.some_ne_none m), fun _ => hfault, hnet⟩
    rw [State.setRail_crz] at hraised
    exact Eq.subst (motive := fun c : Chan => Raised _ 2 c.1 r.1 0x208 (s.crz.chan[c].state % 65536))
      (accOfRail_none hacc).symm hraised

/-- An e-fuse that does not open, recorded and noted (04 R108). -/
def efuseFaulted (n : Acc) (s : State) : State :=
  (noteFault (accChan n) 9 0x7F 0 (emit s 2 (accChan n).1 0xFF 0x209 s.crz.chan[accChan n].state)).setChan (accChan n) fun x =>
    { x with fault := true, efuseOpenTick := none }

theorem efuseFaulted_tray (n : Acc) (s : State) : (efuseFaulted n s).crz.chan[trayChan] = s.crz.chan[trayChan] := by
  have hne : accChan n ≠ trayChan := fun e => trayChan_ne_accChan n e.symm
  rw [efuseFaulted, setChan_chan_of_ne hne, noteFault_eq, hostEvent_crz, setChan_chan_of_ne hne, emit_crz]

theorem efuseFaulted_rail (n : Acc) (s : State) : (efuseFaulted n s).crz.rail = s.crz.rail := by
  rw [efuseFaulted, State.setChan_crz, noteFault_eq, hostEvent_crz, State.setChan_crz, emit_crz]

theorem efuseFaulted_raised (n : Acc) (s : State) :
    Raised (efuseFaulted n s) 2 n.1 0xFF 0x209 (chState s n % 65536) :=
  ((noteFault_recordGrows (accChan n) 9 0x7F 0 _).trans (setChan_recordGrows ..)).raised
    (raised_emit_mod s 2 n.1 0xFF 0x209 (chState s n))

theorem efuseFault_next {n : Acc} {x : Nat} {s : State} (hx : s.crz.chan[accChan n].efuseOpenTick = some x)
    (htime : x + 10000 ≤ s.sys.tick) (hlive : ∃ i : Fin 14, s.crz.rail[railOf n i].off = false) :
    exec (.efuseFault n) s = .next (driveTrayflt (efuseFaulted n s)) := by
  obtain ⟨i, hi⟩ := hlive
  have hany : ((List.finRange 14).any fun i => !s.crz.rail[railOf n i].off) = true :=
    List.any_eq_true.2 ⟨i, List.mem_finRange i, by rw [hi]; rfl⟩
  change execEfuseFault n s = _
  unfold execEfuseFault
  simp only [hx, hany, Nat.not_lt.2 htime, Bool.not_true, Bool.false_eq_true, or_self, if_false]
  rfl

/-- The line that the tray drives takes it down (04 R114, R115). -/
theorem trayDown_driveTrayflt (s : State) : TrayDown s (driveTrayflt s) ∧ (driveTrayflt s).rack.trayfltDrive = true := by
  have hcrz : (s.modRack fun r => { r with trayfltDrive := true }).crz = s.crz := State.modRack_crz ..
  have hdrive : (s.modRack fun r => { r with trayfltDrive := true }).rack.trayfltDrive = true := rfl
  unfold driveTrayflt
  generalize s.modRack (fun r => { r with trayfltDrive := true }) = driving at hcrz hdrive ⊢
  obtain ⟨-, -, hkept⟩ := trayOff_kept driving
  exact ⟨(trayDown_trayOff driving).of_start (by rw [hcrz]) (by rw [hcrz]), hkept.trans hdrive⟩

/-- EFUSE_FAULT drives the line (04 R108, R115). -/
theorem efuseFault_spec {n : Acc} {x : Nat} {s : State} (hx : s.crz.chan[accChan n].efuseOpenTick = some x)
    (htime : x + 10000 ≤ s.sys.tick) (hlive : ∃ i : Fin 14, s.crz.rail[railOf n i].off = false) :
    ∃ t, exec (.efuseFault n) s = .next t ∧ Raised t 2 n.1 0xFF 0x209 (chState s n % 65536) ∧
      t.rack.trayfltDrive = true ∧ TrayDown s t := by
  obtain ⟨hdown, hdrive⟩ := trayDown_driveTrayflt (efuseFaulted n s)
  refine ⟨_, efuseFault_next hx htime hlive, (driveTrayflt_kept _).1.raised (efuseFaulted_raised n s), hdrive,
    hdown.of_start ?_ ?_⟩
  · rw [efuseFaulted_tray]
  · rw [rail_congr (efuseFaulted_rail n s)]

/-- Settles O44: each row confirms its fault (`confirmFault`), lets a rail count as off (`railGone`, `collapse`), cuts an
accelerator off (`offTimeoutAcc`) or takes the tray down (`trayOff`). -/
theorem railFaultRows : Obligations.RailFaultRows := by
  unfold Obligations.RailFaultRows
  refine ⟨fun i r code detail s h => ?_, fun r s hoff hcounts => ⟨railOff_disabled hoff hcounts, fun hen hdown => ?_⟩,
    fun r s hen hoff hlate hdriven htime => offTimeout_spec hen hoff hlate hdriven htime,
    fun n x s hx htime hlive => efuseFault_spec hx htime hlive⟩
  · rcases h with ⟨level, y, rfl, rfl, hpg, hen, hdeclared, hfive, hdetail⟩ |
      ⟨rfl, rfl, hover, rfl, hstate, hstable, hremoving, hlate⟩ |
      ⟨rfl, rfl, hstable, hpg, hdeclared, hen, hlong, rfl⟩ | ⟨rfl, rfl, hrun, rfl⟩
    · refine railPgChange_faulted hpg hen hdeclared hfive ?_
      rw [hdetail]
      rfl
    · exact pgTimeout_faulted hover hstate hstable hremoving hlate
    · exact pgLost_faulted hstable hpg hdeclared hen hlong
    · exact window_faulted hrun
  · obtain ⟨t, ht, hraised, hcollapsed⟩ := railOff_collapsed hoff hcounts hen hdown
    exact ⟨t, ht, hraised, hcollapsed.en, hcollapsed.off, hcollapsed.collapsed⟩

end Sys2Proof.Machine
end

section
/-! SUPPORT. Boot of an accelerator in S9 (04 R86; 11 R315; 16 R500, R501): the event frame that reports it, the image it confirms,
a completed step, and a failed attempt. -/

namespace Sys2Proof.Machine

open Sys2Proof

/-! A good event frame (10 R287 to R304). -/

/-- From `s` to `t` only the intake, the record and the words sent differ. -/
structure IntakeOnly (s t : State) : Prop where
  frame : t = { s with rcd := t.rcd, srs := t.srs, out := t.out }

namespace IntakeOnly

theorem refl (s : State) : IntakeOnly s s := ⟨rfl⟩

theorem trans {s t u : State} (h : IntakeOnly s t) (h' : IntakeOnly t u) : IntakeOnly s u := ⟨by rw [h'.frame, h.frame]⟩

theorem sys {s t : State} (h : IntakeOnly s t) : t.sys = s.sys := by rw [h.frame]
theorem acc {s t : State} (h : IntakeOnly s t) : t.acc = s.acc := by rw [h.frame]
theorem crz {s t : State} (h : IntakeOnly s t) : t.crz = s.crz := by rw [h.frame]
theorem bup {s t : State} (h : IntakeOnly s t) : t.bup = s.bup := by rw [h.frame]
theorem nv {s t : State} (h : IntakeOnly s t) : t.nv = s.nv := by rw [h.frame]

end IntakeOnly

theorem sendWord_intakeOnly (n : Acc) (ty : Byte) (body : List Byte) (s : State) : IntakeOnly s (sendWord n ty body s) := by
  unfold sendWord
  split
  · exact .refl s
  · split <;> exact ⟨rfl⟩

/-- A change of a link that leaves the intake queues alone. -/
theorem setLink_queue (m n : Acc) {f : LinkState → LinkState} (s : State)
    (hf : ∀ l, (f l).queue = l.queue := by exact fun _ => rfl) : (s.setLink m f).srs.link[n].queue = s.srs.link[n].queue := by
  by_cases h : m = n
  · subst h
    simp [hf]
  · have hne : m.1 ≠ n.1 := fun e => h (Fin.ext e)
    simp [Vector.getElem_set_ne _ _ hne]

theorem sendWord_queue (m n : Acc) (ty : Byte) (body : List Byte) (s : State) :
    (sendWord m ty body s).srs.link[n].queue = s.srs.link[n].queue := by
  unfold sendWord
  split
  · rfl
  · split
    · exact setLink_queue m n s
    · rfl

/-- A new frame version is recorded (10 R294). -/
def verNoted (n : Acc) (h : FrameHdr) (s : State) : State :=
  if s.srs.link[n].verSeen && s.srs.link[n].ver != h.ver then emit s 7 n.1 0xFF 0x0A07 h.ver.toNat else s

/-- A link whose fill reaches the PAUSE level pauses (10 R303). -/
def pauseCheck (n : Acc) (s : State) : State :=
  if !s.srs.link[n].paused && decide (1024 * fld s.srs.cfg 16 8 ≤ fillOf s.srs.link[n]) then
    sendFlow n (s.setLink n fun l => { l with paused := true })
  else s

theorem verNoted_intakeOnly (n : Acc) (h : FrameHdr) (s : State) : IntakeOnly s (verNoted n h s) := by
  unfold verNoted
  split
  · exact ⟨rfl⟩
  · exact .refl s

theorem pauseCheck_intakeOnly (n : Acc) (s : State) : IntakeOnly s (pauseCheck n s) := by
  unfold pauseCheck
  split
  · exact IntakeOnly.trans (t := s.setLink n fun l => { l with paused := true }) ⟨rfl⟩ (sendWord_intakeOnly n _ _ _)
  · exact .refl s

theorem pauseCheck_queue (n : Acc) (s : State) : (pauseCheck n s).srs.link[n].queue = s.srs.link[n].queue := by
  unfold pauseCheck
  split
  · exact (sendWord_queue n n _ _ _).trans (setLink_queue n n s)
  · rfl

/-- A published frame joins the queue as a record, behind a PAD record where it needs one (10 R300). -/
theorem publishFrame_eq (n : Acc) (h : FrameHdr) (ftype len pad : Nat) (body : List Byte) (s : State) :
    ∃ (pads : List QRec) (r : QRec) (f : LinkState → LinkState), (∀ l, (f l).queue = l.queue ++ pads ++ [r]) ∧
      (r.ftype = ftype ∧ r.len = len ∧ r.fseq = h.fseq ∧ r.ver = h.ver ∧ r.stamp = s.sys.tick) ∧
      publishFrame n h ftype len pad body s = pauseCheck n ((verNoted n h s).setLink n f) :=
  ⟨_, _, _, fun _ => rfl, ⟨rfl, rfl, rfl, rfl, rfl⟩, rfl⟩

theorem publishFrame_spec (n : Acc) (h : FrameHdr) (ftype len pad : Nat) (body : List Byte) (s : State) :
    IntakeOnly s (publishFrame n h ftype len pad body s) ∧
      Published n h ftype len s (publishFrame n h ftype len pad body s) := by
  obtain ⟨pads, r, f, hqueue, hr, heq⟩ := publishFrame_eq n h ftype len pad body s
  rw [heq]
  refine ⟨(verNoted_intakeOnly n h s).trans (IntakeOnly.trans ⟨rfl⟩ (pauseCheck_intakeOnly n _)), r, ?_, hr⟩
  rw [pauseCheck_queue]
  simp [hqueue]

/-- A frame that the intake takes is published (10 R287, R288). -/
theorem takeFrame_good {n : Acc} {h : FrameHdr} {ftype len : Nat} {body : List Byte} {s : State}
    (hgood : goodFrame s n h ftype len body = true) :
    ∃ u, takeFrame n h ftype len false body s = (true, u) ∧ IntakeOnly s u ∧ Published n h ftype len s u := by
  unfold goodFrame at hgood
  simp only [Bool.and_eq_true, Bool.or_eq_true, Bool.not_eq_true', beq_iff_eq, decide_eq_true_eq] at hgood
  obtain ⟨⟨⟨⟨⟨hstate, hwhole⟩, htype⟩, hlen⟩, hver⟩, hroom⟩ := hgood
  have htake : ∃ pad, takeFrame n h ftype len false body s = (true, publishFrame n h ftype len pad body s) := by
    unfold takeFrame
    simp only
    rw [if_neg (by omega), if_neg (by simp [hwhole]), if_neg (by simp [htype, hlen, hver]), if_neg (by omega)]
    exact ⟨_, rfl⟩
  obtain ⟨pad, htake⟩ := htake
  exact ⟨_, htake, publishFrame_spec n h ftype len pad body s⟩

/-- A good event frame is taken, and its entries act in order (10 R292). -/
theorem takeEvent_good {n : Acc} {h : EventHdr} {e : EventEntry} {s : State} (hgood : goodEvents s n h e = true) :
    ∃ u, takeEvent n h e s = forAll h.more (eventEffect n) (eventEffect n e u) ∧ IntakeOnly s u ∧
      Published n h.hdr 2 (3 + 2 * h.more.length) s u := by
  unfold goodEvents at hgood
  rw [Bool.and_eq_true, decide_eq_true_eq] at hgood
  obtain ⟨hframe, hfew⟩ := hgood
  obtain ⟨u, htake, honly, hpublished⟩ := takeFrame_good hframe
  have hlen : 1 + 2 * (e :: h.more).length = 3 + 2 * h.more.length := by
    rw [List.length_cons]
    omega
  have hcount : decide (32 < (e :: h.more).length) = false := by
    rw [List.length_cons]
    exact decide_eq_false (by omega)
  refine ⟨u, ?_, honly, hpublished⟩
  unfold takeEvent
  simp only [hlen, hcount, htake]
  rfl

/-! The step of S9 completes (04 R86). -/

/-- A channel at its target whose step is complete. -/
def ChanState.arrived (x : ChanState) : ChanState := { x with stepDone := true, waiting := false, dir := 0, limit := none }

/-- Above S0 no e-fuse is taken back (04 R87). -/
theorem efuseBack_of_state {n : Acc} {s : State} (h : chState s n ≠ 0) : efuseBack (accChan n) s = s := by
  unfold efuseBack
  simp only [accOf_accChan]
  exact if_neg fun ⟨hzero, _⟩ => h hzero

theorem crzUp_atTarget {n : Acc} {s : State} (hstate : chState s n ≠ 0) (hdone : s.crz.chan[accChan n].stepDone = true)
    (htarget : s.crz.chan[accChan n].target = s.crz.chan[accChan n].state) (hdir : s.crz.chan[accChan n].dir ≠ 3) :
    crzUp (accChan n) s = s.setChan (accChan n) fun x => { x with waiting := false, dir := 0, limit := none } := by
  unfold crzUp
  simp only [hdone, htarget, hdir, efuseBack_of_state hstate, Bool.not_true, Bool.false_eq_true, or_self, if_false, if_true,
    le_refl]

theorem setChan_setChan (c : Chan) (f g : ChanState → ChanState) (s : State) :
    (s.setChan c f).setChan c g = s.setChan c (g ∘ f) := by
  simp [State.setChan]

theorem stepOver_atTarget {n : Acc} {s : State} (hstate : chState s n ≠ 0)
    (htarget : s.crz.chan[accChan n].target = s.crz.chan[accChan n].state) (hdir : s.crz.chan[accChan n].dir ≠ 3) :
    stepOver (accChan n) s = s.setChan (accChan n) ChanState.arrived := by
  have hchan := setChan_chan_self (accChan n) (fun x => { x with stepDone := true }) s
  have htray : ¬(accChan n = 8 ∧ (s.setChan (accChan n) fun x => { x with stepDone := true }).crz.chan[accChan n].state = 3) :=
    fun ⟨h, _⟩ => trayChan_ne_accChan n h.symm
  unfold stepOver
  simp only
  rw [if_neg htray, crzUp_atTarget, setChan_setChan]
  · rfl
  · rwa [chState, hchan]
  · rw [hchan]
  · rw [hchan]
    exact htarget
  · rw [hchan]
    exact hdir

/-- The boot has arrived: the step of S9 is complete, and a drain's pin is let go where nothing else holds it (04 R86; 11 R316). -/
def bootTaken (n : Acc) (s : State) : State :=
  (s.setBup n fun b => { b with booted := true }).setAcc n fun a => { a with
    xnetDrain := a.xnetDrain && (a.drain.isSome || a.decision.isSome) }

theorem chState_of_bootAwaited {n : Acc} {s : State} (h : bootAwaited s n = true) : chState s n = 9 := by
  unfold bootAwaited at h
  simp only [Bool.and_eq_true, beq_iff_eq] at h
  obtain ⟨⟨⟨⟨-, hstate⟩, -⟩, -⟩, -⟩ := h
  exact hstate

theorem bootArrived_eq {n : Acc} {s : State} (hawaited : bootAwaited s n = true) (hbooted : s.bup.acc[n].booted = false)
    (htarget : s.crz.chan[accChan n].target = 9) (hdir : s.crz.chan[accChan n].dir ≠ 3) :
    bootArrived n s = (bootTaken n s).setChan (accChan n) ChanState.arrived := by
  have hstate := chState_of_bootAwaited hawaited
  have hcrz : (bootTaken n s).crz = s.crz := rfl
  unfold bootArrived
  rw [if_neg (by rw [hawaited, hbooted]; decide)]
  refine stepOver_atTarget (s := bootTaken n s) ?_ ?_ ?_
  · have hnine : chState (bootTaken n s) n = 9 := hstate
    rw [hnine]
    decide
  · rw [hcrz, htarget]
    exact hstate.symm
  · rwa [hcrz]

/-! The image that has booted (16 R500, R501). -/

/-- A trial of the active image is over. -/
def trialOver (n : Acc) (s : State) : State :=
  (if (selectOf s n).trial then writeSelect n (selectOf s n).active false s else s).setBup n fun p => { p with trialSlot := none }

/-- The image becomes the last-known-good copy of its family. -/
def lkgMade (f : Nat) (b : List Byte) (s : State) : State :=
  emit (s.modNv fun v => { v with lkg := if f = 0 then v.lkg.set 0 b else v.lkg.set 1 b }) 7 9 f 0x1009 f

theorem confirmImage_other {n : Acc} {slot version : Nat} {s : State}
    (h : slot ≠ (selectOf s n).active ∨ version ≠ imgVersion (accSlot s n (selectOf s n).active)) :
    confirmImage n slot version s = s := if_pos h

theorem confirmImage_active (n : Acc) (s : State) :
    confirmImage n (selectOf s n).active (imgVersion (accSlot s n (selectOf s n).active)) s =
      if imgVersion (lkgOf (trialOver n s) (familyOf (trialOver n s) n)) = imgVersion (accSlot s n (selectOf s n).active)
      then trialOver n s
      else lkgMade (familyOf (trialOver n s) n) (accSlot s n (selectOf s n).active) (trialOver n s) :=
  if_neg (by simp)

theorem trialOver_frame (n : Acc) (s : State) :
    trialOver n s = { s with nv := (trialOver n s).nv, sec := (trialOver n s).sec, bup := (trialOver n s).bup } := by
  unfold trialOver
  split <;> rfl

theorem trialOver_boot (n : Acc) (s : State) : (trialOver n s).bup.acc[n] = { s.bup.acc[n] with trialSlot := none } := by
  unfold trialOver
  split <;> simp [writeSelect]

theorem trialOver_lkg (n : Acc) (s : State) : (trialOver n s).nv.lkg = s.nv.lkg := by
  unfold trialOver
  split <;> rfl

/-- A trial that is over is so in a select record (16 R500). -/
theorem trialOver_select {n : Acc} {s : State} (h : (selectOf s n).trial = true) :
    ∃ i : Fin 2, (trialOver n s).nv.acc[n].select[i] =
      some { active := (selectOf s n).active, trial := false, seq := ((selectOf s n).seq + 1) % 2 ^ 32 } := by
  refine ⟨losingCopy s n, ?_⟩
  simp [trialOver, h, writeSelect]

theorem familyOf_congr {s t : State} (h : t.acc = s.acc) (n : Acc) : familyOf t n = familyOf s n := by
  rw [familyOf, h, familyOf]

theorem familyOf_lt (n : Acc) (s : State) : familyOf s n < 2 := Nat.mod_lt _ (by decide)

theorem lkgOf_congr {s t : State} (h : t.nv.lkg = s.nv.lkg) (f : Nat) : lkgOf t f = lkgOf s f := by
  rw [lkgOf, h, lkgOf]

theorem lkgOf_lkgMade (f : Nat) (b : List Byte) (s : State) : lkgOf (lkgMade f b s) f = b := by
  unfold lkgOf lkgMade
  by_cases h : f = 0 <;> simp [h]

/-- What the confirmation of an image leaves alone. -/
structure ImageConfirmed (n : Acc) (s t : State) : Prop where
  frame : t = { s with nv := t.nv, sec := t.sec, bup := t.bup, rcd := t.rcd }
  boot : t.bup.acc[n] = { s.bup.acc[n] with trialSlot := t.bup.acc[n].trialSlot }

namespace ImageConfirmed

variable {n : Acc} {s t : State}

theorem acc (h : ImageConfirmed n s t) : t.acc = s.acc := by rw [h.frame]
theorem crz (h : ImageConfirmed n s t) : t.crz = s.crz := by rw [h.frame]
theorem srs (h : ImageConfirmed n s t) : t.srs = s.srs := by rw [h.frame]
theorem sys (h : ImageConfirmed n s t) : t.sys = s.sys := by rw [h.frame]

end ImageConfirmed

theorem trialOver_confirmed (n : Acc) (s : State) : ImageConfirmed n s (trialOver n s) :=
  ⟨by rw [trialOver_frame], by rw [trialOver_boot]⟩

theorem lkgMade_confirmed {n : Acc} {s t : State} (h : ImageConfirmed n s t) (f : Nat) (b : List Byte) :
    ImageConfirmed n s (lkgMade f b t) :=
  ⟨by rw [h.frame]; rfl, h.boot⟩

/-- The active image, of its version, confirmed: its trial is over, and it is the last-known-good copy (16 R500, R501). -/
structure ImageTaken (n : Acc) (f version : Nat) (b : List Byte) (s t : State) : Prop where
  trialSlot : t.bup.acc[n].trialSlot = none
  select : (selectOf s n).trial = true → ∃ i : Fin 2, t.nv.acc[n].select[i] =
    some { active := (selectOf s n).active, trial := false, seq := ((selectOf s n).seq + 1) % 2 ^ 32 }
  lkg : imgVersion (lkgOf s f) ≠ version → lkgOf t f = b ∧ Raised t 7 9 f 0x1009 f

theorem confirmImage_taken (n : Acc) (s : State) :
    ∃ t, confirmImage n (selectOf s n).active (imgVersion (accSlot s n (selectOf s n).active)) s = t ∧ ImageConfirmed n s t ∧
      ImageTaken n (familyOf s n) (imgVersion (accSlot s n (selectOf s n).active)) (accSlot s n (selectOf s n).active) s t := by
  have hover := trialOver_confirmed n s
  have hslot : (trialOver n s).bup.acc[n].trialSlot = none := by rw [trialOver_boot]
  rw [confirmImage_active, familyOf_congr hover.acc, lkgOf_congr (trialOver_lkg n s)]
  by_cases h : imgVersion (lkgOf s (familyOf s n)) = imgVersion (accSlot s n (selectOf s n).active)
  · rw [if_pos h]
    exact ⟨_, rfl, hover, hslot, trialOver_select, fun hne => absurd h hne⟩
  · rw [if_neg h]
    refine ⟨_, rfl, lkgMade_confirmed hover _ _, hslot, trialOver_select, fun _ => ⟨lkgOf_lkgMade .., ?_⟩⟩
    exact raised_emit _ 7 9 _ 0x1009 _ (by have := familyOf_lt n s; omega)

/-! BOOT_COMPLETE. -/

theorem bootAwaited_congr {s t : State} {n : Acc} (hsys : t.sys = s.sys) (hcrz : t.crz = s.crz) (hacc : t.acc = s.acc)
    (hstage : t.bup.acc[n].stage = s.bup.acc[n].stage) (hbox : t.bup.acc[n].boxDue = s.bup.acc[n].boxDue) :
    bootAwaited t n = bootAwaited s n := by
  simp only [bootAwaited, running, chState, hsys, hcrz, hacc, hstage, hbox]

/-- A boot that is reported completes its step, whatever the image (04 R86). -/
theorem bootArrived_confirmed {n : Acc} {s t : State} (h : ImageConfirmed n s t) (hawaited : bootAwaited s n = true)
    (hbooted : s.bup.acc[n].booted = false) (htarget : s.crz.chan[accChan n].target = 9)
    (hdir : s.crz.chan[accChan n].dir ≠ 3) : bootArrived n t = (bootTaken n t).setChan (accChan n) ChanState.arrived := by
  refine bootArrived_eq ?_ ?_ ?_ ?_
  · rw [bootAwaited_congr h.sys h.crz h.acc (by rw [h.boot]) (by rw [h.boot]), hawaited]
  · rw [h.boot, ← hbooted]
  · rwa [h.crz]
  · rwa [h.crz]

/-- The boot that is taken, with its channel at its target. -/
def bootDone (n : Acc) (s : State) : State := (bootTaken n s).setChan (accChan n) ChanState.arrived

theorem bootDone_booted (n : Acc) (s : State) : (bootDone n s).bup.acc[n] = { s.bup.acc[n] with booted := true } := by
  simp [bootDone, bootTaken]

theorem bootDone_chan (n : Acc) (s : State) : (bootDone n s).crz.chan[accChan n] = s.crz.chan[accChan n].arrived :=
  setChan_chan_self (accChan n) ChanState.arrived (bootTaken n s)

theorem bootDone_xnetDrain (n : Acc) (s : State) : (bootDone n s).acc[n].xnetDrain =
    (s.acc[n].xnetDrain && (s.acc[n].drain.isSome || s.acc[n].decision.isSome)) := by
  simp [bootDone, bootTaken]

theorem bootDone_nv (n : Acc) (s : State) : (bootDone n s).nv = s.nv := rfl
theorem bootDone_srs (n : Acc) (s : State) : (bootDone n s).srs = s.srs := rfl
theorem bootDone_recordGrows (n : Acc) (s : State) : RecordGrows s (bootDone n s) := .of_eq

/-- What the image confirmed is stays so. -/
theorem ImageTaken.bootDone {n : Acc} {f version : Nat} {b : List Byte} {s t : State} (h : ImageTaken n f version b s t) :
    ImageTaken n f version b s (bootDone n t) := by
  refine ⟨?_, h.select, fun hne => ?_⟩
  · rw [bootDone_booted]
    exact h.trialSlot
  · obtain ⟨hlkg, hraised⟩ := h.lkg hne
    exact ⟨(lkgOf_congr (congrArg NvState.lkg (bootDone_nv n t)) f).trans hlkg, (bootDone_recordGrows n t).raised hraised⟩

theorem selectOf_congr {s t : State} (h : t.nv = s.nv) (n : Acc) : selectOf t n = selectOf s n := by
  rw [selectOf, h, selectOf]

theorem accSlot_congr {s t : State} (h : t.nv = s.nv) (n : Acc) (k : Nat) : accSlot t n k = accSlot s n k := by
  rw [accSlot, h, accSlot]

/-- What the intake of the frame has changed does not matter for it. -/
theorem ImageTaken.of_intakeOnly {n : Acc} {f version : Nat} {b : List Byte} {s u t : State} (honly : IntakeOnly s u)
    (h : ImageTaken n f version b u t) : ImageTaken n f version b s t := by
  obtain ⟨hslot, hselect, hlkg⟩ := h
  rw [selectOf_congr honly.nv] at hselect
  rw [lkgOf_congr (congrArg NvState.lkg honly.nv)] at hlkg
  exact ⟨hslot, hselect, hlkg⟩

/-- What a reported boot leaves of the image: confirmed, where slot and version are those of the active one (16 R500, R501). -/
theorem confirmImage_spec (n : Acc) (slot version : Nat) (s : State) : ∃ c, confirmImage n slot version s = c ∧
    ImageConfirmed n s c ∧
    (slot = (selectOf s n).active → version = imgVersion (accSlot s n (selectOf s n).active) →
      ImageTaken n (familyOf s n) version (accSlot s n (selectOf s n).active) s c) ∧
    ((slot ≠ (selectOf s n).active ∨ version ≠ imgVersion (accSlot s n (selectOf s n).active)) → c.nv = s.nv) := by
  by_cases h : slot = (selectOf s n).active ∧ version = imgVersion (accSlot s n (selectOf s n).active)
  · obtain ⟨rfl, rfl⟩ := h
    obtain ⟨c, hc, hconfirmed, htaken⟩ := confirmImage_taken n s
    exact ⟨c, hc, hconfirmed, fun _ _ => htaken, fun hne => absurd hne (by simp)⟩
  · rw [not_and_or] at h
    exact ⟨s, confirmImage_other h, ⟨rfl, rfl⟩, fun hslot hversion => absurd h (by simp [hslot, hversion]), fun _ => rfl⟩

theorem bootComplete_next {n : Acc} {h : EventHdr} {arg : BitVec 16} {data : Word} {s u : State}
    (htake : takeEvent n h { ns := h.ns, code := 1, arg := arg, data := data } s =
      forAll h.more (eventEffect n) (eventEffect n { ns := h.ns, code := 1, arg := arg, data := data } u))
    (hawaited : bootAwaited u n = true) : exec (.bootComplete n h arg data) s =
      .next (forAll h.more (eventEffect n) (bootArrived n (confirmImage n arg.toNat data.toNat u))) := by
  have heffect : eventEffect n { ns := h.ns, code := 1, arg := arg, data := data } u = bootReported n arg data u := rfl
  have hreported : bootReported n arg data u = bootArrived n (confirmImage n arg.toNat data.toNat u) := if_pos hawaited
  rw [heffect, hreported] at htake
  exact congrArg Host.Outcome.next htake

/-- BOOT_COMPLETE of an accelerator in S9 (04 R86; 16 R500, R501). -/
theorem bootComplete_spec {n : Acc} {h : EventHdr} {arg : BitVec 16} {data : Word} {s : State}
    (hgood : goodEvents s n h { ns := h.ns, code := 1, arg := arg, data := data } = true) (hawaited : bootAwaited s n = true)
    (hbooted : s.bup.acc[n].booted = false) (htarget : s.crz.chan[accChan n].target = 9)
    (hdir : s.crz.chan[accChan n].dir ≠ 3) :
    ∃ t, exec (.bootComplete n h arg data) s = .next (forAll h.more (eventEffect n) t) ∧
      Published n h.hdr 2 (3 + 2 * h.more.length) s t ∧ t.bup.acc[n].booted = true ∧
      t.crz.chan[accChan n].stepDone = true ∧ t.crz.chan[accChan n].state = 9 ∧
      t.acc[n].xnetDrain = (s.acc[n].xnetDrain && (s.acc[n].drain.isSome || s.acc[n].decision.isSome)) ∧
      (arg.toNat = (selectOf s n).active → data.toNat = imgVersion (accSlot s n (selectOf s n).active) →
        ImageTaken n (familyOf s n) data.toNat (accSlot s n (selectOf s n).active) s t) ∧
      ((arg.toNat ≠ (selectOf s n).active ∨ data.toNat ≠ imgVersion (accSlot s n (selectOf s n).active)) → t.nv = s.nv) := by
  obtain ⟨u, htake, honly, hpublished⟩ := takeEvent_good hgood
  have hawaited' : bootAwaited u n = true := by
    rw [bootAwaited_congr honly.sys honly.crz honly.acc (by rw [honly.bup]) (by rw [honly.bup]), hawaited]
  have hnext := bootComplete_next htake hawaited'
  obtain ⟨c, hc, hconfirmed, htaken, hother⟩ := confirmImage_spec n arg.toNat data.toNat u
  rw [hc, bootArrived_confirmed hconfirmed hawaited' (by rw [honly.bup, hbooted]) (by rw [honly.crz, htarget])
    (by rwa [honly.crz])] at hnext
  rw [selectOf_congr honly.nv, accSlot_congr honly.nv, familyOf_congr honly.acc] at htaken
  rw [selectOf_congr honly.nv, accSlot_congr honly.nv] at hother
  have hstate : chState s n = 9 := chState_of_bootAwaited hawaited
  refine ⟨bootDone n c, hnext, ?_, ?_, ?_, ?_, ?_, fun hslot hversion => ?_, fun hne => ?_⟩
  · obtain ⟨r, hr, hrest⟩ := hpublished
    exact ⟨r, by rwa [bootDone_srs, hconfirmed.srs], hrest⟩
  · rw [bootDone_booted]
  · rw [bootDone_chan]
    rfl
  · rw [bootDone_chan, hconfirmed.crz, honly.crz]
    exact hstate
  · rw [bootDone_xnetDrain, hconfirmed.acc, honly.acc]
  · exact ((htaken hslot hversion).of_intakeOnly honly).bootDone
  · rw [bootDone_nv, hother hne, honly.nv]

/-! A boot attempt that fails (11 R315). -/

/-- From `s` to `t` the attempt stays, a failed boot stays failed, a reset accelerator stays in reset, and what waits waits. -/
structure BootKept (n : Acc) (s t : State) : Prop where
  attempt : t.bup.acc[n].attempt = s.bup.acc[n].attempt
  stage : s.bup.acc[n].stage = 7 → t.bup.acc[n].stage = 7
  failed : s.bup.acc[n].bootFailed = true → t.bup.acc[n].bootFailed = true
  rst : s.acc[n].rst = true → t.acc[n].rst = true
  grows : RecordGrows s t

namespace BootKept

theorem trans {n : Acc} {s t u : State} (h : BootKept n s t) (h' : BootKept n t u) : BootKept n s u :=
  ⟨h'.attempt.trans h.attempt, fun hs => h'.stage (h.stage hs), fun hs => h'.failed (h.failed hs), fun hs => h'.rst (h.rst hs),
    h.grows.trans h'.grows⟩

theorem of_eq {n : Acc} {s t : State} (hbup : t.bup = s.bup) (hacc : t.acc = s.acc) (hgrows : RecordGrows s t) :
    BootKept n s t :=
  ⟨by rw [hbup], by rw [hbup]; exact id, by rw [hbup]; exact id, by rw [hacc]; exact id, hgrows⟩

theorem either {n : Acc} {s t u : State} {c : Prop} {_ : Decidable c} (h : BootKept n s t) (h' : BootKept n s u) :
    BootKept n s (if c then t else u) := by
  split
  · exact h
  · exact h'

theorem setBup {n : Acc} {f : BupAcc → BupAcc} (s : State)
    (hattempt : ∀ b, (f b).attempt = b.attempt := by exact fun _ => rfl)
    (hstage : ∀ b, b.stage = 7 → (f b).stage = 7 := by exact fun _ h => h)
    (hfailed : ∀ b, b.bootFailed = true → (f b).bootFailed = true := by exact fun _ h => h) : BootKept n s (s.setBup n f) := by
  have hself : (s.setBup n f).bup.acc[n] = f s.bup.acc[n] := by simp
  exact ⟨by rw [hself, hattempt], by rw [hself]; exact hstage _, by rw [hself]; exact hfailed _, id, .of_eq⟩

theorem setAcc {n : Acc} {f : AccState → AccState} (s : State)
    (hrst : ∀ a, a.rst = true → (f a).rst = true := by exact fun _ h => h) : BootKept n s (s.setAcc n f) := by
  have hself : (s.setAcc n f).acc[n] = f s.acc[n] := by simp
  exact ⟨rfl, id, id, by rw [hself]; exact hrst _, .of_eq⟩

end BootKept

theorem putState_bootKept (n : Acc) (c : Chan) (k : Nat) (s : State) : BootKept n s (putState c k s) := by
  unfold putState
  simp only
  split
  · exact .of_eq rfl rfl .of_eq
  · exact .of_eq rfl rfl .of_eq

/-- A power-down from S9 ends the run, not what the boot has come to (04 R91). -/
theorem leaveDown_bootKept (n : Acc) (s : State) : BootKept n s (leaveDown n s) := by
  have hmargins : BootKept n s (marginsBack (accChan n) s) :=
    .of_eq (by rw [marginsBack_frame]) (by rw [marginsBack_frame]) (marginsBack_recordGrows ..)
  have hpark : ∀ t, BootKept n t (endPark n t) := fun t =>
    .of_eq (by rw [endPark_frame]) (by rw [endPark_frame])
      (.of_eq (by rw [endPark_frame]) (by rw [endPark_frame]) (by rw [endPark_frame]))
  have hrun : ∀ t, BootKept n t (abandonRun n t) := fun t => by
    unfold abandonRun
    exact .setBup t (hstage := fun _ h => (if_pos (Or.inl h)).trans h)
  have htop : ∀ t, BootKept n t (leaveTop n t) := fun t => ((hpark t).trans (hrun _)).trans (.setAcc _)
  have hreset : ∀ t, BootKept n t (holdReset n t) := fun t => .setAcc t (hrst := fun _ _ => rfl)
  exact (((hmargins.trans (htop _)).trans (hreset _)).trans (putState_bootKept n _ _ _)).trans (.of_eq rfl rfl .of_eq)

theorem aimAcc_bootKept (n : Acc) (k : Nat) (s : State) : BootKept n s (aimAcc n k s) := by
  have htarget : BootKept n s (setTarget (accChan n) k s) := .of_eq rfl rfl .of_eq
  unfold aimAcc aim
  simp only [accOf_accChan]
  split
  · exact htarget.trans (leaveDown_bootKept n _)
  · exact htarget

theorem writeSelect_bootKept (n : Acc) (k : Nat) (b : Bool) (s : State) : BootKept n s (writeSelect n k b s) :=
  .of_eq rfl rfl .of_eq

theorem noteVerified_bootKept (n : Acc) (b : List Byte) (s : State) : BootKept n s (noteVerified n b s) :=
  .of_eq rfl rfl .of_eq

theorem reflash_bootKept (n : Acc) (k : Nat) (s : State) : BootKept n s (reflash n k s) :=
  .of_eq rfl rfl (RecordGrows.trans .of_eq ((RecordGrows.emit ..).trans (.hostEvent ..)))

theorem bootFails_bootKept (n : Acc) (s : State) : BootKept n s (bootFails n s) := by
  unfold bootFails
  refine BootKept.trans ?_ (aimAcc_bootKept n 3 _)
  refine BootKept.trans (t := s.setBup n fun b => { b with stage := 7, bootFailed := true }) ?_ (.of_eq rfl rfl .of_eq)
  exact .setBup s (hstage := fun _ _ => rfl) (hfailed := fun _ _ => rfl)

theorem retrySlot_bootKept (n : Acc) (s : State) : BootKept n s (retrySlot n s) := by
  have htrial : BootKept n s (s.setBup n fun b =>
    { b with trialSlot := if (selectOf s n).trial then some (selectOf s n).active else none }) := .setBup s
  have hreflash : ∀ k, BootKept n s (reflash n k (s.setBup n fun b =>
    { b with trialSlot := if (selectOf s n).trial then some (selectOf s n).active else none })) := fun k =>
    htrial.trans (reflash_bootKept n k _)
  unfold retrySlot
  exact .either ((htrial.trans (writeSelect_bootKept n _ _ _)).trans (noteVerified_bootKept n _ _))
    (.either ((hreflash _).trans (noteVerified_bootKept n _ _)) ((hreflash _).trans (bootFails_bootKept n _)))

theorem abandonTrial_recordGrows (n : Acc) (s : State) : RecordGrows s (abandonTrial n s) := by
  unfold abandonTrial
  split
  · exact .refl s
  · simp only
    split
    · exact RecordGrows.trans .of_eq (.emit ..)
    · exact RecordGrows.trans .of_eq (.emit ..)

/-- A boot that fails is awaited, whichever attempt it is (11 R315). -/
structure BootTried (n : Acc) (s : State) : Prop where
  running : running s = true
  state : chState s n = 9
  stage : s.bup.acc[n].stage = 2
  booted : s.bup.acc[n].booted = false
  rst : s.acc[n].rst = false

theorem BootTried.of_intakeOnly {n : Acc} {s u : State} (h : BootTried n s) (honly : IntakeOnly s u) : BootTried n u := by
  obtain ⟨hrunning, hstate, hstage, hbooted, hrst⟩ := h
  refine ⟨?_, ?_, by rwa [honly.bup], by rwa [honly.bup], by rwa [honly.acc]⟩
  · rwa [Machine.running, honly.sys]
  · rwa [chState, honly.crz]

theorem BootTried.not_refused {n : Acc} {s : State} (h : BootTried n s) : ¬(!Machine.running s ∨ chState s n ≠ 9 ∨
    s.bup.acc[n].stage ≠ 2 ∨ s.bup.acc[n].booted ∨ s.acc[n].rst) := by
  obtain ⟨hrunning, hstate, hstage, hbooted, hrst⟩ := h
  simp only [hrunning, hstate, hstage, hbooted, hrst, Bool.not_true, Bool.false_eq_true, ne_eq, not_true_eq_false, or_self,
    not_false_eq_true]

/-- The first failure records BOOT_RETRY, and a second attempt begins in reset (11 R315). -/
theorem bootAttemptFails_first {n : Acc} {why : Nat} {s : State} (h : BootTried n s) (hfirst : s.bup.acc[n].attempt < 2)
    (hwhy : why < 65536) : (bootAttemptFails n why s).acc[n].rst = true ∧ (bootAttemptFails n why s).bup.acc[n].attempt = 2 ∧
      Raised (bootAttemptFails n why s) 7 n.1 0xFF 0x0B01 why := by
  have heq : bootAttemptFails n why s = retrySlot n (((emit s 7 n.1 0xFF 0x0B01 why).setAcc n fun a =>
      { a with rst := true, rstTick := s.sys.tick }).setBup n fun b => { b with attempt := 2 }) := by
    unfold bootAttemptFails
    simp only
    rw [if_neg h.not_refused, if_pos hfirst]
    rfl
  have hkept := retrySlot_bootKept n (((emit s 7 n.1 0xFF 0x0B01 why).setAcc n fun a =>
      { a with rst := true, rstTick := s.sys.tick }).setBup n fun b => { b with attempt := 2 })
  rw [heq]
  refine ⟨hkept.rst ?_, hkept.attempt.trans ?_, hkept.grows.raised (RecordGrows.raised .of_eq (raised_emit s _ _ _ _ _ hwhy))⟩
  · simp
  · simp

/-- The second failure ends the attempts: the target is S3, and it is reported (11 R315). -/
theorem bootAttemptFails_second {n : Acc} {why : Nat} {s : State} (h : BootTried n s) (hsecond : 2 ≤ s.bup.acc[n].attempt)
    (hwhy : why < 65520) : (bootAttemptFails n why s).bup.acc[n].stage = 7 ∧
      (bootAttemptFails n why s).bup.acc[n].bootFailed = true ∧ (bootAttemptFails n why s).crz.chan[accChan n].target = 3 ∧
      HostDue (bootAttemptFails n why s) 6 ∧ Raised (bootAttemptFails n why s) 7 n.1 0xFF 0x0B01 (0x10 + why) := by
  have heq : bootAttemptFails n why s = aimAcc n 3 (hostEvent 6 ((abandonTrial n (emit s 7 n.1 0xFF 0x0B01 (0x10 + why))).setBup n
      fun b => { b with stage := 7, bootFailed := true })) := by
    unfold bootAttemptFails
    simp only
    rw [if_neg h.not_refused, if_neg (Nat.not_lt.2 hsecond)]
  have hraised := (abandonTrial_recordGrows n _).raised (raised_emit s 7 n.1 0xFF 0x0B01 (0x10 + why) (by omega))
  generalize abandonTrial n (emit s 7 n.1 0xFF 0x0B01 (0x10 + why)) = abandoned at heq hraised
  have hstage : (abandoned.setBup n fun b => { b with stage := 7, bootFailed := true }).bup.acc[n] =
      { abandoned.bup.acc[n] with stage := 7, bootFailed := true } := by simp
  have hkept : BootKept n (hostEvent 6 (abandoned.setBup n fun b => { b with stage := 7, bootFailed := true }))
      (bootAttemptFails n why s) := heq ▸ aimAcc_bootKept n 3 _
  refine ⟨hkept.stage ?_, hkept.failed ?_, ?_, hkept.grows.hostDue (hostDue_hostEvent 6 _), hkept.grows.raised ?_⟩
  · rw [hostEvent_bup, hstage]
  · rw [hostEvent_bup, hstage]
  · rw [heq]
    exact (aimAcc_target_drain n 3 _).1
  · exact (RecordGrows.trans .of_eq (.hostEvent 6 _)).raised hraised

/-- BOOT_FAILED or BOOT_TIMEOUT, with the reason that the record gives it and the entries behind it. -/
def bootFailure (n : Acc) (s : State) (why : Nat) (more : List EventEntry) (i : Instr) : Prop :=
  (why = 2 ∧ ∃ h r, i = .bootFailed n h r ∧ more = h.more ∧
    goodEvents s n h { ns := h.ns, code := 2, arg := r, data := 0 } = true) ∨
  (why = 1 ∧ more = [] ∧ i = .bootTimeout n ∧ s.bup.acc[n].bootTick + 1000 * fld s.bup.cfg 20 12 ≤ s.sys.tick)

/-- Either fails the attempt (11 R315). -/
theorem bootFailure_next {n : Acc} {s : State} {why : Nat} {more : List EventEntry} {i : Instr}
    (h : bootFailure n s why more i) : why ≤ 2 ∧
      ∃ u, exec i s = .next (forAll more (eventEffect n) (bootAttemptFails n why u)) ∧ IntakeOnly s u := by
  rcases h with ⟨rfl, h, r, rfl, rfl, hgood⟩ | ⟨rfl, rfl, rfl, htime⟩
  · obtain ⟨u, htake, honly, -⟩ := takeEvent_good hgood
    exact ⟨by decide, u, congrArg Host.Outcome.next htake, honly⟩
  · exact ⟨by decide, s, if_neg (Nat.not_lt.2 htime), .refl s⟩

/-! ACC_RST_HOLD_END (11 R315). -/

/-- In S9, with its image verified, the accelerator leaves reset, and its boot time counts (11 R315). -/
theorem accRstHoldEnd_boot {n : Acc} {s : State} (hrst : s.acc[n].rst = true) (htime : s.acc[n].rstTick + 100 ≤ s.sys.tick)
    (hstate : chState s n = 9) (hstage : s.bup.acc[n].stage = 2) (hverified : s.sec.acc[n].verified = true)
    (hwrite : s.sec.acc[n].write = none) : exec (.accRstHoldEnd n) s = .next { s with
      acc := s.acc.set n { s.acc[n] with rst := false },
      bup := { s.bup with acc := s.bup.acc.set n { s.bup.acc[n] with bootTick := s.sys.tick } } } := by
  change execAccRstHoldEnd n s = _
  unfold execAccRstHoldEnd
  simp only
  rw [if_neg (by simp only [hrst, Nat.not_lt.2 htime, Bool.not_true, Bool.false_eq_true, or_self, not_false_eq_true]),
    if_pos hstate, if_pos ⟨hstage, hverified, by rw [hwrite]; rfl⟩]
  rfl

/-- Below, the channel tries its next step. -/
theorem accRstHoldEnd_below {n : Acc} {s : State} (hrst : s.acc[n].rst = true) (htime : s.acc[n].rstTick + 100 ≤ s.sys.tick)
    (hstate : chState s n ≠ 9) : exec (.accRstHoldEnd n) s = .next (crzUp (accChan n) s) := by
  change execAccRstHoldEnd n s = _
  unfold execAccRstHoldEnd
  simp only
  rw [if_neg (by simp only [hrst, Nat.not_lt.2 htime, Bool.not_true, Bool.false_eq_true, or_self, not_false_eq_true]),
    if_neg hstate]

/-- Settles O38: a reported boot completes its step and confirms its image (`bootComplete_spec`), and each failed attempt goes
by its number (`bootAttemptFails`). -/
theorem acceleratorBootRows : Obligations.AcceleratorBootRows := by
  unfold Obligations.AcceleratorBootRows
  refine ⟨fun n h arg data s hgood hawaited hbooted htarget hdir => ?_,
    fun i why more n s hrunning hstate hstage hbooted hrst hfailure => ?_,
    fun n s hrst htime => ⟨accRstHoldEnd_boot hrst htime, accRstHoldEnd_below hrst htime⟩⟩
  · obtain ⟨t, hnext, hpublished, hdone, hstep, hstate, hpin, htaken, hother⟩ :=
      bootComplete_spec hgood hawaited hbooted htarget hdir
    refine ⟨t, hnext, hpublished, hdone, hstep, hstate, hpin, fun hslot hversion => ?_, hother⟩
    obtain ⟨htrial, hselect, hlkg⟩ := htaken hslot hversion
    exact ⟨htrial, hselect, hlkg⟩
  · obtain ⟨hwhy, u, hnext, honly⟩ := bootFailure_next hfailure
    have htried : BootTried n u := BootTried.of_intakeOnly ⟨hrunning, hstate, hstage, hbooted, hrst⟩ honly
    rw [← honly.bup]
    exact ⟨fun hfirst => ⟨_, hnext, bootAttemptFails_first htried hfirst (by omega)⟩,
      fun hsecond => ⟨_, hnext, bootAttemptFails_second htried hsecond (by omega)⟩⟩

end Sys2Proof.Machine
end

section
/-! SUPPORT. The supervision commands (05 R139, R149; 15 R457), and the traces of a command whose rule leaves a known state. -/

namespace Sys2Proof.Machine

open Sys2Proof

/-! The traces of any command. -/

/-- Whatever its rule left, an admitted command adds only its traces. -/
theorem settled_bookkept_applied (f : Frame) (c : Cmd) (bus : Option TransferEnd) (s : State) :
    settled f c bus s = bookkept (applied f c bus s).1 (settled f c bus s) := by
  rw [settled_frame]
  rfl

/-- Taking a command leaves only what counts as its traces. -/
theorem bookkept_taken (f : Frame) (c : Cmd) (s t : State) : bookkept (taken f c s) t = bookkept s t := by
  rw [taken_frame]
  rfl

/-- A command that moves the supervision alone leaves besides only its traces. -/
theorem settled_bookkept_sup {f : Frame} {c : Cmd} {bus : Option TransferEnd} {s : State} {u : SupState}
    (h : (applied f c bus s).1 = { taken f c s with sup := u }) :
    settled f c bus s = { bookkept s (settled f c bus s) with sup := u } := by
  calc settled f c bus s
      = bookkept { taken f c s with sup := u } (settled f c bus s) := h ▸ settled_bookkept_applied f c bus s
    _ = { bookkept (taken f c s) (settled f c bus s) with sup := u } := rfl
    _ = { bookkept s (settled f c bus s) with sup := u } := by rw [bookkept_taken]

/-- Applying an admitted command gives `u` and the answer OK, and its registers are stored: it waits for that (15 R448). -/
theorem settled_stored (c : Cmd) {f : Frame} {s u : State} (hkey : (storeKey c).isSome) (h : applied f c none s = done u) :
    (applied f c none s).1 = u ∧ AwaitsStore f c (settled f c none s) :=
  ⟨congrArg Prod.fst h, settled_waits (congrArg Prod.snd h) rfl hkey⟩

/-! The operands. -/

theorem railByte_eq {b : Byte} {r : Rail} (h : b.toNat = r.1) : railByte b = some r := by
  simp [railByte, h]

theorem fastByte_eq {b : Byte} {k : Fin 16} (h : b.toNat = k.1) : fastByte b = some k := by
  simp [fastByte, h]

theorem onSome_eq {α : Type} {o : Option α} {x : α} (h : o = some x) (g : α → State → State × Option Ans) (s : State) :
    onSome o g s = g x s := by
  rw [h]
  rfl

/-! What a command that is taken leaves of the values that these rules read. -/

section
variable (f : Frame) (c : Cmd) (s : State)

@[simp] theorem declared_taken (r : Rail) : declared (taken f c s) r = declared s r := by rw [taken_frame]; rfl
@[simp] theorem marginReason_taken (r : Rail) (n : Acc) (m : Int) :
    marginReason (taken f c s) r n m = marginReason s r n m := by rw [taken_frame]; rfl

end

/-! The rules. -/

/-- A change of windows joins the staged set (05 R139). -/
def windowStaged (x : SupSet) (s : State) : State := s.modSup fun u => { u with staged := u.staged ++ [x] }

/-- The window of a rail, declared where it is a spare one, with room for the margin of one with a margin of its own
(05 R139; 00 R10). -/
theorem applySetWindow_done {r : Rail} {w d : Word} {s : State} (hspare : 118 ≤ r.1 → declared s r = true)
    (hfits : r.1 < 112 → r.1 % 14 ≠ 11 → r.1 % 14 ≠ 12 → marginFits w s.sup.marginNow[r] = true) :
    applySetWindow r w d s = done (windowStaged (.window r w d) s) := by
  have hdeclared : ¬(118 ≤ r.1 ∧ (!declared s r) = true) := fun ⟨h, hnot⟩ => by
    rw [hspare h] at hnot
    exact Bool.false_ne_true hnot
  have hroom : ¬(r.1 < 112 ∧ r.1 % 14 ≠ 11 ∧ r.1 % 14 ≠ 12 ∧ (!marginFits w s.sup.marginNow[r]) = true) :=
    fun ⟨hacc, h0, h1, hnot⟩ => by
      rw [hfits hacc h0 h1] at hnot
      exact Bool.false_ne_true hnot
  exact (if_neg hdeclared).trans (if_neg hroom)

/-- The target of a margin that nothing refuses (05 R149). -/
def marginAimed (r : Rail) (m : Int) (s : State) : State :=
  s.modSup fun u => { u with marginTgt := u.marginTgt.set r m }

theorem applyMargin_done {r : Rail} {n : Acc} {m : Int} {s : State} (hacc : accOfRail r = some n)
    (hreason : marginReason s r n m = 0) : applyMargin r m s = done (marginAimed r m s) := by
  unfold applyMargin
  simp [hacc, hreason, marginAimed]

/-- Settles O12: each command by the rule that applies it, on the state in which it is taken. -/
theorem supervisionCommands : Obligations.SupervisionCommands := by
  unfold Obligations.SupervisionCommands
  refine ⟨fun f b r w d s h hb hspare hfits => ?_, fun f b k w s h hb => ?_, fun f b m r n s h hb hacc hreason => ?_⟩
  · have hrule : applied f (.supSetWindow b w d) none s =
        done (windowStaged (.window r w d) (taken f (.supSetWindow b w d) s)) :=
      (onSome_eq (railByte_eq hb) ..).trans (applySetWindow_done (by simpa using hspare) (by simpa using hfits))
    obtain ⟨happlied, hwaits⟩ := settled_stored (.supSetWindow b w d) rfl hrule
    refine ⟨_, runCommand_settled h none, settled_bookkept_sup (happlied.trans ?_), hwaits⟩
    rw [windowStaged, State.modSup, taken_sup]
  · have hrule : applied f (.supSetFastWindow b w) none s =
        done (windowStaged (.fast k w) (taken f (.supSetFastWindow b w) s)) :=
      onSome_eq (fastByte_eq hb) ..
    obtain ⟨happlied, hwaits⟩ := settled_stored (.supSetFastWindow b w) rfl hrule
    refine ⟨_, runCommand_settled h none, settled_bookkept_sup (happlied.trans ?_), hwaits⟩
    rw [windowStaged, State.modSup, taken_sup]
  · have hrule : applied f (.supMargin b m) none s = done (marginAimed r m.toInt (taken f (.supMargin b m) s)) :=
      (onSome_eq (railByte_eq hb) ..).trans (applyMargin_done hacc (by simpa using hreason))
    obtain ⟨happlied, hans⟩ := settled_done (.supMargin b m) rfl hrule
    refine ⟨_, runCommand_settled h none, settled_bookkept_sup (happlied.trans ?_), hans⟩
    rw [marginAimed, State.modSup, taken_sup]

end Sys2Proof.Machine
end

section
/-! SUPPORT. Supervision by the scan and the readbacks (05 R133, R146, R151; 17 R515): the converters, the steps of a margin, and a
readback that is stale. -/

namespace Sys2Proof.Machine

open Sys2Proof

/-! A converter in fault, and the degradation that SAF_STATUS shows (05 R133, 17 R515). -/

/-- Either converter is in fault. -/
def anyConvFault (s : State) : Bool := s.sup.scFault[(0 : Fin 2)] || s.sup.scFault[(1 : Fin 2)]

theorem anyConvFault_eq (c : Fin 2) (s : State) : anyConvFault s = (s.sup.scFault[c] || s.sup.scFault[1 - c]) := by
  have hc : c = 0 ∨ c = 1 := by omega
  rcases hc with rfl | rfl
  · rfl
  · exact Bool.or_comm ..

/-- DEGRADED follows the converters, and a change of it is recorded. -/
def degradationNoted (s : State) : State :=
  if s.saf.degraded == anyConvFault s then s
  else emit (s.modSaf fun f => { f with degraded := anyConvFault s }) 2 9 0xFF 0x1105 (if anyConvFault s then 1 else 0)

/-- Besides, the time since which both converters are in fault is kept. -/
theorem degrade_eq (s : State) : degrade s = bothFaulty (degradationNoted s) := rfl

theorem bothFaulty_recordGrows (s : State) : RecordGrows s (bothFaulty s) := .of_eq

theorem degradationNoted_spec (s : State) :
    degradationNoted s = { s with rcd := (degradationNoted s).rcd, saf := (degradationNoted s).saf } ∧
      (degradationNoted s).saf.degraded = anyConvFault s ∧ RecordGrows s (degradationNoted s) := by
  unfold degradationNoted
  split
  next h => exact ⟨rfl, by simpa using h, .refl s⟩
  · exact ⟨rfl, rfl, RecordGrows.trans (t := s.modSaf _) .of_eq (.emit ..)⟩

/-- Both touch the record and the SAFE block alone. -/
theorem degrade_spec (s : State) : degrade s = { s with rcd := (degrade s).rcd, saf := (degrade s).saf } ∧
    (degrade s).saf.degraded = anyConvFault s ∧ RecordGrows s (degrade s) := by
  obtain ⟨hframe, hdegraded, hgrows⟩ := degradationNoted_spec s
  exact ⟨congrArg (fun u => { u with saf := (degrade s).saf }) hframe, hdegraded, hgrows.trans (bothFaulty_recordGrows _)⟩

/-- A degradation that begins is recorded. -/
theorem raised_degrade {s : State} (hclear : s.saf.degraded = false) (hfault : anyConvFault s = true) :
    Raised (degrade s) 2 9 0xFF 0x1105 1 := by
  have hnoted : Raised (degradationNoted s) 2 9 0xFF 0x1105 1 := by
    unfold degradationNoted
    simp only [hclear, hfault]
    exact raised_emit _ 2 9 0xFF 0x1105 1 (by decide)
  exact (bothFaulty_recordGrows _).raised hnoted

/-- A converter after two failing scans: in fault, and seen so until it is acknowledged (05 R133, R154). -/
def convFailed (c : Fin 2) (s : State) : State := s.modSup fun u => { u with
  scFault := u.scFault.set c true, scSeen := u.scSeen.set c true, scRun := u.scRun.set c 0 }

theorem convFault_next {c : Fin 2} {s : State} (hgood : s.sup.scFault[c] = false) (hrun : 2 ≤ s.sup.scRun[c]) :
    exec (.convFault c) s = .next (degrade (emit (convFailed c s) 2 9 c.1 0x0501 1)) := by
  refine if_neg ?_
  rw [hgood, decide_eq_false (Nat.not_lt.2 hrun)]
  exact Bool.false_ne_true

/-- A converter after 16 passing scans (05 R133). -/
def convPassed (c : Fin 2) (s : State) : State := s.modSup fun u => { u with
  scFault := u.scFault.set c false, scRun := u.scRun.set c 0 }

theorem convFaultClear_next {c : Fin 2} {s : State} (hbad : s.sup.scFault[c] = true) (hrun : 16 ≤ s.sup.scRun[c]) :
    exec (.convFaultClear c) s = .next (degrade (emit (convPassed c s) 2 9 c.1 0x0501 0)) := by
  refine if_neg ?_
  rw [hbad, decide_eq_false (Nat.not_lt.2 hrun)]
  exact Bool.false_ne_true

theorem convPassed_fault (c : Fin 2) (s : State) : (convPassed c s).sup.scFault[c] = false ∧
    (convPassed c s).sup.scFault[1 - c] = s.sup.scFault[1 - c] := by
  have hne : c.1 ≠ (1 - c : Fin 2).1 := by
    have hc : c = 0 ∨ c = 1 := by omega
    rcases hc with rfl | rfl <;> decide
  exact ⟨by simp [convPassed], by simp [convPassed, Vector.getElem_set_ne _ _ hne]⟩

/-- A degradation after a change of the supervision `u` and an event leaves the rest of the FM8. -/
theorem degrade_emit_frame {s u : State} (h : u = { s with sup := u.sup }) (cls unit obj code detail : Nat) :
    degrade (emit u cls unit obj code detail) = { s with
      rcd := (degrade (emit u cls unit obj code detail)).rcd, sup := (degrade (emit u cls unit obj code detail)).sup,
      saf := (degrade (emit u cls unit obj code detail)).saf } := by
  have hemit : emit u cls unit obj code detail = { s with rcd := (emit u cls unit obj code detail).rcd, sup := u.sup } := by
    conv_lhs => rw [h]
    rw [h]
    rfl
  rw [(degrade_spec _).1, hemit]

theorem degrade_sup (s : State) : (degrade s).sup = s.sup := by rw [(degrade_spec s).1]

/-- Two failing scans (05 R133, 17 R515). -/
theorem convFault_row (c : Fin 2) (s : State) (hgood : s.sup.scFault[c] = false) (hrun : 2 ≤ s.sup.scRun[c]) :
    ∃ t, exec (.convFault c) s = .next t ∧ t.sup.scFault[c] = true ∧ t.sup.scRun[c] = 0 ∧ t.saf.degraded = true ∧
      Raised t 2 9 c.1 0x0501 1 ∧ (s.saf.degraded = false → Raised t 2 9 0xFF 0x1105 1) ∧
      t = { s with rcd := t.rcd, sup := t.sup, saf := t.saf } := by
  have hfault : (convFailed c s).sup.scFault[c] = true := by simp [convFailed]
  have hany : anyConvFault (emit (convFailed c s) 2 9 c.1 0x0501 1) = true := by
    rw [anyConvFault_eq c]
    exact congrArg (· || _) hfault
  obtain ⟨-, hdegraded, hgrows⟩ := degrade_spec (emit (convFailed c s) 2 9 c.1 0x0501 1)
  refine ⟨_, convFault_next hgood hrun, ?_, ?_, hdegraded.trans hany,
    hgrows.raised (raised_emit _ 2 9 c.1 0x0501 1 (by decide)), fun hclear => raised_degrade hclear hany,
    degrade_emit_frame rfl ..⟩
  · rw [degrade_sup]
    exact hfault
  · rw [degrade_sup]
    simp [convFailed, emit]

/-- Sixteen passing scans (05 R133, 17 R515). -/
theorem convFaultClear_row (c : Fin 2) (s : State) (hbad : s.sup.scFault[c] = true) (hrun : 16 ≤ s.sup.scRun[c]) :
    ∃ t, exec (.convFaultClear c) s = .next t ∧ t.sup.scFault[c] = false ∧ t.sup.scFault[1 - c] = s.sup.scFault[1 - c] ∧
      t.saf.degraded = s.sup.scFault[1 - c] ∧ Raised t 2 9 c.1 0x0501 0 ∧
      t = { s with rcd := t.rcd, sup := t.sup, saf := t.saf } := by
  obtain ⟨hself, hother⟩ := convPassed_fault c s
  obtain ⟨-, hdegraded, hgrows⟩ := degrade_spec (emit (convPassed c s) 2 9 c.1 0x0501 0)
  have hany : anyConvFault (emit (convPassed c s) 2 9 c.1 0x0501 0) = s.sup.scFault[1 - c] := by
    rw [anyConvFault_eq c]
    exact (congrArg₂ (· || ·) hself hother).trans (Bool.false_or _)
  refine ⟨_, convFaultClear_next hbad hrun, ?_, ?_, hdegraded.trans hany,
    hgrows.raised (raised_emit _ 2 9 c.1 0x0501 0 (by decide)), degrade_emit_frame rfl ..⟩
  · rw [degrade_sup]
    exact hself
  · rw [degrade_sup]
    exact hother

/-! One step of a margin (05 R150, R151). -/

theorem twos_lt (m : Int) : twos 16 m < 65536 := by
  unfold twos
  omega

/-- MARGIN_SET of a rail, with its tick. -/
def marginMoved (r : Rail) (m : Int) (s : State) : State := s.modSup fun u => { u with
  marginNow := u.marginNow.set r m, marginTick := u.marginTick.set r s.sys.tick }

/-- The set-point of a rail written with its margin, over AVSBus or PMBus (05 R150; 13 R387). -/
def marginWritten (n : Acc) (r : Rail) (m : Int) (s : State) : State :=
  if r.1 % 14 = 11 then avsWrite n 0 s else if r.1 % 14 = 12 then avsWrite n 1 s
  else if s.twb.formatFault[r] then s
  else (s.setEntry r fun e => { e with written := true }).send (.vout r (margined s.sup.baseMv[r] m))

theorem setMargin_eq {r : Rail} {n : Acc} (h : accOfRail r = some n) (m : Int) (s : State) :
    setMargin r m s = marginWritten n r m (emit (marginMoved r m s) 7 n.1 r.1 0x0505 (twos 16 m)) := by
  unfold setMargin
  rw [h]
  rfl

/-- From `s` to `t` the pins, Crozier and the margins stay, and what waits for the record too. -/
structure MarginsKept (s t : State) : Prop where
  acc : t.acc = s.acc
  crz : t.crz = s.crz
  now : t.sup.marginNow = s.sup.marginNow
  tick : t.sup.marginTick = s.sup.marginTick
  grows : RecordGrows s t

theorem avsWrite_marginsKept (n : Acc) (k : Fin 2) (s : State) : MarginsKept s (avsWrite n k s) := by
  unfold avsWrite
  simp only
  split <;> exact ⟨rfl, rfl, rfl, rfl, .of_eq⟩

theorem marginWritten_marginsKept (n : Acc) (r : Rail) (m : Int) (s : State) : MarginsKept s (marginWritten n r m s) := by
  unfold marginWritten
  split
  · exact avsWrite_marginsKept n 0 s
  split
  · exact avsWrite_marginsKept n 1 s
  split <;> exact ⟨rfl, rfl, rfl, rfl, .of_eq⟩

/-- A margin that takes a new value. -/
theorem setMargin_spec {r : Rail} {n : Acc} (h : accOfRail r = some n) (m : Int) (s : State) :
    (setMargin r m s).sup.marginTick[r] = s.sys.tick ∧ (setMargin r m s).sup.marginNow[r] = m ∧
      Raised (setMargin r m s) 7 n.1 r.1 0x0505 (twos 16 m) ∧ (setMargin r m s).crz = s.crz ∧ (setMargin r m s).acc = s.acc := by
  have hkept := marginWritten_marginsKept n r m (emit (marginMoved r m s) 7 n.1 r.1 0x0505 (twos 16 m))
  rw [setMargin_eq h]
  refine ⟨?_, ?_, hkept.grows.raised (raised_emit _ 7 n.1 r.1 0x0505 _ (twos_lt m)), hkept.crz, hkept.acc⟩
  · rw [hkept.tick]
    simp [marginMoved, emit]
  · rw [hkept.now]
    simp [marginMoved, emit]

theorem marginStep_next {r : Rail} {s : State} (hmoves : s.sup.marginNow[r] ≠ s.sup.marginTgt[r])
    (htime : s.sup.marginTick[r] + 100 ≤ s.sys.tick) (hsettled : marginSettled s r = true)
    (hstale : s.sup.entry[r].stale = false) : exec (.marginStep r) s = .next (setMargin r
      (if s.sup.marginNow[r] < s.sup.marginTgt[r] then s.sup.marginNow[r] + 1 else s.sup.marginNow[r] - 1) s) :=
  if_neg fun h => by
    rcases h with h | h | h | h
    · exact hmoves h
    · omega
    · rw [hsettled] at h
      exact Bool.false_ne_true h
    · rw [hstale] at h
      exact Bool.false_ne_true h

/-- A margin moves one step once its last has settled (05 R151). -/
theorem marginStep_row (r : Rail) (n : Acc) (s : State) (hacc : accOfRail r = some n)
    (hmoves : s.sup.marginNow[r] ≠ s.sup.marginTgt[r]) (htime : s.sup.marginTick[r] + 100 ≤ s.sys.tick)
    (hsettled : marginSettled s r = true) (hstale : s.sup.entry[r].stale = false) :
    ∃ t, exec (.marginStep r) s = .next t ∧ t.sup.marginTick[r] = s.sys.tick ∧
      t.sup.marginNow[r] = (if s.sup.marginNow[r] < s.sup.marginTgt[r] then s.sup.marginNow[r] + 1
        else s.sup.marginNow[r] - 1) ∧
      Raised t 7 n.1 r.1 0x0505 (twos 16 t.sup.marginNow[r]) ∧ t.crz = s.crz ∧ t.acc = s.acc := by
  obtain ⟨htick, hnow, hraised, hcrz, hkept⟩ := setMargin_spec hacc
    (if s.sup.marginNow[r] < s.sup.marginTgt[r] then s.sup.marginNow[r] + 1 else s.sup.marginNow[r] - 1) s
  exact ⟨_, marginStep_next hmoves htime hsettled hstale, htick, hnow, by rwa [hnow], hcrz, hkept⟩

/-! Readbacks that are stale (05 R146). -/

/-- What a change of one rail's entry leaves in another's. -/
theorem setEntry_entry_of_ne {q r : Rail} (h : q ≠ r) (f : RailEntry → RailEntry) (s : State) :
    (s.setEntry q f).sup.entry[r] = s.sup.entry[r] := by
  have hne : q.1 ≠ r.1 := fun e => h (Fin.ext e)
  simp [Vector.getElem_set_ne _ _ hne]

theorem setEntry_entry_self (r : Rail) (f : RailEntry → RailEntry) (s : State) :
    (s.setEntry r f).sup.entry[r] = f s.sup.entry[r] := by simp

/-- A rail with readbacks is overdue for the first time (05 R146). -/
def turnsStale (s : State) (r : Rail) : Prop := r.1 % 14 ≠ 8 ∧ s.sup.entry[r].stale = false ∧ overdue s r = true

/-- DETAIL of a stale readback: 0 for AVSBus, 1 for PMBus (05 R146). -/
def staleDetail (r : Rail) : Nat := if r.1 % 14 = 11 ∨ r.1 % 14 = 12 then 0 else 1

theorem staleOne_of {r : Rail} {s : State} (h : turnsStale s r) : staleOne r s =
    emit (s.setEntry r fun e => { e with stale := true }) 3 (r.1 / 14) r.1 0x0504 (staleDetail r) := by
  obtain ⟨hrail, hfresh, hover⟩ := h
  refine if_neg fun hnot => ?_
  rcases hnot with h | h | h
  · exact hrail h
  · rw [hfresh] at h
    exact Bool.false_ne_true h
  · rw [hover] at h
    exact Bool.false_ne_true h

theorem staleOne_of_not {r : Rail} {s : State} (h : ¬turnsStale s r) : staleOne r s = s := by
  refine if_pos (Classical.byContradiction fun hnot => h ?_)
  simpa only [turnsStale, not_or, ne_eq, Bool.not_eq_true, Bool.not_eq_false'] using hnot

/-- From `s` to `t` only the record and the rail entries differ, and what waits stays. -/
structure EntriesOnly (s t : State) : Prop where
  frame : t = { s with rcd := t.rcd, sup := { s.sup with entry := t.sup.entry } }
  waits : ∀ w ∈ s.rcd.merger, w ∈ t.rcd.merger

theorem EntriesOnly.trans {s t u : State} (h : EntriesOnly s t) (h' : EntriesOnly t u) : EntriesOnly s u :=
  ⟨by rw [h'.frame, h.frame], fun w hw => h'.waits w (h.waits w hw)⟩

theorem EntriesOnly.sys {s t : State} (h : EntriesOnly s t) : t.sys = s.sys := by rw [h.frame]

theorem staleOne_entriesOnly (r : Rail) (s : State) : EntriesOnly s (staleOne r s) := by
  by_cases h : turnsStale s r
  · rw [staleOne_of h]
    exact ⟨rfl, fun _ hw => mem_emit hw ..⟩
  · rw [staleOne_of_not h]
    exact ⟨rfl, fun _ hw => hw⟩

theorem staleOne_entry_of_ne {q r : Rail} (h : q ≠ r) (s : State) : (staleOne q s).sup.entry[r] = s.sup.entry[r] := by
  by_cases hq : turnsStale s q
  · rw [staleOne_of hq, emit_sup]
    exact setEntry_entry_of_ne h _ s
  · rw [staleOne_of_not hq]

/-- Whether a rail turns stale depends on SYS_ and its entry. -/
theorem turnsStale_congr {s t : State} {r : Rail} (hsys : t.sys = s.sys) (hentry : t.sup.entry[r] = s.sup.entry[r]) :
    turnsStale t r ↔ turnsStale s r := by
  unfold turnsStale overdue
  rw [hsys, hentry]

/-- The rails that the row goes through (05 R146). -/
theorem readbackStale_next (s : State) : exec .readbackStale s =
    .next (forAll (List.finRange 112) (fun q t => staleOne (q.castLE (by omega)) t) s) := rfl

/-- A rail without a fresh overdue readback keeps its entry. -/
theorem forAll_staleOne_kept {r : Rail} {s : State} (h : ¬(r.1 < 112 ∧ turnsStale s r)) (l : List (Fin 112)) :
    (forAll l (fun q t => staleOne (q.castLE (by omega)) t) s).sup.entry[r] = s.sup.entry[r] := by
  refine (forAll_inv (fun t => t.sys = s.sys ∧ t.sup.entry[r] = s.sup.entry[r]) _ l (fun q t ⟨hsys, hentry⟩ => ?_) s
    ⟨rfl, rfl⟩).2
  refine ⟨(staleOne_entriesOnly _ t).sys.trans hsys, ?_⟩
  by_cases hq : q.castLE (by omega) = r
  · have hlt : r.1 < 112 := hq ▸ q.2
    rw [hq, staleOne_of_not fun hturns => h ⟨hlt, (turnsStale_congr hsys hentry).1 hturns⟩, hentry]
  · rw [staleOne_entry_of_ne hq, hentry]

/-- From `s` to `t` rail `r` has turned stale, and that is recorded. -/
structure TurnedStale (r : Rail) (s t : State) : Prop where
  sys : t.sys = s.sys
  entry : t.sup.entry[r] = { s.sup.entry[r] with stale := true }
  raised : Raised t 3 (r.1 / 14) r.1 0x0504 (staleDetail r)

/-- A stale rail stays so. -/
theorem TurnedStale.staleOne {r : Rail} {s t : State} (h : TurnedStale r s t) (q : Rail) : TurnedStale r s (staleOne q t) := by
  have honly := staleOne_entriesOnly q t
  refine ⟨honly.sys.trans h.sys, ?_, h.raised.mono (congrArg SysState.tick honly.sys) honly.waits⟩
  by_cases hq : q = r
  · subst hq
    have hstale : ¬turnsStale t q := fun ⟨_, hfresh, _⟩ => by
      rw [h.entry] at hfresh
      exact Bool.noConfusion hfresh
    rw [staleOne_of_not hstale, h.entry]
  · rw [staleOne_entry_of_ne hq, h.entry]

theorem turnedStale_staleOne {r : Rail} {s t : State} (hsys : t.sys = s.sys) (hentry : t.sup.entry[r] = s.sup.entry[r])
    (h : turnsStale s r) : TurnedStale r s (staleOne r t) := by
  rw [staleOne_of ((turnsStale_congr hsys hentry).2 h)]
  refine ⟨hsys, ?_, raised_emit _ 3 (r.1 / 14) r.1 0x0504 (staleDetail r) ?_⟩
  · rw [emit_sup, ← hentry]
    exact setEntry_entry_self r _ t
  · unfold staleDetail
    split <;> decide

/-- A rail with a fresh overdue readback turns stale. -/
theorem forAll_staleOne_stale {r : Rail} {s : State} (hlt : r.1 < 112) (h : turnsStale s r) :
    TurnedStale r s (forAll (List.finRange 112) (fun q t => staleOne (q.castLE (by omega)) t) s) := by
  refine forAll_at (fun t => (t.sys = s.sys ∧ t.sup.entry[r] = s.sup.entry[r]) ∨ TurnedStale r s t) (TurnedStale r s) _
    (a := ⟨r.1, hlt⟩) (List.mem_finRange _) (fun q t ht => ?_) (fun t ht => ?_) (fun q t ht => ht.staleOne _) (.inl ⟨rfl, rfl⟩)
  · rcases ht with ⟨hsys, hentry⟩ | ht
    · by_cases hq : q.castLE (by omega) = r
      · rw [hq]
        exact .inr (turnedStale_staleOne hsys hentry h)
      · exact .inl ⟨(staleOne_entriesOnly _ t).sys.trans hsys, (staleOne_entry_of_ne hq t).trans hentry⟩
    · exact .inr (ht.staleOne _)
  · rcases ht with ⟨hsys, hentry⟩ | ht
    · exact turnedStale_staleOne hsys hentry h
    · exact ht.staleOne _

theorem forAll_staleOne_entriesOnly (l : List (Fin 112)) (s : State) :
    EntriesOnly s (forAll l (fun q t => staleOne (q.castLE (by omega)) t) s) :=
  forAll_inv (EntriesOnly s) _ l (fun _ t ht => ht.trans (staleOne_entriesOnly _ t)) s ⟨rfl, fun _ hw => hw⟩

/-- When a rail of an accelerator turns stale: three periods of a readback without one, 100 us on AVSBus and 10 ms on PMBus
(05 R146). -/
theorem turnsStale_iff (s : State) (r : Rail) : turnsStale s r ↔ r.1 % 14 ≠ 8 ∧ s.sup.entry[r].stale = false ∧
    (s.sup.entry[r].readTick + (if r.1 % 14 = 11 ∨ r.1 % 14 = 12 then 30 else 3000) < s.sys.tick ∨
      s.sup.entry[r].curTick + (if r.1 % 14 = 11 ∨ r.1 % 14 = 12 then 30 else 3000) < s.sys.tick) := by
  simp only [turnsStale, overdue, Bool.or_eq_true, decide_eq_true_eq]

/-- Every accelerator rail whose readback is overdue turns stale, and no other entry moves (05 R146). -/
theorem readbackStale_row (s : State) : ∃ t, exec .readbackStale s = .next t ∧
    t = { s with rcd := t.rcd, sup := { s.sup with entry := t.sup.entry } } ∧
    ∀ r : Rail, let core := r.1 % 14 = 11 ∨ r.1 % 14 = 12
      ((r.1 < 112 ∧ r.1 % 14 ≠ 8 ∧ s.sup.entry[r].stale = false ∧
          (s.sup.entry[r].readTick + (if core then 30 else 3000) < s.sys.tick ∨
            s.sup.entry[r].curTick + (if core then 30 else 3000) < s.sys.tick)) →
        t.sup.entry[r] = { s.sup.entry[r] with stale := true } ∧
        Raised t 3 (r.1 / 14) r.1 0x0504 (if core then 0 else 1)) ∧
      (¬(r.1 < 112 ∧ r.1 % 14 ≠ 8 ∧ s.sup.entry[r].stale = false ∧
          (s.sup.entry[r].readTick + (if core then 30 else 3000) < s.sys.tick ∨
            s.sup.entry[r].curTick + (if core then 30 else 3000) < s.sys.tick)) → t.sup.entry[r] = s.sup.entry[r]) := by
  obtain ⟨t, hnext, honly, hstale, hkept⟩ : ∃ t, exec .readbackStale s = .next t ∧ EntriesOnly s t ∧
      (∀ r : Rail, r.1 < 112 → turnsStale s r → TurnedStale r s t) ∧
      ∀ r : Rail, ¬(r.1 < 112 ∧ turnsStale s r) → t.sup.entry[r] = s.sup.entry[r] :=
    ⟨_, readbackStale_next s, forAll_staleOne_entriesOnly _ s, fun _ hlt h => forAll_staleOne_stale hlt h,
      fun _ h => forAll_staleOne_kept h _⟩
  refine ⟨t, hnext, honly.frame, fun r => ⟨fun ⟨hlt, hover⟩ => ?_, fun hnot => ?_⟩⟩
  · obtain ⟨-, hentry, hraised⟩ := hstale r hlt ((turnsStale_iff s r).2 hover)
    exact ⟨hentry, hraised⟩
  · exact hkept r fun ⟨hlt, hturns⟩ => hnot ⟨hlt, (turnsStale_iff s r).1 hturns⟩

end Sys2Proof.Machine
end

section
/-! SUPPORT. The end of a set-point change (03 R81; 05 R137; 06 R185): the change, the park and the clocks of an accelerator, what
the words to it and the steps of its channel leave of them, and a change that is reached or late. -/

namespace Sys2Proof.Machine

open Sys2Proof

/-! What a set-point change moves (03 R81). -/

/-- The set-point change of an accelerator, its park, and what bounds its clocks: OPP, bands and common frequencies. -/
structure SetClocks where
  change : Option SetChange
  park : Park
  opp : Nat
  bands : List Nat
  caps : List Nat

/-- These parts of a state. -/
def setClocks (n : Acc) (s : State) : SetClocks :=
  { change := s.acc[n].change, park := s.str.acc[n].park, opp := s.srs.link[n].cOpp, bands := s.str.acc[n].fmaxBands,
    caps := s.str.acc[n].feltCaps }

theorem setClocks_setLink (n : Acc) {f : LinkState → LinkState} (s : State)
    (hf : ∀ l, (f l).cOpp = l.cOpp := by exact fun _ => rfl) : setClocks n (s.setLink n f) = setClocks n s := by
  simp [setClocks, hf]

theorem setClocks_setAcc (n : Acc) {f : AccState → AccState} (s : State)
    (hf : ∀ a, (f a).change = a.change := by exact fun _ => rfl) : setClocks n (s.setAcc n f) = setClocks n s := by
  simp [setClocks, hf]

/-! Words to the accelerator (10 R295 to R298). -/

theorem setClocks_sendWord (n : Acc) (ty : Byte) (body : List Byte) (s : State) :
    setClocks n (sendWord n ty body s) = setClocks n s := by
  unfold sendWord
  split
  · rfl
  split
  · exact setClocks_setLink n s
  · rfl

theorem setClocks_sendCommit (n : Acc) (whole : Bool) (s : State) :
    setClocks n (sendCommit n whole s) = setClocks n s := by
  unfold sendCommit
  simp only
  split
  · rfl
  · rw [setClocks_setLink, setClocks_sendWord]
    exact forAll_keeps (setClocks n) _ (fun _ _ => setClocks_sendWord ..) _ s

theorem sendCommit_crz (n : Acc) (whole : Bool) (s : State) : (sendCommit n whole s).crz = s.crz := by
  unfold sendCommit
  simp only
  split
  · rfl
  · rw [State.setLink_crz, sendWord_crz]
    exact forAll_keeps State.crz _ (fun _ _ => sendWord_crz ..) _ s

theorem setClocks_sendPark (n : Acc) (on : Bool) (s : State) : setClocks n (sendPark n on s) = setClocks n s :=
  (setClocks_sendWord ..).trans (setClocks_setLink n s)

theorem sendPark_crz (n : Acc) (on : Bool) (s : State) : (sendPark n on s).crz = s.crz := sendWord_crz ..

/-- Step 4 of 03 R81: the clocks are those of the OPP, band and common frequency, and nothing else bounds them. -/
theorem setClocks_raiseClocks (n : Acc) (k band felt : Nat) (s : State) : setClocks n (raiseClocks n k band felt s) =
    { setClocks n s with opp := k, bands := [band], caps := [felt] } := by
  unfold raiseClocks
  simp only
  split
  next h =>
    obtain ⟨hopp, hbands, hcaps⟩ := h
    rw [← hopp, ← hbands, ← hcaps]
    rfl
  · rw [setClocks_sendCommit]
    simp [setClocks]

theorem raiseClocks_crz (n : Acc) (k band felt : Nat) (s : State) : (raiseClocks n k band felt s).crz = s.crz := by
  unfold raiseClocks
  simp only
  split
  · rfl
  · rw [sendCommit_crz]
    rfl

/-! A step of the channel that is complete (04 R88), but for the one to S8, which starts a change of its own. -/

theorem setClocks_flushQueue (n : Acc) (s : State) : setClocks n (flushQueue n s) = setClocks n s := by
  unfold flushQueue resumeCheck
  simp only
  split
  · exact ((setClocks_sendWord ..).trans (setClocks_setLink n _)).trans (setClocks_setLink n s)
  · exact setClocks_setLink n s

theorem setClocks_setDsLost_true (n : Acc) (s : State) : setClocks n (setDsLost n true s) = setClocks n s := by
  have hlane : setClocks n (s.setAcc n fun a => { a with forceLane := true }) = setClocks n s := setClocks_setAcc n s
  unfold setDsLost
  simp only [if_true]
  split
  · exact hlane
  · rw [setClocks_setLink]
    exact hlane

theorem setClocks_linkStart (n : Acc) (s : State) : setClocks n (linkStart n s) = setClocks n s := by
  have hflush : setClocks n (if s.srs.link[n].flushDue then flushQueue n s else s) = setClocks n s := by
    split
    · exact setClocks_flushQueue n s
    · rfl
  unfold linkStart
  simp only
  rw [setClocks_setDsLost_true, setClocks_setLink]
  exact hflush

theorem setClocks_enterS9 (n : Acc) (s : State) : setClocks n (enterS9 n s) = setClocks n s := by
  have hreset : setClocks n (s.setAcc n fun a => { a with rst := false, forceCrz := false }) = setClocks n s :=
    setClocks_setAcc n s
  unfold enterS9 writeSettings
  simp only
  split
  · exact hreset
  split <;> exact hreset

theorem setClocks_enterHook {n : Acc} {k : Nat} (hk : k ≤ 9) (hset : k ≠ 8) (s : State) :
    setClocks n (enterHook (accChan n) k s) = setClocks n s := by
  have hident : setClocks n (s.setAcc n fun a => { a with ident := none }) = setClocks n s := setClocks_setAcc n s
  unfold enterHook enterAcc
  simp only [accOf_accChan]
  split
  · split <;> exact hident
  split
  · split
    · exact setClocks_linkStart n s
    · rfl
  split
  · exact setClocks_enterS9 n s
  · rw [if_neg (by omega), if_neg (by omega), if_neg (by omega)]

theorem setClocks_enableReady (n : Acc) (c : Chan) (s : State) : setClocks n (enableReady c s) = setClocks n s := by
  unfold enableReady
  simp only
  split
  · rfl
  · exact forAll_keeps (setClocks n) enableRail (fun _ _ => rfl) _ s

theorem setClocks_stepBegun (n : Acc) (c : Chan) (k : Nat) (s : State) : setClocks n (stepBegun c k s) = setClocks n s := by
  unfold stepBegun putState
  simp only
  split <;> rfl

theorem setClocks_startStep {n : Acc} {k : Nat} (hk : k ≤ 9) (hset : k ≠ 8) (s : State) :
    setClocks n (startStep (accChan n) k s) = setClocks n s := by
  rw [startStep_eq, setClocks_enableReady, setClocks_enterHook hk hset, setClocks_stepBegun]

theorem setClocks_tryStep {n : Acc} {k : Nat} (hk : k ≤ 9) (hset : k ≠ 8) (s : State) :
    setClocks n (tryStep (accChan n) k s) = setClocks n s := by
  have hclose : setClocks n (s.setAcc n fun a => { a with efuseOn := true }) = setClocks n s := setClocks_setAcc n s
  unfold tryStep
  split
  · rfl
  simp only [accOf_accChan]
  split
  · rw [if_neg (by omega)]
    rfl
  split
  · split
    · rfl
    · exact hclose
  · exact setClocks_startStep hk hset _

theorem setClocks_efuseBack (n : Acc) (s : State) : setClocks n (efuseBack (accChan n) s) = setClocks n s := by
  have hopen : setClocks n (s.setAcc n fun a => { a with efuseOn := false }) = setClocks n s := setClocks_setAcc n s
  unfold efuseBack
  simp only [accOf_accChan]
  split
  · exact hopen
  · rfl

theorem setClocks_crzUp {n : Acc} {s : State} (hk : chState s n ≤ 8) (hset : chState s n ≠ 7) :
    setClocks n (crzUp (accChan n) s) = setClocks n s := by
  unfold chState at hk hset
  rcases crzUp_cases (accChan n) s with e | e | e | ⟨-, e⟩ <;> rw [e]
  · exact setClocks_efuseBack n s
  · rfl
  · exact setClocks_tryStep (by omega) (by omega) s

/-- Above S8 a step of an accelerator ends by its own event (04 R86). -/
theorem stepCondition_le {n : Acc} {k : Nat} {s : State} (h : stepCondition s (accChan n) k = true) : k ≤ 8 := by
  unfold stepCondition at h
  simp only [accOf_accChan] at h
  split at h
  · omega
  split at h
  · omega
  · exact Nat.le_of_lt_succ (of_decide_eq_true h)

/-- The channel's step, complete or not, leaves change, park and clocks, unless S8 is the next. -/
theorem setClocks_settle {n : Acc} {s : State} (hset : chState s n ≠ 7) :
    setClocks n (settle (accChan n) s) = setClocks n s := by
  unfold settle
  simp only
  split
  · rfl
  split
  next h =>
    obtain ⟨-, hcondition⟩ := Bool.and_eq_true_iff.1 h
    have htray : ¬(accChan n = 8 ∧ (s.setChan (accChan n) fun x => { x with stepDone := true }).crz.chan[accChan n].state = 3) :=
      fun ⟨h, _⟩ => trayChan_ne_accChan n h.symm
    have hstate : chState (s.setChan (accChan n) fun x => { x with stepDone := true }) n = chState s n := by
      rw [chState, setChan_chan_self]
      rfl
    unfold stepOver
    simp only [if_neg htray]
    exact setClocks_crzUp (hstate ▸ stepCondition_le hcondition) (hstate ▸ hset)
  · rfl

/-! SETPOINT_REACHED (03 R81; 05 R137; 06 R185). -/

theorem narrow_frame (n : Acc) (k : Fin 2) (s : State) : narrow n k s = { s with sup := (narrow n k s).sup } := by
  unfold narrow
  split <;> rfl

/-- The change is over, and the windows of both cores narrow. -/
def changeOver (n : Acc) (s : State) : State := narrow n 1 (narrow n 0 (s.setAcc n fun a => { a with change := none }))

/-- The clocks follow, unless the accelerator is parked. -/
def clocksFollow (n : Acc) (c : SetChange) (s : State) : State :=
  if s.str.acc[n].park == .parked then s else raiseClocks n c.opp c.band c.felt s

/-- An accelerator that is being unparked has returned. -/
def unparkOver (n : Acc) (s : State) : State :=
  if s.str.acc[n].park == .unparking then sendPark n false (s.setStr n fun a => { a with park := .no }) else s

theorem setpointReached_next {n : Acc} {c : SetChange} {s : State} (hchange : s.acc[n].change = some c)
    (hnear : coresNear s n = true) : exec (.setpointReached n) s =
      .next (settle (accChan n) (unparkOver n (clocksFollow n c (changeOver n s)))) := by
  change execSetpointReached n s = _
  unfold execSetpointReached
  simp only [hchange, hnear, Bool.not_true, Bool.false_eq_true, if_false]
  rfl

theorem changeOver_spec (n : Acc) (s : State) : setClocks n (changeOver n s) = { setClocks n s with change := none } ∧
    (changeOver n s).crz = s.crz := by
  unfold changeOver
  rw [narrow_frame, narrow_frame]
  exact ⟨by simp [setClocks], rfl⟩

/-- The clocks of a change that is reached, unless the accelerator is parked. -/
def SetClocks.followed (c : SetChange) (v : SetClocks) : SetClocks :=
  if v.park = .parked then v else { v with opp := c.opp, bands := [c.band], caps := [c.felt] }

theorem clocksFollow_spec (n : Acc) (c : SetChange) (s : State) :
    setClocks n (clocksFollow n c s) = (setClocks n s).followed c ∧ (clocksFollow n c s).crz = s.crz := by
  unfold clocksFollow SetClocks.followed
  by_cases h : s.str.acc[n].park = .parked
  · rw [if_pos (beq_iff_eq.2 h), if_pos (show (setClocks n s).park = .parked from h)]
    exact ⟨rfl, rfl⟩
  · rw [if_neg (mt beq_iff_eq.1 h), if_neg (show ¬(setClocks n s).park = .parked from h)]
    exact ⟨setClocks_raiseClocks .., raiseClocks_crz ..⟩

/-- No park, once an accelerator that is being unparked has returned. -/
def SetClocks.returned (v : SetClocks) : SetClocks := if v.park = .unparking then { v with park := .no } else v

theorem unparkOver_spec (n : Acc) (s : State) :
    setClocks n (unparkOver n s) = (setClocks n s).returned ∧ (unparkOver n s).crz = s.crz := by
  unfold unparkOver SetClocks.returned
  by_cases h : s.str.acc[n].park = .unparking
  · rw [if_pos (beq_iff_eq.2 h), if_pos (show (setClocks n s).park = .unparking from h)]
    exact ⟨(setClocks_sendPark ..).trans (by simp [setClocks]), sendPark_crz ..⟩
  · rw [if_neg (mt beq_iff_eq.1 h), if_neg (show ¬(setClocks n s).park = .unparking from h)]
    exact ⟨rfl, rfl⟩

theorem SetClocks.followed_returned (c : SetChange) (v : SetClocks) : (v.followed c).returned.change = v.change ∧
    (v.park = .unparking → (v.followed c).returned.park = .no) ∧
    (v.park ≠ .parked → (v.followed c).returned.opp = c.opp ∧ (v.followed c).returned.bands = [c.band] ∧
      (v.followed c).returned.caps = [c.felt]) := by
  unfold SetClocks.returned SetClocks.followed
  cases hpark : v.park <;> simp [hpark]

/-- A change that both cores have reached (03 R81; 06 R185). -/
theorem setpointReached_row (n : Acc) (c : SetChange) (s : State) (hchange : s.acc[n].change = some c)
    (hnear : coresNear s n = true) (hstate : chState s n ≠ 7) : ∃ t, exec (.setpointReached n) s = .next t ∧
      t.acc[n].change = none ∧ (s.str.acc[n].park = .unparking → t.str.acc[n].park = .no) ∧
      (s.str.acc[n].park ≠ .parked → t.srs.link[n].cOpp = c.opp ∧ t.str.acc[n].fmaxBands = [c.band] ∧
        t.str.acc[n].feltCaps = [c.felt]) := by
  obtain ⟨hover, hcrz0⟩ := changeOver_spec n s
  obtain ⟨hfollow, hcrz1⟩ := clocksFollow_spec n c (changeOver n s)
  obtain ⟨hunpark, hcrz2⟩ := unparkOver_spec n (clocksFollow n c (changeOver n s))
  have hstate' : chState (unparkOver n (clocksFollow n c (changeOver n s))) n ≠ 7 := by
    rwa [chState, hcrz2, hcrz1, hcrz0]
  obtain ⟨t, hnext, hend⟩ : ∃ t, exec (.setpointReached n) s = .next t ∧
      setClocks n t = ({ setClocks n s with change := none }.followed c).returned :=
    ⟨_, setpointReached_next hchange hnear, by rw [setClocks_settle hstate', hunpark, hfollow, hover]⟩
  obtain ⟨hnone, hback, hclocks⟩ := SetClocks.followed_returned c { setClocks n s with change := none }
  rw [← hend] at hnone hback hclocks
  exact ⟨t, hnext, hnone, hback, hclocks⟩

/-! SETPOINT_TIMEOUT (03 R81). -/

/-- DETAIL of a core that misses the limit (03 R81; notes/assumptions/53.md). -/
def missDetail (n : Acc) (k : Fin 2) (s : State) : Int := match s.twb.avs[n].rb[k] with
  | some v => (v : Int) - s.twb.avs[n].mv[k]
  | none => -(s.twb.avs[n].mv[k] : Int)

theorem missCore_of_far {n : Acc} {k : Fin 2} {s : State} (h : coreNear s n k = false) :
    missCore n k s = emit s 3 n.1 (coreRail n k).1 0x0506 (twos 16 (missDetail n k s)) :=
  if_neg (by rw [h]; exact Bool.false_ne_true)

theorem missCore_of_near {n : Acc} {k : Fin 2} {s : State} (h : coreNear s n k = true) : missCore n k s = s := if_pos h

theorem missCore_frame (n : Acc) (k : Fin 2) (s : State) : missCore n k s = { s with rcd := (missCore n k s).rcd } ∧
    RecordGrows s (missCore n k s) := by
  cases h : coreNear s n k with
  | true => rw [missCore_of_near h]; exact ⟨rfl, .refl s⟩
  | false => rw [missCore_of_far h]; exact ⟨rfl, .emit ..⟩

theorem raised_missCore {n : Acc} {k : Fin 2} {s : State} (h : coreNear s n k = false) :
    Raised (missCore n k s) 3 n.1 (coreRail n k).1 0x0506 (twos 16 (missDetail n k s)) := by
  rw [missCore_of_far h]
  exact raised_emit s 3 n.1 _ 0x0506 _ (twos_lt _)

theorem setpointTimeout_next {n : Acc} {c : SetChange} {s : State} (hchange : s.acc[n].change = some c)
    (hfar : coresNear s n = false) (htime : c.start + 100 ≤ s.sys.tick) :
    exec (.setpointTimeout n) s = .next (missCore n 1 (missCore n 0 s)) := by
  change execSetpointTimeout n s = _
  unfold execSetpointTimeout
  simp only [hchange, hfar, Bool.false_eq_true, Nat.not_lt.2 htime, or_self, if_false]

/-- A change that is late: each core that is not there is recorded (03 R81). -/
theorem setpointTimeout_row (n : Acc) (c : SetChange) (s : State) (hchange : s.acc[n].change = some c)
    (hfar : coresNear s n = false) (htime : c.start + 100 ≤ s.sys.tick) : ∃ t, exec (.setpointTimeout n) s = .next t ∧
      t = { s with rcd := t.rcd } ∧ ∀ k : Fin 2, coreNear s n k = false →
        Raised t 3 n.1 (coreRail n k).1 0x0506 (twos 16 (missDetail n k s)) := by
  obtain ⟨hframe0, -⟩ := missCore_frame n 0 s
  obtain ⟨hframe1, hgrows⟩ := missCore_frame n 1 (missCore n 0 s)
  refine ⟨_, setpointTimeout_next hchange hfar htime, ?_, fun k hk => ?_⟩
  · exact hframe1.trans (congrArg (fun u => { u with rcd := (missCore n 1 (missCore n 0 s)).rcd }) hframe0)
  · have hcases : k = 0 ∨ k = 1 := by omega
    rcases hcases with rfl | rfl
    · exact hgrows.raised (raised_missCore hk)
    · have hdetail : missDetail n 1 (missCore n 0 s) = missDetail n 1 s := by rw [hframe0]; rfl
      have hnear : coreNear (missCore n 0 s) n 1 = coreNear s n 1 := by rw [hframe0]; rfl
      rw [← hdetail]
      exact raised_missCore (hnear.trans hk)

end Sys2Proof.Machine
end

section
/-! SUPPORT. AVSBus (13 R390, R404 to R407; 07 R198): a read of both cores, silence, and the response to a write. -/

namespace Sys2Proof.Machine

open Sys2Proof

/-! A readback of one rail (05 R143, R144). -/

/-- From `s` to `t` the pins, Crozier, the ports and Brim stay. -/
structure PortsKept (s t : State) : Prop where
  acc : t.acc = s.acc
  crz : t.crz = s.crz
  twb : t.twb = s.twb
  brm : t.brm = s.brm

theorem PortsKept.trans {s t u : State} (h : PortsKept s t) (h' : PortsKept t u) : PortsKept s u :=
  ⟨h'.acc.trans h.acc, h'.crz.trans h.crz, h'.twb.trans h.twb, h'.brm.trans h.brm⟩

theorem setEntry_portsKept (r : Rail) (f : RailEntry → RailEntry) (s : State) : PortsKept s (s.setEntry r f) :=
  ⟨rfl, rfl, rfl, rfl⟩

theorem emit_portsKept (s : State) (cls unit obj code detail : Nat) : PortsKept s (emit s cls unit obj code detail) :=
  ⟨rfl, rfl, rfl, rfl⟩

theorem freshen_portsKept (r : Rail) (s : State) : PortsKept s (freshen r s) := by
  unfold freshen
  split <;> exact ⟨rfl, rfl, rfl, rfl⟩

theorem narrow_portsKept (n : Acc) (k : Fin 2) (s : State) : PortsKept s (narrow n k s) := by
  unfold narrow
  split <;> exact ⟨rfl, rfl, rfl, rfl⟩

/-- Clearing the stale flag leaves the other rails, and readback and current of its own. -/
theorem freshen_entry (r : Rail) (s : State) : (freshen r s).sup.entry[r].rb = s.sup.entry[r].rb ∧
    (freshen r s).sup.entry[r].i = s.sup.entry[r].i ∧ ∀ q, r ≠ q → (freshen r s).sup.entry[q] = s.sup.entry[q] := by
  unfold freshen
  split
  · exact ⟨rfl, rfl, fun _ _ => rfl⟩
  · exact ⟨by rw [setEntry_entry_self], by rw [setEntry_entry_self], fun q hq => setEntry_entry_of_ne hq _ s⟩

/-- A current read: its rail's, and no other's. -/
theorem takeCurrent_spec (r : Rail) (ma : Nat) (s : State) : PortsKept s (takeCurrent r ma s) ∧
    (takeCurrent r ma s).sup.entry[r].i = ma ∧ ∀ q, r ≠ q → (takeCurrent r ma s).sup.entry[q] = s.sup.entry[q] := by
  obtain ⟨-, hi, hother⟩ := freshen_entry r (s.setEntry r fun e => { e with i := ma, curTick := s.sys.tick })
  exact ⟨(setEntry_portsKept ..).trans (freshen_portsKept ..), hi.trans (by rw [setEntry_entry_self]),
    fun q hq => (hother q hq).trans (setEntry_entry_of_ne hq _ s)⟩

/-- A readback changes its rail's entry, and records the third disagreement in a row (05 R144). -/
theorem takeReadback_cases (r : Rail) (x : Nat) (s : State) : ∃ f : RailEntry → RailEntry,
    (∀ e, (f e).rb = some x ∧ (f e).i = e.i) ∧ (takeReadback r x s = freshen r (s.setEntry r f) ∨
      ∃ d, takeReadback r x s = emit (freshen r (s.setEntry r f)) 3 (r.1 / 14) r.1 0x0502 d) := by
  unfold takeReadback
  extract_lets e diff far dis agr u
  by_cases h : dis = 3
  · refine ⟨_, ?_, .inr ⟨_, if_pos h⟩⟩
    exact fun _ => ⟨rfl, rfl⟩
  · refine ⟨_, ?_, .inl (if_neg h)⟩
    exact fun _ => ⟨rfl, rfl⟩

theorem takeReadback_spec (r : Rail) (x : Nat) (s : State) : PortsKept s (takeReadback r x s) ∧
    (takeReadback r x s).sup.entry[r].rb = some x ∧ (takeReadback r x s).sup.entry[r].i = s.sup.entry[r].i ∧
    ∀ q, r ≠ q → (takeReadback r x s).sup.entry[q] = s.sup.entry[q] := by
  obtain ⟨f, hf, hcases⟩ := takeReadback_cases r x s
  obtain ⟨hrb, hi, hother⟩ := freshen_entry r (s.setEntry r f)
  rw [setEntry_entry_self] at hrb hi
  have hrest (q : Rail) (hq : r ≠ q) := (hother q hq).trans (setEntry_entry_of_ne hq f s)
  have hkept := (setEntry_portsKept r f s).trans (freshen_portsKept r _)
  rcases hcases with e | ⟨d, e⟩ <;> rw [e]
  · exact ⟨hkept, hrb.trans (hf _).1, hi.trans (hf _).2, hrest⟩
  · exact ⟨hkept.trans (emit_portsKept ..), hrb.trans (hf _).1, hi.trans (hf _).2, hrest⟩

theorem narrow_entry (n : Acc) (k : Fin 2) (s : State) : (narrow n k s).sup.entry = s.sup.entry := by
  unfold narrow
  split <;> rfl

/-! A good read of one core (13 R390, R404). -/

/-- The voltage that a core reads back. -/
def voltageRead (n : Acc) (k : Fin 2) (a : AvsRead) (s : State) : State :=
  s.setAvs n fun v => { v with rb := v.rb.set k (some a.mv) }

/-- All that is read of its rail, before an alert is recorded. -/
def avsTaken (n : Acc) (k : Fin 2) (a : AvsRead) (s : State) : State :=
  narrow n k (takeReadback (coreRail n k) (10 * a.mv) (takeCurrent (coreRail n k)
    (a.current.toNat * fld (voltageRead n k a s).twb.avs[n].cfg 16 16) (voltageRead n k a s)))

/-- What a good read of core `k` leaves from `s` to `t`. -/
structure CoreRead (n : Acc) (k : Fin 2) (a : AvsRead) (s t : State) : Prop where
  kept : PortsKept (voltageRead n k a s) t
  rb : t.sup.entry[coreRail n k].rb = some (10 * a.mv)
  current : t.sup.entry[coreRail n k].i = a.current.toNat * fld s.twb.avs[n].cfg 16 16
  other : ∀ q, coreRail n k ≠ q → t.sup.entry[q] = s.sup.entry[q]

theorem avsTaken_coreRead (n : Acc) (k : Fin 2) (a : AvsRead) (s : State) : CoreRead n k a s (avsTaken n k a s) := by
  have hcfg : (voltageRead n k a s).twb.avs[n].cfg = s.twb.avs[n].cfg := by simp [voltageRead]
  obtain ⟨hkept, hma, hother⟩ := takeCurrent_spec (coreRail n k) (a.current.toNat * fld s.twb.avs[n].cfg 16 16)
    (voltageRead n k a s)
  unfold avsTaken
  rw [hcfg]
  generalize takeCurrent (coreRail n k) _ _ = u at *
  obtain ⟨hkept', hrb, hi, hother'⟩ := takeReadback_spec (coreRail n k) (10 * a.mv) u
  refine ⟨(hkept.trans hkept').trans (narrow_portsKept ..), ?_, ?_, fun q hq => ?_⟩
  · rw [narrow_entry, hrb]
  · rw [narrow_entry, hi, hma]
  · rw [narrow_entry, hother' q hq, hother q hq]
    rfl

theorem takeAvs_coreRead {n : Acc} {k : Fin 2} {a : AvsRead} (s : State) (hanswered : a.answered = true)
    (hcrc : a.crcOk = true) : CoreRead n k a s (takeAvs n k a s) := by
  obtain ⟨hkept, hrb, hcurrent, hother⟩ := avsTaken_coreRead n k a s
  have hgood : takeAvs n k a s =
      if a.alert then emit (avsTaken n k a s) 3 n.1 (coreRail n k).1 0x0503 a.status.toNat else avsTaken n k a s := by
    unfold takeAvs avsTaken voltageRead
    simp only [hanswered, hcrc, Bool.not_true, Bool.false_eq_true, if_false]
  rw [hgood]
  generalize avsTaken n k a s = u at *
  split
  · exact ⟨hkept.trans (emit_portsKept ..), hrb, hcurrent, hother⟩
  · exact ⟨hkept, hrb, hcurrent, hother⟩

/-! A read of both cores (13 R390, R407; 07 R198). -/

/-- A port that answers is silent no more, and has not failed. -/
def avsAnswered (n : Acc) (s : State) : State := s.setAvs n fun v => { v with noRun := 0, failed := false }

/-- The frame of the present tick is taken. -/
def frameTaken (n : Acc) (s : State) : State := s.setAvs n fun v => { v with frame := some (s.sys.tick / 10) }

/-- Power of the cores of an accelerator from one read (07 R198). -/
def corePower (a b : AvsRead) (lsb : Nat) : Int :=
  toReport (((a.mv * a.current.toNat + b.mv * b.current.toNat) * lsb : Nat) / 1000 : Rat)

/-- Brim has the power of the cores. -/
def corePowerTaken (n : Acc) (p : Int) (s : State) : State :=
  s.modBrm fun b => { b with pCore := b.pCore.set n p, gotA := b.gotA.set n true }

theorem avsbusRead_again {n : Acc} {a b : AvsRead} {s : State} (h : s.twb.avs[n].frame = some (s.sys.tick / 10)) :
    exec (.avsbusRead n a b) s = .next s :=
  if_pos (by simp only [frameDue, h, bne_self_eq_false, Bool.not_false])

theorem frameDue_of_ne {last : Option Nat} {s : State} (h : last ≠ some (s.sys.tick / 10)) :
    ¬(!frameDue last 10 s) = true := by
  simpa [frameDue] using h

theorem avsbusRead_good {n : Acc} {a b : AvsRead} {s : State} (h : s.twb.avs[n].frame ≠ some (s.sys.tick / 10))
    (ha : a.answered = true) (hac : a.crcOk = true) (hb : b.answered = true) (hbc : b.crcOk = true) :
    exec (.avsbusRead n a b) s = .next (corePowerTaken n
      (corePower a b (fld (avsAnswered n (takeAvs n 1 b (takeAvs n 0 a (frameTaken n s)))).twb.avs[n].cfg 16 16))
      (avsAnswered n (takeAvs n 1 b (takeAvs n 0 a (frameTaken n s))))) := by
  have hgood : (avsGood a && avsGood b) = true := by simp only [avsGood, ha, hac, hb, hbc, Bool.and_self]
  refine (if_neg (frameDue_of_ne h)).trans ?_
  simp only [hgood, if_true, ha, hb, Bool.not_true, Bool.and_self, Bool.and_false, Bool.false_eq_true, if_false]
  rfl

/-- The port of an accelerator whose cores have both been read. -/
def AvsState.read (v : AvsState) (a b : AvsRead) (now : Nat) : AvsState :=
  { v with frame := some (now / 10), rb := (v.rb.set 0 (some a.mv)).set 1 (some b.mv), noRun := 0, failed := false }

/-- What a good read of both cores leaves from `s` to `t`, but for Brim. -/
structure CoresRead (n : Acc) (a b : AvsRead) (s t : State) : Prop where
  acc : t.acc = s.acc
  crz : t.crz = s.crz
  brm : t.brm = s.brm
  port : t.twb.avs[n] = s.twb.avs[n].read a b s.sys.tick
  rb0 : t.sup.entry[coreRail n 0].rb = some (10 * a.mv)
  rb1 : t.sup.entry[coreRail n 1].rb = some (10 * b.mv)
  current0 : t.sup.entry[coreRail n 0].i = a.current.toNat * fld s.twb.avs[n].cfg 16 16
  current1 : t.sup.entry[coreRail n 1].i = b.current.toNat * fld s.twb.avs[n].cfg 16 16

theorem avsAnswered_coresRead {n : Acc} {a b : AvsRead} {s : State} (ha : a.answered = true) (hac : a.crcOk = true)
    (hb : b.answered = true) (hbc : b.crcOk = true) :
    CoresRead n a b s (avsAnswered n (takeAvs n 1 b (takeAvs n 0 a (frameTaken n s)))) := by
  obtain ⟨hkept0, hrb0, hi0, -⟩ := takeAvs_coreRead (n := n) (k := 0) (frameTaken n s) ha hac
  generalize takeAvs n 0 a (frameTaken n s) = u at *
  obtain ⟨hkept1, hrb1, hi1, hother⟩ := takeAvs_coreRead (n := n) (k := 1) u hb hbc
  generalize takeAvs n 1 b u = v at *
  have hne : coreRail n 1 ≠ coreRail n 0 := fun h => by simp [coreRail, railOf] at h
  have hkept := hother _ hne
  have hport0 : u.twb.avs[n] = { s.twb.avs[n] with
      frame := some (s.sys.tick / 10), rb := s.twb.avs[n].rb.set 0 (some a.mv) } := by
    rw [hkept0.twb]
    simp [voltageRead, frameTaken]
  have hport1 : v.twb.avs[n] = { u.twb.avs[n] with rb := u.twb.avs[n].rb.set 1 (some b.mv) } := by
    rw [hkept1.twb]
    simp [voltageRead]
  have hcfg0 : (frameTaken n s).twb.avs[n].cfg = s.twb.avs[n].cfg := by simp [frameTaken]
  have hcfg1 : u.twb.avs[n].cfg = s.twb.avs[n].cfg := by rw [hport0]
  refine ⟨hkept1.acc.trans hkept0.acc, hkept1.crz.trans hkept0.crz, hkept1.brm.trans hkept0.brm, ?_,
    (congrArg RailEntry.rb hkept).trans hrb0, hrb1, (congrArg RailEntry.i hkept).trans (by rw [hi0, hcfg0]),
    hi1.trans (by rw [hcfg1])⟩
  have hframed : (avsAnswered n v).twb.avs[n] = { v.twb.avs[n] with noRun := 0, failed := false } := by
    simp [avsAnswered]
  rw [hframed, hport1, hport0]
  rfl

/-- Both cores read (13 R390; 07 R198). -/
theorem avsbusRead_row (n : Acc) (a b : AvsRead) (s : State) (h : s.twb.avs[n].frame ≠ some (s.sys.tick / 10))
    (ha : a.answered = true) (hac : a.crcOk = true) (hb : b.answered = true) (hbc : b.crcOk = true) :
    ∃ t, exec (.avsbusRead n a b) s = .next t ∧ t.twb.avs[n].rb[(0 : Fin 2)] = some a.mv ∧
      t.twb.avs[n].rb[(1 : Fin 2)] = some b.mv ∧ t.twb.avs[n].noRun = 0 ∧ t.twb.avs[n].failed = false ∧
      t.twb.avs[n].frame = some (s.sys.tick / 10) ∧
      t.sup.entry[coreRail n 0].i = a.current.toNat * fld s.twb.avs[n].cfg 16 16 ∧
      t.sup.entry[coreRail n 1].i = b.current.toNat * fld s.twb.avs[n].cfg 16 16 ∧
      t.sup.entry[coreRail n 0].rb = some (10 * a.mv) ∧ t.sup.entry[coreRail n 1].rb = some (10 * b.mv) ∧
      t.brm.pCore[n] = corePower a b (fld s.twb.avs[n].cfg 16 16) ∧ t.brm.gotA[n] = true ∧ t.crz = s.crz ∧
      t.acc = s.acc := by
  have hnext := avsbusRead_good h ha hac hb hbc
  obtain ⟨hacc, hcrz, hbrm, hport, hrb0, hrb1, hi0, hi1⟩ := avsAnswered_coresRead (n := n) (s := s) ha hac hb hbc
  generalize avsAnswered n (takeAvs n 1 b (takeAvs n 0 a (frameTaken n s))) = u at *
  have hport' : ∀ p, (corePowerTaken n p u).twb.avs[n] = s.twb.avs[n].read a b s.sys.tick := fun _ => hport
  have hcfg : u.twb.avs[n].cfg = s.twb.avs[n].cfg := by rw [hport]; rfl
  rw [hcfg] at hnext
  refine ⟨_, hnext, ?_, ?_, ?_, ?_, ?_, hi0, hi1, hrb0, hrb1, ?_, ?_, hcrz, hacc⟩
  · rw [hport']; simp [AvsState.read]
  · rw [hport']; simp [AvsState.read]
  · rw [hport']; rfl
  · rw [hport']; rfl
  · rw [hport']; rfl
  · simp [corePowerTaken]
  · simp [corePowerTaken]

/-- A frame in which neither core answers is counted (13 R407). -/
theorem avsbusRead_silent (n : Acc) (a b : AvsRead) (s : State) (h : s.twb.avs[n].frame ≠ some (s.sys.tick / 10))
    (ha : a.answered = false) (hb : b.answered = false) : exec (.avsbusRead n a b) s = .next { s with
      twb := { s.twb with avs := s.twb.avs.set n { s.twb.avs[n] with
        frame := some (s.sys.tick / 10),
        noResp := min 0xFFFF (s.twb.avs[n].noResp + 1), noRun := s.twb.avs[n].noRun + 1 } } } := by
  have hsilent (k : Fin 2) {c : AvsRead} (hc : c.answered = false) (u : State) : takeAvs n k c u = u := if_pos (by rw [hc]; rfl)
  have hnot : (avsGood a && avsGood b) = false := by rw [avsGood, ha]; rfl
  refine (if_neg (frameDue_of_ne h)).trans ?_
  simp only [hsilent 0 ha, hsilent 1 hb, hnot, ha, hb, Bool.false_eq_true, if_false, Bool.not_false, Bool.and_self, if_true,
    Bool.and_true]
  simp [State.setAvs, satAdd]

/-- Three silent frames fail the port (13 R407). -/
theorem avsNoResp_row (n : Acc) (s : State) (hgood : s.twb.avs[n].failed = false) (hrun : 3 ≤ s.twb.avs[n].noRun) :
    ∃ t, exec (.avsNoResp n) s = .next t ∧ Raised t 3 n.1 (coreRail n 0).1 0x0D07 2 ∧ t = { s with
      rcd := t.rcd
      twb := { s.twb with avs := s.twb.avs.set n { s.twb.avs[n] with failed := true, rb := Vector.replicate 2 none } } } := by
  refine ⟨_, if_neg ?_, raised_emit _ 3 n.1 _ 0x0D07 2 (by decide), rfl⟩
  rw [hgood]
  rintro (h | h)
  · exact Bool.false_ne_true h
  · omega

/-! The response to a write (13 R405, R406). -/

/-- A write that waits no more. -/
def avsSettled (n : Acc) (k : Fin 2) (s : State) : State := s.setAvs n fun v => { v with pend := v.pend.set k none }

/-- The write repeated. -/
def avsRepeated (n : Acc) (k : Fin 2) (mv tries : Nat) (s : State) : State :=
  (s.setAvs n fun v => { v with pend := v.pend.set k (some (mv, tries + 1)) }).send (.avs n k mv)

/-- A damaged answer is counted, and an alert in a good one recorded. -/
def avsNoted (n : Acc) (k : Fin 2) (r : AvsWrite) (s : State) : State :=
  let s := if r.crcOk then s else s.setAvs n fun v => { v with crcErr := satAdd 0xFFFF v.crcErr }
  if r.crcOk && r.alert then emit s 3 n.1 (coreRail n k).1 0x0503 r.status.toNat else s

theorem avsWriteResponse_next {n : Acc} {k : Fin 2} {mv tries : Nat} {s : State}
    (h : s.twb.avs[n].pend[k] = some (mv, tries)) (r : AvsWrite) : exec (.avsWriteResponse n k r) s =
      if r.crcOk && r.accepted then .next (avsSettled n k (avsNoted n k r s))
      else if tries < 3 then .next (avsRepeated n k mv tries (avsNoted n k r s))
      else .next (emit (avsSettled n k (avsNoted n k r s)) 3 n.1 (coreRail n k).1 0x0D07 1) := by
  change execAvsWriteResponse n k r s = _
  unfold execAvsWriteResponse
  simp only [h]
  rfl

theorem avsNoted_quiet {n : Acc} {k : Fin 2} {r : AvsWrite} (hcrc : r.crcOk = true) (halert : r.alert = false) (s : State) :
    avsNoted n k r s = s := by
  simp [avsNoted, hcrc, halert]

theorem avsNoted_alert {n : Acc} {k : Fin 2} {r : AvsWrite} (hcrc : r.crcOk = true) (halert : r.alert = true) (s : State) :
    avsNoted n k r s = emit s 3 n.1 (coreRail n k).1 0x0503 r.status.toNat := by
  simp [avsNoted, hcrc, halert]

theorem avsNoted_damaged {n : Acc} {k : Fin 2} {r : AvsWrite} (hcrc : r.crcOk = false) (s : State) :
    avsNoted n k r s = s.setAvs n fun v => { v with crcErr := satAdd 0xFFFF v.crcErr } := by
  simp [avsNoted, hcrc]

/-- A good answer leaves everything but the record. -/
theorem avsNoted_good {n : Acc} {k : Fin 2} {r : AvsWrite} (hcrc : r.crcOk = true) (s : State) :
    avsNoted n k r s = { s with rcd := (avsNoted n k r s).rcd } := by
  cases halert : r.alert with
  | false => rw [avsNoted_quiet hcrc halert]
  | true => rw [avsNoted_alert hcrc halert]; rfl

section
variable {n : Acc} {k : Fin 2} {mv tries : Nat} {s : State}

/-- A write that is accepted. -/
theorem avsWriteResponse_accepted (h : s.twb.avs[n].pend[k] = some (mv, tries)) (r : AvsWrite) (hcrc : r.crcOk = true)
    (haccepted : r.accepted = true) (halert : r.alert = false) : exec (.avsWriteResponse n k r) s = .next { s with
      twb := { s.twb with avs := s.twb.avs.set n { s.twb.avs[n] with pend := s.twb.avs[n].pend.set k none } } } := by
  rw [avsWriteResponse_next h, hcrc, haccepted, avsNoted_quiet hcrc halert]
  rfl

/-- The same with an alert. -/
theorem avsWriteResponse_alert (h : s.twb.avs[n].pend[k] = some (mv, tries)) (r : AvsWrite) (hcrc : r.crcOk = true)
    (haccepted : r.accepted = true) (halert : r.alert = true) : ∃ t, exec (.avsWriteResponse n k r) s = .next t ∧
      Raised t 3 n.1 (coreRail n k).1 0x0503 r.status.toNat ∧ t = { s with rcd := t.rcd, twb := { s.twb with
        avs := s.twb.avs.set n { s.twb.avs[n] with pend := s.twb.avs[n].pend.set k none } } } := by
  rw [avsWriteResponse_next h, hcrc, haccepted, avsNoted_alert hcrc halert]
  exact ⟨_, rfl, raised_emit s 3 n.1 _ 0x0503 _ r.status.isLt, rfl⟩

/-- A damaged answer. -/
theorem avsWriteResponse_damaged (h : s.twb.avs[n].pend[k] = some (mv, tries)) (r : AvsWrite) (hcrc : r.crcOk = false)
    (htries : tries < 3) : exec (.avsWriteResponse n k r) s = .next { s with
      out := .avs n k mv :: s.out,
      twb := { s.twb with avs := s.twb.avs.set n { s.twb.avs[n] with
        crcErr := min 0xFFFF (s.twb.avs[n].crcErr + 1),
        pend := s.twb.avs[n].pend.set k (some (mv, tries + 1)) } } } := by
  rw [avsWriteResponse_next h, hcrc, avsNoted_damaged hcrc, Bool.false_and, if_neg Bool.false_ne_true, if_pos htries]
  simp [avsRepeated, State.setAvs, State.send, satAdd]

/-- A write that is refused. -/
theorem avsWriteResponse_refused (h : s.twb.avs[n].pend[k] = some (mv, tries)) (r : AvsWrite) (hcrc : r.crcOk = true)
    (hrefused : r.accepted = false) (halert : r.alert = false) (htries : tries < 3) :
    exec (.avsWriteResponse n k r) s = .next { s with
      out := .avs n k mv :: s.out,
      twb := { s.twb with avs := s.twb.avs.set n { s.twb.avs[n] with
        pend := s.twb.avs[n].pend.set k (some (mv, tries + 1)) } } } := by
  rw [avsWriteResponse_next h, hcrc, hrefused, avsNoted_quiet hcrc halert, Bool.and_false, if_neg Bool.false_ne_true,
    if_pos htries]
  rfl

/-- A write that is refused for the third time. -/
theorem avsWriteResponse_givenUp (h : s.twb.avs[n].pend[k] = some (mv, tries)) (r : AvsWrite) (hcrc : r.crcOk = true)
    (hrefused : r.accepted = false) (htries : 3 ≤ tries) : ∃ t, exec (.avsWriteResponse n k r) s = .next t ∧
      Raised t 3 n.1 (coreRail n k).1 0x0D07 1 ∧ t = { s with rcd := t.rcd, twb := { s.twb with
        avs := s.twb.avs.set n { s.twb.avs[n] with pend := s.twb.avs[n].pend.set k none } } } := by
  have hnext := avsWriteResponse_next h r
  rw [hcrc, hrefused, Bool.and_false, if_neg Bool.false_ne_true, if_neg (Nat.not_lt.2 htries)] at hnext
  refine ⟨_, hnext, raised_emit _ 3 n.1 _ 0x0D07 1 (by decide), ?_⟩
  have hframe : avsSettled n k (avsNoted n k r s) = { avsSettled n k s with rcd := (avsNoted n k r s).rcd } := by
    conv_lhs => rw [avsNoted_good hcrc s]
    rfl
  rw [hframe]
  rfl

end

/-- Settles O46: each row has its equation; a degradation by `degrade_spec`, stale readbacks by `forAll_at`, what follows a
change that is reached by what settling the channel's step keeps (`setClocks_settle`), a read by `CoreRead`. -/
theorem supervisionRows : Obligations.SupervisionRows := by
  unfold Obligations.SupervisionRows
  refine ⟨convFault_row, convFaultClear_row, marginStep_row, fun s => ?_, fun n c s hchange => ⟨?_, ?_⟩, fun n a b s => ?_,
    fun n k mv tries s h => ⟨avsWriteResponse_accepted h, avsWriteResponse_alert h, avsWriteResponse_damaged h,
      avsWriteResponse_refused h, avsWriteResponse_givenUp h⟩⟩
  · exact readbackStale_row s
  · exact setpointReached_row n c s hchange
  · exact setpointTimeout_row n c s hchange
  · exact ⟨avsbusRead_again, avsbusRead_row n a b s, avsbusRead_silent n a b s, avsNoResp_row n s⟩

end Sys2Proof.Machine
end

section
/-! SUPPORT. The steering commands (06 R190, R193; 15 R457), and folds that move one accelerator a step. -/

namespace Sys2Proof.Machine

open Sys2Proof

/-! A fold whose steps move one accelerator each. -/

section
variable {β : Type} {view : State → Acc → β} {g : Acc → β → β} {f : Acc → State → State}
  (h : ∀ (m : Acc) (s : State) (n : Acc), view (f m s) n = if n = m then g m (view s m) else view s n)
include h

/-- Where the step of `m` changes the view at `m` alone, a fold over distinct accelerators changes it once at each of them. -/
theorem forAll_pointwise {l : List Acc} (hl : l.Nodup) (n : Acc) (s : State) :
    view (forAll l f s) n = if n ∈ l then g n (view s n) else view s n := by
  induction l generalizing s with
  | nil => rfl
  | cons m l ih =>
    obtain ⟨hm, hl⟩ := List.nodup_cons.1 hl
    have hstep : view (forAll (m :: l) f s) n = _ := ih hl (f m s)
    rw [hstep, h]
    by_cases hn : n = m
    · subst hn
      simp [hm]
    · simp [hn]

theorem forAll_accList_pointwise (n : Acc) (s : State) : view (forAll accList f s) n = g n (view s n) := by
  exact (forAll_pointwise h (List.nodup_finRange 8) n s).trans (if_pos (mem_accList n))

end

/-! The operands, and the traces of a command that moves the steering block alone. -/

theorem onAcc_eq {b : Byte} {n : Acc} (h : b.toNat = n.1) (g : Acc → State → State × Option Ans) (s : State) :
    onAcc b g s = g n s := by
  simp [onAcc, accOf, h]

/-- A command that moves the steering block alone leaves besides only its traces. -/
theorem settled_bookkept_str {f : Frame} {c : Cmd} {bus : Option TransferEnd} {s : State} {u : StrState}
    (h : (applied f c bus s).1 = { taken f c s with str := u }) :
    settled f c bus s = { bookkept s (settled f c bus s) with str := u } := by
  calc settled f c bus s
      = bookkept { taken f c s with str := u } (settled f c bus s) := h ▸ settled_bookkept_applied f c bus s
    _ = { bookkept (taken f c s) (settled f c bus s) with str := u } := rfl
    _ = { bookkept s (settled f c bus s) with str := u } := by rw [bookkept_taken]

/-! The rules. -/

/-- The mode is refused only where it asks for steering in rack states 5 to 7 (06 R190). -/
theorem applySteerMode_done {w : Word} {s : State} (h : ¬(5 ≤ s.rack.state.1 ∧ s.rack.state.1 ≤ 7 ∧ fldB w 0 = false)) :
    applySteerMode w s = done (s.modStr fun r => { r with ctrl := w }) :=
  if_neg fun ⟨hlow, hhigh, hsteer⟩ => h ⟨hlow, hhigh, by simpa using hsteer⟩

/-- A group that an accelerator leaves or joins as the groups change from `old` to `w` is the group that `n` has in `w`. -/
def groupTouched (old w : Word) (n : Acc) : Prop :=
  ∃ m : Acc, fld old (4 * m.1) 3 ≠ fld w (4 * m.1) 3 ∧
    (fld w (4 * n.1) 3 = fld old (4 * m.1) 3 ∨ fld w (4 * n.1) 3 = fld w (4 * m.1) 3)

/-- The groups that lose or gain an accelerator (15 R457). -/
def touchedGroups (old w : Word) : List Nat :=
  accList.flatMap fun m => if fld old (4 * m.1) 3 = fld w (4 * m.1) 3 then []
    else [fld old (4 * m.1) 3, fld w (4 * m.1) 3]

theorem touchedGroups_contains (old w : Word) (n : Acc) :
    (touchedGroups old w).contains (fld w (4 * n.1) 3) = true ↔ groupTouched old w n := by
  rw [List.contains_iff_mem, touchedGroups, List.mem_flatMap]
  refine exists_congr fun m => ?_
  by_cases hmoved : fld old (4 * m.1) 3 = fld w (4 * m.1) 3 <;> simp [mem_accList, hmoved]

/-- The shift of one accelerator as the groups change (15 R457). -/
def resetShift (old w : Word) (n : Acc) (s : State) : State :=
  if (touchedGroups old w).contains (fld w (4 * n.1) 3) then s.setStr n fun a => { a with shift := 0 } else s

/-- The state in which steer.set_group ends. -/
def regrouped (w : Word) (s : State) : State :=
  forAll accList (resetShift s.str.group w) (s.modStr fun r => { r with group := w })

theorem applySteerGroup_done (w : Word) (s : State) : applySteerGroup w s = done (regrouped w s) := rfl

theorem regrouped_frame (w : Word) (s : State) : regrouped w s = { s with str := (regrouped w s).str } := by
  refine forAll_inv (fun t : State => t = { s with str := t.str }) _ _ (fun n t ht => ?_) _ rfl
  rw [ht, resetShift]
  split <;> rfl

theorem regrouped_group (w : Word) (s : State) : (regrouped w s).str.group = w := by
  refine (forAll_keeps (fun t : State => t.str.group) _ (fun n t => ?_) _ _).trans rfl
  unfold resetShift
  split <;> rfl

theorem regrouped_acc (w : Word) (n : Acc) (s : State) : (regrouped w s).str.acc[n] =
    if (touchedGroups s.str.group w).contains (fld w (4 * n.1) 3) then { s.str.acc[n] with shift := 0 } else s.str.acc[n] := by
  refine forAll_accList_pointwise (view := fun (t : State) (n : Acc) => t.str.acc[n])
    (g := fun n a => if (touchedGroups s.str.group w).contains (fld w (4 * n.1) 3) then { a with shift := 0 } else a)
    (fun m t n => ?_) n _
  unfold resetShift
  by_cases hn : n = m
  · subst hn
    split <;> simp
  · have hne : m.1 ≠ n.1 := fun e => hn (Fin.ext e.symm)
    rw [if_neg hn]
    split <;> simp [hne]

theorem regrouped_touched {w : Word} {n : Acc} {s : State} (h : groupTouched s.str.group w n) :
    (regrouped w s).str.acc[n] = { s.str.acc[n] with shift := 0 } := by
  rw [regrouped_acc, if_pos ((touchedGroups_contains ..).2 h)]

theorem regrouped_untouched {w : Word} {n : Acc} {s : State} (h : ¬groupTouched s.str.group w n) :
    (regrouped w s).str.acc[n] = s.str.acc[n] := by
  rw [regrouped_acc, if_neg fun hc => h ((touchedGroups_contains ..).1 hc)]

/-- Settles O13: each command by the rule that applies it, on the state in which it is taken; the shifts of a change of groups
accelerator by accelerator. -/
theorem steeringCommands : Obligations.SteeringCommands := by
  unfold Obligations.SteeringCommands
  refine ⟨fun f w s h hmode => ?_, fun f b n p s h hb => ?_, fun f w s h => ?_, fun f w s h => ?_, fun f a b c l s h => ?_⟩
  · obtain ⟨happlied, hans⟩ := settled_done (.steerSetMode w) (f := f) (s := s) rfl (applySteerMode_done (by simpa using hmode))
    refine ⟨_, runCommand_settled h none, settled_bookkept_str (happlied.trans ?_), hans⟩
    rw [State.modStr, taken_str]
  · obtain ⟨happlied, hans⟩ := settled_done (.steerSetPhasePref b p) (f := f) (s := s) rfl (onAcc_eq hb ..)
    refine ⟨_, runCommand_settled h none, settled_bookkept_str (happlied.trans ?_), hans⟩
    rw [State.setStr, taken_str]
  · obtain ⟨happlied, hans⟩ := settled_done (.steerSetParkOrder w) (f := f) (s := s) rfl rfl
    refine ⟨_, runCommand_settled h none, settled_bookkept_str (happlied.trans ?_), hans⟩
    rw [State.modStr, taken_str]
  · obtain ⟨happlied, hans⟩ := settled_done (.steerSetGroup w) (f := f) (s := s) rfl (applySteerGroup_done ..)
    have hstr : (settled f (.steerSetGroup w) none s).str = (regrouped w (taken f (.steerSetGroup w) s)).str := by
      rw [settled_str, happlied]
    refine ⟨_, runCommand_settled h none, ?_, ?_, fun n => ?_, hans⟩
    · rw [hstr]
      exact settled_bookkept_str (happlied.trans (regrouped_frame ..))
    · rw [hstr, regrouped_group]
    · rw [hstr]
      split
      next htouched => rw [regrouped_touched (by rwa [taken_str]), taken_str]
      next hkept => rw [regrouped_untouched (by rwa [taken_str]), taken_str]
  · obtain ⟨happlied, hwaits⟩ := settled_stored (.steerSetConfig a b c l) (f := f) (s := s) rfl rfl
    refine ⟨_, runCommand_settled h none, settled_bookkept_str (happlied.trans ?_), hwaits⟩
    rw [putStored, State.modStr, taken_str]

end Sys2Proof.Machine
end

section
/-! SUPPORT. Words and set-points as frames (03 R81; 10 R295, R296), and partition.park and partition.unpark (06 R185, R186; 15 R456). -/

namespace Sys2Proof.Machine

open Sys2Proof

/-! What words and set-points move. -/

/-- A word waits on its link or is sent (10 R296). -/
theorem sendWord_frame (n : Acc) (ty : Byte) (body : List Byte) (s : State) :
    sendWord n ty body s = { s with srs := (sendWord n ty body s).srs, out := (sendWord n ty body s).out } := by
  unfold sendWord
  split
  · rfl
  · split <;> rfl

/-- A new PARK word moves the link and what is sent (10 R295). -/
theorem sendPark_frame (n : Acc) (on : Bool) (s : State) :
    sendPark n on s = { s with srs := (sendPark n on s).srs, out := (sendPark n on s).out } := by
  unfold sendPark sendParkWord
  rw [sendWord_frame]
  rfl

/-- A write over AVSBus moves the buses, supervision and what is sent (05 R137; 13 R405). -/
theorem avsWrite_frame (n : Acc) (k : Fin 2) (s : State) : avsWrite n k s =
    { s with twb := (avsWrite n k s).twb, sup := (avsWrite n k s).sup, out := (avsWrite n k s).out } := by
  unfold avsWrite
  simp only
  split <;> rfl

/-- A new set-point moves besides these the set-point and the change of its accelerator alone (03 R81). -/
theorem startSet_frame (n : Acc) (mv opp felt : Nat) (s : State) : startSet n mv opp felt s = { s with
    acc := s.acc.set n { s.acc[n] with
      setMv := mv
      change := some ({ mv := mv, oldMv := s.acc[n].setMv, opp := opp, band := bandAt s n, felt := felt, start := s.sys.tick }) }
    twb := (startSet n mv opp felt s).twb, sup := (startSet n mv opp felt s).sup, out := (startSet n mv opp felt s).out } := by
  unfold startSet avsWrites
  rw [avsWrite_frame, avsWrite_frame]
  rfl

theorem sendPark_recordGrows (n : Acc) (on : Bool) (s : State) : RecordGrows s (sendPark n on s) :=
  .of_eq (by rw [sendPark_frame]) (by rw [sendPark_frame]) (by rw [sendPark_frame])

theorem startSet_recordGrows (n : Acc) (mv opp felt : Nat) (s : State) : RecordGrows s (startSet n mv opp felt s) :=
  .of_eq (by rw [startSet_frame]) (by rw [startSet_frame]) (by rw [startSet_frame])

theorem setStr_recordGrows (n : Acc) (f : StrAcc → StrAcc) (s : State) : RecordGrows s (s.setStr n f) := .of_eq

@[simp] theorem sendPark_str (n : Acc) (on : Bool) (s : State) : (sendPark n on s).str = s.str := by rw [sendPark_frame]
@[simp] theorem startSet_str (n : Acc) (mv opp felt : Nat) (s : State) : (startSet n mv opp felt s).str = s.str := by
  rw [startSet_frame]

/-! Parking and unparking (06 R185). -/

theorem parkAcc_str (n : Acc) (reason : Nat) (s : State) :
    (parkAcc n reason s).str = (s.setStr n fun a => { a with park := .parked, parkReason := reason }).str := by
  simp [parkAcc, retain]

theorem parkAcc_crz (n : Acc) (reason : Nat) (s : State) : (parkAcc n reason s).crz = s.crz := by
  simp [parkAcc, retain, sendPark_crz]

theorem parkAcc_grows (n : Acc) (reason : Nat) (s : State) :
    RecordGrows (emit s 7 n.1 0xFF 0x0603 reason) (parkAcc n reason s) :=
  (((sendPark_recordGrows ..).trans (startSet_recordGrows ..)).trans (setStr_recordGrows ..)).trans (.hostEvent ..)

theorem parkAcc_raised (n : Acc) {reason : Nat} (hreason : reason < 65536) (s : State) :
    Raised (parkAcc n reason s) 7 n.1 0xFF 0x0603 reason :=
  (parkAcc_grows n reason s).raised (raised_emit _ _ _ _ _ _ hreason)

theorem unparkAcc_str (n : Acc) (s : State) :
    (unparkAcc n s).str = (s.setStr n fun a => { a with park := .unparking, parkReason := 0 }).str := by
  simp [unparkAcc]

theorem unparkAcc_crz (n : Acc) (s : State) : (unparkAcc n s).crz = s.crz := by
  simp [unparkAcc]

/-! The commands (06 R186; 15 R456). -/

/-- The mark of a host park. -/
def hostParked (n : Acc) (on : Bool) (s : State) : State := s.setStr n fun a => { a with hostPark := on }

theorem hostParked_acc (n : Acc) (on : Bool) (s : State) :
    (hostParked n on s).str.acc[n] = { s.str.acc[n] with hostPark := on } := by
  simp [hostParked]

/-- partition.park where no drain and no fault of the channel refuses it: one parked already is parked for the host too, one in
S12 is parked at once, and the mark of any other waits for its channel. -/
theorem applyPark_eq {n : Acc} {s : State} (hdecision : s.acc[n].decision = none)
    (hfault : s.crz.chan[accChan n].fault = false) : applyPark n s =
      if n ∈ s.str.capParked ∨ s.str.acc[n].park = .parked then
        done ((hostParked n true s).setStr n fun a => { a with parkReason := 1 })
      else if chState s n = 12 then done (parkAcc n 1 (hostParked n true s)) else done (hostParked n true s) := by
  have hmarked : (hostParked n true s).str.capParked.contains n = true ∨ (hostParked n true s).str.acc[n].park = .parked ↔
      n ∈ s.str.capParked ∨ s.str.acc[n].park = .parked := by
    rw [hostParked_acc, List.contains_iff_mem]
    rfl
  unfold applyPark
  rw [if_neg (by simp only [hdecision, Option.isSome_none, Bool.false_eq_true, not_false_eq_true]),
    if_neg (by simp only [hfault, Bool.false_eq_true, not_false_eq_true])]
  exact if_congr hmarked rfl rfl

/-- partition.unpark where neither a drain nor a failed AVSBus refuses it: one that the cap holds parked stays so, for the cap, and a
parked one begins to unpark. -/
theorem applyUnpark_eq {n : Acc} {s : State} (hdecision : s.acc[n].decision = none) (havs : s.twb.avs[n].failed = false) :
    applyUnpark n s =
      if n ∈ s.str.capParked then
        ((hostParked n false s).setStr n fun a => { a with parkReason := 2 }, some { res := .clipped, data := [1] })
      else if s.str.acc[n].park = .parked then done (unparkAcc n (hostParked n false s)) else done (hostParked n false s) := by
  have hpark : (hostParked n false s).str.acc[n].park = s.str.acc[n].park := by rw [hostParked_acc]
  unfold applyUnpark
  rw [if_neg (by simp only [hdecision, Option.isSome_none, Bool.false_eq_true, not_false_eq_true]),
    if_neg (by simp only [havs, Bool.false_eq_true, not_false_eq_true])]
  refine if_congr List.contains_iff_mem rfl (if_congr ?_ rfl rfl)
  exact hpark ▸ Iff.rfl

/-! What waits for the record after a command. -/

theorem coefRejected_recordGrows (r : Req) (a : Ans) (s : State) : RecordGrows s (coefRejected r a s) := by
  unfold coefRejected
  split
  · exact .emit ..
  · exact .refl s

/-- The answer of a command takes nothing out of the merger. -/
theorem settleReq_recordGrows (r : Req) (q : Reply) (a : Option Ans) (s : State) : RecordGrows s (settleReq r q a s) := by
  unfold settleReq
  cases a with
  | none => exact ⟨rfl, fun _ hw => hw, fun _ hp => hp⟩
  | some a =>
    refine (coefRejected_recordGrows r a s).trans ?_
    have hbeat : RecordGrows (coefRejected r a s)
        (if a.res = .authFail ∨ a.res = .replay then coefRejected r a s else heartbeat r (coefRejected r a s)) := by
      split
      · exact .refl _
      · exact .of_eq
    refine hbeat.trans ?_
    dsimp only
    cases storeWaits r a with
    | none => exact ⟨rfl, fun _ hw => hw, fun _ hp => hp⟩
    | some c => exact ⟨rfl, fun _ hw => hw, fun _ hp => hp⟩

/-- What applying an admitted command left waiting still waits when it is answered. -/
theorem settled_recordGrows (f : Frame) (c : Cmd) (bus : Option TransferEnd) (s : State) :
    RecordGrows (applied f c bus s).1 (settled f c bus s) := by
  have hnote := noteSetting_frame (reqOf f c bus s) c (applied f c bus s).2 (applied f c bus s).1
  refine .trans (.of_eq ?_ ?_ ?_) (settleReq_recordGrows ..) <;> rw [hnote]

@[simp] theorem chState_taken (f : Frame) (c : Cmd) (s : State) (n : Acc) : chState (taken f c s) n = chState s n := by
  rw [taken_frame]
  rfl

/-! What the rules leave of the accelerator. -/

theorem parkAcc_acc (n : Acc) (reason : Nat) (s : State) : (parkAcc n reason (hostParked n true s)).str.acc[n] =
    { s.str.acc[n] with hostPark := true, park := .parked, parkReason := reason } := by
  simp [parkAcc_str, hostParked]

theorem unparkAcc_acc (n : Acc) (s : State) : (unparkAcc n (hostParked n false s)).str.acc[n] =
    { s.str.acc[n] with hostPark := false, park := .unparking, parkReason := 0 } := by
  simp [unparkAcc_str, hostParked]

theorem hostParked_reason (n : Acc) (on : Bool) (reason : Nat) (s : State) :
    ((hostParked n on s).setStr n fun a => { a with parkReason := reason }).str.acc[n] =
      { s.str.acc[n] with hostPark := on, parkReason := reason } := by
  simp [hostParked]

/-- Settles O11: each command by the branches of its rule, on the state in which it is taken. -/
theorem parkAndUnparkCommands : Obligations.ParkAndUnparkCommands := by
  unfold Obligations.ParkAndUnparkCommands
  refine ⟨fun f b n s h hb hdecision hfault => ⟨_, runCommand_settled h none, ?_⟩,
    fun f b n s h hb hdecision havs => ⟨_, runCommand_settled h none, ?_⟩⟩
  · have hrule : applied f (.partitionPark b) none s = _ := (onAcc_eq hb applyPark _).trans
      (applyPark_eq (by rwa [taken_acc]) (by rwa [taken_crz]))
    rw [taken_str, chState_taken] at hrule
    by_cases hmarked : n ∈ s.str.capParked ∨ s.str.acc[n].park = .parked
    · rw [if_pos hmarked] at hrule
      obtain ⟨happlied, hans⟩ := settled_done (.partitionPark b) rfl hrule
      rw [settled_str, settled_crz, happlied, hostParked_reason]
      exact ⟨rfl, taken_crz .., hans, fun hcap hpark => absurd hmarked (not_or.2 ⟨hcap, hpark⟩),
        fun hcap hpark => absurd hmarked (not_or.2 ⟨hcap, hpark⟩)⟩
    rw [if_neg hmarked] at hrule
    by_cases hstate : chState s n = 12
    · rw [if_pos hstate] at hrule
      obtain ⟨happlied, hans⟩ := settled_done (.partitionPark b) rfl hrule
      have hgrows := happlied ▸ settled_recordGrows f (.partitionPark b) none s
      rw [settled_str, settled_crz, happlied, parkAcc_acc]
      exact ⟨rfl, (parkAcc_crz ..).trans (taken_crz ..), hans,
        fun _ _ _ => ⟨rfl, rfl, hgrows.raised (parkAcc_raised n (by decide) _), hgrows.hostDue (hostDue_hostEvent ..)⟩,
        fun _ _ hbelow => absurd hstate hbelow⟩
    · rw [if_neg hstate] at hrule
      obtain ⟨happlied, hans⟩ := settled_done (.partitionPark b) rfl hrule
      rw [settled_str, settled_crz, happlied, hostParked_acc, taken_str]
      exact ⟨rfl, taken_crz .., hans, fun _ _ htop => absurd htop hstate, fun _ _ _ => rfl⟩
  · have hrule : applied f (.partitionUnpark b) none s = _ := (onAcc_eq hb applyUnpark _).trans
      (applyUnpark_eq (by rwa [taken_acc]) (by rwa [taken_twb]))
    rw [taken_str] at hrule
    by_cases hcap : n ∈ s.str.capParked
    · rw [if_pos hcap] at hrule
      have hans : AnsweredWith f (.partitionUnpark b) .clipped [1] _ := settled_answered (congrArg Prod.snd hrule) rfl
      rw [settled_str, settled_crz, hrule, hostParked_reason, taken_str]
      exact ⟨rfl, taken_crz .., fun _ => ⟨rfl, hans⟩, fun hfree => absurd hcap hfree, fun hfree => absurd hcap hfree⟩
    rw [if_neg hcap] at hrule
    by_cases hpark : s.str.acc[n].park = .parked
    · rw [if_pos hpark] at hrule
      obtain ⟨happlied, hans⟩ := settled_done (.partitionUnpark b) rfl hrule
      have hgrows := happlied ▸ settled_recordGrows f (.partitionUnpark b) none s
      rw [settled_str, settled_crz, happlied, unparkAcc_acc]
      exact ⟨rfl, (unparkAcc_crz ..).trans (taken_crz ..), fun hmem => absurd hmem hcap,
        fun _ _ => ⟨rfl, hgrows.hostDue (hostDue_hostEvent ..), hans⟩, fun _ hnot => absurd hpark hnot⟩
    · rw [if_neg hpark] at hrule
      obtain ⟨happlied, hans⟩ := settled_done (.partitionUnpark b) rfl hrule
      rw [settled_str, settled_crz, happlied, hostParked_acc, taken_str]
      exact ⟨rfl, taken_crz .., fun hmem => absurd hmem hcap, fun _ hparked => absurd hparked hpark,
        fun _ _ => ⟨rfl, hans⟩⟩

end Sys2Proof.Machine
end

section
/-! SUPPORT. The evaluation of Brim (07 R196 to R211): what a period leaves of the machine, the shares of the ballast and the
throttle. -/

namespace Sys2Proof.Machine

open Sys2Proof

/-! The words of a period (10 R295 to R298) move the links and what is sent. -/

/-- From `s` to `t` only the links and what is sent may differ. -/
structure WordsOnly (s t : State) : Prop where
  frame : t = { s with srs := t.srs, out := t.out }

namespace WordsOnly

theorem refl (s : State) : WordsOnly s s := ⟨rfl⟩

theorem trans {s t u : State} (h : WordsOnly s t) (h' : WordsOnly t u) : WordsOnly s u := ⟨by rw [h'.frame, h.frame]⟩

theorem forAll {α : Type} {f : α → State → State} (h : ∀ x s, WordsOnly s (f x s)) (l : List α) (s : State) :
    WordsOnly s (forAll l f s) :=
  forAll_inv (WordsOnly s) f l (fun x t ht => ht.trans (h x t)) s (refl s)

theorem setLink (n : Acc) (f : LinkState → LinkState) (s : State) : WordsOnly s (s.setLink n f) := ⟨rfl⟩

theorem sendWord (n : Acc) (ty : Byte) (body : List Byte) (s : State) : WordsOnly s (sendWord n ty body s) :=
  ⟨sendWord_frame ..⟩

theorem drainWords (k : Nat) (n : Acc) (s : State) : WordsOnly s (drainWords k n s) := by
  induction k generalizing s with
  | zero => exact refl s
  | succ k ih =>
    unfold Machine.drainWords
    split
    next w rest _ =>
      have hsent : WordsOnly s ((s.setLink n fun l => { l with waiting := rest }).send (.word n w)) := ⟨rfl⟩
      exact hsent.trans (ih _)
    · exact refl s

theorem modSrs (f : SrsState → SrsState) (s : State) : WordsOnly s (s.modSrs f) := ⟨rfl⟩

theorem arbitrate {f : State → State} (h : ∀ s, WordsOnly s (f s)) (s : State) : WordsOnly s (arbitrate f s) := by
  unfold Machine.arbitrate
  split
  · exact h s
  · have hformed : WordsOnly s (f (s.modSrs fun r => { r with forming := true })) := (modSrs ..).trans (h _)
    exact (hformed.trans (modSrs ..)).trans (forAll (fun n s => drainWords ..) _ _)

theorem sendEnvelope (n : Acc) (s : State) : WordsOnly s (sendEnvelope n s) := by
  unfold Machine.sendEnvelope
  split
  · exact (setLink ..).trans (sendWord ..)
  · exact refl s

theorem sendEnvelopes (s : State) : WordsOnly s (sendEnvelopes s) := by
  refine arbitrate (fun s => forAll (fun n s => (sendEnvelope n s).trans ?_) _ s) s
  dsimp only
  split
  · exact sendWord ..
  · exact refl _

end WordsOnly

/-! A period outside the decision. -/

/-- Brim's demand for the forced minimum on every accelerator. -/
def brimForceAll (on : Bool) (s : State) : State := forAll accList (fun n s => s.setAcc n fun a => { a with forceBrim := on }) s

theorem brimForceAll_frame (on : Bool) (s : State) : brimForceAll on s = { s with acc := (brimForceAll on s).acc } :=
  forAll_inv (fun t : State => t = { s with acc := t.acc }) _ _ (fun n t ht => by rw [ht]; rfl) _ rfl

theorem brimForceAll_acc (on : Bool) (n : Acc) (s : State) : (brimForceAll on s).acc[n] = { s.acc[n] with forceBrim := on } := by
  refine forAll_accList_pointwise (view := fun (t : State) (n : Acc) => t.acc[n]) (g := fun _ a => { a with forceBrim := on })
    (fun m t n => ?_) n s
  by_cases hn : n = m
  · subst hn
    simp
  · have hne : m.1 ≠ n.1 := fun e => hn (Fin.ext e.symm)
    simp [hn, hne]

/-- What every period does after its decision, whether or not Brim is active. -/
def brimClosed (s : State) : State := sendEnvelopes (brimDeltas (countZero (brimOverhead s)))

/-- From `s` to `t` only the words of a period and what Brim keeps beside its decision may differ. -/
structure ClosedOnly (s t : State) : Prop where
  frame : t = { s with
    srs := t.srs, out := t.out,
    brm := { s.brm with
      ohHist := t.brm.ohHist, zeroRun := t.brm.zeroRun, delta := t.brm.delta, deltaT := t.brm.deltaT, gotP := t.brm.gotP,
      gotA := t.brm.gotA, gotT := t.brm.gotT } }

theorem ClosedOnly.trans {s t u : State} (h : ClosedOnly s t) (h' : ClosedOnly t u) : ClosedOnly s u :=
  ⟨by rw [h'.frame, h.frame]⟩

theorem brimClosed_closedOnly (s : State) : ClosedOnly s (brimClosed s) := by
  have hoverhead : ClosedOnly s (brimOverhead s) := ⟨rfl⟩
  have hzero : ∀ s, ClosedOnly s (countZero s) := fun s => ⟨rfl⟩
  have hdeltas : ∀ s, ClosedOnly s (brimDeltas s) := fun s => ⟨rfl⟩
  have hwords : ∀ s, ClosedOnly s (sendEnvelopes s) := fun s => ⟨by rw [(WordsOnly.sendEnvelopes s).frame]⟩
  exact ((hoverhead.trans (hzero _)).trans (hdeltas _)).trans (hwords _)

/-- One reading enters or leaves substitution (07 R198, R199). -/
def substOne (u : Fin 9) (now : Bool) (s : State) : State :=
  if s.brm.subst[u] == now then s else
    emit (s.modBrm fun b => { b with subst := b.subst.set u now }) 3 u.1 0xFF 0x0705 (if now then 1 else 0)

/-- The readings of the accelerators, then that of the tray. -/
theorem brimSubst_eq (s : State) : brimSubst s =
    substOne 8 (traySubst (forAll accList (fun n s => substOne n.castSucc (decide (2 ≤ s.brm.staleP[n])) s) s))
      (forAll accList (fun n s => substOne n.castSucc (decide (2 ≤ s.brm.staleP[n])) s) s) := by
  unfold brimSubst substOne forAll
  dsimp only

/-- From `s` to `t` only the record, the freshness counters and the flags of substitution may differ. -/
structure FreshnessOnly (s t : State) : Prop where
  frame : t = { s with rcd := t.rcd, brm := { s.brm with
    subst := t.brm.subst, staleP := t.brm.staleP, staleA := t.brm.staleA, staleT := t.brm.staleT } }

theorem FreshnessOnly.trans {s t u : State} (h : FreshnessOnly s t) (h' : FreshnessOnly t u) : FreshnessOnly s u :=
  ⟨by rw [h'.frame, h.frame]⟩

theorem substOne_freshnessOnly (u : Fin 9) (now : Bool) (s : State) : FreshnessOnly s (substOne u now s) := by
  unfold substOne
  split <;> exact ⟨rfl⟩

/-- What a period learns of its readings before it decides. -/
theorem substituted_freshnessOnly (s : State) : FreshnessOnly s (brimSubst (brimAge s)) := by
  have hage : FreshnessOnly s (brimAge s) := ⟨rfl⟩
  rw [brimSubst_eq]
  exact (forAll_inv (FreshnessOnly s) _ _ (fun n t ht => ht.trans (substOne_freshnessOnly ..)) (brimAge s) hage).trans
    (substOne_freshnessOnly ..)

theorem brimActive_age (s : State) : brimActive (brimAge s) = brimActive s := rfl

/-- BRIM_EVALUATION while Brim is active (07 R203). -/
theorem brimEvaluation_active {s : State} (htick : s.sys.tick % 10 = 0) (hactive : brimActive s = true) :
    exec .brimEvaluation s = .next (brimClosed (brimPeriod (brimSubst (brimAge s)))) := by
  change execBrimEvaluation s = _
  unfold execBrimEvaluation
  rw [if_neg (not_not.2 htick)]
  dsimp only
  rw [if_pos (by rw [brimActive_age, hactive]), brimClosed]

/-- BRIM_EVALUATION while it is not (07 R196, R199). -/
theorem brimEvaluation_inactive {s : State} (htick : s.sys.tick % 10 = 0) (hactive : brimActive s = false) :
    exec .brimEvaluation s = .next (brimClosed
      ((brimOff (brimAge s)).modBrm fun b => { b with trayP := (trayPower (brimAge s)).getD b.trayP })) := by
  change execBrimEvaluation s = _
  unfold execBrimEvaluation
  rw [if_neg (not_not.2 htick)]
  dsimp only
  rw [if_neg (by rw [brimActive_age, hactive]; exact Bool.false_ne_true), brimClosed]

/-! The ballast (07 R206, R207). -/

/-- No share exceeds the capacity of its accelerator (07 R207). -/
theorem shares_le_cap {k : Nat} {b v : Int} {l : List (Acc × Nat)} {n : Acc} (h : (n, v) ∈ shares k b l) :
    ∃ c, (n, c) ∈ l ∧ v ≤ 1000 * (c : Int) := by
  induction k generalizing b l with
  | zero =>
    obtain ⟨⟨m, c⟩, hmem, heq⟩ := List.mem_map.1 h
    obtain ⟨rfl, rfl⟩ := Prod.mk.inj heq
    exact ⟨c, hmem, by positivity⟩
  | succ k ih =>
    unfold shares at h
    split at h
    · exact absurd h List.not_mem_nil
    dsimp only at h
    split at h
    next hnone =>
      obtain ⟨⟨m, c⟩, hmem, heq⟩ := List.mem_map.1 h
      obtain ⟨rfl, rfl⟩ := Prod.mk.inj heq
      have hroom := List.filter_eq_nil_iff.1 (List.isEmpty_iff.1 hnone) _ hmem
      exact ⟨c, hmem, by simpa using hroom⟩
    · rcases List.mem_append.1 h with hfull | hrest
      · obtain ⟨⟨m, c⟩, hmem, heq⟩ := List.mem_map.1 hfull
        obtain ⟨rfl, rfl⟩ := Prod.mk.inj heq
        exact ⟨c, List.mem_of_mem_filter hmem, le_rfl⟩
      · obtain ⟨c, hmem, hle⟩ := ih hrest
        exact ⟨c, List.mem_of_mem_filter hmem, hle⟩

/-- The ballast of an accelerator is within its capacity (07 R206, R207). -/
theorem ballastWords_le (s : State) (b : Int) (n : Acc) : (ballastWords s b)[n] ≤ ballastCap s n := by
  unfold ballastWords
  simp only [Fin.getElem_fin, Vector.getElem_ofFn]
  cases hfind : (shares 9 b ((accList.filter (ballastOk s)).map fun n => (n, ballastCap s n))).find? fun p => p.1 = n with
  | none => exact Nat.zero_le _
  | some p =>
    obtain ⟨m, v⟩ := p
    have hm : m = n := by simpa using List.find?_some hfind
    obtain ⟨c, hmem, hle⟩ := shares_le_cap (List.mem_of_find?_eq_some hfind)
    obtain ⟨i, -, heq⟩ := List.mem_map.1 hmem
    obtain ⟨rfl, rfl⟩ := Prod.mk.inj heq
    subst hm
    show (v / 1000).toNat ≤ ballastCap s _
    omega

/-! The throttle (07 R209). -/

theorem throttlable_pos (s : State) : 0 < throttlable s := lt_of_lt_of_le (by decide) (le_max_left _ _)

/-- The throttle stays within 1 to 64. -/
theorem nextTheta_bounds {s : State} (hlow : 1 ≤ s.brm.theta) (hhigh : s.brm.theta ≤ 64) (p u before after : Int) :
    1 ≤ nextTheta s p u before after ∧ nextTheta s p u before after ≤ 64 := by
  unfold nextTheta
  dsimp only
  split
  next hover =>
    have hcut : 0 ≤ (64 * (p - u - (before - after)) + throttlable s - 1) / throttlable s :=
      Int.ediv_nonneg (by have := throttlable_pos s; omega) (throttlable_pos s).le
    omega
  · split <;> omega

/-! What the throttle episode and the forced minimum leave of a decision. -/

/-- A decision of Brim: its line, its throttle and its ballast, the period they are of, and the channels it reads. -/
structure Decision where
  crz : CrzState
  set : BrimSet
  active : Bool
  trayP : Int
  formedRun : Nat
  blindRun : Nat
  theta : Nat
  line : Int
  upper : Int
  bal : Vector Nat 8
  balCap : Vector Nat 8

/-- That of a state. -/
def decision (s : State) : Decision :=
  { crz := s.crz, set := s.brm.set, active := s.brm.active, trayP := s.brm.trayP, formedRun := s.brm.formedRun,
    blindRun := s.brm.blindRun, theta := s.brm.theta, line := s.brm.line, upper := s.brm.upper, bal := s.brm.bal,
    balCap := s.brm.balCap }

@[simp] theorem decision_emit (s : State) (cls unit obj code detail : Nat) :
    decision (emit s cls unit obj code detail) = decision s := rfl
@[simp] theorem decision_setAcc (n : Acc) (f : AccState → AccState) (s : State) : decision (s.setAcc n f) = decision s := rfl

/-- Both branches are looked at apart. -/
@[simp] theorem decision_ite {c : Prop} {_ : Decidable c} (s t : State) :
    decision (if c then s else t) = if c then decision s else decision t := apply_ite decision c s t

@[simp] theorem decision_foldl {α : Type} {f : State → α → State} (h : ∀ s x, decision (f s x) = decision s) (l : List α)
    (s : State) : decision (l.foldl f s) = decision s :=
  forAll_keeps decision (fun x s => f s x) (fun x s => h s x) l s

/-- What Brim keeps beside its decision. -/
@[simp] theorem decision_modBrm {f : BrmState → BrmState} (h : ∀ b, (f b).set = b.set ∧ (f b).active = b.active ∧
      (f b).trayP = b.trayP ∧ (f b).formedRun = b.formedRun ∧ (f b).blindRun = b.blindRun ∧ (f b).theta = b.theta ∧
      (f b).line = b.line ∧ (f b).upper = b.upper ∧ (f b).bal = b.bal ∧ (f b).balCap = b.balCap) (s : State) :
    decision (s.modBrm f) = decision s := by
  obtain ⟨hset, hactive, htray, hformed, hblind, htheta, hline, hupper, hbal, hcap⟩ := h s.brm
  simp only [decision, State.modBrm_crz, State.modBrm_brm, hset, hactive, htray, hformed, hblind, htheta, hline, hupper,
    hbal, hcap]

theorem decision_brimEpisode (s : State) : decision (brimEpisode s) = decision s := by
  unfold brimEpisode
  simp only [decision_ite, decision_emit, ite_self]
  rfl

theorem decision_brimForceAll (on : Bool) (s : State) : decision (brimForceAll on s) = decision s :=
  decision_foldl (fun s n => decision_setAcc n _ s) accList s

theorem decision_brimForce (p xPrev u : Int) (s : State) : decision (brimForce p xPrev u s) = decision s := by
  have hfree : ∀ t, decision (accList.foldl (fun s n => s.setAcc n fun a => { a with forceBrim := false }) t) = decision t :=
    decision_foldl (fun s n => decision_setAcc n _ s) accList
  unfold brimForce
  simp only [decision_ite, decision_emit, decision_foldl, decision_setAcc, hfree, decision_modBrm, and_self, implies_true,
    ite_self]

theorem decision_brimClosed (s : State) : decision (brimClosed s) = decision s := by
  rw [(brimClosed_closedOnly s).frame]
  rfl

/-! The decision of a formed P (07 R203 to R211). -/

theorem emit_if_frame {c : Prop} [Decidable c] (s : State) (cls unit obj code detail : Nat) :
    (if c then emit s cls unit obj code detail else s) =
      { s with rcd := (if c then emit s cls unit obj code detail else s).rcd } := by
  split <;> rfl

/-- The upper line stands one tolerance above the line, the ballast words realise some total within the capacities, and the throttle
is the next one. -/
theorem decision_brimDecide (p xPrev : Int) (s : State) : ∃ l b before after : Int,
    decision (brimDecide p xPrev s) = { decision s with
      line := l, upper := l + tolMw s, bal := ballastWords s b, balCap := Vector.ofFn fun n => ballastCap s n,
      theta := nextTheta s p (l + tolMw s) before after } := by
  unfold brimDecide
  rw [decision_brimForce, decision_brimEpisode, emit_if_frame]
  exact ⟨_, _, _, _, rfl⟩

/-- The state in which a formed P is decided: sampled, in force, and no longer blind after ten periods (07 R200, R201). -/
def brimFormed (p : Int) (s : State) : State :=
  let back := s.brm.blind && decide (10 ≤ s.brm.formedRun + 1)
  let t := (brimSample p s).modBrm fun b => { b with
    active := true, line := if s.brm.samples.isEmpty || back then p else b.line,
    theta := if s.brm.samples.isEmpty then 64 else b.theta, formedRun := s.brm.formedRun + 1, blindRun := 0 }
  if back then
    let t := t.modBrm fun b => { b with blind := false }
    emit (if t.brm.forced then t else brimForceAll false t) 3 8 0xFF 0x0704 0
  else t

theorem brimPeriod_formed {p : Int} {s : State} (h : trayPower s = some p) : ∃ x, brimPeriod s = brimDecide p x (brimFormed p s) := by
  unfold brimPeriod brimFormed
  rw [h]
  exact ⟨_, rfl⟩

theorem decision_brimFormed (p : Int) (s : State) : ∃ l : Int, decision (brimFormed p s) = { decision s with
    active := true, trayP := p, line := l, theta := if s.brm.samples.isEmpty then 64 else s.brm.theta,
    formedRun := s.brm.formedRun + 1, blindRun := 0 } := by
  unfold brimFormed
  dsimp only
  split
  · rw [decision_emit, decision_ite, decision_brimForceAll, ite_self]
    exact ⟨_, rfl⟩
  · exact ⟨_, rfl⟩

theorem FreshnessOnly.decision {s t : State} (h : FreshnessOnly s t) : decision t = decision s := by rw [h.frame]; rfl

/-- A period with a formed P. -/
theorem brimEvaluation_formed {p : Int} {s : State} (htick : s.sys.tick % 10 = 0) (hactive : brimActive s = true)
    (hp : trayPower (brimSubst (brimAge s)) = some p) :
    ∃ t, exec .brimEvaluation s = .next t ∧ t.brm.active = true ∧ t.brm.trayP = p ∧ t.brm.blindRun = 0 ∧
      t.brm.formedRun = s.brm.formedRun + 1 ∧ t.brm.upper = t.brm.line + tolMw s ∧ t.brm.set = s.brm.set ∧ t.crz = s.crz ∧
      (∀ n : Acc, t.brm.bal[n] ≤ t.brm.balCap[n]) ∧
      (1 ≤ s.brm.theta → s.brm.theta ≤ 64 → 1 ≤ t.brm.theta ∧ t.brm.theta ≤ 64) := by
  refine ⟨_, brimEvaluation_active htick hactive, ?_⟩
  have hsubst := (substituted_freshnessOnly s).decision
  generalize brimSubst (brimAge s) = u at hp hsubst
  obtain ⟨x, hperiod⟩ := brimPeriod_formed hp
  obtain ⟨_, hformed⟩ := decision_brimFormed p u
  obtain ⟨l, b, before, after, hdecided⟩ := decision_brimDecide p x (brimFormed p u)
  have hend := (decision_brimClosed (brimPeriod u)).trans (hperiod ▸ hdecided)
  generalize brimClosed (brimPeriod u) = t at hend
  generalize brimFormed p u = v at hformed hend
  have hset : v.brm.set = s.brm.set := (congrArg Decision.set hformed).trans (congrArg Decision.set hsubst)
  have hcrz : v.crz = s.crz := (congrArg Decision.crz hformed).trans (congrArg Decision.crz hsubst)
  have htheta : v.brm.theta = if u.brm.samples.isEmpty then 64 else s.brm.theta :=
    (congrArg Decision.theta hformed).trans (by rw [← show u.brm.theta = s.brm.theta from congrArg Decision.theta hsubst])
  have hline : t.brm.line = l := congrArg Decision.line hend
  have hupper : t.brm.upper = l + tolMw v := congrArg Decision.upper hend
  have hbal : t.brm.bal = ballastWords v b := congrArg Decision.bal hend
  have hcap : t.brm.balCap = Vector.ofFn fun n => ballastCap v n := congrArg Decision.balCap hend
  have hthrottle : t.brm.theta = nextTheta v p (l + tolMw v) before after := congrArg Decision.theta hend
  refine ⟨?_, ?_, ?_, ?_, ?_, ?_, ?_, fun n => ?_, fun hlow hhigh => ?_⟩
  · exact (congrArg Decision.active hend).trans (congrArg Decision.active hformed)
  · exact (congrArg Decision.trayP hend).trans (congrArg Decision.trayP hformed)
  · exact (congrArg Decision.blindRun hend).trans (congrArg Decision.blindRun hformed)
  · have hrun : u.brm.formedRun = s.brm.formedRun := congrArg Decision.formedRun hsubst
    rw [← hrun]
    exact (congrArg Decision.formedRun hend).trans (congrArg Decision.formedRun hformed)
  · rw [hupper, hline, tolMw, hset, tolMw]
  · exact (congrArg Decision.set hend).trans hset
  · exact (congrArg Decision.crz hend).trans hcrz
  · rw [hbal, hcap]
    simpa using ballastWords_le v b n
  · rw [hthrottle]
    have hstart : 1 ≤ v.brm.theta ∧ v.brm.theta ≤ 64 := by
      rw [htheta]
      split
      · decide
      · exact ⟨hlow, hhigh⟩
    exact nextTheta_bounds hstart.1 hstart.2 ..

/-! A period without P (07 R200, R207). -/

/-- A period without P counts its last reading as its sample. -/
def sampledAgain (s : State) : State := if s.brm.samples.isEmpty then s else brimSample s.brm.trayP s

theorem sampledAgain_frame (s : State) : sampledAgain s = { s with brm := { s.brm with
    samples := (sampledAgain s).brm.samples, w2Peak := (sampledAgain s).brm.w2Peak, a100 := (sampledAgain s).brm.a100,
    x := (sampledAgain s).brm.x } } := by
  unfold sampledAgain
  split <;> rfl

/-- An accelerator that is no longer eligible has ballast (07 R207). -/
def ballastLeft (s : State) : Bool := accList.any fun n => s.brm.bal[n] != 0 && !ballastOk s n

theorem ballastLeft_iff (s : State) : ballastLeft s = true ↔ ∃ n : Acc, s.brm.bal[n] ≠ 0 ∧ ballastOk s n = false := by
  simp [ballastLeft, mem_accList]

theorem decision_brimUnformed (s : State) : ∃ c : Vector Nat 8, decision (brimUnformed s) = { decision s with
    active := true, formedRun := 0, blindRun := s.brm.blindRun + 1,
    bal := if ballastLeft s then ballastWords s (ballastMw s) else s.brm.bal, balCap := c } := by
  unfold brimUnformed
  rw [decision_brimEpisode, show (if s.brm.samples.isEmpty then s else brimSample s.brm.trayP s) = sampledAgain s from rfl,
    sampledAgain_frame]
  exact ⟨_, rfl⟩

theorem brimUnformed_calmRun (s : State) : (brimUnformed s).brm.calmRun = 0 := by
  unfold brimUnformed brimEpisode
  simp only [apply_ite State.brm, emit_brm, State.modBrm_brm, ite_self]

theorem brimPeriod_unformed {s : State} (h : trayPower s = none) : brimPeriod s = brimUnformed s := by
  unfold brimPeriod
  rw [h]

/-- What the ballast is decided from does not depend on the freshness of the readings. -/
theorem FreshnessOnly.ballast {s t : State} (h : FreshnessOnly s t) :
    ballastLeft t = ballastLeft s ∧ ballastMw t = ballastMw s ∧ ∀ b, ballastWords t b = ballastWords s b := by
  rw [h.frame]
  exact ⟨rfl, rfl, fun _ => rfl⟩

/-- A period without a formed P. -/
theorem brimEvaluation_unformed {s : State} (htick : s.sys.tick % 10 = 0) (hactive : brimActive s = true)
    (hp : trayPower (brimSubst (brimAge s)) = none) :
    ∃ t, exec .brimEvaluation s = .next t ∧ t.brm.active = true ∧ t.brm.trayP = s.brm.trayP ∧ t.brm.formedRun = 0 ∧
      t.brm.blindRun = s.brm.blindRun + 1 ∧ t.brm.calmRun = 0 ∧
      ((∀ n : Acc, s.brm.bal[n] = 0 ∨ ballastOk s n = true) → t.brm.bal = s.brm.bal) ∧
      ((∃ n : Acc, s.brm.bal[n] ≠ 0 ∧ ballastOk s n = false) → t.brm.bal = ballastWords s (ballastMw s)) ∧
      t.brm.theta = s.brm.theta ∧ t.brm.line = s.brm.line ∧ t.crz = s.crz := by
  refine ⟨_, brimEvaluation_active htick hactive, ?_⟩
  rw [brimPeriod_unformed hp]
  have hfresh := substituted_freshnessOnly s
  generalize brimSubst (brimAge s) = u at hfresh
  have hsubst := hfresh.decision
  obtain ⟨hleft, hballast, hwords⟩ := hfresh.ballast
  obtain ⟨c, hunformed⟩ := decision_brimUnformed u
  have hend := (decision_brimClosed _).trans hunformed
  have hcalm : (brimClosed (brimUnformed u)).brm.calmRun = 0 := by
    rw [(brimClosed_closedOnly _).frame]
    exact brimUnformed_calmRun u
  generalize brimClosed (brimUnformed u) = t at hend hcalm
  have hbal : t.brm.bal = if ballastLeft s then ballastWords s (ballastMw s) else s.brm.bal := by
    rw [← hleft, ← hballast, ← hwords, ← show u.brm.bal = s.brm.bal from congrArg Decision.bal hsubst]
    exact congrArg Decision.bal hend
  have hrun : u.brm.blindRun = s.brm.blindRun := congrArg Decision.blindRun hsubst
  refine ⟨congrArg Decision.active hend, (congrArg Decision.trayP hend).trans (congrArg Decision.trayP hsubst),
    congrArg Decision.formedRun hend, hrun ▸ congrArg Decision.blindRun hend, hcalm, fun hall => ?_, fun hleftover => ?_,
    (congrArg Decision.theta hend).trans (congrArg Decision.theta hsubst),
    (congrArg Decision.line hend).trans (congrArg Decision.line hsubst),
    (congrArg Decision.crz hend).trans (congrArg Decision.crz hsubst)⟩
  · rw [hbal, if_neg]
    rw [ballastLeft_iff]
    rintro ⟨n, hsome, hnot⟩
    rcases hall n with hnone | hok
    · exact hsome hnone
    · exact Bool.false_ne_true (hnot.symm.trans hok)
  · rw [hbal, if_pos ((ballastLeft_iff s).2 hleftover)]

/-! Outside the active periods. -/

/-- Brim's outputs removed: the demands on the pins, throttle and ballast. -/
theorem brimOff_eq (s : State) : ∃ f : BrmState → BrmState, brimOff s = (brimForceAll false s).modBrm f ∧
    ∀ b, (f b).active = false ∧ (f b).theta = 64 ∧ (f b).bal = Vector.replicate 8 0 ∧ (f b).set = b.set := by
  unfold brimOff brimForceAll forAll
  exact ⟨_, rfl, fun b => ⟨rfl, rfl, rfl, rfl⟩⟩

/-- While Brim is inactive nothing of its outputs remains (07 R196). -/
theorem brimEvaluation_off {s : State} (htick : s.sys.tick % 10 = 0) (hactive : brimActive s = false) :
    ∃ t, exec .brimEvaluation s = .next t ∧ t.brm.active = false ∧ t.brm.theta = 64 ∧
      t.brm.bal = Vector.replicate 8 0 ∧ t.brm.set = s.brm.set ∧ t.crz = s.crz ∧ t.rcd = s.rcd ∧
      (∀ n : Acc, t.acc[n] = { s.acc[n] with forceBrim := false }) := by
  have hnext := brimEvaluation_inactive htick hactive
  have hframe := brimForceAll_frame false (brimAge s)
  have hacc := fun n => brimForceAll_acc false n (brimAge s)
  obtain ⟨f, hoff, hout⟩ := brimOff_eq (brimAge s)
  rw [hoff] at hnext
  generalize brimForceAll false (brimAge s) = u at hnext hframe hacc
  obtain ⟨hinactive, htheta, hbal, hset⟩ := hout u.brm
  refine ⟨_, hnext, ?_⟩
  rw [(brimClosed_closedOnly _).frame]
  refine ⟨hinactive, htheta, hbal, hset.trans ?_, ?_, ?_, hacc⟩
  · rw [hframe]; rfl
  · rw [hframe]; rfl
  · rw [hframe]; rfl

/-- BRIM_BLIND (07 R200). -/
theorem brimBlind_row {s : State} (hrun : 10 ≤ s.brm.blindRun) (hblind : s.brm.blind = false) (hactive : s.brm.active = true) :
    ∃ t, exec .brimBlind s = .next t ∧ Raised t 3 8 0xFF 0x0704 1 ∧ (∀ n : Acc, t.acc[n] = { s.acc[n] with forceBrim := true }) ∧
      t = { s with rcd := t.rcd, acc := t.acc, brm := { s.brm with blind := true, blindSeen := true } } := by
  have hnext : exec .brimBlind s = .next (emit ((brimForceAll true s).modBrm fun b => { b with blind := true, blindSeen := true })
      3 8 0xFF 0x0704 1) := by
    change execBrimBlind s = _
    unfold execBrimBlind brimForceAll forAll
    rw [if_neg (by simp [hrun, hblind, hactive])]
  have hframe := brimForceAll_frame true s
  have hacc := fun n => brimForceAll_acc true n s
  generalize brimForceAll true s = u at hnext hframe hacc
  refine ⟨_, hnext, raised_emit _ _ _ _ _ _ (by decide), hacc, ?_⟩
  rw [hframe]
  rfl

end Sys2Proof.Machine
end

section
/-! SUPPORT. The steering loop (06 R157 to R192): what its steps leave of the channels, the record, the tray-wide mode and the
requests. -/

namespace Sys2Proof.Machine

open Sys2Proof

/-! What every step of a loop keeps. -/

/-- From `s` to `t` nothing that waits for the record is lost, the channels and the tray-wide mode stand, a thermal ceiling within
OP15 stays within it, and a request, where it changes, is one of OP0 to OP15 for an accelerator above S8. -/
structure LoopSteps (s t : State) : Prop where
  grows : RecordGrows s t
  crz : t.crz = s.crz
  felting : t.str.felting = s.str.felting
  cause : t.str.feltCause = s.str.feltCause
  ceiling : ∀ n : Acc, s.str.acc[n].kTherm ≤ 15 → t.str.acc[n].kTherm ≤ 15
  opp : ∀ n : Acc, t.acc[n].oppReq = s.acc[n].oppReq ∨ (9 ≤ chState s n ∧ t.acc[n].oppReq ≤ 15)

namespace LoopSteps

/-- A step that leaves SYS_, the record, the mailboxes, Crozier, the pins and the steering block alone. -/
theorem of_eq {s t : State} (hsys : t.sys = s.sys := by rfl) (hrcd : t.rcd = s.rcd := by rfl) (hmbx : t.mbx = s.mbx := by rfl)
    (hcrz : t.crz = s.crz := by rfl) (hacc : t.acc = s.acc := by rfl) (hstr : t.str = s.str := by rfl) : LoopSteps s t :=
  ⟨.of_eq hsys hrcd hmbx, hcrz, by rw [hstr], by rw [hstr], fun _ h => by rwa [hstr], fun _ => .inl (by rw [hacc])⟩

theorem refl (s : State) : LoopSteps s s := of_eq

theorem trans {s t u : State} (h : LoopSteps s t) (h' : LoopSteps t u) : LoopSteps s u where
  grows := h.grows.trans h'.grows
  crz := h'.crz.trans h.crz
  felting := h'.felting.trans h.felting
  cause := h'.cause.trans h.cause
  ceiling n hn := h'.ceiling n (h.ceiling n hn)
  opp n := by
    have hstate : chState t n = chState s n := by unfold chState; rw [h.crz]
    rcases h'.opp n with hsame | hnew
    · rw [hsame]
      exact h.opp n
    · exact .inr (hstate ▸ hnew)

theorem of_words {s t : State} (h : WordsOnly s t) : LoopSteps s t := by
  rw [h.frame]
  exact of_eq

theorem emit (s : State) (cls unit obj code detail : Nat) : LoopSteps s (emit s cls unit obj code detail) :=
  ⟨.emit .., rfl, rfl, rfl, fun _ h => h, fun _ => .inl rfl⟩

theorem hostEvent (b : Nat) (s : State) : LoopSteps s (hostEvent b s) :=
  ⟨.hostEvent .., rfl, rfl, rfl, fun _ h => h, fun _ => .inl rfl⟩

/-- An update of one accelerator's steering that leaves its thermal ceiling within OP15. -/
theorem setStr (n : Acc) {f : StrAcc → StrAcc} (s : State)
    (hf : ∀ a, a.kTherm ≤ 15 → (f a).kTherm ≤ 15 := by exact fun _ h => h) : LoopSteps s (s.setStr n f) := by
  refine ⟨.of_eq, rfl, rfl, rfl, fun m hm => ?_, fun _ => .inl rfl⟩
  by_cases hn : m = n
  · subst hn
    simpa using hf _ hm
  · have hne : n.1 ≠ m.1 := fun e => hn (Fin.ext e.symm)
    simpa [hne] using hm

theorem modStr {f : StrState → StrState} (s : State) (hf : ∀ r, (f r).acc = r.acc ∧ (f r).felting = r.felting ∧
    (f r).feltCause = r.feltCause := by exact fun _ => ⟨rfl, rfl, rfl⟩) : LoopSteps s (s.modStr f) := by
  obtain ⟨hacc, hfelting, hcause⟩ := hf s.str
  exact ⟨.of_eq, rfl, hfelting, hcause, fun n hn => by simpa [hacc] using hn, fun _ => .inl rfl⟩

/-- An update of one accelerator's pins that leaves its request. -/
theorem setAcc (n : Acc) {f : AccState → AccState} (s : State) (hf : ∀ a, (f a).oppReq = a.oppReq := by exact fun _ => rfl) :
    LoopSteps s (s.setAcc n f) := by
  refine ⟨.of_eq, rfl, rfl, rfl, fun _ h => h, fun m => .inl ?_⟩
  by_cases hn : m = n
  · subst hn
    simp [hf]
  · have hne : n.1 ≠ m.1 := fun e => hn (Fin.ext e.symm)
    simp [hne]

theorem foldl {α : Type} {f : State → α → State} (h : ∀ s x, LoopSteps s (f s x)) (l : List α) (s : State) :
    LoopSteps s (l.foldl f s) :=
  forAll_inv (LoopSteps s) (fun x s => f s x) l (fun x t ht => ht.trans (h t x)) s (refl s)

theorem ite {s t u : State} {c : Prop} [Decidable c] (ht : LoopSteps s t) (hu : LoopSteps s u) :
    LoopSteps s (if c then t else u) := by
  split
  · exact ht
  · exact hu

end LoopSteps

/-! Set-points, parking and requests (03 R81; 06 R185, R186). -/

theorem startSet_loopSteps (n : Acc) (mv opp felt : Nat) (s : State) : LoopSteps s (startSet n mv opp felt s) := by
  have hwrite : ∀ (k : Fin 2) (s : State), LoopSteps s (avsWrite n k s) := fun k s => by
    rw [avsWrite_frame]
    exact .of_eq
  exact ((LoopSteps.setAcc n s).trans (hwrite ..)).trans (hwrite ..)

theorem parkAcc_loopSteps (n : Acc) (reason : Nat) (s : State) : LoopSteps s (parkAcc n reason s) :=
  ((((LoopSteps.emit ..).trans (.of_words ⟨sendPark_frame ..⟩)).trans (startSet_loopSteps ..)).trans (.setStr ..)).trans
    (.hostEvent ..)

theorem unparkAcc_loopSteps (n : Acc) (s : State) : LoopSteps s (unparkAcc n s) :=
  (((LoopSteps.emit ..).trans (startSet_loopSteps ..)).trans (.setStr ..)).trans (.hostEvent ..)

theorem endPark_loopSteps (n : Acc) (s : State) : LoopSteps s (endPark n s) := by
  unfold endPark
  exact .ite (.refl s) (((LoopSteps.setStr n s).trans (.modStr _)).trans (.of_words (.setLink ..)))

theorem strParks_loopSteps (n : Acc) (s : State) : LoopSteps s (strParks n s) := by
  unfold strParks
  exact .ite (parkAcc_loopSteps ..) (.ite (endPark_loopSteps ..) (.refl s))

theorem strGuard_loopSteps (n : Acc) (s : State) : LoopSteps s (strGuard n s) := by
  unfold strGuard
  exact .ite (startSet_loopSteps ..) (.refl s)

theorem sendCommit_wordsOnly (n : Acc) (whole : Bool) (s : State) : WordsOnly s (sendCommit n whole s) := by
  unfold sendCommit
  dsimp only
  split
  · exact .refl s
  · exact ((WordsOnly.forAll (fun _ _ => .sendWord ..) _ s).trans (.sendWord ..)).trans (.setLink ..)

theorem lowerClocks_loopSteps (n : Acc) (k felt : Nat) (s : State) : LoopSteps s (lowerClocks n k felt s) := by
  unfold lowerClocks
  exact .ite (((LoopSteps.setStr n s).trans (.of_words (.setLink ..))).trans (.of_words (sendCommit_wordsOnly ..))) (.refl s)

theorem applyOpp_loopSteps (n : Acc) (k felt : Nat) (s : State) : LoopSteps s (applyOpp n k felt s) := by
  unfold applyOpp
  dsimp only
  refine (lowerClocks_loopSteps n k felt s).trans ?_
  split
  · exact .ite (.ite (startSet_loopSteps ..) (.refl _)) (startSet_loopSteps ..)
  · exact .ite (.refl _) (startSet_loopSteps ..)

theorem resendPark_wordsOnly (n : Acc) (s : State) : WordsOnly s (resendPark n s) := by
  unfold resendPark
  split
  · exact .refl s
  · split
    · exact .refl s
    · exact .sendWord ..

theorem sendQuota_loopSteps (n : Acc) (quota : Nat) (s : State) : LoopSteps s (sendQuota n quota s) :=
  .of_words (((WordsOnly.setLink ..).trans (resendPark_wordsOnly ..)).trans (sendCommit_wordsOnly ..))

/-! The models of a loop (06 R161 to R180). -/

theorem strMembers_loopSteps (s : State) : LoopSteps s (strMembers s) := by
  unfold strMembers
  dsimp only
  refine (LoopSteps.foldl (fun t n => ?_) accList s).trans (.modStr _)
  exact (LoopSteps.ite (.setStr n t) (.refl t)).trans (.ite (.setStr n _) (.refl _))

theorem strStale_loopSteps (n : Acc) (s : State) : LoopSteps s (strStale n s) := by
  unfold strStale
  dsimp only
  exact .ite ((LoopSteps.ite (.refl s) (.emit ..)).trans (.setStr n _)) (.ite ((LoopSteps.emit ..).trans (.setStr n _)) (.setStr n s))

theorem strModel_loopSteps (n : Acc) (s : State) : LoopSteps s (strModel n s) := by
  unfold strModel
  exact (LoopSteps.ite (.emit ..) (.ite (.emit ..) (.refl s))).trans (.setStr n _)

theorem strContexts_loopSteps (n : Acc) (s : State) : LoopSteps s (strContexts n s) := by
  unfold strContexts
  exact .setStr n s

/-- A field of a register is below two to its width. -/
theorem fld_lt (w : Word) (lo n : Nat) : fld w lo n < 2 ^ n := Nat.mod_lt _ (by positivity)

/-- The thermal ceiling of a loop is one of OP0 to OP15 (06 R175). -/
theorem strTherm_ceiling (n : Acc) (s : State) : (strTherm n s).str.acc[n].kTherm ≤ 15 := by
  have hceil : fld s.str.thermCeil (4 * bandAt s n) 4 ≤ 15 := Nat.le_of_lt_succ (fld_lt _ _ 4)
  unfold strTherm
  simp only [State.setStr_str, Fin.getElem_fin, Vector.getElem_set_self]
  split
  · exact hceil
  · exact (min_le_left _ _).trans hceil

theorem strTherm_loopSteps (n : Acc) (s : State) : LoopSteps s (strTherm n s) := by
  have hceil : fld s.str.thermCeil (4 * bandAt s n) 4 ≤ 15 := Nat.le_of_lt_succ (fld_lt _ _ 4)
  unfold strTherm
  refine .setStr n s fun a _ => ?_
  dsimp only
  split
  · exact hceil
  · exact (min_le_left _ _).trans hceil

theorem strCalib_loopSteps (s : State) : LoopSteps s (strCalib s) := by
  unfold strCalib
  exact .ite (.refl s) (.modStr s)

theorem strShift_loopSteps (share : Rat) (g : Fin 8) (s : State) : LoopSteps s (strShift share g s) := by
  unfold strShift
  extract_lets mem part sigma decay
  have hdecay : LoopSteps s (decay s) :=
    (LoopSteps.modStr s).trans (.ite (.refl _) (.foldl (fun _ n => .setStr n _) ..))
  refine .ite hdecay ?_
  split
  · exact hdecay
  next c _ =>
    extract_lets wc gap cand don
    refine .ite hdecay ?_
    refine (LoopSteps.modStr s).trans (.ite ?_ (.refl _))
    exact (LoopSteps.setStr c _).trans (.foldl (fun _ n => .setStr n _) ..)

/-- A shortfall lowers the quota, then parks, then gives up (06 R182, R183, R187); without one the cap's parks and the quota are
undone (06 R184). -/
theorem strEscalate_loopSteps (b : Rat) (s : State) : LoopSteps s (strEscalate b s) := by
  unfold strEscalate
  extract_lets a q need short left start setQ tight unreachRun failing clearRun cleared calm ok raiseRun rising
  have hsetQ : ∀ (q : Nat) (t : State), LoopSteps t (setQ q t) := fun q t => (LoopSteps.modStr t).trans (.emit ..)
  have hstart : LoopSteps s start := .modStr s
  refine hstart.trans ?_
  split
  · have htight : LoopSteps start tight := .modStr start
    refine htight.trans (.ite (hsetQ ..) (.ite (.refl _) ?_))
    clear_value left
    split
    · exact .ite ((parkAcc_loopSteps ..).trans (.modStr _)) (.refl _)
    · have hfailing : LoopSteps tight failing := .modStr tight
      exact hfailing.trans (.ite (((LoopSteps.emit ..).trans (.modStr _)).trans (.hostEvent ..)) (.refl _))
  · have hcleared : LoopSteps start cleared := .modStr start
    have hcalm : LoopSteps cleared calm := .ite (((LoopSteps.emit ..).trans (.modStr _)).trans (.hostEvent ..)) (.refl _)
    refine (hcleared.trans hcalm).trans ?_
    split
    · extract_lets rest dynScale ok run counted unparked
      have hcounted : LoopSteps calm counted := .modStr calm
      have hunparked : LoopSteps counted unparked := (unparkAcc_loopSteps ..).trans (.modStr _)
      exact hcounted.trans (.ite (hunparked.trans (.ite (.modStr _) (.refl _))) (.refl _))
    · have hrising : LoopSteps calm rising := .modStr calm
      exact .ite (.modStr calm) (hrising.trans (.ite (hsetQ ..) (.refl _)))

theorem strRelease_loopSteps (n : Acc) (s : State) : LoopSteps s (strRelease n s) := by
  unfold strRelease
  dsimp only
  refine .ite (.refl s) ?_
  split
  · exact .ite ((LoopSteps.setAcc n s).trans (.emit ..)) (.setAcc n s)
  · exact .setAcc n s

/-! Requests (06 R160, R191). -/

/-- The OPP of a common frequency is one of OP0 to OP15 (06 R191). -/
theorem feltOpp_le (bin mhz : Nat) : feltOpp bin mhz ≤ 15 := by
  unfold feltOpp
  cases hfind : (List.range 16).find? fun k => mhz ≤ oppMhz bin k with
  | none => decide
  | some k => exact Nat.le_of_lt_succ (List.mem_range.1 (List.mem_of_find?_eq_some hfind))

/-- A request is of an accelerator above S8, for one of OP0 to OP15 where its thermal ceiling is one (06 R160). -/
theorem strRequest_bounds {s : State} {felt k why f : Nat} {n : Acc} (hceil : s.str.acc[n].kTherm ≤ 15)
    (h : strRequest s felt n = some (k, why, f)) : 9 ≤ chState s n ∧ k ≤ 15 := by
  unfold strRequest at h
  extract_lets a c low at h
  have hlow : ∀ x, low x ≤ x := fun x => by
    have hbin : (if s.acc[n].bin = 0xFF then 0 else x) ≤ x := by split <;> omega
    show (if s.twb.avs[n].failed then min (if s.acc[n].bin = 0xFF then 0 else x) (oppAt s n) else
      (if s.acc[n].bin = 0xFF then 0 else x)) ≤ x
    split
    · exact (min_le_left _ _).trans hbin
    · exact hbin
  have hceil' : min a.kTherm a.kBrim ≤ 15 := (min_le_left _ _).trans hceil
  split at h
  · exact absurd h (Option.some_ne_none _).symm
  next habove =>
    refine ⟨Nat.le_of_not_lt fun hbelow => habove (.inl hbelow), ?_⟩
    split at h
    · obtain ⟨rfl, -⟩ := Prod.mk.inj (Option.some.inj h)
      exact (hlow _).trans (feltOpp_le ..)
    split at h
    · obtain ⟨rfl, -⟩ := Prod.mk.inj (Option.some.inj h)
      refine (hlow _).trans ?_
      split
      · decide
      · exact (min_le_right _ _).trans hceil'
    split at h
    · obtain ⟨rfl, -⟩ := Prod.mk.inj (Option.some.inj h)
      exact (hlow _).trans ((min_le_right _ _).trans hceil')
    · exact absurd h (Option.some_ne_none _).symm

theorem LoopSteps.request {n : Acc} {k : Nat} {s : State} (hstate : 9 ≤ chState s n) (hk : k ≤ 15) :
    LoopSteps s (s.setAcc n fun a => { a with oppReq := k }) := by
  refine ⟨.of_eq, rfl, rfl, rfl, fun _ h => h, fun m => ?_⟩
  by_cases hn : m = n
  · subst hn
    exact .inr ⟨hstate, by simpa using hk⟩
  · have hne : n.1 ≠ m.1 := fun e => hn (Fin.ext e.symm)
    exact .inl (by simp [hne])

/-- Step 4 of a loop for one accelerator (03 R81, 06 R159). -/
theorem strWrite_loopSteps (felt : Nat) {n : Acc} {s : State} (hceil : s.str.acc[n].kTherm ≤ 15) :
    LoopSteps s (strWrite felt n s) := by
  unfold strWrite
  split
  · exact (strGuard_loopSteps n s).trans (.setStr n _)
  next k why f hrequest =>
    obtain ⟨hstate, hk⟩ := strRequest_bounds hceil hrequest
    exact ((LoopSteps.request hstate hk).trans (.setStr n _)).trans (applyOpp_loopSteps ..)

/-! Bring-up's part of a loop (11 R328, R330). -/

theorem sendTest_loopSteps (n : Acc) (op : Byte) (body : List Byte) (s : State) : LoopSteps s (sendTest n op body s) :=
  .of_words (.sendWord ..)

theorem setBup_loopSteps (n : Acc) (f : BupAcc → BupAcc) (s : State) : LoopSteps s (s.setBup n f) := .of_eq

theorem appendEntry_loopSteps (e : JEntry) (s : State) : LoopSteps s (appendEntry e s) := by
  unfold appendEntry
  split
  · exact .of_eq
  dsimp only
  split
  · exact .of_eq
  · exact .trans .of_eq (.emit ..)

theorem declareFailed_loopSteps (n : Acc) (detail : Nat) (s : State) : LoopSteps s (declareFailed n detail s) := by
  have hentry : LoopSteps s (if detail = 3 then s else appendEntry (entryOf s n 8 0 0 0 s.bup.acc[n].mergedRun) s) :=
    .ite (.refl s) (appendEntry_loopSteps ..)
  exact (((hentry.trans (.setAcc n _)).trans (setBup_loopSteps ..)).trans (.emit ..)).trans (.hostEvent ..)

theorem demote_loopSteps (n : Acc) (bin : Nat) (s : State) : LoopSteps s (demote n bin s) :=
  ((appendEntry_loopSteps ..).trans (.setAcc n _)).trans (.emit ..)

theorem judgeBin_loopSteps (n : Acc) (s : State) : LoopSteps s (judgeBin n s) := by
  unfold judgeBin
  dsimp only
  refine .ite (declareFailed_loopSteps ..) (.ite (declareFailed_loopSteps ..) ?_)
  split
  · exact declareFailed_loopSteps ..
  · exact .ite (.refl s) (demote_loopSteps ..)

theorem forAll_loopSteps {α : Type} {f : α → State → State} (h : ∀ x s, LoopSteps s (f x s)) (l : List α) (s : State) :
    LoopSteps s (forAll l f s) := .foldl (fun s x => h x s) l s

theorem mergeRun_loopSteps (n : Acc) (r : TestRun) (untested : List Nat) (s : State) :
    LoopSteps s (mergeRun n r untested s) := by
  unfold mergeRun
  extract_lets told st newEng newCtl engines controls fresh m merged limited
  have htold : LoopSteps s told := sendTest_loopSteps ..
  have hengines : LoopSteps told engines := forAll_loopSteps (fun _ _ => appendEntry_loopSteps ..) _ _
  have hcontrols : LoopSteps engines controls := forAll_loopSteps (fun _ _ => appendEntry_loopSteps ..) _ _
  have hmerged : LoopSteps controls merged := setBup_loopSteps ..
  have hlimited : LoopSteps merged limited := .setAcc n _
  exact (((((htold.trans hengines).trans hcontrols).trans hmerged).trans hlimited).trans (.emit ..)).trans
    (judgeBin_loopSteps ..)

theorem finishRun_loopSteps (n : Acc) (s : State) : LoopSteps s (finishRun n s) := by
  unfold finishRun
  split
  · exact .refl s
  · exact .ite (mergeRun_loopSteps ..) (.refl s)

theorem sendStart_loopSteps (n : Acc) (r : TestRun) (s : State) : LoopSteps s (sendStart n r s) :=
  ((sendTest_loopSteps ..).trans (sendTest_loopSteps ..)).trans (sendTest_loopSteps ..)

theorem startRefs_loopSteps (n : Acc) (r : Nat × BitVec 64) (s : State) : LoopSteps s (startRefs n r s) := by
  unfold startRefs
  extract_lets base drawn k
  have hdrawn : LoopSteps s drawn := setBup_loopSteps ..
  exact hdrawn.trans (.ite (.refl _) .of_eq)

theorem giveUp_loopSteps (n : Acc) (s : State) : LoopSteps s (giveUp n s) := by
  unfold giveUp
  split
  · exact .refl s
  refine .ite (.refl s) (.ite ?_ (mergeRun_loopSteps ..))
  have hdraw : ∀ s, LoopSteps s (drawRun n s).2 := fun s => .of_eq
  exact (((((sendTest_loopSteps ..).trans (hdraw _)).trans (.emit ..)).trans (startRefs_loopSteps ..)).trans
    (setBup_loopSteps ..)).trans (sendStart_loopSteps ..)

theorem bupLoopOf_loopSteps (n : Acc) (s : State) : LoopSteps s (bupLoopOf n s) := by
  unfold bupLoopOf
  split
  · exact .refl s
  dsimp only
  refine .ite (sendStart_loopSteps ..) (.ite (.refl s) (.ite (finishRun_loopSteps ..) (.ite ?_ (giveUp_loopSteps ..))))
  exact ((forAll_loopSteps (fun _ _ => sendTest_loopSteps ..) _ s).trans (setBup_loopSteps ..)).trans (.emit ..)

theorem bupLoop_loopSteps (s : State) : LoopSteps s (bupLoop s) :=
  forAll_loopSteps (fun n s => .ite (bupLoopOf_loopSteps n s) (.refl s)) _ s

/-! The tray-wide mode (06 R190, R192). -/

/-- The cause of felting at the loop of tick `t`, 0 of none. -/
def modeCause (t : Nat) (s : State) : Nat :=
  if 5 ≤ s.rack.state.1 ∧ s.rack.state.1 ≤ 7 then 1 else if fldB s.str.ctrl 0 then 2
  else if t < s.str.recoveryEnd then 3 else 0

theorem modeCause_le (t : Nat) (s : State) : modeCause t s ≤ 3 := by
  unfold modeCause
  split
  · decide
  split
  · decide
  split <;> decide

/-- A change of the mode is recorded, and clears the shifts (06 R192). -/
def modeChanged (cause : Nat) (s : State) : State :=
  if decide (cause ≠ 0) == s.str.felting then s
  else accList.foldl
    (fun s n => s.setStr n fun a => { a with shift := 0, wFilt := if decide (cause ≠ 0) then a.wFilt else none })
    (emit s 7 8 0xFF 0x0601 ((if decide (cause ≠ 0) then 1 else 0) + 2 * cause))

theorem strMode_eq (s : State) : strMode s = (modeChanged (modeCause (tickAt s) s) s).modStr fun r =>
    { r with felting := decide (modeCause (tickAt s) s ≠ 0), feltCause := modeCause (tickAt s) s } := by
  unfold strMode modeChanged modeCause
  dsimp only

theorem modeChanged_loopSteps (cause : Nat) (s : State) : LoopSteps s (modeChanged cause s) := by
  unfold modeChanged
  exact .ite (.refl s) ((LoopSteps.emit ..).trans (.foldl (fun s n => .setStr n s) ..))

theorem modeChanged_raised {cause : Nat} {s : State} (hcause : cause ≤ 3) (h : s.str.felting ≠ decide (cause ≠ 0)) :
    Raised (modeChanged cause s) 7 8 0xFF 0x0601 ((if cause = 0 then 0 else 1) + 2 * cause) := by
  have hdetail : (if decide (cause ≠ 0) then 1 else 0) + 2 * cause = (if cause = 0 then 0 else 1) + 2 * cause := by
    by_cases hzero : cause = 0 <;> simp [hzero]
  unfold modeChanged
  rw [if_neg (fun heq => h (beq_iff_eq.1 heq).symm), hdetail]
  refine (LoopSteps.foldl (fun s n => .setStr n s) ..).grows.raised (raised_emit _ _ _ _ _ _ ?_)
  split <;> omega

/-! The loop as a whole (06 R157, R158). -/

theorem latchFor_tick (t : Nat) (s : State) : (latchFor t s).tick = t := by
  unfold latchFor
  split
  · split
    · assumption
    · rfl
  · rfl

/-- What the frames of a loop move: the contexts of the accelerators. -/
theorem takeFrames_frame (t : Nat) (s : State) : forAll accList (takeFrames t) s =
    { s with str := { s.str with acc := (forAll accList (takeFrames t) s).str.acc } } := by
  have hone : ∀ (f : State → State) (u : State), (∃ n g, f u = u.setStr n g) →
      u = { s with str := { s.str with acc := u.str.acc } } → f u = { s with str := { s.str with acc := (f u).str.acc } } := by
    rintro f u ⟨n, g, hset⟩ hu
    rw [hset, hu]
    rfl
  refine forAll_inv (fun u : State => u = { s with str := { s.str with acc := u.str.acc } }) _ _ (fun n u hu => ?_) s rfl
  unfold takeFrames
  refine forAll_inv (fun u : State => u = { s with str := { s.str with acc := u.str.acc } }) _ _
    (fun f u hu => hone _ u ⟨_, _, rfl⟩ hu) _ (hone (fun u => u.setStr n _) u ⟨_, _, rfl⟩ hu)

/-- The state that the loop of tick `t` settles its mode from: the latch read, the frames taken (06 R158). -/
def loopFrames (t : Nat) (s : State) : State :=
  forAll accList (takeFrames t) (s.modStr fun r => { r with now := some (latchFor t s) })

theorem loopFrames_frame (t : Nat) (s : State) : loopFrames t s =
    { s with str := { s.str with acc := (loopFrames t s).str.acc, now := some (latchFor t s) } } := by
  have hframe := takeFrames_frame t (s.modStr fun r => { r with now := some (latchFor t s) })
  unfold loopFrames
  generalize forAll accList (takeFrames t) (s.modStr fun r => { r with now := some (latchFor t s) }) = u at hframe ⊢
  exact hframe

/-- Step 4 of a loop, with every thermal ceiling within OP15 (03 R81, 06 R159). -/
theorem writes_loopSteps (felt : Nat) (l : List Acc) {s : State} (hceil : ∀ n : Acc, s.str.acc[n].kTherm ≤ 15) :
    LoopSteps s (l.foldl (fun s n => strWrite felt n s) s) :=
  forAll_inv (LoopSteps s) (fun n s => strWrite felt n s) l
    (fun n _ hu => hu.trans (strWrite_loopSteps felt (hu.ceiling n (hceil n)))) s (.refl s)

theorem limit_loopSteps (n : Acc) (s : State) : LoopSteps s (strTherm n (strContexts n s)) :=
  (strContexts_loopSteps n s).trans (strTherm_loopSteps n _)

/-- The models of a loop leave the thermal ceilings within OP15 (06 R175). -/
theorem limits_ceiling {n : Acc} {l : List Acc} (hn : n ∈ l) (s : State) :
    (l.foldl (fun s n => strTherm n (strContexts n s)) s).str.acc[n].kTherm ≤ 15 :=
  forAll_at (fun _ => True) (fun s : State => s.str.acc[n].kTherm ≤ 15) (fun n s => strTherm n (strContexts n s)) hn
    (fun _ _ _ => trivial) (fun s _ => strTherm_ceiling n _) (fun m s h => (limit_loopSteps m s).ceiling n h) trivial

/-- After its mode, a loop moves nothing that ends it but the tick of the last one. -/
theorem loopBody_steps (t : Nat) (s : State) : ∃ u, LoopSteps (strMode (loopFrames t s)) u ∧
    loopBody t s = u.modStr fun r => { r with lastLoop := t, now := none } := by
  unfold loopBody loopFrames
  extract_lets latched framed moded parked members modelled limited calibrated b share shifted caps escalated hold alloced felt
    written quotas released brought
  refine ⟨brought, ?_, rfl⟩
  have hparked : LoopSteps moded parked := .foldl (fun s n => strParks_loopSteps n s) ..
  have hmembers : LoopSteps parked members := strMembers_loopSteps _
  have hmodelled : LoopSteps members modelled := .foldl (fun s n => (strStale_loopSteps n s).trans (strModel_loopSteps n _)) ..
  have hlimited : LoopSteps modelled limited := .foldl (fun s n => limit_loopSteps n s) ..
  have hcalibrated : LoopSteps limited calibrated := strCalib_loopSteps _
  have hshifted : LoopSteps calibrated shifted := .ite (.refl _) (.foldl (fun s g => strShift_loopSteps share g s) ..)
  have hescalated : LoopSteps shifted escalated := strEscalate_loopSteps ..
  have halloced : LoopSteps escalated alloced := .foldl (fun s ⟨n, al, k⟩ => .ite (.setStr n s) (.setStr n s)) ..
  have hceil : ∀ n : Acc, alloced.str.acc[n].kTherm ≤ 15 := fun n =>
    (((hcalibrated.trans hshifted).trans hescalated).trans halloced).ceiling n (limits_ceiling (mem_accList n) modelled)
  have hwritten : LoopSteps alloced written := writes_loopSteps felt accList hceil
  have hquotas : LoopSteps written quotas := .foldl (fun s n => sendQuota_loopSteps n _ s) ..
  have hreleased : LoopSteps quotas released := .foldl (fun s n => strRelease_loopSteps n s) ..
  have hbrought : LoopSteps released brought := bupLoop_loopSteps _
  exact (((((((((((hparked.trans hmembers).trans hmodelled).trans hlimited).trans hcalibrated).trans hshifted).trans
    hescalated).trans halloced).trans hwritten).trans hquotas).trans hreleased).trans hbrought)

/-- What the loop of tick `t` leaves: it is the last one, its mode stands, a change of it is recorded, and the requests it moves are of
OP0 to OP15 for accelerators above S8. -/
structure LoopDone (t : Nat) (s u : State) : Prop where
  last : u.str.lastLoop = t
  felting : u.str.felting = decide (modeCause t s ≠ 0)
  cause : u.str.feltCause = modeCause t s
  crz : u.crz = s.crz
  sys : u.sys = s.sys
  raised : s.str.felting ≠ decide (modeCause t s ≠ 0) →
    Raised u 7 8 0xFF 0x0601 ((if modeCause t s = 0 then 0 else 1) + 2 * modeCause t s)
  opp : ∀ n : Acc, u.acc[n].oppReq = s.acc[n].oppReq ∨ (9 ≤ chState s n ∧ u.acc[n].oppReq ≤ 15)

theorem tickAt_loopFrames (t : Nat) (s : State) : tickAt (loopFrames t s) = t := by
  have hnow : (loopFrames t s).str.now = some (latchFor t s) := congrArg (fun u : State => u.str.now) (loopFrames_frame t s)
  unfold tickAt
  rw [hnow]
  exact latchFor_tick t s

theorem modeCause_loopFrames (t : Nat) (s : State) : modeCause t (loopFrames t s) = modeCause t s := by
  rw [loopFrames_frame]
  rfl

/-- The loop of tick `t` (06 R157 to R192). -/
theorem loopBody_done (t : Nat) (s : State) : LoopDone t s (loopBody t s) := by
  have hframe := loopFrames_frame t s
  have hcause := modeCause_loopFrames t s
  obtain ⟨u, hsteps, hbody⟩ := loopBody_steps t s
  rw [strMode_eq, tickAt_loopFrames, hcause] at hsteps
  generalize loopFrames t s = x at hframe hsteps
  have hmode := modeChanged_loopSteps (modeCause t s) x
  rw [hbody]
  refine ⟨rfl, hsteps.felting, hsteps.cause, ?_, ?_, fun hchanged => ?_, fun n => ?_⟩
  · exact (hsteps.crz.trans hmode.crz).trans (by rw [hframe])
  · exact (hsteps.grows.sys.trans hmode.grows.sys).trans (by rw [hframe])
  · have hfelting : x.str.felting = s.str.felting := by rw [hframe]
    have hraised := modeChanged_raised (modeCause_le t s) (hfelting ▸ hchanged)
    exact hsteps.grows.raised hraised
  · have hacc : x.acc = s.acc := by rw [hframe]
    have hstate : ∀ v : State, v.crz = x.crz → chState v n = chState s n := fun v hv => by
      unfold chState
      rw [hv, hframe]
    rcases hsteps.opp n with hsame | ⟨habove, hle⟩
    · have hmoved := hmode.opp n
      rw [hacc, hstate x rfl] at hmoved
      exact hmoved.imp hsame.trans fun h => ⟨h.1, hsame.trans_le h.2⟩
    · exact .inr ⟨(hstate _ hmode.crz) ▸ habove, hle⟩

/-- What is only formed and sent changes nothing of what a loop reads or leaves. -/
theorem LoopDone.of_words {t : Nat} {s s' u u' : State} (h : LoopDone t s' u) (hs : WordsOnly s s') (hu : WordsOnly u u') :
    LoopDone t s u' := by
  rw [hs.frame] at h
  rw [hu.frame]
  exact ⟨h.last, h.felting, h.cause, h.crz, h.sys, h.raised, h.opp⟩

/-- The arbitration of a step's words is the step between two steps that only form and send them (10 R296). -/
theorem arbitrate_words (f : State → State) (s : State) : ∃ s', WordsOnly s s' ∧ WordsOnly (f s') (arbitrate f s) := by
  unfold arbitrate
  split
  · exact ⟨s, .refl s, .refl _⟩
  · exact ⟨_, .modSrs .., (WordsOnly.modSrs ..).trans (.forAll (fun n s => .drainWords _ n s) _ _)⟩

theorem steeringLoop_done (t : Nat) (s : State) : LoopDone t s (steeringLoop t s) := by
  obtain ⟨s', hs, hu⟩ := arbitrate_words (loopBody t) s
  exact (loopBody_done t s').of_words hs hu

/-! STEERING_LOOP and LOOP_OVERRUN (06 R157, R159). -/

theorem exec_steeringLoop (s : State) : exec .steeringLoop s = .next (if !loopDue (loopTick s) s then s
    else if reqWaits (loopTick s) s then awaitLoop (loopTick s) s else steeringLoop (loopTick s) s) := rfl

theorem steeringLoop_notDue {s : State} (h : loopDue (loopTick s) s = false) : exec .steeringLoop s = .next s := by
  simp [exec_steeringLoop, h]

/-- A loop that waits is in the merger, which is all it moves. -/
theorem awaitLoop_waits (t : Nat) (s : State) : awaitLoop t s = { s with rcd := { s.rcd with merger := (awaitLoop t s).rcd.merger } } ∧
    ∃ w ∈ (awaitLoop t s).rcd.merger, w.item = .loop ∧ w.stamp = t := by
  unfold awaitLoop
  extract_lets w
  split
  next hwaits => exact ⟨rfl, w, List.contains_iff_mem.1 hwaits, rfl, rfl⟩
  next => exact ⟨rfl, w, (mem_insertWaiting _ _ _).2 (.inl rfl), rfl, rfl⟩

theorem steeringLoop_awaits {s : State} (hdue : loopDue (loopTick s) s = true) (hwaits : reqWaits (loopTick s) s = true) :
    ∃ t, exec .steeringLoop s = .next t ∧ t = { s with rcd := { s.rcd with merger := t.rcd.merger } } ∧
      ∃ w ∈ t.rcd.merger, w.item = .loop ∧ w.stamp = loopTick s :=
  ⟨_, by simp [exec_steeringLoop, hdue, hwaits], awaitLoop_waits (loopTick s) s⟩

/-- A loop that is due, and before which no command waits, runs. -/
theorem steeringLoop_runs {s : State} (hdue : loopDue (loopTick s) s = true) (hwaits : reqWaits (loopTick s) s = false) :
    exec .steeringLoop s = .next (steeringLoop (loopTick s) s) := by
  simp [exec_steeringLoop, hdue, hwaits]

theorem loopOverrun_row {s : State} (htick : s.sys.tick % 100 = 90) (hlast : s.str.lastLoop < s.sys.tick - 90)
    (hboot : s.sys.boot = .running) : ∃ t, exec .loopOverrun s = .next t ∧
      Raised t 7 8 0xFF 0x0609 ((s.sys.tick - 90) % 65536) ∧
      t = { s with rcd := t.rcd, str := { s.str with overruns := min 255 (s.str.overruns + 1) } } := by
  have hnext : exec .loopOverrun s = .next (emit (s.modStr fun r => { r with overruns := min 255 (r.overruns + 1) })
      7 8 0xFF 0x0609 ((s.sys.tick - 90) % 65536)) := by
    change execLoopOverrun s = _
    unfold execLoopOverrun satAdd
    rw [if_neg (by simp [htick, hboot]; omega)]
  exact ⟨_, hnext, raised_emit _ 7 8 0xFF 0x0609 _ (Nat.mod_lt _ (by decide)), rfl⟩

/-- Settles O49: the row of each evaluation, from what the steps of a loop keep (`LoopSteps`) and from Brim's three evaluations, with a
formed P, without one and outside its active periods. -/
theorem steeringAndBrimRows : Obligations.SteeringAndBrimRows := by
  unfold Obligations.SteeringAndBrimRows
  refine ⟨fun cause s hdue hwaits hcause => ?_, fun _ => steeringLoop_notDue, fun _ => steeringLoop_awaits,
    fun _ => loopOverrun_row, fun _ => brimEvaluation_off, fun _ _ => brimEvaluation_formed, fun _ => brimEvaluation_unformed,
    fun _ => brimBlind_row⟩
  obtain rfl : cause = modeCause (loopTick s) s := hcause
  have hdone := steeringLoop_done (loopTick s) s
  refine ⟨_, steeringLoop_runs hdue hwaits, hdone.last, hdone.felting, hdone.cause, hdone.crz, hdone.sys, hdone.raised, fun n => ?_⟩
  rcases hdone.opp n with hsame | ⟨habove, hle⟩
  · exact ⟨fun _ => hsame, .inl hsame⟩
  · exact ⟨fun hbelow => absurd hbelow (Nat.not_lt.2 habove), .inr hle⟩

end Sys2Proof.Machine
end

section
/-! SUPPORT. The envelope commands (06 R188; 07 R218; 15 R448, R450). -/

namespace Sys2Proof.Machine

open Sys2Proof

/-! The answer of a command, and the traces of one that moves Brim alone. -/

theorem AnsweredWith.answered {f : Frame} {c : Cmd} {res : Res} {data : List Byte} {t : State}
    (h : AnsweredWith f c res data t) : Answered f c res t := by
  obtain ⟨q, hq, hsrc, hseq, hcode, hres, -⟩ := h
  exact ⟨q, hq, hsrc, hseq, hcode, hres⟩

/-- A command whose registers are not stored waits for no store write, whatever its answer (15 R448). -/
theorem storeWaits_of_unstored {c : Cmd} (hkey : storeKey c = none) (f : Frame) (bus : Option TransferEnd) (s : State) (a : Ans) :
    storeWaits (reqOf f c bus s) a = none := by
  have hcmd : (reqOf f c bus s).cmd = some c := rfl
  simp [storeWaits, hcmd, hkey]

/-- A command that moves Brim alone leaves besides only its traces. -/
theorem settled_bookkept_brm {f : Frame} {c : Cmd} {bus : Option TransferEnd} {s : State} {b : BrmState}
    (h : (applied f c bus s).1 = { taken f c s with brm := b }) :
    settled f c bus s = { bookkept s (settled f c bus s) with brm := b } := by
  calc settled f c bus s
      = bookkept { taken f c s with brm := b } (settled f c bus s) := h ▸ settled_bookkept_applied f c bus s
    _ = { bookkept (taken f c s) (settled f c bus s) with brm := b } := rfl
    _ = { bookkept s (settled f c bus s) with brm := b } := by rw [bookkept_taken]

/-! The rules. -/

/-- A set of envelope settings waits for its point of effect (07 R218). -/
def envelopeStaged (e : BrimSet) (s : State) : State := s.modBrm fun b => { b with staged := some e }

/-- The answer to a cap: unreachable below the overhead, the headroom that it asks for and the parked power of every accelerator in
S9 or above (06 R188). -/
def capAnswer (cap : Word) (s : State) : Res :=
  if ((10 * fld cap 0 16 : Nat) : Rat) <
      overheadW s + ((10 * fld cap 0 16 : Nat) : Rat) * ((fld s.str.cfg 12 4 : Nat) : Rat) / 100 +
        sumAcc (accList.filter fun n => decide (9 ≤ chState s n)) (parkedW s)
    then .capUnreachable else .ok

theorem applySetCap_eq (cap : Word) (s : State) : applySetCap cap s =
    (envelopeStaged { envelopeNow s with cap := cap } s, some { res := capAnswer cap s }) := rfl

theorem applySetEnvelope_done (p a r l b : Word) (s : State) : applySetEnvelope p a r l b s =
    done (envelopeStaged { envelopeNow s with peak := p, avg := a, ramp := r, tol := l, balMax := b } s) := rfl

@[simp] theorem envelopeNow_taken (f : Frame) (c : Cmd) (s : State) : envelopeNow (taken f c s) = envelopeNow s := by
  rw [taken_frame]
  rfl

@[simp] theorem capAnswer_taken (f : Frame) (c : Cmd) (cap : Word) (s : State) :
    capAnswer cap (taken f c s) = capAnswer cap s := by
  rw [taken_frame]
  rfl

/-- Settles O6: each command by the equation of its rule, on the state in which it is taken; the cap's answer reads nothing that taking
the command moves. -/
theorem envelopeCommandsStageASet : Obligations.EnvelopeCommandsStageASet := by
  unfold Obligations.EnvelopeCommandsStageASet
  refine ⟨fun f cap s h => ?_, fun f p a r l b s h => ?_⟩
  · have hrule : applied f (.powerSetCap cap) none s = _ := applySetCap_eq cap _
    rw [capAnswer_taken, envelopeNow_taken] at hrule
    have hans := settled_answered (congrArg Prod.snd hrule) (storeWaits_of_unstored rfl ..)
    refine ⟨_, runCommand_settled h none, settled_bookkept_brm ((congrArg Prod.fst hrule).trans ?_), hans.answered⟩
    rw [envelopeStaged, State.modBrm, taken_brm]
  · have hrule : applied f (.powerSetEnvelope p a r l b) none s = _ := applySetEnvelope_done p a r l b _
    rw [envelopeNow_taken] at hrule
    obtain ⟨happlied, hwaits⟩ := settled_stored (.powerSetEnvelope p a r l b) rfl hrule
    refine ⟨_, runCommand_settled h none, settled_bookkept_brm (happlied.trans ?_), hwaits⟩
    rw [envelopeStaged, State.modBrm, taken_brm]

end Sys2Proof.Machine
end

section
/-! SUPPORT. The Ledger commands (08 R229, R237 to R243; 15 R457). -/

namespace Sys2Proof.Machine

open Sys2Proof

/-! The operands, and the traces of a command that moves the Ledger alone. -/

theorem slotAt_eq {x : Nat} {n : Acc} {c : Fin 48} (h : x = 48 * n.1 + c.1) : slotAt x = some (n, c) := by
  have hlt : x < 384 := by omega
  have hacc : x / 48 = n.1 := by omega
  have hctx : x % 48 = c.1 := by omega
  simp [slotAt, hlt, hacc, hctx]

theorem binByte_eq {x : Byte} {b : Fin 3} (h : x.toNat = b.1) : binByte x = some b := by
  simp [binByte, h]

/-- A command that moves the Ledger, and hands events to the merger, leaves besides only its traces. -/
theorem settled_bookkept_ldg {f : Frame} {c : Cmd} {bus : Option TransferEnd} {s : State} {r : RecState} {g : LdgState}
    (h : (applied f c bus s).1 = { taken f c s with rcd := r, ldg := g }) :
    settled f c bus s = { bookkept s (settled f c bus s) with ldg := g } := by
  calc settled f c bus s
      = bookkept { taken f c s with rcd := r, ldg := g } (settled f c bus s) := h ▸ settled_bookkept_applied f c bus s
    _ = { bookkept (taken f c s) (settled f c bus s) with ldg := g } := rfl
    _ = { bookkept s (settled f c bus s) with ldg := g } := by rw [bookkept_taken]

/-- Applying an admitted command gives `u` and data, and its registers are not stored: it ends answered with them. -/
theorem settled_doneWith (c : Cmd) {f : Frame} {s u : State} {data : List Byte} (hkey : storeKey c = none)
    (h : applied f c none s = doneWith data u) :
    (applied f c none s).1 = u ∧ AnsweredWith f c .ok data (settled f c none s) :=
  ⟨congrArg Prod.fst h, settled_answered (congrArg Prod.snd h) (storeWaits_of_unstored hkey ..)⟩

/-! Slots. -/

theorem setSlot_slot_self (n : Acc) (c : Fin 48) (g : LdgSlot → LdgSlot) (s : State) :
    (s.setSlot n c g).ldg.slot[n][c] = g s.ldg.slot[n][c] := by
  simp

theorem setSlot_slot_ne {n m : Acc} {c d : Fin 48} (h : (m, d) ≠ (n, c)) (g : LdgSlot → LdgSlot) (s : State) :
    (s.setSlot n c g).ldg.slot[m][d] = s.ldg.slot[m][d] := by
  by_cases hm : m = n
  · subst hm
    have hd : c.1 ≠ d.1 := fun e => h (by rw [Fin.ext e])
    simp [hd]
  · have hm' : n.1 ≠ m.1 := fun e => hm (Fin.ext e.symm)
    simp [hm']

/-- A change of the binding of a slot, taken at the first step after now (08 R238). -/
def changeQueued (n : Acc) (c : Fin 48) (bind : Bool) (s : State) : State :=
  s.modLdg fun l => { l with changes := l.changes ++ [{ acc := n, ctx := c, bind := bind, at_ := stepAfter s.sys.tick }] }

/-- The interval in which a binding change made now takes effect (08 R237, R238). -/
def changeInterval (s : State) : Nat := intervalOf (stepAfter s.sys.tick)

/-! The rules. -/

/-- A slot as ledger.bind_job leaves it (08 R237, R238). -/
def slotBinding (ec : Bool) (job : BitVec 64) (j : Nat) (l : LdgSlot) : LdgSlot :=
  { l with job := job, inForce := false, closing := false, epochClose := ec, first := j, energy := 0, flags := 0,
           change := some j }

/-- A slot that ledger.unbind_job closes (08 R240). -/
def slotClosing (j : Nat) (l : LdgSlot) : LdgSlot := { l with closing := true, change := some j }

theorem applyBind_done {n : Acc} {c : Fin 48} {ec : Bool} {job : BitVec 64} {s : State} (hfree : slotBound s n c = false)
    (hchange : s.ldg.slot[n][c].change ≠ some (changeInterval s)) (hopen : s.ldg.slot[n][c].closing = false) :
    applyBind n c ec job s = doneWith (leBytes 8 (changeInterval s))
      (emit (changeQueued n c true (s.setSlot n c (slotBinding ec job (changeInterval s)))) 6 n.1 (n.1 * 48 + c.1) 0x0802
        (job.toNat % 65536)) := by
  exact (if_neg (Bool.eq_false_iff.1 hfree)).trans ((if_neg hchange).trans (if_neg (Bool.eq_false_iff.1 hopen)))

theorem applyUnbind_done {n : Acc} {c : Fin 48} {s : State} (hbound : s.ldg.slot[n][c].job ≠ 0)
    (hchange : s.ldg.slot[n][c].change ≠ some (changeInterval s)) (hopen : s.ldg.slot[n][c].closing = false) :
    applyUnbind n c s = doneWith (leBytes 8 (changeInterval s))
      (drainCheck (emit (changeQueued n c false (s.setSlot n c (slotClosing (changeInterval s)))) 6 n.1 (n.1 * 48 + c.1)
        0x0803 1)) := by
  exact (if_neg hbound).trans ((if_neg hchange).trans (if_neg (Bool.eq_false_iff.1 hopen)))

/-- The end of a drain moves CRZ_RACK, and takes nothing out of the merger (14 R441). -/
theorem drainCheck_frame (s : State) : drainCheck s = { s with rcd := (drainCheck s).rcd, rack := (drainCheck s).rack } := by
  unfold drainCheck
  split <;> rfl

theorem drainCheck_recordGrows (s : State) : RecordGrows s (drainCheck s) := by
  unfold drainCheck
  split
  · exact RecordGrows.trans (t := s.modRack _) .of_eq (.emit ..)
  · exact .refl s

@[simp] theorem changeInterval_taken (f : Frame) (c : Cmd) (s : State) : changeInterval (taken f c s) = changeInterval s := by
  rw [taken_frame]
  rfl

@[simp] theorem slotBound_taken (f : Frame) (c : Cmd) (s : State) (n : Acc) (k : Fin 48) :
    slotBound (taken f c s) n k = slotBound s n k := by
  rw [taken_frame]
  rfl

/-- Settles O14: each command by the rule that applies it, on the state in which it is taken. -/
theorem ledgerCommands : Obligations.LedgerCommands := by
  unfold Obligations.LedgerCommands
  refine ⟨fun f x fl job n c s h hx hfree hchange hopen => ?_, fun f x n c s h hx hbound hchange hopen => ?_,
    fun f x b l s h hx => ?_, fun f w s h => ?_⟩
  · have hrule : applied f (.ledgerBindJob x fl job) none s = _ := (onSome_eq (slotAt_eq hx) ..).trans
      (applyBind_done (by rwa [slotBound_taken]) (by rwa [changeInterval_taken, taken_ldg]) (by rwa [taken_ldg]))
    rw [changeInterval_taken] at hrule
    obtain ⟨happlied, hans⟩ := settled_doneWith (.ledgerBindJob x fl job) rfl hrule
    have hldg : (settled f (.ledgerBindJob x fl job) none s).ldg = _ := (settled_ldg ..).trans (congrArg State.ldg happlied)
    have hgrows := happlied ▸ settled_recordGrows f (.ledgerBindJob x fl job) none s
    have hself : (settled f (.ledgerBindJob x fl job) none s).ldg.slot[n][c] =
        slotBinding (fl.getLsbD 0) job (changeInterval s) s.ldg.slot[n][c] := by
      rw [hldg]
      exact (setSlot_slot_self ..).trans (by rw [taken_ldg])
    refine ⟨_, runCommand_settled h none, ?_, congrArg LdgSlot.job hself, congrArg LdgSlot.first hself,
      congrArg LdgSlot.epochClose hself, congrArg LdgSlot.energy hself, fun m d hne => ?_, ?_, ?_, hans⟩
    · rw [hldg]
      exact settled_bookkept_ldg happlied
    · rw [hldg]
      exact (setSlot_slot_ne hne ..).trans (by rw [taken_ldg])
    · rw [hldg]
      show (taken f (.ledgerBindJob x fl job) s).ldg.acc = s.ldg.acc
      rw [taken_ldg]
    · rw [hx, Nat.mul_comm]
      exact hgrows.raised (raised_emit _ _ _ _ _ _ (Nat.mod_lt _ (by decide)))
  · have hrule : applied f (.ledgerUnbindJob x) none s = _ := (onSome_eq (slotAt_eq hx) ..).trans
      (applyUnbind_done (by rwa [taken_ldg]) (by rwa [changeInterval_taken, taken_ldg]) (by rwa [taken_ldg]))
    rw [changeInterval_taken] at hrule
    obtain ⟨happlied, hans⟩ := settled_doneWith (.ledgerUnbindJob x) rfl hrule
    have hgrows := happlied ▸ settled_recordGrows f (.ledgerUnbindJob x) none s
    have hldg : (settled f (.ledgerUnbindJob x) none s).ldg = _ :=
      (settled_ldg ..).trans (congrArg State.ldg (happlied.trans (drainCheck_frame _)))
    refine ⟨_, runCommand_settled h none, ?_, ?_, ?_, fun m d hne => ?_, ?_, hans⟩
    · rw [settled_crz, happlied, drainCheck_frame]
      exact taken_crz ..
    · rw [settled_acc, happlied, drainCheck_frame]
      exact taken_acc ..
    · rw [hldg]
      exact (setSlot_slot_self ..).trans (by rw [taken_ldg]; rfl)
    · rw [hldg]
      exact (setSlot_slot_ne hne ..).trans (by rw [taken_ldg])
    · rw [hx, Nat.mul_comm]
      exact ((drainCheck_recordGrows _).trans hgrows).raised (raised_emit _ _ _ _ _ _ (by decide))
  · obtain ⟨happlied, hwaits⟩ := settled_stored (.ledgerSetCoeff x l) (f := f) (s := s) rfl (onSome_eq (binByte_eq hx) ..)
    have hgrows := happlied ▸ settled_recordGrows f (.ledgerSetCoeff x l) none s
    refine ⟨_, runCommand_settled h none, ?_, hgrows.raised (raised_emit _ _ _ _ _ _ (by decide)), hwaits⟩
    have hframe := settled_bookkept_ldg happlied
    rwa [State.modLdg, taken_ldg] at hframe
  · obtain ⟨happlied, hwaits⟩ := settled_stored (.ledgerSetConfig w) (f := f) (s := s) rfl rfl
    refine ⟨_, runCommand_settled h none, ?_, hwaits⟩
    have hframe := settled_bookkept_ldg happlied
    rwa [taken_ldg] at hframe

end Sys2Proof.Machine
end

section
/-! SUPPORT. The step of the Ledger (08 R223 to R230, R238, R239): what attributing frames and changing bindings leaves, and what the
step takes of each accelerator. -/

namespace Sys2Proof.Machine

open Sys2Proof

/-! What the operations of the Ledger touch. -/

/-- From `s` to `t` only the record and the Ledger may differ. -/
structure LedgerOnly (s t : State) : Prop where
  frame : t = { s with rcd := t.rcd, ldg := t.ldg }

namespace LedgerOnly

theorem refl (s : State) : LedgerOnly s s := ⟨rfl⟩

theorem trans {s t u : State} (h : LedgerOnly s t) (h' : LedgerOnly t u) : LedgerOnly s u := ⟨by rw [h'.frame, h.frame]⟩

theorem sys {s t : State} (h : LedgerOnly s t) : t.sys = s.sys := by rw [h.frame]
theorem brm {s t : State} (h : LedgerOnly s t) : t.brm = s.brm := by rw [h.frame]

end LedgerOnly

/-- What a step puts into one accelerator's account beside its model: the frames that wait, the measured energy, OPP_EFF and BAND. -/
structure StepReadings where
  pend : List FrameInc
  meas : Int
  opp : Nat
  band : Nat

def readingsOf (l : LdgAcc) : StepReadings := { pend := l.pend, meas := l.meas, opp := l.opp, band := l.band }

def readings (s : State) (n : Acc) : StepReadings := readingsOf s.ldg.acc[n]

theorem setLdg_acc (m n : Acc) (f : LdgAcc → LdgAcc) (s : State) :
    (s.setLdg m f).ldg.acc[n] = if n = m then f s.ldg.acc[m] else s.ldg.acc[n] := by
  by_cases hn : n = m
  · subst hn
    simp
  · have hne : m.1 ≠ n.1 := fun e => hn (Fin.ext e.symm)
    simp [hn, hne]

/-- From `s` to `t` energy is attributed, set apart or marked, and no reading, no waiting change and no tray energy moves. -/
structure Attributes (s t : State) : Prop where
  only : LedgerOnly s t
  changes : t.ldg.changes = s.ldg.changes
  tray : t.ldg.trayMeas = s.ldg.trayMeas
  readings : ∀ n, readings t n = readings s n

namespace Attributes

theorem refl (s : State) : Attributes s s := ⟨.refl s, rfl, rfl, fun _ => rfl⟩

theorem trans {s t u : State} (h : Attributes s t) (h' : Attributes t u) : Attributes s u :=
  ⟨h.only.trans h'.only, h'.changes.trans h.changes, h'.tray.trans h.tray, fun n => (h'.readings n).trans (h.readings n)⟩

theorem emit (s : State) (cls unit obj code detail : Nat) : Attributes s (emit s cls unit obj code detail) :=
  ⟨⟨rfl⟩, rfl, rfl, fun _ => rfl⟩

theorem setSlot (n : Acc) (c : Fin 48) (f : LdgSlot → LdgSlot) (s : State) : Attributes s (s.setSlot n c f) :=
  ⟨⟨rfl⟩, rfl, rfl, fun _ => rfl⟩

/-- An update of one accelerator's account that leaves its readings. -/
theorem setLdg (n : Acc) {f : LdgAcc → LdgAcc} (s : State)
    (hf : ∀ l, readingsOf (f l) = readingsOf l := by exact fun _ => rfl) : Attributes s (s.setLdg n f) := by
  refine ⟨⟨rfl⟩, rfl, rfl, fun m => ?_⟩
  rw [Machine.readings, setLdg_acc]
  split
  next h => subst h; exact hf _
  · rfl

theorem modLdg {f : LdgState → LdgState} (s : State) (hf : ∀ g, (f g).acc = g.acc ∧ (f g).changes = g.changes ∧
    (f g).trayMeas = g.trayMeas := by exact fun _ => ⟨rfl, rfl, rfl⟩) : Attributes s (s.modLdg f) := by
  obtain ⟨hacc, hchanges, htray⟩ := hf s.ldg
  exact ⟨⟨rfl⟩, hchanges, htray, fun n => by simp [Machine.readings, hacc]⟩

theorem foldl {α : Type} {f : State → α → State} (h : ∀ s x, Attributes s (f s x)) (l : List α) (s : State) :
    Attributes s (l.foldl f s) :=
  forAll_inv (Attributes s) (fun x s => f s x) l (fun x t ht => ht.trans (h t x)) s (refl s)

theorem ite {s t u : State} {c : Prop} [Decidable c] (ht : Attributes s t) (hu : Attributes s u) :
    Attributes s (if c then t else u) := by
  split
  · exact ht
  · exact hu

end Attributes

/-! Frames and binding changes (08 R223 to R227, R238, R239). -/

theorem noActivity_attributes (n : Acc) (j : Nat) (s : State) : Attributes s (noActivity n j s) :=
  .ite (.setLdg n s) (.modLdg s)

theorem gapStart_attributes (n : Acc) (f : FrameInc) (s : State) : Attributes s (gapStart n f s) := by
  unfold gapStart
  split
  · exact .ite (.refl s) (noActivity_attributes ..)
  · exact .refl s

theorem stepFrame_attributes (n : Acc) (f : FrameInc) (s : State) : Attributes s (stepFrame n f s) := by
  unfold stepFrame
  dsimp only
  split
  · exact (gapStart_attributes n f s).trans (.setLdg n _)
  · refine .trans (.trans ?_ (.ite (.modLdg _ ?_) (.refl _))) (.setLdg n _ ?_)
    · exact .ite (.emit ..) (.refl s)
    · exact fun _ => ⟨rfl, rfl, rfl⟩
    · exact fun _ => by simp only [readingsOf]

theorem splitCtx_attributes (n : Acc) (c : Fin 48) (closed : Option Nat) (s : State) : Attributes s (splitCtx n c closed s) := by
  unfold splitCtx
  exact .setLdg n s

theorem takeChange_attributes (x : LdgChange) (s : State) : Attributes s (takeChange x s) :=
  .ite ((splitCtx_attributes ..).trans (.setSlot ..)) ((splitCtx_attributes ..).trans (.setSlot ..))

theorem epochCloses_attributes (n : Acc) (s : State) : Attributes s (epochCloses n s) :=
  .foldl (fun _ _ => .ite (((splitCtx_attributes ..).trans (.setSlot ..)).trans (.emit ..)) (.refl _)) _ s

/-! One accelerator's step (08 R228, R230). -/

/-- What a step at `s` makes of an accelerator's readings (08 R223, R230; 10 R301). -/
def stepOf (s : State) (n : Acc) (r : StepReadings) : StepReadings :=
  { pend := r.pend.filter fun f => decide (s.sys.tick ≤ f.stamp),
    meas := r.meas + (accPower s n).getD (s.brm.pCore[n] + s.brm.delta[n]), opp := oppSeen s n, band := bandOf s n }

theorem LedgerOnly.stepOf {s t : State} (h : LedgerOnly s t) (n : Acc) : stepOf t n = stepOf s n := by
  rw [h.frame]
  rfl

/-- An accelerator's step closes by EPOCH_CLOSE and attributes the frames due, and then takes the readings into its account. -/
theorem ledgerAcc_eq (n : Acc) (s : State) : ∃ (u : State) (f : LdgAcc → LdgAcc), Attributes s u ∧
    (∀ l, readingsOf (f l) = Machine.stepOf u n (readingsOf l)) ∧ ledgerAcc n s = u.setLdg n f := by
  have hattr : Attributes s ((dueFrames (epochCloses n s) n).foldl (fun s x => stepFrame n x s) (epochCloses n s)) :=
    (epochCloses_attributes n s).trans (.foldl (fun s x => stepFrame_attributes n x s) ..)
  unfold ledgerAcc
  dsimp only
  generalize (dueFrames (epochCloses n s) n).foldl (fun s x => stepFrame n x s) (epochCloses n s) = u at hattr ⊢
  refine ⟨u, _, hattr, fun l => ?_, rfl⟩
  rfl

theorem ledgerAcc_only (n : Acc) (s : State) : LedgerOnly s (ledgerAcc n s) := by
  obtain ⟨u, f, hattr, -, heq⟩ := ledgerAcc_eq n s
  rw [heq]
  exact hattr.only.trans ⟨rfl⟩

theorem ledgerAcc_totals (n : Acc) (s : State) : (ledgerAcc n s).ldg.changes = s.ldg.changes ∧
    (ledgerAcc n s).ldg.trayMeas = s.ldg.trayMeas := by
  obtain ⟨u, f, hattr, -, heq⟩ := ledgerAcc_eq n s
  rw [heq]
  exact ⟨hattr.changes, hattr.tray⟩

theorem ledgerAcc_readings (m n : Acc) (s : State) :
    readings (ledgerAcc m s) n = if n = m then stepOf s m (readings s m) else readings s n := by
  obtain ⟨u, f, hattr, hf, heq⟩ := ledgerAcc_eq m s
  rw [heq, readings, setLdg_acc, ← hattr.readings n, ← hattr.readings m, ← hattr.only.stepOf]
  split
  · exact hf _
  · rfl

/-! The step of all accelerators. -/

theorem ledgerAccs_only (s : State) : LedgerOnly s (forAll accList ledgerAcc s) :=
  forAll_inv (LedgerOnly s) ledgerAcc accList (fun n t ht => ht.trans (ledgerAcc_only n t)) s (.refl s)

theorem ledgerAccs_readings (n : Acc) (s : State) :
    readings (forAll accList ledgerAcc s) n = stepOf s n (readings s n) := by
  have hone : ∀ (m : Acc) (t : State) (n : Acc), (readings (ledgerAcc m t) n, stepOf (ledgerAcc m t) n) =
      if n = m then (stepOf t m (readings t m), stepOf t m) else (readings t n, stepOf t n) := by
    intro m t n
    rw [(ledgerAcc_only m t).stepOf, ledgerAcc_readings]
    by_cases hn : n = m
    · subst hn
      rw [if_pos rfl, if_pos rfl]
    · rw [if_neg hn, if_neg hn]
  have hall := forAll_accList_pointwise (view := fun t n => (readings t n, stepOf t n)) (g := fun _ v => (v.2 v.1, v.2)) hone n s
  simp only [Prod.mk.injEq] at hall
  exact hall.1

/-- The binding changes that are due take effect (08 R238). -/
def changesTaken (s : State) : State := (s.ldg.changes.filter fun x => x.at_ ≤ s.sys.tick).foldl (fun s x => takeChange x s) s

/-- The binding changes that wait for a later step stay. -/
def changesLeft (s : State) : State :=
  s.modLdg fun l => { l with changes := l.changes.filter fun x => s.sys.tick < x.at_ }

/-- The tray's part of a step (08 R236). -/
def trayStepped (s : State) : State :=
  s.modLdg fun l => { l with trayMeas := l.trayMeas + s.brm.trayP, tflags := l.tflags ||| (if traySubst s then 1 else 0) }

/-- The step of tick 10 k after the posting (08 R222, R227). -/
def ledgerStepped (s : State) : State := trayStepped (forAll accList ledgerAcc (changesLeft (changesTaken s)))

theorem ledgerStep_due {s : State} (h : s.sys.tick % 10 = 0) : exec .ledgerStep s = .next (ledgerStepped (postDue s)) := by
  show execLedgerStep s = _
  unfold execLedgerStep
  rw [if_neg (not_not.2 h)]
  unfold ledgerStepped trayStepped changesLeft changesTaken forAll
  rfl

theorem changesTaken_attributes (s : State) : Attributes s (changesTaken s) :=
  .foldl (fun s x => takeChange_attributes x s) _ s

theorem changesLeft_changes (s : State) :
    (changesLeft s).ldg.changes = s.ldg.changes.filter fun x => decide (s.sys.tick < x.at_) := rfl
theorem changesLeft_tray (s : State) : (changesLeft s).ldg.trayMeas = s.ldg.trayMeas := rfl
theorem changesLeft_readings (n : Acc) (s : State) : readings (changesLeft s) n = readings s n := rfl

theorem changesLeft_only (s : State) : LedgerOnly s (changesLeft (changesTaken s)) :=
  (changesTaken_attributes s).only.trans ⟨rfl⟩

theorem trayStepped_only (s : State) : LedgerOnly s (trayStepped s) := ⟨rfl⟩
theorem trayStepped_changes (s : State) : (trayStepped s).ldg.changes = s.ldg.changes := rfl
theorem trayStepped_tray (s : State) : (trayStepped s).ldg.trayMeas = s.ldg.trayMeas + s.brm.trayP := rfl
theorem trayStepped_readings (n : Acc) (s : State) : readings (trayStepped s) n = readings s n := rfl

theorem ledgerAccs_changes (s : State) : (forAll accList ledgerAcc s).ldg.changes = s.ldg.changes :=
  forAll_keeps (fun t => t.ldg.changes) ledgerAcc (fun n t => (ledgerAcc_totals n t).1) ..

theorem ledgerAccs_tray (s : State) : (forAll accList ledgerAcc s).ldg.trayMeas = s.ldg.trayMeas :=
  forAll_keeps (fun t => t.ldg.trayMeas) ledgerAcc (fun n t => (ledgerAcc_totals n t).2) ..

theorem ledgerStepped_only (s : State) : LedgerOnly s (ledgerStepped s) := by
  unfold ledgerStepped
  exact ((changesLeft_only s).trans (ledgerAccs_only _)).trans (trayStepped_only _)

theorem ledgerStepped_changes (s : State) :
    (ledgerStepped s).ldg.changes = s.ldg.changes.filter fun x => decide (s.sys.tick < x.at_) := by
  have htaken := changesTaken_attributes s
  rw [ledgerStepped, trayStepped_changes, ledgerAccs_changes, changesLeft_changes, htaken.changes, htaken.only.sys]

theorem ledgerStepped_tray (s : State) : (ledgerStepped s).ldg.trayMeas = s.ldg.trayMeas + s.brm.trayP := by
  rw [ledgerStepped, trayStepped_tray, ledgerAccs_tray, changesLeft_tray, (changesTaken_attributes s).tray,
    ((changesLeft_only s).trans (ledgerAccs_only _)).brm]

theorem ledgerStepped_readings (n : Acc) (s : State) : readings (ledgerStepped s) n = stepOf s n (readings s n) := by
  rw [ledgerStepped, trayStepped_readings, ledgerAccs_readings, (changesLeft_only s).stepOf, changesLeft_readings,
    (changesTaken_attributes s).readings]

end Sys2Proof.Machine
end

section
/-! SUPPORT. The posting of an interval (08 R230 to R242): its record, its balance, and what it leaves for the step of its tick. -/

namespace Sys2Proof.Machine

open Sys2Proof

/-! The balance of one accelerator (08 R233 to R235). -/

theorem partSum_cons (x : LdgSeg × Nat) (l : List (LdgSeg × Nat)) (p : LdgSeg → Bool) :
    partSum (x :: l) p = (if p x.1 then x.2 else 0) + partSum l p := by
  unfold partSum
  by_cases h : p x.1 <;> simp [h]

/-- A part of a job: of a context other than the ballast one, under a binding. -/
def ofJob (x : LdgSeg) : Bool := x.ctx != 48 && x.job != 0

/-- A part of the job of one slot. -/
def ofSlot (c : Fin 48) (x : LdgSeg) : Bool := x.ctx == c.castSucc && x.job != 0

/-- A part of the ballast, and one of a context that is bound to nothing. -/
def ofBallast (x : LdgSeg) : Bool := x.ctx == 48
def ofNobody (x : LdgSeg) : Bool := x.ctx != 48 && x.job == 0

/-- A part of a job belongs to exactly one slot. -/
theorem sum_ofSlot (x : LdgSeg) (a : Nat) :
    ((List.finRange 48).map fun c => if ofSlot c x then a else 0).sum = if ofJob x then a else 0 := by
  rw [← Fin.sum_univ_def]
  obtain ⟨ctx, job, -, -, -⟩ := x
  induction ctx using Fin.lastCases with
  | last =>
    have hnone : ∀ c : Fin 48, (48 : Fin 49) ≠ c.castSucc := fun c => (Fin.castSucc_ne_last c).symm
    simp [ofSlot, ofJob, hnone]
  | cast d =>
    have hlast : d.castSucc ≠ 48 := Fin.castSucc_ne_last d
    by_cases hjob : job = 0#64 <;> simp [ofSlot, ofJob, hlast, hjob]

/-- What is posted to jobs is posted to their slots. -/
theorem partSum_ofJob (l : List (LdgSeg × Nat)) :
    ((List.finRange 48).map fun c => partSum l (ofSlot c)).sum = partSum l ofJob := by
  induction l with
  | nil => simp [partSum]
  | cons x l ih => simp only [partSum_cons, List.sum_map_add, sum_ofSlot, ih]

/-- The microjoules that each slot of an accelerator gets. -/
def slotPosts (p : Posting) : List Nat := (List.finRange 48).map fun c => partSum p.parts (ofSlot c)

/-- What a posting enters for ballast, for nobody and, as what remains of the measured energy, as overhead (08 R233, R235). -/
theorem posting_entry (s : State) (n : Acc) {p : Posting} (hp : p = (postingOf s n).1) :
    p.entry.eMeas = s.ldg.acc[n].meas / 10 ∧ p.entry.eBal = partSum p.parts ofBallast ∧
      p.entry.eUnbound = partSum p.parts ofNobody ∧
      p.entry.eOvh = p.entry.eMeas - (partSum p.parts ofBallast + partSum p.parts ofNobody + partSum p.parts ofJob : Nat) := by
  subst hp
  exact ⟨rfl, rfl, rfl, rfl⟩

/-- What an accelerator posts and its overhead add up to what is measured. -/
theorem posting_balance (s : State) (n : Acc) {p : Posting} (hp : p = (postingOf s n).1) :
    p.entry.eMeas = p.entry.eOvh + p.entry.eBal + p.entry.eUnbound + ((slotPosts p).sum : Nat) := by
  obtain ⟨-, hbal, hunbound, hovh⟩ := posting_entry s n hp
  rw [slotPosts, partSum_ofJob]
  omega

/-- A posting takes whole microjoules out of the running sum, and the account of the next interval begins empty (08 R230, R242). -/
theorem posting_account (s : State) (n : Acc) : (postingOf s n).2.meas = s.ldg.acc[n].meas - 10 * (s.ldg.acc[n].meas / 10) ∧
    (postingOf s n).2.segs = [] ∧ (postingOf s n).2.steps = 0 := ⟨rfl, rfl, rfl⟩

/-! The record of an interval (08 R236, R242). -/

/-- Of lists of one length in a row, a block is the list at its place. -/
theorem take_drop_flatMap {α β : Type} {f : α → List β} {k : Nat} (hf : ∀ a, (f a).length = k) {l : List α} {i : Nat} {a : α}
    (h : l[i]? = some a) : ((l.flatMap f).drop (k * i)).take k = f a := by
  induction l generalizing i with
  | nil => simp at h
  | cons b l ih =>
    cases i with
    | zero =>
      obtain rfl : b = a := by simpa using h
      simp [hf]
    | succ i =>
      rw [List.flatMap_cons, Nat.mul_succ, Nat.add_comm, ← List.drop_drop, List.drop_left' (hf b)]
      exact ih (by simpa using h)

theorem accList_getElem? (n : Acc) : accList[n.1]? = some n := by
  simp [accList]

/-- The record of the interval that ends at `s`. -/
def intervalRecord (s : State) : IntervalRec where
  number := s.sys.tick / 1000
  trayE := s.ldg.trayMeas / 10
  trayOvh := s.ldg.trayMeas / 10 - (accList.map fun n => (postingOf s n).1.entry.eMeas).sum
  tflags := s.ldg.tflags
  accs := accList.map fun n => (postingOf s n).1.entry
  slotUj := accList.flatMap fun n => slotPosts (postingOf s n).1
  share := accList.flatMap fun n => (List.finRange 48).map fun c =>
    if s.ldg.acc[n].avail = 0 then 0
    else (((postingOf s n).1.parts.filter fun p => p.1.ctx == c.castSucc).map fun p => p.1.held).sum / s.ldg.acc[n].avail

theorem intervalRecord_tray (s : State) :
    (intervalRecord s).trayE = ((intervalRecord s).accs.map (·.eMeas)).sum + (intervalRecord s).trayOvh := by
  simp [intervalRecord, Function.comp_def]

theorem intervalRecord_balance (s : State) (n : Acc) {e : IntervalAcc} (h : (intervalRecord s).accs[n.1]? = some e) :
    e.eMeas = e.eOvh + e.eBal + e.eUnbound + (((((intervalRecord s).slotUj.drop (48 * n.1)).take 48).sum : Nat) : Int) := by
  have hslots : ((intervalRecord s).slotUj.drop (48 * n.1)).take 48 = slotPosts (postingOf s n).1 :=
    take_drop_flatMap (fun m => by simp [slotPosts]) (accList_getElem? n)
  have he : (postingOf s n).1.entry = e := by simpa [intervalRecord, accList_getElem?] using h
  rw [hslots, ← he]
  exact posting_balance s n rfl

/-! The posting (08 R230 to R242). -/

/-- The account of an accelerator goes over to the next interval, with STATE_CHANGED where its state changes, and its posting is
entered; `s` is the state at the end of the interval. -/
def postOne (s : State) (n : Acc) (t : State) : State :=
  let e := (postingOf s n).1.entry
  let u := t.setLdg n fun _ => (postingOf s n).2
  postAcc n (postingOf s n).1 (if (e.state == t.ldg.acc[n].state) = true then u else hostEvent 10 (emit u 7 n.1 0xFF 0x0801 e.state))

/-- The Ledger at the start of the interval after that of `r` (08 R229, R241 to R243). -/
def intervalClosed (r : IntervalRec) (t : State) : State :=
  t.modLdg fun l => { l with
    ring := (r :: l.ring).take 16384, last := r.number, posted := l.slot, trayMeas := l.trayMeas - 10 * r.trayE,
    account := l.account.set 24 (l.account[(24 : Fin 25)] + r.trayOvh),
    cfg := l.nextCfg.getD l.cfg, nextCfg := none,
    coef := Vector.ofFn fun b => l.nextCoef[b].orElse fun _ => l.coef[b],
    tflags := if l.nextCoef.toList.any (·.isSome) then 2 else 0, nextCoef := Vector.replicate 3 none }

theorem postDue_due {s : State} (htick : s.sys.tick % 1000 = 0) (hlast : s.ldg.last ≠ s.sys.tick / 1000) :
    postDue s = intervalClosed (intervalRecord s) (forAll accList (postOne s) s) := by
  unfold postDue
  dsimp only
  rw [if_neg (by simp [htick, hlast])]
  simp only [List.map_map, List.foldl_map, List.flatMap_map]
  unfold intervalClosed intervalRecord postOne forAll slotPosts
  rfl

theorem postDue_off {s : State} (h : s.sys.tick % 1000 ≠ 0 ∨ s.ldg.last = s.sys.tick / 1000) : postDue s = s := if_pos h

/-- From `s` to `t` a posting is entered: neither the accelerators' accounts of the interval, nor the ring, nor the tray's energy
moves. -/
structure Enters (s t : State) : Prop where
  only : LedgerOnly s t
  acc : t.ldg.acc = s.ldg.acc
  ring : t.ldg.ring = s.ldg.ring
  tray : t.ldg.trayMeas = s.ldg.trayMeas

namespace Enters

theorem refl (s : State) : Enters s s := ⟨.refl s, rfl, rfl, rfl⟩

theorem trans {s t u : State} (h : Enters s t) (h' : Enters t u) : Enters s u :=
  ⟨h.only.trans h'.only, h'.acc.trans h.acc, h'.ring.trans h.ring, h'.tray.trans h.tray⟩

theorem modLdg {f : LdgState → LdgState} (s : State) (hf : ∀ g, (f g).acc = g.acc ∧ (f g).ring = g.ring ∧
    (f g).trayMeas = g.trayMeas := by exact fun _ => ⟨rfl, rfl, rfl⟩) : Enters s (s.modLdg f) := by
  obtain ⟨hacc, hring, htray⟩ := hf s.ldg
  exact ⟨⟨rfl⟩, hacc, hring, htray⟩

theorem setSlot (n : Acc) (c : Fin 48) (f : LdgSlot → LdgSlot) (s : State) : Enters s (s.setSlot n c f) :=
  ⟨⟨rfl⟩, rfl, rfl, rfl⟩

theorem foldl {α : Type} {f : State → α → State} (h : ∀ s x, Enters s (f s x)) (l : List α) (s : State) :
    Enters s (l.foldl f s) :=
  forAll_inv (Enters s) (fun x s => f s x) l (fun x t ht => ht.trans (h t x)) s (refl s)

end Enters

theorem postAcc_enters (n : Acc) (p : Posting) (s : State) : Enters s (postAcc n p s) := by
  unfold postAcc
  refine .trans (.trans (.trans (.modLdg s) (.modLdg _)) (.modLdg _)) (.foldl (fun t c => ?_) _ _)
  dsimp only
  split
  · exact .refl t
  split
  · exact ((Enters.setSlot n c _ t).trans (.modLdg _)).trans (.setSlot ..)
  · exact .setSlot ..

/-- From `s` to `t` only the record, the Ledger and the host events due may differ, and of the Ledger neither the ring nor the tray's
energy. -/
structure Posts (s t : State) : Prop where
  frame : t = { s with rcd := t.rcd, ldg := t.ldg, mbx := { s.mbx with evtDue := t.mbx.evtDue } }
  ring : t.ldg.ring = s.ldg.ring
  tray : t.ldg.trayMeas = s.ldg.trayMeas

namespace Posts

theorem refl (s : State) : Posts s s := ⟨rfl, rfl, rfl⟩

theorem trans {s t u : State} (h : Posts s t) (h' : Posts t u) : Posts s u :=
  ⟨by rw [h'.frame, h.frame], h'.ring.trans h.ring, h'.tray.trans h.tray⟩

theorem of_enters {s t : State} (h : Enters s t) : Posts s t := ⟨by rw [h.only.frame], h.ring, h.tray⟩

end Posts

theorem postOne_posts (s : State) (n : Acc) (t : State) : Posts t (postOne s n t) := by
  unfold postOne
  refine .trans ?_ (.of_enters (postAcc_enters ..))
  split <;> exact ⟨rfl, rfl, rfl⟩

theorem postOne_acc (s : State) (m : Acc) (t : State) (n : Acc) :
    (postOne s m t).ldg.acc[n] = if n = m then (postingOf s m).2 else t.ldg.acc[n] := by
  rw [postOne, (postAcc_enters ..).acc, ← setLdg_acc m n (fun _ => (postingOf s m).2) t]
  split <;> rfl

theorem postAll_posts (s : State) : Posts s (forAll accList (postOne s) s) :=
  forAll_inv (Posts s) (postOne s) accList (fun n t ht => ht.trans (postOne_posts s n t)) s (.refl s)

theorem postAll_acc (s : State) (n : Acc) : (forAll accList (postOne s) s).ldg.acc[n] = (postingOf s n).2 :=
  forAll_accList_pointwise (view := fun t n => t.ldg.acc[n]) (g := fun m _ => (postingOf s m).2) (postOne_acc s) n s

/-! The interval as a whole: posted once, and before the step of its tick (08 R222). -/

theorem intervalClosed_frame (r : IntervalRec) {s t : State} (h : Posts s t) : intervalClosed r t = { s with
    rcd := (intervalClosed r t).rcd, ldg := (intervalClosed r t).ldg,
    mbx := { s.mbx with evtDue := (intervalClosed r t).mbx.evtDue } } := by
  rw [h.frame]
  rfl

theorem intervalClosed_last (r : IntervalRec) (t : State) : (intervalClosed r t).ldg.last = r.number := rfl
theorem intervalClosed_acc (r : IntervalRec) (t : State) : (intervalClosed r t).ldg.acc = t.ldg.acc := rfl
theorem intervalClosed_ring (r : IntervalRec) (t : State) :
    (intervalClosed r t).ldg.ring = (r :: t.ldg.ring).take 16384 := rfl
theorem intervalClosed_tray (r : IntervalRec) (t : State) :
    (intervalClosed r t).ldg.trayMeas = t.ldg.trayMeas - 10 * r.trayE := rfl

theorem postDue_sys (s : State) : (postDue s).sys = s.sys := by
  by_cases hoff : s.sys.tick % 1000 ≠ 0 ∨ s.ldg.last = s.sys.tick / 1000
  · rw [postDue_off hoff]
  · obtain ⟨htick, hlast⟩ := not_or.1 hoff
    rw [postDue_due (not_not.1 htick) hlast, intervalClosed_frame _ (postAll_posts s)]

/-- No interval is posted twice. -/
theorem postDue_postDue (s : State) : postDue (postDue s) = postDue s := by
  by_cases hoff : s.sys.tick % 1000 ≠ 0 ∨ s.ldg.last = s.sys.tick / 1000
  · rw [postDue_off hoff, postDue_off hoff]
  · obtain ⟨htick, hlast⟩ := not_or.1 hoff
    refine postDue_off (.inr ?_)
    rw [postDue_sys, postDue_due (not_not.1 htick) hlast, intervalClosed_last]
    rfl

/-- An interval that is not posted before the step of its tick is posted by it (08 R222). -/
theorem ledgerStep_postDue (s : State) : exec .ledgerStep s = exec .ledgerStep (postDue s) := by
  by_cases htick : s.sys.tick % 10 = 0
  · rw [ledgerStep_due htick, ledgerStep_due (by rwa [postDue_sys]), postDue_postDue]
  · rw [postDue_off (.inl (by omega))]

/-- Settles O50: a step by the readings of each accelerator (`ledgerStepped_readings`), a posting by its record and by the account that
each accelerator begins the next interval with. -/
theorem ledgerRows : Obligations.LedgerRows := by
  unfold Obligations.LedgerRows
  refine ⟨fun s htick hoff => ?_, fun s t hpost => ?_, fun s hoff => congrArg Host.Outcome.next (postDue_off hoff),
    fun s htick hlast => ?_⟩
  · refine ⟨ledgerStepped s, by rw [ledgerStep_due htick, postDue_off hoff], (ledgerStepped_only s).frame, ledgerStepped_changes s,
      ledgerStepped_tray s, fun n => ?_⟩
    have hread := ledgerStepped_readings n s
    simp only [readings, readingsOf, stepOf, StepReadings.mk.injEq] at hread
    obtain ⟨hpend, hmeas, hopp, hband⟩ := hread
    exact ⟨hpend, hopp, hband, hmeas⟩
  · obtain rfl : postDue s = t := Host.Outcome.next.inj hpost
    exact ledgerStep_postDue s
  · have hposts := postAll_posts s
    refine ⟨intervalClosed (intervalRecord s) (forAll accList (postOne s) s), intervalRecord s,
      congrArg Host.Outcome.next (postDue_due htick hlast), intervalClosed_frame _ hposts, intervalClosed_last .., ?_, rfl, rfl, ?_,
      intervalRecord_tray s, by simp [intervalRecord, accList], fun n e => intervalRecord_balance s n, fun n => ?_⟩
    · rw [intervalClosed_ring, hposts.ring]
    · rw [intervalClosed_tray, hposts.tray]
    · rw [intervalClosed_acc, postAll_acc]
      exact posting_account s n

end Sys2Proof.Machine
end

section
/-! SUPPORT. The rows of Frond (09 R266 to R277; 15 R460): what a launch latches, what the end of a run keeps, what a reload seats,
and what a persisted model leaves in flash. -/

namespace Sys2Proof.Machine

open Sys2Proof

/-! Launches (09 R267, R271, R274, R281). -/

/-- A byte put into a register is read back from it, cut to its width. -/
theorem fld_setByte (w : Word) (x : Slot) (v : Nat) : fld (setByte w x.1 v) (8 * x.1) 8 = v % 256 := by
  have hw := w.isLt
  fin_cases x <;> simp [setByte, setFld, fld] <;> omega

/-- A launch takes the staged offset of its slot into force (09 R281). -/
def FrdState.offsetTaken (x : Slot) (f : FrdState) : FrdState :=
  { f with sched := setByte f.sched x.1 (f.nextOffset[x].getD (fld f.sched (8 * x.1) 8)), nextOffset := f.nextOffset.set x none }

/-- The slot with the capture of a launch latched and its run begun (09 R271). -/
def FrdSlot.launched (s : State) (b : List Byte) (reply : Option Reply) (k : FrdSlot) : FrdSlot :=
  { k with
    captures := (((List.range (frcHeader b).inCount).map fun i => sourceValue s k (frcIn b (frcHeader b) i)) :: k.captures).take 16,
    prevAct := Vector.ofFn fun n => frameSeen s n,
    run := some { launch := s.sys.tick, staleIn := captureStale s b, reply := reply } }

/-- A launch with no model that waits to take over: nothing that it latches depends on the offsets it takes. -/
theorem launch_resident {x : Slot} {b : List Byte} {s : State} (reply : Option Reply) (hmodel : s.frd.slot[x].model = some b)
    (hnext : s.frd.slot[x].next = none) : launch x reply s =
      workReady (.slot x) ((s.modFrd (FrdState.offsetTaken x)).setFrd x (FrdSlot.launched s b reply)) := by
  unfold launch
  simp only [hnext, State.modFrd_frd, hmodel]
  rfl

theorem launch_slot {x : Slot} {b : List Byte} {s : State} (reply : Option Reply) (hmodel : s.frd.slot[x].model = some b)
    (hnext : s.frd.slot[x].next = none) : (launch x reply s).frd.slot[x] = s.frd.slot[x].launched s b reply := by
  rw [launch_resident reply hmodel hnext]
  simp [workReady, FrdState.offsetTaken]

theorem launch_offset {x : Slot} {b : List Byte} {s : State} (reply : Option Reply) (hmodel : s.frd.slot[x].model = some b)
    (hnext : s.frd.slot[x].next = none) : fld (launch x reply s).frd.sched (8 * x.1) 8 =
      (s.frd.nextOffset[x].getD (fld s.frd.sched (8 * x.1) 8)) % 256 ∧
      (launch x reply s).frd.nextOffset = s.frd.nextOffset.set x none := by
  rw [launch_resident reply hmodel hnext]
  exact ⟨fld_setByte s.frd.sched x _, rfl⟩

/-- The launch row of a ready slot whose launch time has arrived. -/
theorem frondLaunch_due {x : Slot} {b : List Byte} {s : State} (hmodel : s.frd.slot[x].model = some b)
    (hnext : s.frd.slot[x].next = none) (hready : s.frd.slot[x].state = 2) (hper : (frcHeader b).period ≠ 0)
    (hsafe : pstate s ≠ .safe) (heng : s.nv.frondEng ≠ 0)
    (htime : s.sys.tick % (frcHeader b).period = fld s.frd.sched (8 * x.1) 8 % (frcHeader b).period) :
    exec (.frondLaunch x) s =
      if s.frd.slot[x].run.isSome then
        .next (emit (s.setFrd x fun k => { k with skips := satAdd 0xFFFF s.frd.slot[x].skips, skipGen := true })
          7 9 x.1 0x0904 (satAdd 0xFFFF s.frd.slot[x].skips))
      else .next (launch x none s) := by
  have hnextPeriod : nextPeriod s.frd.slot[x] = (frcHeader b).period := by simp only [nextPeriod, slotPeriod, hnext, hmodel]
  change execFrondLaunch x s = _
  unfold execFrondLaunch
  simp only [hnextPeriod]
  exact if_neg (by simp only [hper, hready, hsafe, heng, htime, ne_eq, not_true, or_self, not_false_eq_true])

/-! The end of a run (09 R272, R277). -/

/-- From `s` to `t` only the record and Frond may differ, and no slot does. -/
structure SlotsKept (s t : State) : Prop where
  frame : t = { s with rcd := t.rcd, frd := t.frd }
  slots : t.frd.slot = s.frd.slot

namespace SlotsKept

theorem refl (s : State) : SlotsKept s s := ⟨rfl, rfl⟩

theorem trans {s t u : State} (h : SlotsKept s t) (h' : SlotsKept t u) : SlotsKept s u :=
  ⟨by rw [h'.frame, h.frame], h'.slots.trans h.slots⟩

theorem modFrd {f : FrdState → FrdState} (s : State) (hf : ∀ g, (f g).slot = g.slot := by exact fun _ => rfl) :
    SlotsKept s (s.modFrd f) := ⟨rfl, hf s.frd⟩

theorem completeLate (q : Reply) (a : Ans) (s : State) : SlotsKept s (completeLate q a s) := ⟨rfl, rfl⟩

theorem ite {s t u : State} {c : Prop} [Decidable c] (ht : SlotsKept s t) (hu : SlotsKept s u) :
    SlotsKept s (if c then t else u) := by
  split
  · exact ht
  · exact hu

end SlotsKept

theorem workEnd_slotsKept (w : FrdWork) (s : State) : SlotsKept s (workEnd w s) := by
  unfold workEnd
  split
  · exact .ite (.modFrd s) (.refl s)
  · exact .modFrd s

theorem postOuts_slotsKept (b : List Byte) (outs : List (Nat × Nat × Rat)) (s : State) : SlotsKept s (postOuts b outs s) := by
  unfold postOuts
  refine forAll_inv (SlotsKept s) (fun (o : Nat × Nat × Rat) t => _) outs (fun o t ht => ht.trans ?_) _
    (.ite (.modFrd s) (.refl s))
  split
  · exact .ite (.modFrd t) (.ite (.modFrd t) (.refl t))
  · exact .ite (.modFrd t) (.refl t)

/-- Nothing waits for the end of the run of a slot. -/
theorem afterRun_nothing {x : Slot} {s : State} (hreset : s.frd.slot[x].afterReset = false)
    (hunload : s.frd.slot[x].afterUnload = none) : afterRun x s = s := by
  have hslot : { s.frd.slot[x] with afterReset := false, afterUnload := none } = s.frd.slot[x] := by rw [← hreset, ← hunload]
  have hkept : (s.setFrd x fun k => { k with afterReset := false, afterUnload := none }) = s := by
    rw [State.setFrd, hslot, Fin.getElem_fin, Vector.set_getElem_self]
  unfold afterRun
  simp only [hreset, hunload, hkept, Bool.false_eq_true, if_false]

theorem nextQueued_nil {x : Slot} {s : State} (hqueue : s.frd.slot[x].queue = []) : nextQueued x s = s := by
  unfold nextQueued
  rw [hqueue]

/-- The slot with the outputs and the state of its run kept (09 R277, R282). -/
def FrdSlot.ran (b : List Byte) (r : FrondRun) (tick : Nat) (k : FrdSlot) : FrdSlot :=
  { k with
    run := none, outs := (runModel b k.captures k.leaky).1, doneTick := tick, staleIn := r.staleIn,
    clamped := (runModel b k.captures k.leaky).2.1, leaky := (runModel b k.captures k.leaky).2.2, runsGen := k.runsGen + 1 }

/-- The outputs of a run kept and posted, and the array free for other work. -/
def runPosted (x : Slot) (b : List Byte) (r : FrondRun) (s : State) : State :=
  postOuts b (runModel b s.frd.slot[x].captures s.frd.slot[x].leaky).1
    (workEnd (.slot x) (s.setFrd x (FrdSlot.ran b r s.sys.tick)))

/-- The frond.run that waited for a run ends with the outputs of its slot (15 R461). -/
def runAnswered (x : Slot) (r : FrondRun) (s : State) : State :=
  match r.reply with
  | some q => completeLate q { data := outputBlock s.frd.slot[x] } s
  | none => s

theorem frondRunDone_early {x : Slot} {s : State} (hturn : mayEnd (.slot x) s = false) : exec (.frondRunDone x) s = .next s := by
  change execFrondRunDone x s = _
  unfold execFrondRunDone
  dsimp only
  split
  · exact if_pos (by simp [hturn])
  · rfl

theorem frondRunDone_turn {x : Slot} {b : List Byte} {r : FrondRun} {s : State} (hmodel : s.frd.slot[x].model = some b)
    (hrun : s.frd.slot[x].run = some r) (hturn : mayEnd (.slot x) s = true) :
    exec (.frondRunDone x) s = .next (nextQueued x (afterRun x (runAnswered x r (runPosted x b r s)))) := by
  change execFrondRunDone x s = _
  unfold execFrondRunDone
  simp only [hmodel, hrun, hturn]
  rfl

theorem runPosted_slotsKept (x : Slot) (b : List Byte) (r : FrondRun) (s : State) :
    SlotsKept (s.setFrd x (FrdSlot.ran b r s.sys.tick)) (runPosted x b r s) :=
  (workEnd_slotsKept ..).trans (postOuts_slotsKept ..)

theorem runAnswered_slotsKept (x : Slot) (r : FrondRun) (s : State) : SlotsKept s (runAnswered x r s) := by
  unfold runAnswered
  split
  · exact .completeLate ..
  · exact .refl s

theorem runAnswered_reply {x : Slot} {r : FrondRun} {q : Reply} (s : State) (hreply : r.reply = some q) :
    ∃ p ∈ (runAnswered x r s).rcd.replies, p.src = q.src ∧ p.seq = q.seq ∧ p.result = .ok ∧
      p.data = outputBlock (runAnswered x r s).frd.slot[x] := by
  obtain ⟨p, hp, hsrc, hseq, -, hres, hdata⟩ := mem_complete q { data := outputBlock s.frd.slot[x] } s
  simp only [runAnswered, hreply]
  exact ⟨p, hp, hsrc, hseq, hres, hdata⟩

/-- The slot at the end of its run. -/
theorem runAnswered_slot (x : Slot) (b : List Byte) (r : FrondRun) (s : State) :
    (runAnswered x r (runPosted x b r s)).frd.slot[x] = s.frd.slot[x].ran b r s.sys.tick := by
  rw [((runPosted_slotsKept x b r s).trans (runAnswered_slotsKept ..)).slots]
  simp

/-- The end of a run in its turn, where nothing waits for it but a command. -/
theorem frondRunDone_alone {x : Slot} {b : List Byte} {r : FrondRun} {s : State} (hmodel : s.frd.slot[x].model = some b)
    (hrun : s.frd.slot[x].run = some r) (hqueue : s.frd.slot[x].queue = []) (hreset : s.frd.slot[x].afterReset = false)
    (hunload : s.frd.slot[x].afterUnload = none) (hturn : mayEnd (.slot x) s = true) :
    exec (.frondRunDone x) s = .next (runAnswered x r (runPosted x b r s)) := by
  have hslot := runAnswered_slot x b r s
  have hafter : afterRun x (runAnswered x r (runPosted x b r s)) = runAnswered x r (runPosted x b r s) :=
    afterRun_nothing (by rw [hslot]; exact hreset) (by rw [hslot]; exact hunload)
  rw [frondRunDone_turn hmodel hrun hturn, hafter, nextQueued_nil (by rw [hslot]; exact hqueue)]

/-! Reloads from flash (09 R266, R269). -/

/-- The slot as a reload leaves it before the container is accepted or refused. -/
def reloadEnded (x : Slot) (s : State) : State := s.setFrd x fun k => { k with state := 0 }

theorem frondReloadDone_noCopy {x : Slot} {s : State} (hstate : s.frd.slot[x].state = 1 ∨ s.frd.slot[x].state = 3)
    (hflash : s.nv.frdFlash[x] = none) : exec (.frondReloadDone x) s = .next (reloadEnded x s) := by
  change execFrondReloadDone x s = _
  unfold execFrondReloadDone
  rw [if_neg (by omega), hflash]
  rfl

theorem frondReloadDone_copy {x : Slot} {b : List Byte} {s : State}
    (hstate : s.frd.slot[x].state = 1 ∨ s.frd.slot[x].state = 3) (hflash : s.nv.frdFlash[x] = some b) :
    exec (.frondReloadDone x) s =
      if loadReason s x b true = 0 then .next (acceptModel x b (reloadEnded x s))
      else .next (rejectModel x (loadReason s x b true) (reloadEnded x s)) := by
  change execFrondReloadDone x s = _
  unfold execFrondReloadDone
  rw [if_neg (by omega), hflash]
  rfl

/-- A load rejection reason is one of the numbers of its table (09 R266). -/
theorem loadReason_le (s : State) (x : Slot) (b : List Byte) (cold : Bool) : loadReason s x b cold ≤ 11 := by
  unfold loadReason
  extract_lets
  refine (ite_le_sup ..).trans (sup_le (by decide) ?_)
  split
  · decide
  · repeat refine (ite_le_sup ..).trans (sup_le (by decide) ?_)
    decide

/-- A container accepted for an empty slot is seated there at once (09 R267). -/
theorem acceptModel_empty {x : Slot} {s : State} (b : List Byte) (hempty : s.frd.slot[x].model = none) :
    (acceptModel x b s).frd.slot[x].model = some b ∧ (acceptModel x b s).frd.slot[x].state = 2 ∧
      (acceptModel x b s).frd.slot[x].reject = 0 := by
  simp only [acceptModel, hempty, Option.isNone_none, if_true]
  simp [seatModel, resetSlotState, emit]

theorem acceptModel_noted (x : Slot) (b : List Byte) (s : State) : HostDue (acceptModel x b s) 11 ∧
    Raised (acceptModel x b s) 7 9 x.1 0x0901 ((frcHeader b).version % 65536) :=
  ⟨hostDue_hostEvent 11 _, raised_emit _ _ _ _ _ _ (Nat.mod_lt _ (by decide))⟩

theorem rejectModel_noted (x : Slot) {r : Nat} (s : State) (hr : r < 65536) : HostDue (rejectModel x r s) 11 ∧
    Raised (rejectModel x r s) 7 9 x.1 0x0902 r :=
  ⟨hostDue_hostEvent 11 _, raised_emit _ _ _ _ _ _ hr⟩

/-! Persistence (09 R268; 15 R460). -/

theorem frondPersistDone_next {x : Slot} {b : List Byte} {s : State} (h : s.frd.slot[x].persist = some b) :
    exec (.frondPersistDone x) s = .next ((s.setFrd x fun k => { k with persist := none }).modNv fun v => { v with
      frdFlash := v.frdFlash.set x (some b),
      modelMin := ((frcHeader b).modelId, max (frcHeader b).version (modelFloor s (frcHeader b).modelId)) ::
        v.modelMin.filter fun p => p.1 ≠ (frcHeader b).modelId }) := by
  change execFrondPersistDone x s = _
  unfold execFrondPersistDone
  simp only [h]
  rfl

/-- Settles O51: each row by its equation; a launch by what it latches (`launch_resident`), the end of a run by the slots that its
posting and its answer keep (`SlotsKept`). -/
theorem frondRows : Obligations.FrondRows := by
  unfold Obligations.FrondRows
  refine ⟨fun x b s hmodel hnext hready hper hsafe heng htime => ?_, fun x b r s hmodel hrun hqueue hreset hunload => ?_,
    fun x s hstate hempty => ?_, fun x b s hpersist => frondPersistDone_next hpersist⟩
  · have hdue := frondLaunch_due hmodel hnext hready hper hsafe heng htime
    refine ⟨fun r hrun => ?_, fun hidle => ?_⟩
    · refine ⟨_, hdue.trans (if_pos (by rw [hrun]; rfl)), ?_, raised_emit _ _ _ _ _ _ (by unfold satAdd; omega), rfl⟩
      simp [emit, satAdd]
    · have hslot := launch_slot none hmodel hnext
      obtain ⟨hoffset, hstaged⟩ := launch_offset none hmodel hnext
      exact ⟨_, { launch := s.sys.tick, staleIn := captureStale s b, reply := none },
        hdue.trans (if_neg (by rw [hidle]; exact Bool.false_ne_true)), by rw [hslot]; rfl, rfl, rfl, rfl, hoffset, hstaged,
        by rw [hslot]; rfl, by rw [launch_resident none hmodel hnext]; rfl⟩
  · refine ⟨frondRunDone_early, fun hturn => ?_⟩
    have hkept := (runPosted_slotsKept x b r s).trans (runAnswered_slotsKept x r _)
    exact ⟨_, frondRunDone_alone hmodel hrun hqueue hreset hunload hturn, by rw [hkept.frame]; rfl, runAnswered_slot x b r s,
      fun q hreply => runAnswered_reply _ hreply⟩
  · refine ⟨frondReloadDone_noCopy hstate, fun b hflash hpass => ?_, fun b hflash hfail => ?_⟩
    · obtain ⟨hmodel, hready, hreject⟩ := acceptModel_empty (x := x) (s := reloadEnded x s) b
        (by simpa [reloadEnded] using hempty)
      exact ⟨_, (frondReloadDone_copy hstate hflash).trans (if_pos hpass), hmodel, hready, hreject, acceptModel_noted ..⟩
    · have hr := loadReason_le s x b true
      exact ⟨_, (frondReloadDone_copy hstate hflash).trans (if_neg hfail), by simp [rejectModel, reloadEnded, emit],
        rejectModel_noted x _ (by omega)⟩

end Sys2Proof.Machine
end

section
/-! SUPPORT. The Sorus and bring-up commands (10 R310; 11 R337, R341, R344). -/

namespace Sys2Proof.Machine

open Sys2Proof

/-- A command whose rule makes a change that its traces do not touch ends in that change and its traces. -/
theorem settled_bookkept_of {g : State → State} (hg : ∀ u t, bookkept (g u) t = g (bookkept u t)) {f : Frame} {c : Cmd}
    {bus : Option TransferEnd} {s : State} (h : (applied f c bus s).1 = g (taken f c s)) :
    settled f c bus s = g (bookkept s (settled f c bus s)) := by
  calc settled f c bus s
      = bookkept (g (taken f c s)) (settled f c bus s) := h ▸ settled_bookkept_applied f c bus s
    _ = g (bookkept (taken f c s) (settled f c bus s)) := hg ..
    _ = g (bookkept s (settled f c bus s)) := by rw [bookkept_taken]

/-! bup.journal_forget (11 R337). -/

/-- The KIND 9 entry that voids the entries of a serial. -/
def forgetEntry (sn : BitVec 64) (boots : Nat) : JEntry :=
  { kind := 9, bin := 0, formats := 0, unit := 0, serial := sn, runId := 0, boot := boots, position := 0 }

/-- The journal with one more entry. -/
def journaled (l : List (Option JEntry)) (s : State) : State := s.modNv fun v => { v with journal := l }

theorem appendEntry_of_room {e : JEntry} {s : State} (h : s.nv.journal.length < 16382) :
    appendEntry e s = journaled (s.nv.journal ++ [some e]) s := if_pos h

theorem applyForget_done {sn : BitVec 64} {s : State}
    (hfitted : ∀ (n : Acc) (id : Identity), s.acc[n].ident = some id → id.serial ≠ sn) (hroom : s.nv.journal.length < 16382) :
    applyForget sn s = done (journaled (s.nv.journal ++ [some (forgetEntry sn s.nv.boots)]) s) := by
  have hnone : ¬(accList.any fun n => (s.acc[n].ident.map (·.serial)) == some sn) = true := by
    rw [List.any_eq_true]
    rintro ⟨n, -, hn⟩
    obtain ⟨id, hid, hserial⟩ := Option.map_eq_some_iff.1 (beq_iff_eq.1 hn)
    exact hfitted n id hid hserial
  unfold applyForget
  rw [if_neg hnone, appendEntry_of_room hroom]
  rfl

/-- Under a KIND 9 entry no entry of its serial is in force (11 R337). -/
theorem serialEntries_forgotten {s : State} {sn : BitVec 64} {boots : Nat} {l : List (Option JEntry)}
    (h : s.nv.journal = l ++ [some (forgetEntry sn boots)]) : serialEntries s sn = [] := by
  have hlive : liveEntries (l ++ [some (forgetEntry sn boots)]) = (liveEntries l).filter fun x => x.serial ≠ sn := by
    simp [liveEntries, forgetEntry]
  rw [serialEntries, h, hlive]
  simp

/-! bup.test (11 R341). -/

/-- A target of S9 or above begins no power-down. -/
theorem aimAcc_top {n : Acc} {t : Nat} {s : State} (h : 9 ≤ t) : aimAcc n t s = setTarget (accChan n) t s := by
  unfold aimAcc aim
  simp only [accOf_accChan]
  exact if_neg fun ⟨_, hlow, _⟩ => Nat.not_lt.2 h hlow

/-- A drawn run: the next RUN_ID (11 R323). -/
theorem drawRun_spec (n : Acc) (s : State) :
    (drawRun n s).1.1 = (s.nv.runId + 1) % 2 ^ 32 ∧ (drawRun n s).2.nv.runId = (s.nv.runId + 1) % 2 ^ 32 ∧
      (drawRun n s).2.bup = s.bup := ⟨rfl, rfl, rfl⟩

/-- An accelerator whose engines are submitted waits for its references, or has them at hand with fixed seeds (11 R323, R331). -/
def refsAwaited (s : State) (d : Nat × BitVec 64) (b : BupAcc) : BupAcc :=
  { b with drawn := some d, refWait := !fixedSeed s, refReady := fixedSeed s,
           refBase := if s.frd.refBusy then s.frd.refTotal else 0 }

/-- Submitting the engines moves Frond's reference job and bring-up's part of the accelerator (11 R323). -/
theorem startRefs_frame (n : Acc) (d : Nat × BitVec 64) (s : State) :
    startRefs n d s = { s.setBup n (refsAwaited s d) with frd := (startRefs n d s).frd } := by
  unfold startRefs
  extract_lets base awaited k
  split <;> rfl

/-- An idle accelerator with a run of its own drawn, on its way to S11 (11 R341). -/
def testDrawn (n : Acc) (s : State) : State :=
  aimAcc n 11 (((startRefs n (drawRun n s).1 (drawRun n s).2).setBup n fun b => { b with solo := true }).setAcc n fun a =>
    { a with testWanted := true })

theorem applyBupTest_done {n : Acc} {s : State} (hstate : s.crz.chan[accChan n].state = 12)
    (htarget : s.crz.chan[accChan n].target = 12) (hfault : s.crz.chan[accChan n].fault = false)
    (hidle : ∀ i : Fin 48, s.str.acc[n].ctx[i].active = false) (havs : s.twb.avs[n].failed = false) :
    applyBupTest n s = doneWith (leBytes 4 ((s.nv.runId + 1) % 2 ^ 32)) (testDrawn n s) := by
  have hctx : s.str.acc[n].ctx.toList.any (·.active) = false := by
    rw [List.any_eq_false]
    intro c hc
    obtain ⟨i, hi, rfl⟩ := Vector.mem_iff_getElem.1 (Vector.mem_toList_iff.1 hc)
    simpa using hidle ⟨i, hi⟩
  unfold applyBupTest
  simp only
  rw [if_neg (by rw [hstate, htarget, hfault, hctx]; decide), if_neg (by rw [havs]; decide)]
  rfl

theorem testDrawn_bup (n : Acc) (s : State) : (testDrawn n s).bup = (s.setBup n fun b =>
    { refsAwaited (drawRun n s).2 (drawRun n s).1 b with solo := true }).bup := by
  rw [testDrawn, aimAcc_top (by decide), startRefs_frame]
  simp [setTarget, drawRun_spec]

theorem testDrawn_runId (n : Acc) (s : State) : (testDrawn n s).nv.runId = (s.nv.runId + 1) % 2 ^ 32 := by
  rw [testDrawn, aimAcc_top (by decide), startRefs_frame]
  exact (drawRun_spec n s).2.1

theorem testDrawn_testWanted (n : Acc) (s : State) : (testDrawn n s).acc[n].testWanted = true := by
  rw [testDrawn, aimAcc_top (by decide)]
  simp [setTarget]

theorem testDrawn_target (n : Acc) (s : State) : (testDrawn n s).crz.chan[accChan n].target = 11 :=
  (aimAcc_target_drain n 11 _).1

/-- Settles O16: each command by the rule that applies it, on the state in which it is taken; what bup.test leaves by
`testDrawn`. -/
theorem sorusAndBringupCommands : Obligations.SorusAndBringupCommands := by
  unfold Obligations.SorusAndBringupCommands
  refine ⟨fun f a e s h => ?_, fun f w s h => ?_, fun f sn s h hfitted hroom => ?_,
    fun f b n s h hb hstate htarget hfault hidle havs => ?_⟩
  · obtain ⟨happlied, hwaits⟩ := settled_stored (.srsSetConfig a e) (f := f) (s := s) rfl rfl
    refine ⟨_, runCommand_settled h none, ?_, hwaits⟩
    refine settled_bookkept_of (g := fun u => { u with srs := { s.srs with staged := some (a, e) } }) (fun _ _ => rfl)
      (happlied.trans ?_)
    rw [State.modSrs, taken_srs]
  · obtain ⟨happlied, hwaits⟩ := settled_stored (.bupSetConfig w) (f := f) (s := s) rfl rfl
    refine ⟨_, runCommand_settled h none, ?_, hwaits⟩
    refine settled_bookkept_of (g := fun u => { u with bup := { s.bup with cfg := w } }) (fun _ _ => rfl) (happlied.trans ?_)
    rw [putStored, State.modBup, taken_bup]
  · have hnv : (taken f (.bupJournalForget sn) s).nv = _ := taken_nv ..
    have hrule : applied f (.bupJournalForget sn) none s =
        done (journaled (s.nv.journal ++ [some (forgetEntry sn s.nv.boots)]) (taken f (.bupJournalForget sn) s)) := by
      refine (applyForget_done ?_ ?_).trans ?_
      · simpa using hfitted
      · rwa [hnv]
      · rw [hnv]
    obtain ⟨happlied, hans⟩ := settled_done (.bupJournalForget sn) rfl hrule
    refine ⟨_, runCommand_settled h none, ?_, serialEntries_forgotten (l := s.nv.journal) (boots := s.nv.boots) ?_, hans⟩
    · exact settled_bookkept_of (g := journaled (s.nv.journal ++ [some (forgetEntry sn s.nv.boots)])) (fun _ _ => rfl) happlied
    · rw [settled_nv, happlied]
      rfl
  · have hrule : applied f (.bupTest b) none s =
        doneWith (leBytes 4 ((s.nv.runId + 1) % 2 ^ 32)) (testDrawn n (taken f (.bupTest b) s)) := by
      refine (onAcc_eq hb ..).trans ((applyBupTest_done ?_ ?_ ?_ ?_ ?_).trans ?_)
      · rwa [taken_crz]
      · rwa [taken_crz]
      · rwa [taken_crz]
      · simpa using hidle
      · rwa [taken_twb]
      · rw [taken_nv]
    obtain ⟨happlied, hans⟩ := settled_doneWith (.bupTest b) rfl hrule
    refine ⟨_, runCommand_settled h none, ?_, ?_, ?_, ?_, ?_, fun m hm => ?_, hans⟩
    · rw [settled_crz, happlied, testDrawn_target]
    · rw [settled_nv, happlied, testDrawn_runId, taken_nv]
    · rw [settled_bup, happlied, testDrawn_bup]
      simp
    · rw [settled_bup, happlied, testDrawn_bup]
      simp [refsAwaited]
    · rw [settled_acc, happlied, testDrawn_testWanted]
    · have hne : n.1 ≠ m.1 := fun e => hm (Fin.ext e.symm)
      rw [settled_bup, happlied, testDrawn_bup]
      simp [Vector.getElem_set_ne _ _ hne]

end Sys2Proof.Machine
end

section
/-! SUPPORT. What the operations on one Sorus link leave of the other links and of the machine (10 R286 to R307). -/

namespace Sys2Proof.Machine

open Sys2Proof

theorem setLink_link_self (n : Acc) (f : LinkState → LinkState) (s : State) : (s.setLink n f).srs.link[n] = f s.srs.link[n] := by
  simp

/-! The downstream lane is lost (10 R299). -/

/-- The lane's demand for the forced minimum (01 R21). -/
def laneForced (n : Acc) (s : State) : State := s.setAcc n fun a => { a with forceLane := true }

/-- A link whose downstream lane is lost. -/
def LinkState.laneLost (l : LinkState) : LinkState := if l.dsLost then l else { l with dsLost := true, span := none }

theorem setDsLost_true_eq (n : Acc) (s : State) : setDsLost n true s =
    if s.srs.link[n].dsLost then laneForced n s
    else (emit (laneForced n s) 7 n.1 0xFF 0x0A03 1).setLink n fun l => { l with dsLost := true, span := none } := by
  unfold setDsLost
  simp only [beq_true, if_true]
  rfl

theorem setDsLost_true_acc (n : Acc) (s : State) : (setDsLost n true s).acc = s.acc.set n { s.acc[n] with forceLane := true } := by
  rw [setDsLost_true_eq]
  split <;> rfl

theorem setDsLost_true_frd (n : Acc) (s : State) : (setDsLost n true s).frd = s.frd := by
  rw [setDsLost_true_eq]
  split <;> rfl

theorem setDsLost_true_link (n : Acc) (s : State) : (setDsLost n true s).srs.link[n] = s.srs.link[n].laneLost := by
  rw [setDsLost_true_eq, LinkState.laneLost]
  split
  · rfl
  · simp [laneForced, emit]

theorem laneLost_dsLost (l : LinkState) : l.laneLost.dsLost = true := by
  unfold LinkState.laneLost
  split
  · assumption
  · rfl

/-- But for the loss and the span of good frames the link is as it was. -/
theorem laneLost_eq (l : LinkState) : l.laneLost = { l with dsLost := true, span := l.laneLost.span } := by
  unfold LinkState.laneLost
  split
  next h => rw [← h]
  · rfl

/-! The scope of a link's operations. -/

/-- From `s` to `t` only link `n` may differ, the words that wait on any link, the record, the pins, Frond's slots and the words
sent. -/
structure AtLink (n : Acc) (s t : State) : Prop where
  frame : t = { s with rcd := t.rcd, acc := t.acc, frd := t.frd, srs := { s.srs with link := t.srs.link }, out := t.out }
  others : ∀ m : Acc, m ≠ n → t.srs.link[m] = { s.srs.link[m] with waiting := t.srs.link[m].waiting }

namespace AtLink

variable {n : Acc} {s t u : State}

theorem refl (n : Acc) (s : State) : AtLink n s s := ⟨rfl, fun _ _ => rfl⟩

theorem trans (h : AtLink n s t) (h' : AtLink n t u) : AtLink n s u :=
  ⟨by rw [h'.frame, h.frame], fun m hm => by rw [h'.others m hm, h.others m hm]⟩

theorem sys (h : AtLink n s t) : t.sys = s.sys := by rw [h.frame]
theorem crz (h : AtLink n s t) : t.crz = s.crz := by rw [h.frame]
theorem free (h : AtLink n s t) : t.free = s.free := by rw [h.frame]
theorem srsEq (h : AtLink n s t) : t.srs.eq = s.srs.eq := by rw [h.frame]

/-- A step that leaves the links alone. -/
theorem of_frame (h : t = { s with rcd := t.rcd, acc := t.acc, frd := t.frd, out := t.out }) : AtLink n s t :=
  have hsrs : t.srs = s.srs := by rw [h]
  ⟨by rw [hsrs]; exact h, fun m _ => by rw [hsrs]⟩

theorem setLink (n : Acc) (f : LinkState → LinkState) (s : State) : AtLink n s (s.setLink n f) :=
  ⟨rfl, fun m hm => by
    have hne : n.1 ≠ m.1 := fun e => hm (Fin.ext e.symm)
    simp [Vector.getElem_set_ne _ _ hne]⟩

/-- On any link words may come to wait, and leave. -/
theorem setWaiting (m n : Acc) (f : LinkState → List (Nat × List Byte)) (s : State) :
    AtLink n s (s.setLink m fun l => { l with waiting := f l }) := by
  refine ⟨rfl, fun k _ => ?_⟩
  by_cases hk : m = k
  · subst hk; simp
  · have hne : m.1 ≠ k.1 := fun e => hk (Fin.ext e)
    simp [Vector.getElem_set_ne _ _ hne]

theorem emit (n : Acc) (s : State) (cls unit obj code detail : Nat) : AtLink n s (emit s cls unit obj code detail) := of_frame rfl

theorem ite {c : Prop} {_ : Decidable c} (h : AtLink n s t) (h' : AtLink n s u) : AtLink n s (if c then t else u) := by
  split
  · exact h
  · exact h'

theorem sendWord (n : Acc) (ty : Byte) (body : List Byte) (s : State) : AtLink n s (sendWord n ty body s) :=
  ite (refl n s) (ite (setWaiting ..) (of_frame rfl))

theorem resumeCheck (n : Acc) (s : State) : AtLink n s (resumeCheck n s) :=
  ite ((setLink ..).trans (sendWord ..)) (refl n s)

theorem flushQueue (n : Acc) (s : State) : AtLink n s (flushQueue n s) := (setLink ..).trans (resumeCheck ..)

theorem setDsLost_true (n : Acc) (s : State) : AtLink n s (setDsLost n true s) :=
  setDsLost_true_eq n s ▸ ite (of_frame rfl) (((of_frame rfl).trans (emit ..)).trans (setLink ..))

theorem linkStart (n : Acc) (s : State) : AtLink n s (linkStart n s) :=
  (((ite (flushQueue n s) (refl n s)).trans (of_frame rfl)).trans (setLink ..)).trans (setDsLost_true ..)

theorem linkDown (n : Acc) (cause : Nat) (s : State) : AtLink n s (linkDown n cause s) :=
  ite (refl n s) (((emit ..).trans (setLink ..)).trans (setDsLost_true ..))

/-- What the statements say of such a step. -/
theorem intaken_with (h : AtLink n s t) : t = { intaken n s t with acc := t.acc, frd := t.frd } := by
  have hlink : t.srs.link = (intaken n s t).srs.link := by
    refine Vector.ext fun i hi => ?_
    by_cases hn : (⟨i, hi⟩ : Acc) = n
    · subst hn; simp [intaken]
    · simpa [intaken, hn] using h.others ⟨i, hi⟩ hn
  conv_lhs => rw [h.frame, hlink]
  rw [intaken, h.free]

/-- The pins and Frond's slots are as before. -/
theorem intaken (h : AtLink n s t) (hacc : t.acc = s.acc) (hfrd : t.frd = s.frd) : t = intaken n s t := by
  have e := h.intaken_with
  rw [hacc, hfrd] at e
  exact e

end AtLink

/-! Words on a link (10 R295 to R298). -/

theorem WordsOnly.rcd {s t : State} (h : WordsOnly s t) : t.rcd = s.rcd := by rw [h.frame]
theorem WordsOnly.acc {s t : State} (h : WordsOnly s t) : t.acc = s.acc := by rw [h.frame]
theorem WordsOnly.frd {s t : State} (h : WordsOnly s t) : t.frd = s.frd := by rw [h.frame]

/-- What a word leaves of its link: all but the words that wait, the sequence numbers and the table last sent. -/
def wordsApart (l : LinkState) : LinkState := { l with waiting := [], envSeq := 0, commitSeq := 0, fmaxSent := [], commits := [] }

/-- From `s` to `t` words are formed for link `n`, and words that wait leave. -/
structure WordsTo (n : Acc) (s t : State) : Prop where
  words : WordsOnly s t
  scope : AtLink n s t
  apart : wordsApart t.srs.link[n] = wordsApart s.srs.link[n]

namespace WordsTo

variable {n : Acc} {s t u : State}

theorem refl (n : Acc) (s : State) : WordsTo n s s := ⟨.refl s, .refl n s, rfl⟩

theorem trans (h : WordsTo n s t) (h' : WordsTo n t u) : WordsTo n s u :=
  ⟨h.words.trans h'.words, h.scope.trans h'.scope, h'.apart.trans h.apart⟩

theorem ite {c : Prop} {_ : Decidable c} (h : WordsTo n s t) (h' : WordsTo n s u) : WordsTo n s (if c then t else u) := by
  split
  · exact h
  · exact h'

theorem forAll {α : Type} {f : α → State → State} (h : ∀ x s, WordsTo n s (f x s)) (l : List α) (s : State) :
    WordsTo n s (forAll l f s) :=
  forAll_inv (WordsTo n s) f l (fun x t ht => ht.trans (h x t)) s (refl n s)

theorem send (n : Acc) (m : Out) (s : State) : WordsTo n s (s.send m) := ⟨⟨rfl⟩, .of_frame rfl, rfl⟩

theorem setLink (n : Acc) {f : LinkState → LinkState} (s : State)
    (hf : ∀ l, wordsApart (f l) = wordsApart l := by exact fun _ => rfl) : WordsTo n s (s.setLink n f) :=
  ⟨⟨rfl⟩, .setLink .., by simp [hf]⟩

theorem setWaiting (m n : Acc) (f : LinkState → List (Nat × List Byte)) (s : State) :
    WordsTo n s (s.setLink m fun l => { l with waiting := f l }) := by
  refine ⟨⟨rfl⟩, .setWaiting .., ?_⟩
  by_cases hm : m = n
  · subst hm
    simp [wordsApart]
  · have hne : m.1 ≠ n.1 := fun e => hm (Fin.ext e)
    simp [Vector.getElem_set_ne _ _ hne]

theorem sendWord (n : Acc) (ty : Byte) (body : List Byte) (s : State) : WordsTo n s (sendWord n ty body s) :=
  ite (refl n s) (ite (setWaiting ..) (send ..))

theorem drainWords (n : Acc) (k : Nat) (m : Acc) (s : State) : WordsTo n s (drainWords k m s) := by
  induction k generalizing s with
  | zero => exact refl n s
  | succ k ih =>
    unfold Machine.drainWords
    split
    next w rest _ => exact ((setWaiting m n (fun _ => rest) s).trans (send ..)).trans (ih _)
    · exact refl n s

/-- While words are formed at one instant they wait; then they leave. -/
theorem formed {f : State → State} (hf : s.srs.forming = false) (h : ∀ s, WordsTo n s (f s)) :
    WordsTo n s ((f (s.modSrs fun r => { r with forming := true })).modSrs fun r => { r with forming := false }) := by
  obtain ⟨hwords, ⟨hframe, hothers⟩, hapart⟩ := h (s.modSrs fun r => { r with forming := true })
  refine ⟨⟨?_⟩, ⟨?_, hothers⟩, hapart⟩
  · rw [hwords.frame]
    rfl
  · rw [hframe]
    simp [State.modSrs, ← hf]

theorem arbitrate {f : State → State} (h : ∀ s, WordsTo n s (f s)) (s : State) : WordsTo n s (arbitrate f s) := by
  unfold Machine.arbitrate
  split
  · exact h s
  next hf => exact (formed (by simpa using hf) h).trans (forAll (fun m s => drainWords n _ m s) _ _)

theorem sendEnvelope (n : Acc) (s : State) : WordsTo n s (sendEnvelope n s) := ite ((setLink n s).trans (sendWord ..)) (refl n s)

theorem sendCommit (n : Acc) (whole : Bool) (s : State) : WordsTo n s (sendCommit n whole s) :=
  ite (refl n s) (((forAll (fun _ s => sendWord n _ _ s) _ s).trans (sendWord ..)).trans (setLink n _))

/-- The full downstream state (10 R298). -/
theorem sendFull (n : Acc) (s : State) : WordsTo n s (sendFull n s) :=
  arbitrate (fun s => (((sendEnvelope n s).trans (sendWord ..)).trans (sendWord ..)).trans (sendCommit ..)) s

end WordsTo

/-- RESUME moves PAUSED and what words move. -/
theorem resumeCheck_apart (n : Acc) (s : State) :
    ∃ p, wordsApart (resumeCheck n s).srs.link[n] = wordsApart { s.srs.link[n] with paused := p } := by
  unfold resumeCheck
  simp only
  split
  · refine ⟨false, (WordsTo.sendWord ..).apart.trans ?_⟩
    rw [setLink_link_self]
  · exact ⟨_, rfl⟩

theorem resumeCheck_wordsOnly (n : Acc) (s : State) : WordsOnly s (resumeCheck n s) := by
  unfold resumeCheck
  simp only
  split
  · exact (WordsOnly.setLink ..).trans (.sendWord ..)
  · exact .refl s

end Sys2Proof.Machine
end

section
/-! SUPPORT. Training of a Sorus link and its loss (10 R284, R286, R291, R299, R309). -/

namespace Sys2Proof.Machine

open Sys2Proof

/-! Training starts (10 R286, R291, R309). -/

/-- A link that begins to train with a preset. -/
def LinkState.training (l : LinkState) (now preset : Nat) : LinkState :=
  { l with state := 1, trainTick := now, preset := preset, presetTick := none, lastNs := none, span := none, upLock := false,
           dsLock := false, firstLock := none, waiting := [] }

/-- Frond's next increase of the work of an accelerator starts anew. -/
def increasesAnew (n : Acc) (f : FrdState) : FrdState :=
  { f with slot := f.slot.map fun k => { k with prevAct := k.prevAct.set n none } }

/-- The queue is flushed where the channel has been in S0 (10 R306). -/
def flushedDue (n : Acc) (s : State) : State := if s.srs.link[n].flushDue then flushQueue n s else s

theorem linkStart_eq (n : Acc) (s : State) : linkStart n s = setDsLost n true (((flushedDue n s).modFrd (increasesAnew n)).setLink n
    fun l => l.training (flushedDue n s).sys.tick (fld (flushedDue n s).srs.eq 20 3)) := rfl

theorem flushedDue_atLink (n : Acc) (s : State) : AtLink n s (flushedDue n s) := .ite (.flushQueue n s) (.refl n s)

theorem flushedDue_frd (n : Acc) (s : State) : (flushedDue n s).frd = s.frd := by
  unfold flushedDue flushQueue
  split
  · exact (resumeCheck_wordsOnly n _).frd
  · rfl

theorem flushedDue_tries (n : Acc) (s : State) : (flushedDue n s).srs.link[n].tries = s.srs.link[n].tries := by
  unfold flushedDue flushQueue
  split
  · obtain ⟨p, hp⟩ := resumeCheck_apart n (s.setLink n _)
    rw [setLink_link_self] at hp
    exact (congrArg LinkState.tries hp :)
  · rfl

theorem linkStart_frd (n : Acc) (s : State) : (linkStart n s).frd = increasesAnew n s.frd := by
  rw [linkStart_eq, setDsLost_true_frd, State.setLink_frd, State.modFrd_frd, flushedDue_frd]

theorem linkStart_link (n : Acc) (s : State) : (linkStart n s).srs.link[n] =
    ((flushedDue n s).srs.link[n].training s.sys.tick (fld s.srs.eq 20 3)).laneLost := by
  rw [linkStart_eq, setDsLost_true_link, (flushedDue_atLink n s).sys, (flushedDue_atLink n s).srsEq]
  simp

/-- The step from `s` to `t` begins the training of a link. -/
structure TrainingBegun (n : Acc) (s t : State) : Prop where
  scope : AtLink n s t
  acc : t.acc = s.acc.set n { s.acc[n] with forceLane := true }
  frd : t.frd = increasesAnew n s.frd
  state : t.srs.link[n].state = 1
  trainTick : t.srs.link[n].trainTick = s.sys.tick
  lastNs : t.srs.link[n].lastNs = none
  firstLock : t.srs.link[n].firstLock = none
  dsLost : t.srs.link[n].dsLost = true

theorem TrainingBegun.frame {n : Acc} {s t : State} (h : TrainingBegun n s t) : t =
    { intaken n s t with acc := s.acc.set n { s.acc[n] with forceLane := true }, frd := increasesAnew n s.frd } := by
  have e := h.scope.intaken_with
  rwa [h.acc, h.frd] at e

/-- What comes before on the same link leaves the demand of the lane as it was, or asserts it. -/
theorem linkStart_trainingBegun {n : Acc} {s u : State} (hscope : AtLink n s u) (hfrd : u.frd = s.frd)
    (hacc : u.acc = s.acc ∨ u.acc = s.acc.set n { s.acc[n] with forceLane := true }) : TrainingBegun n s (linkStart n u) := by
  have hlink := linkStart_link n u
  rw [hscope.sys, laneLost_eq] at hlink
  refine ⟨hscope.trans (.linkStart n u), ?_, by rw [linkStart_frd, hfrd], by rw [hlink]; rfl, by rw [hlink]; rfl,
    by rw [hlink]; rfl, by rw [hlink]; rfl, by rw [hlink]⟩
  rcases hacc with hacc | hacc
  · rw [linkStart_acc, hacc]
  · rw [linkStart_acc, hacc]
    simp

/-- The preset of a link that trains may be set. -/
theorem TrainingBegun.setPreset {n : Acc} {s t : State} (h : TrainingBegun n s t) (p : Nat) :
    TrainingBegun n s (t.setLink n fun l => { l with preset := p }) := by
  obtain ⟨hscope, hacc, hfrd, hstate, htick, hns, hfirst, hlost⟩ := h
  refine ⟨hscope.trans (.setLink ..), hacc, hfrd, ?_, ?_, ?_, ?_, ?_⟩ <;> simpa

theorem linkStart_preset (n : Acc) (s : State) : (linkStart n s).srs.link[n].preset = fld s.srs.eq 20 3 := by
  rw [linkStart_link, laneLost_eq]
  rfl

theorem linkStart_tries (n : Acc) (s : State) : (linkStart n s).srs.link[n].tries = s.srs.link[n].tries := by
  rw [linkStart_link, laneLost_eq]
  exact flushedDue_tries n s

/-! A link comes up (10 R284, R286, R309). -/

/-- A link whose training ends well. -/
def LinkState.trained (l : LinkState) : LinkState := { l with state := 2, upLock := true, tries := 0, noEcho := 0 }

/-- Training has ended, and the full downstream state has gone out (10 R286, R298). -/
def trainedUp (n : Acc) (s : State) : State :=
  sendFull n (emit (s.setLink n LinkState.trained) 7 n.1 0xFF 0x0A01 s.srs.link[n].preset)

theorem sorusTrainingDone_next {n : Acc} {y : Vector (BitVec 2) 64} {s : State} (hstate : s.srs.link[n].state = 1)
    (hlock : lockGained y = true) (hfirst : s.srs.link[n].firstLock = some true)
    (htime : s.sys.tick ≤ s.srs.link[n].trainTick + 200) :
    exec (.sorusTrainingDone n y) s = .next (applyPreset n (trainedUp n s)) :=
  if_neg (by rw [hstate, hlock, hfirst]; simpa using htime)

theorem trainedUp_apart (n : Acc) (s : State) :
    wordsApart (trainedUp n s).srs.link[n] = wordsApart s.srs.link[n].trained := by
  refine (WordsTo.sendFull n _).apart.trans ?_
  simp [emit]

theorem trainedUp_atLink (n : Acc) (s : State) : AtLink n s (trainedUp n s) :=
  ((AtLink.setLink ..).trans (.emit ..)).trans (WordsTo.sendFull n _).scope

theorem applyPreset_atLink (n : Acc) (s : State) : AtLink n s (applyPreset n s) := .ite (.refl n s) (.setLink ..)

/-- A link that is up has the preset of its band then (10 R309). -/
theorem retuned_up {s : State} {n : Acc} {l : LinkState} (h : l.state = 2) : (retuned s n l).state = 2 ∧
    (retuned s n l).upLock = l.upLock ∧ (retuned s n l).tries = l.tries ∧
    (retuned s n l).preset = fld s.srs.eq (4 * bandOf s n) 3 := by
  unfold retuned
  simp only
  split
  next hkeep => exact ⟨h, rfl, rfl, hkeep.resolve_left (not_not_intro h)⟩
  · exact ⟨h, rfl, rfl, rfl⟩

/-- SORUS_TRAINING_DONE (10 R284, R286, R309). -/
theorem sorusTrainingDone_row (n : Acc) (y : Vector (BitVec 2) 64) (s : State) (hstate : s.srs.link[n].state = 1)
    (hlock : lockGained y = true) (hfirst : s.srs.link[n].firstLock = some true)
    (htime : s.sys.tick ≤ s.srs.link[n].trainTick + 200) :
    ∃ t, exec (.sorusTrainingDone n y) s = .next t ∧ t = intaken n s t ∧ t.srs.link[n].state = 2 ∧
      t.srs.link[n].upLock = true ∧ t.srs.link[n].tries = 0 ∧ t.srs.link[n].preset = fld s.srs.eq (4 * bandOf s n) 3 ∧ t.free = s.free ∧
      Raised t 7 n.1 0xFF 0x0A01 (s.srs.link[n].preset % 65536) := by
  have hscope := trainedUp_atLink n s
  have hwords := WordsTo.sendFull n (emit (s.setLink n LinkState.trained) 7 n.1 0xFF 0x0A01 s.srs.link[n].preset)
  have hpreset := applyPreset_presetsOnly n (trainedUp n s)
  have hlink : (applyPreset n (trainedUp n s)).srs.link[n] = _ := (applyPreset_link n n _).trans (if_pos rfl)
  have hapart := trainedUp_apart n s
  have hband : fld (trainedUp n s).srs.eq (4 * bandOf (trainedUp n s) n) 3 = fld s.srs.eq (4 * bandOf s n) 3 := by
    rw [bandOf, hscope.frame, bandOf]
  obtain ⟨hup, hupLock, htries, htuned⟩ := retuned_up (s := trainedUp n s) (n := n)
    (l := (trainedUp n s).srs.link[n]) (congrArg LinkState.state hapart)
  rw [← hlink] at hup hupLock htries htuned
  have hall := hscope.trans (applyPreset_atLink n _)
  refine ⟨_, sorusTrainingDone_next hstate hlock hfirst htime, hall.intaken ?_ ?_, hup,
    hupLock.trans (congrArg LinkState.upLock hapart), htries.trans (congrArg LinkState.tries hapart), htuned.trans hband,
    hall.free, ?_⟩
  · rw [hpreset]
    exact hwords.words.acc
  · rw [hpreset]
    exact hwords.words.frd
  · refine (raised_emit_mod (s.setLink n LinkState.trained) 7 n.1 0xFF 0x0A01 s.srs.link[n].preset).mono ?_ fun w hw => ?_
    · rw [hall.sys]
      rfl
    · rw [hpreset]
      exact hwords.words.rcd ▸ hw

/-! An attempt that fails, and the next (10 R286). -/

/-- A failed attempt is recorded and counted. -/
def attemptFailed (n : Acc) (s : State) : State :=
  (emit s 7 n.1 0xFF 0x0A02 2).setLink n fun l => { l with tries := l.tries + 1 }

theorem attemptFailed_atLink (n : Acc) (s : State) : AtLink n s (attemptFailed n s) := (AtLink.emit ..).trans (.setLink ..)

theorem attemptFailed_raised (n : Acc) (s : State) : Raised (attemptFailed n s) 7 n.1 0xFF 0x0A02 2 :=
  raised_emit s 7 n.1 0xFF 0x0A02 2 (by decide)

theorem attemptFailed_tries (n : Acc) (s : State) : (attemptFailed n s).srs.link[n].tries = s.srs.link[n].tries + 1 := by
  simp [attemptFailed, emit]

/-- The link rests until the next attempt. -/
def trainingRests (n : Acc) (s : State) : State :=
  (attemptFailed n s).setLink n fun l => { l with state := 3, upLock := false, tries := 2, trainTick := s.sys.tick }

theorem sorusTrainingFail_next {n : Acc} {s : State} (hstate : s.srs.link[n].state = 1)
    (htime : s.srs.link[n].trainTick + 200 ≤ s.sys.tick) : exec (.sorusTrainingFail n) s =
      if s.srs.link[n].tries < 2 ∧ linkAllowed s n = true then .next (linkStart n (attemptFailed n s))
      else .next (trainingRests n s) :=
  if_neg (by rw [hstate]; omega)

/-- SORUS_TRAINING_FAIL (10 R286). -/
theorem sorusTrainingFail_row (n : Acc) (s : State) (hstate : s.srs.link[n].state = 1)
    (htime : s.srs.link[n].trainTick + 200 ≤ s.sys.tick) :
    ∃ t, exec (.sorusTrainingFail n) s = .next t ∧ Raised t 7 n.1 0xFF 0x0A02 2 ∧
      (s.srs.link[n].tries < 2 ∧ linkAllowed s n = true → TrainingBegun n s t ∧
        t.srs.link[n].tries = s.srs.link[n].tries + 1 ∧ t.srs.link[n].preset = fld s.srs.eq 20 3) ∧
      (¬(s.srs.link[n].tries < 2 ∧ linkAllowed s n = true) → t = intaken n s t ∧ t.srs.link[n].state = 3 ∧
        t.srs.link[n].trainTick = s.sys.tick ∧ t.srs.link[n].upLock = false) := by
  have hraised := attemptFailed_raised n s
  have hscope := attemptFailed_atLink n s
  rw [sorusTrainingFail_next hstate htime]
  by_cases hagain : s.srs.link[n].tries < 2 ∧ linkAllowed s n = true
  · rw [if_pos hagain]
    refine ⟨_, rfl, (linkStart_linksOnly n _).raised hraised, fun _ => ⟨?_, ?_, ?_⟩, fun hnot => absurd hagain hnot⟩
    · exact linkStart_trainingBegun hscope rfl (.inl rfl)
    · rw [linkStart_tries, attemptFailed_tries]
    · rw [linkStart_preset, hscope.srsEq]
  · rw [if_neg hagain]
    refine ⟨_, rfl, (setLink_linksOnly n _ _).raised hraised, fun h => absurd h hagain, fun _ => ⟨?_, ?_, ?_, ?_⟩⟩
    · exact (hscope.trans (.setLink ..)).intaken rfl rfl
    · simp [trainingRests]
    · simp [trainingRests]
    · simp [trainingRests]

/-- SORUS_TRAINING_RETRY (10 R286). -/
theorem sorusTrainingRetry_row (n : Acc) (s : State) (hstate : s.srs.link[n].state = 3)
    (htime : s.srs.link[n].trainTick + 10000 ≤ s.sys.tick) (hallowed : linkAllowed s n = true) :
    ∃ t, exec (.sorusTrainingRetry n) s = .next t ∧ TrainingBegun n s t ∧ t.srs.link[n].preset = fld s.srs.eq 20 3 :=
  ⟨_, if_pos ⟨hstate, htime, hallowed⟩, linkStart_trainingBegun (.refl n s) rfl (.inl rfl), linkStart_preset n s⟩

/-! The lock that is lost (10 R284, R286, R309). -/

/-- A link that is down. -/
def LinkState.down (l : LinkState) : LinkState := { l with state := 0, upLock := false, tries := 0, waiting := [] }

theorem linkDown_of_on {n : Acc} {cause : Nat} {s : State} (h : s.srs.link[n].state ≠ 0) :
    linkDown n cause s = setDsLost n true ((emit s 7 n.1 0xFF 0x0A02 cause).setLink n LinkState.down) := if_neg h

theorem linkDown_link {n : Acc} {cause : Nat} {s : State} (h : s.srs.link[n].state ≠ 0) :
    (linkDown n cause s).srs.link[n] = s.srs.link[n].down.laneLost := by
  rw [linkDown_of_on h, setDsLost_true_link]
  simp [emit]

theorem linkDown_acc {n : Acc} {cause : Nat} {s : State} (h : s.srs.link[n].state ≠ 0) :
    (linkDown n cause s).acc = s.acc.set n { s.acc[n] with forceLane := true } := by
  rw [linkDown_of_on h, setDsLost_true_acc]
  rfl

theorem linkDown_frd (n : Acc) (cause : Nat) (s : State) : (linkDown n cause s).frd = s.frd := by
  unfold linkDown
  split
  · rfl
  · rw [setDsLost_true_frd]
    rfl

theorem linkDown_raised {n : Acc} {cause : Nat} {s : State} (h : s.srs.link[n].state ≠ 0) (hcause : cause < 65536) :
    Raised (linkDown n cause s) 7 n.1 0xFF 0x0A02 cause := by
  rw [linkDown_of_on h]
  exact ((setLink_linksOnly n LinkState.down _).trans (setDsLost_true_linksOnly n _)).raised (raised_emit s _ _ _ _ _ hcause)

/-- Whether the lock is lost within 100 us of a preset change (10 R309). -/
def lateLoss (l : LinkState) (now : Nat) : Bool := match l.presetTick with | some t => decide (now ≤ t + 10) | none => false

theorem lateLoss_iff (l : LinkState) (now : Nat) : lateLoss l now = true ↔ ∃ x, l.presetTick = some x ∧ now ≤ x + 10 := by
  unfold lateLoss
  split
  next x hx => simp [hx]
  next hx => simp [hx]

/-- The link goes down, and retrains where it may. -/
def lockLost (n : Acc) (cause : Nat) (s : State) : State :=
  if linkAllowed (linkDown n cause s) n then linkStart n (linkDown n cause s) else linkDown n cause s

/-- The preset that a change gave a link stays. -/
def presetKept (n : Acc) (late : Bool) (p : Nat) (s : State) : State :=
  if late then s.setLink n fun l => { l with preset := p } else s

theorem upstreamLockLost_next {n : Acc} {y : Vector (BitVec 2) 64} {s : State} (hstate : s.srs.link[n].state = 2)
    (hfails : lockFails y = true) : exec (.upstreamLockLost n y) s =
      .next (presetKept n (lateLoss s.srs.link[n] s.sys.tick) s.srs.link[n].preset
        (lockLost n (if lateLoss s.srs.link[n] s.sys.tick then 5 else 1) s)) :=
  if_neg (by rw [hstate, hfails]; decide)

theorem lockLost_raised {n : Acc} {cause : Nat} {s : State} (h : s.srs.link[n].state ≠ 0) (hcause : cause < 65536) :
    Raised (lockLost n cause s) 7 n.1 0xFF 0x0A02 cause := by
  unfold lockLost
  split
  · exact (linkStart_linksOnly n _).raised (linkDown_raised h hcause)
  · exact linkDown_raised h hcause

theorem lockLost_allowed {n : Acc} {cause : Nat} {s : State} (h : s.srs.link[n].state ≠ 0) (hallowed : linkAllowed s n = true) :
    TrainingBegun n s (lockLost n cause s) := by
  rw [lockLost, if_pos ((linkDown_linksOnly n cause s).linkAllowed n ▸ hallowed)]
  exact linkStart_trainingBegun (.linkDown n cause s) (linkDown_frd n cause s) (.inr (linkDown_acc h))

theorem lockLost_barred {n : Acc} {cause : Nat} {s : State} (hbarred : linkAllowed s n = false) :
    lockLost n cause s = linkDown n cause s := by
  rw [lockLost, (linkDown_linksOnly n cause s).linkAllowed n, hbarred]
  rfl

/-- From `s` to `t` the link has gone down and stays down. -/
structure LinkLeftDown (n : Acc) (s t : State) : Prop where
  scope : AtLink n s t
  acc : t.acc = s.acc.set n { s.acc[n] with forceLane := true }
  frd : t.frd = s.frd
  state : t.srs.link[n].state = 0
  dsLost : t.srs.link[n].dsLost = true

theorem LinkLeftDown.frame {n : Acc} {s t : State} (h : LinkLeftDown n s t) :
    t = { intaken n s t with acc := s.acc.set n { s.acc[n] with forceLane := true } } := by
  have e := h.scope.intaken_with
  rwa [h.acc, h.frd] at e

theorem linkDown_leftDown {n : Acc} {cause : Nat} {s : State} (h : s.srs.link[n].state ≠ 0) :
    LinkLeftDown n s (linkDown n cause s) := by
  refine ⟨.linkDown n cause s, linkDown_acc h, linkDown_frd n cause s, ?_, ?_⟩
  · rw [linkDown_link h, laneLost_eq]
    rfl
  · rw [linkDown_link h, laneLost_dsLost]

section
variable {n : Acc} {late : Bool} {p : Nat} {s t : State}

theorem TrainingBegun.presetKept (h : TrainingBegun n s t) : TrainingBegun n s (presetKept n late p t) := by
  unfold Machine.presetKept
  split
  · exact h.setPreset p
  · exact h

theorem LinkLeftDown.presetKept (h : LinkLeftDown n s t) : LinkLeftDown n s (presetKept n late p t) := by
  unfold Machine.presetKept
  split
  · obtain ⟨hscope, hacc, hfrd, hstate, hlost⟩ := h
    exact ⟨hscope.trans (.setLink ..), hacc, hfrd, by simpa using hstate, by simpa using hlost⟩
  · exact h

theorem presetKept_raised {cls unit obj code detail : Nat} (h : Raised t cls unit obj code detail) :
    Raised (presetKept n late p t) cls unit obj code detail := by
  unfold presetKept
  split
  · exact (setLink_linksOnly n _ t).raised h
  · exact h

theorem presetKept_preset (hlate : late = true) : (presetKept n late p t).srs.link[n].preset = p := by
  rw [presetKept, if_pos hlate]
  simp

end

/-- UPSTREAM_LOCK_LOST (10 R284, R286, R309). -/
theorem upstreamLockLost_row (n : Acc) (y : Vector (BitVec 2) 64) (late : Bool) (s : State) (hstate : s.srs.link[n].state = 2)
    (hfails : lockFails y = true) (hlate : late = true ↔ ∃ x, s.srs.link[n].presetTick = some x ∧ s.sys.tick ≤ x + 10) :
    ∃ t, exec (.upstreamLockLost n y) s = .next t ∧ Raised t 7 n.1 0xFF 0x0A02 (if late then 5 else 1) ∧
      (linkAllowed s n = true → TrainingBegun n s t) ∧ (linkAllowed s n = false → LinkLeftDown n s t) ∧
      (late = true → t.srs.link[n].preset = s.srs.link[n].preset) := by
  have hon : s.srs.link[n].state ≠ 0 := by rw [hstate]; decide
  obtain rfl : late = lateLoss s.srs.link[n] s.sys.tick := Bool.eq_iff_iff.2 (hlate.trans (lateLoss_iff ..).symm)
  refine ⟨_, upstreamLockLost_next hstate hfails, presetKept_raised (lockLost_raised hon (by split <;> decide)),
    fun hallowed => (lockLost_allowed hon hallowed).presetKept, fun hbarred => ?_, presetKept_preset⟩
  rw [lockLost_barred hbarred]
  exact (linkDown_leftDown hon).presetKept

/-! No good frame for LINK_LOST_MS (10 R299). -/

/-- The span of good frames ends, and the downstream lane is lost. -/
def framesLost (n : Acc) (s : State) : State := setDsLost n true (s.setLink n fun l => { l with span := none })

theorem linkLostTimeout_next {n : Acc} {s : State} (hstate : s.srs.link[n].state = 2)
    (hdue : s.srs.link[n].lastGood.getD s.srs.link[n].trainTick + 100 * fld s.srs.cfg 0 8 ≤ s.sys.tick) :
    exec (.linkLostTimeout n) s = .next (framesLost n s) := by
  refine congrArg Host.Outcome.next (if_pos ?_)
  rw [hstate, Bool.and_eq_true]
  refine ⟨rfl, ?_⟩
  split
  next t hgood => exact decide_eq_true (by rwa [hgood] at hdue)
  next hgood => exact decide_eq_true (by rwa [hgood] at hdue)

theorem framesLost_raised {n : Acc} {s : State} (h : s.srs.link[n].dsLost = false) :
    Raised (framesLost n s) 7 n.1 0xFF 0x0A03 1 := by
  have hheld : ¬(s.setLink n fun l => { l with span := none }).srs.link[n].dsLost = true := by simpa using h
  rw [framesLost, setDsLost_true_eq, if_neg hheld]
  exact (setLink_linksOnly n _ _).raised (raised_emit _ _ _ _ _ _ (by decide))

/-- LINK_LOST_TIMEOUT (10 R299). -/
theorem linkLostTimeout_row (n : Acc) (x : Nat) (s : State) (hstate : s.srs.link[n].state = 2)
    (hx : x = s.srs.link[n].lastGood.getD s.srs.link[n].trainTick) (hdue : x + 100 * fld s.srs.cfg 0 8 ≤ s.sys.tick) :
    ∃ t, exec (.linkLostTimeout n) s = .next t ∧ t = { intaken n s t with acc := t.acc } ∧
      t.acc = s.acc.set n { s.acc[n] with forceLane := true } ∧ t.srs.link[n].dsLost = true ∧ t.srs.link[n].state = 2 ∧
      (s.srs.link[n].dsLost = false → Raised t 7 n.1 0xFF 0x0A03 1) := by
  subst hx
  have hscope : AtLink n s (framesLost n s) := (AtLink.setLink ..).trans (.setDsLost_true ..)
  have hlink := setDsLost_true_link n (s.setLink n fun l => { l with span := none })
  refine ⟨_, linkLostTimeout_next hstate hdue, ?_, setDsLost_true_acc .., ?_, ?_, framesLost_raised⟩
  · have e := hscope.intaken_with
    rw [show (framesLost n s).frd = s.frd from setDsLost_true_frd ..] at e
    exact e
  · rw [framesLost, hlink, laneLost_dsLost]
  · rw [framesLost, hlink, laneLost_eq]
    simpa using hstate

/-- Settles O35: each row by what the start of a training (`linkStart_trainingBegun`), the words of a link (`WordsTo`) and the loss
of its lane (`setDsLost_true_eq`) leave. -/
theorem sorusTrainingRows : Obligations.SorusTrainingRows := by
  unfold Obligations.SorusTrainingRows
  intro retrained
  have hretrained : ∀ {n : Acc} {s t : State}, TrainingBegun n s t → retrained n s t := fun h =>
    ⟨h.frame, h.state, h.trainTick, h.lastNs, h.firstLock, h.dsLost⟩
  refine ⟨sorusTrainingDone_row, fun n s hstate htime => ?_, fun n s hstate htime hallowed => ?_,
    fun n y late s hstate hfails hlate => ?_, linkLostTimeout_row⟩
  · obtain ⟨t, hnext, hraised, hagain, hrests⟩ := sorusTrainingFail_row n s hstate htime
    refine ⟨t, hnext, hraised, fun h => ?_, hrests⟩
    obtain ⟨hbegun, htries⟩ := hagain h
    exact ⟨hretrained hbegun, htries⟩
  · obtain ⟨t, hnext, hbegun, hpreset⟩ := sorusTrainingRetry_row n s hstate htime hallowed
    exact ⟨t, hnext, hretrained hbegun, hpreset⟩
  · obtain ⟨t, hnext, hraised, hallowed, hbarred, hpreset⟩ := upstreamLockLost_row n y late s hstate hfails hlate
    refine ⟨t, hnext, hraised, fun h => hretrained (hallowed h), fun h => ?_, hpreset⟩
    exact ⟨(hbarred h).frame, (hbarred h).state, (hbarred h).dsLost⟩

end Sys2Proof.Machine
end

section
/-! SUPPORT. The read side of an intake queue (10 R303, R305, R307). -/

namespace Sys2Proof.Machine

open Sys2Proof

/-! SRS_HEAD (10 R305). -/

theorem srsHeadRead_empty {n : Acc} {s : State} (h : fillOf s.srs.link[n] = 0) : exec (.srsHeadRead n) s = .next { s with
    out := .answer (List.replicate 8 0xFF) :: s.out,
    srs := { s.srs with link := s.srs.link.set n { s.srs.link[n] with
      underrun := min 0xFFFF (s.srs.link[n].underrun + 1) } } } := if_pos h

theorem srsHeadRead_filled {n : Acc} {s : State} (h : fillOf s.srs.link[n] ≠ 0) :
    exec (.srsHeadRead n) s = .next { s with out := .answer (headBytes s.srs.link[n]) :: s.out } := if_neg h

/-! RF (10 R303, R305). -/

/-- The bytes from RF to a place of the queue, as far as RF would move. -/
def rfMove (l : LinkState) (v : Nat) : Nat := (v + 131072 - l.rf) % 131072

/-- A record wholly behind a place of the queue. -/
def behindOf (v : Nat) (r : QRec) : Bool :=
  decide (recSize r.len ≤ (v + 131072 - r.pos) % 131072) && decide ((v + 131072 - r.pos) % 131072 ≤ 65536)

/-- A link whose RF has moved, without the records behind it. -/
def LinkState.readTo (l : LinkState) (v : Nat) : LinkState :=
  { l with rf := v, queue := l.queue.filter fun r => !behindOf v r }

theorem srsRfWrite_refused {n : Acc} {v : Word} {s : State}
    (h : v.toNat % 131072 % 16 ≠ 0 ∨ fillOf s.srs.link[n] < rfMove s.srs.link[n] (v.toNat % 131072)) :
    exec (.srsRfWrite n v) s = .next { s with srs := { s.srs with link := s.srs.link.set n { s.srs.link[n] with
      underrun := min 0xFFFF (s.srs.link[n].underrun + 1) } } } := if_pos h

theorem srsRfWrite_moves {n : Acc} {v : Word} {s : State} (hunit : v.toNat % 131072 % 16 = 0)
    (hfill : rfMove s.srs.link[n] (v.toNat % 131072) ≤ fillOf s.srs.link[n]) :
    exec (.srsRfWrite n v) s = .next (resumeCheck n (s.setLink n fun l => l.readTo (v.toNat % 131072))) :=
  if_neg fun h => h.elim (· hunit) (Nat.not_lt.2 hfill)

/-- What words leave of a link whose RF has moved. -/
theorem readTo_apart {l k : LinkState} {v : Nat} {p : Bool} (h : wordsApart l = wordsApart { k.readTo v with paused := p }) :
    l.rf = v ∧ l.w = k.w ∧ l.underrun = k.underrun :=
  ⟨(congrArg LinkState.rf h :), (congrArg LinkState.w h :), (congrArg LinkState.underrun h :)⟩

/-- RF moves up to W (10 R303, R305). -/
theorem srsRfWrite_row (n : Acc) (v : Word) (s : State) (hunit : v.toNat % 131072 % 16 = 0)
    (hfill : (v.toNat % 131072 + 131072 - s.srs.link[n].rf) % 131072 ≤ fillOf s.srs.link[n]) :
    ∃ t, exec (.srsRfWrite n v) s = .next t ∧ t = intaken n s t ∧ t.srs.link[n].rf = v.toNat % 131072 ∧
      t.srs.link[n].w = s.srs.link[n].w ∧ t.srs.link[n].underrun = s.srs.link[n].underrun ∧ t.rcd = s.rcd := by
  have hwords : WordsOnly s _ := (WordsOnly.setLink n (·.readTo (v.toNat % 131072)) s).trans (resumeCheck_wordsOnly n _)
  have hscope : AtLink n s _ := (AtLink.setLink n (·.readTo (v.toNat % 131072)) s).trans (.resumeCheck n _)
  obtain ⟨p, hp⟩ := resumeCheck_apart n (s.setLink n fun l => l.readTo (v.toNat % 131072))
  rw [setLink_link_self] at hp
  obtain ⟨hrf, hw, hunderrun⟩ := readTo_apart hp
  exact ⟨_, srsRfWrite_moves hunit hfill, hscope.intaken hwords.acc hwords.frd, hrf, hw, hunderrun, hwords.rcd⟩

/-! A pointer reset (10 R307). -/

/-- PAUSE goes out, every record is discarded, and RESUME goes out. -/
def pointersReset (n : Acc) (s : State) : State :=
  sendFlow n ((sendFlow n (s.setLink n fun l => { l with paused := true })).setLink n fun l => { l with
    w := 0, rf := 0, queue := [], paused := false, ptrResets := min 255 (s.srs.link[n].ptrResets + 1) })

/-- Words leave the count of resets. -/
theorem pauseSent_ptrResets (n : Acc) (s : State) :
    (sendFlow n (s.setLink n fun l => { l with paused := true })).srs.link[n].ptrResets = s.srs.link[n].ptrResets := by
  have hapart : wordsApart (sendFlow n (s.setLink n fun l => { l with paused := true })).srs.link[n] = _ :=
    (WordsTo.sendWord n 0xA5 _ _).apart
  rw [setLink_link_self] at hapart
  exact (congrArg LinkState.ptrResets hapart :)

theorem pointerReset_next (n : Acc) (s : State) : exec (.pointerReset n) s =
    .next (emit (pointersReset n s) 7 n.1 0xFF 0x0A05 (min 255 (s.srs.link[n].ptrResets + 1))) := by
  change execPointerReset n s = _
  unfold execPointerReset
  simp only [pauseSent_ptrResets]
  rfl

theorem pointersReset_atLink (n : Acc) (s : State) : AtLink n s (pointersReset n s) :=
  (((AtLink.setLink ..).trans (.sendWord ..)).trans (.setLink ..)).trans (.sendWord ..)

theorem pointersReset_wordsOnly (n : Acc) (s : State) : WordsOnly s (pointersReset n s) :=
  (((WordsOnly.setLink ..).trans (.sendWord ..)).trans (.setLink ..)).trans (.sendWord ..)

theorem pointersReset_link (n : Acc) (s : State) : (pointersReset n s).srs.link[n].queue = [] ∧
    (pointersReset n s).srs.link[n].w = 0 ∧ (pointersReset n s).srs.link[n].rf = 0 ∧
    (pointersReset n s).srs.link[n].paused = false ∧
    (pointersReset n s).srs.link[n].ptrResets = min 255 (s.srs.link[n].ptrResets + 1) := by
  have hapart : wordsApart (pointersReset n s).srs.link[n] = _ := (WordsTo.sendWord n 0xA5 _ _).apart
  rw [setLink_link_self] at hapart
  generalize (pointersReset n s).srs.link[n] = l at hapart ⊢
  exact ⟨(congrArg LinkState.queue hapart :), (congrArg LinkState.w hapart :), (congrArg LinkState.rf hapart :),
    (congrArg LinkState.paused hapart :), (congrArg LinkState.ptrResets hapart :)⟩

/-- POINTER_RESET (10 R307). -/
theorem pointerReset_row (n : Acc) (s : State) :
    ∃ t, exec (.pointerReset n) s = .next t ∧ t = intaken n s t ∧ t.srs.link[n].queue = [] ∧ t.srs.link[n].w = 0 ∧
      t.srs.link[n].rf = 0 ∧ t.srs.link[n].paused = false ∧ t.srs.link[n].ptrResets = min 255 (s.srs.link[n].ptrResets + 1) ∧
      Raised t 7 n.1 0xFF 0x0A05 (min 255 (s.srs.link[n].ptrResets + 1)) := by
  have hwords := pointersReset_wordsOnly n s
  have hraised := raised_emit (pointersReset n s) 7 n.1 0xFF 0x0A05 (min 255 (s.srs.link[n].ptrResets + 1)) (by omega)
  refine ⟨_, pointerReset_next n s, ((pointersReset_atLink n s).trans (.emit ..)).intaken ?_ ?_, ?_⟩
  · rw [emit_acc, hwords.acc]
  · rw [emit_frd, hwords.frd]
  · rw [emit_srs]
    obtain ⟨hqueue, hw, hrf, hpaused, hresets⟩ := pointersReset_link n s
    exact ⟨hqueue, hw, hrf, hpaused, hresets, hraised⟩

/-- Settles O37: the reads and the refused writes by their equations, the moves of RF and the reset by what RESUME and FLOW leave
of their link (`WordsTo`). -/
theorem intakeReadSideRows : Obligations.IntakeReadSideRows := by
  unfold Obligations.IntakeReadSideRows
  exact ⟨fun n s h => srsHeadRead_empty h, fun n s h => srsHeadRead_filled h, fun n v s h => srsRfWrite_refused h,
    srsRfWrite_row, pointerReset_row⟩

end Sys2Proof.Machine
end

section
/-! SUPPORT. Good and bad frames at the intake (10 R288, R290, R292, R298 to R300, R304; 12 R353). -/

namespace Sys2Proof.Machine

open Sys2Proof

/-! A frame that is published (10 R300, R304). -/

/-- What a published frame leaves of its link: all but the queue and its place, the frame numbers, the version and the lane. -/
def frameApart (l : LinkState) : LinkState :=
  { wordsApart l with paused := false, queue := [], w := 0, seqGap := 0, expect := none, discarded := 0, ovfEp := false,
                      lastGood := none, ver := 0, verSeen := false, upLock := false }

/-- A link with the records of a frame published. -/
def LinkState.published (l : LinkState) (h : FrameHdr) (now missing w : Nat) (pads : List QRec) (r : QRec) : LinkState :=
  { l with queue := l.queue ++ pads ++ [r], w := w, seqGap := min 0xFFFF (l.seqGap + missing), expect := some (h.fseq + 1),
           discarded := 0, ovfEp := false, lastGood := some now, ver := h.ver, verSeen := true, upLock := true }

/-- What words leave of a link that has published a frame. -/
theorem published_apart {l k : LinkState} {h : FrameHdr} {now missing w : Nat} {pads : List QRec} {r : QRec} {p : Bool}
    (heq : wordsApart l = wordsApart { k.published h now missing w pads r with paused := p }) :
    frameApart l = frameApart k ∧ l.expect = some (h.fseq + 1) ∧ l.lastGood = some now :=
  ⟨(congrArg frameApart heq :), (congrArg LinkState.expect heq :), (congrArg LinkState.lastGood heq :)⟩

theorem publishFrame_published (n : Acc) (h : FrameHdr) (ftype len pad : Nat) (body : List Byte) (s : State) :
    ∃ (f : LinkState → LinkState) (missing w : Nat) (pads : List QRec) (r : QRec),
      publishFrame n h ftype len pad body s = pauseCheck n ((verNoted n h s).setLink n f) ∧
        ∀ l, f l = l.published h (verNoted n h s).sys.tick missing w pads r :=
  ⟨_, _, _, _, _, rfl, fun _ => rfl⟩

/-- PAUSE moves PAUSED and what words move. -/
theorem pauseCheck_apart (n : Acc) (s : State) :
    ∃ p, wordsApart (pauseCheck n s).srs.link[n] = wordsApart { s.srs.link[n] with paused := p } := by
  unfold pauseCheck
  split
  · refine ⟨true, (WordsTo.sendWord ..).apart.trans ?_⟩
    rw [setLink_link_self]
  · exact ⟨_, rfl⟩

theorem pauseCheck_wordsOnly (n : Acc) (s : State) : WordsOnly s (pauseCheck n s) := by
  unfold pauseCheck
  split
  · exact (WordsOnly.setLink ..).trans (.sendWord ..)
  · exact .refl s

theorem pauseCheck_atLink (n : Acc) (s : State) : AtLink n s (pauseCheck n s) :=
  .ite ((AtLink.setLink ..).trans (.sendWord ..)) (.refl n s)

theorem verNoted_frame (n : Acc) (h : FrameHdr) (s : State) : verNoted n h s = { s with rcd := (verNoted n h s).rcd } := by
  unfold verNoted
  split <;> rfl

/-- The step from `s` to `t` takes a frame of a link: it is published, and the pins and Frond's slots stay. -/
structure FrameTaken (n : Acc) (h : FrameHdr) (ftype len : Nat) (s t : State) : Prop where
  scope : AtLink n s t
  acc : t.acc = s.acc
  frd : t.frd = s.frd
  published : Published n h ftype len s t
  apart : frameApart t.srs.link[n] = frameApart s.srs.link[n]
  expect : t.srs.link[n].expect = some (h.fseq + 1)
  lastGood : t.srs.link[n].lastGood = some s.sys.tick

theorem publishFrame_taken (n : Acc) (h : FrameHdr) (ftype len pad : Nat) (body : List Byte) (s : State) :
    FrameTaken n h ftype len s (publishFrame n h ftype len pad body s) := by
  obtain ⟨-, hpublished⟩ := publishFrame_spec n h ftype len pad body s
  obtain ⟨f, missing, w, pads, r, heq, hf⟩ := publishFrame_published n h ftype len pad body s
  have hnoted : AtLink n s (verNoted n h s) := .ite (.emit ..) (.refl n s)
  have hsrs : (verNoted n h s).srs = s.srs := by rw [verNoted_frame]
  have hsys : (verNoted n h s).sys = s.sys := by rw [verNoted_frame]
  obtain ⟨p, hp⟩ := pauseCheck_apart n ((verNoted n h s).setLink n f)
  rw [setLink_link_self, hsrs, hf, hsys] at hp
  rw [heq] at hpublished ⊢
  obtain ⟨hapart, hexpect, hlast⟩ := published_apart hp
  refine ⟨(hnoted.trans (.setLink ..)).trans (pauseCheck_atLink ..), ?_, ?_, hpublished, hapart, hexpect, hlast⟩
  · rw [(pauseCheck_wordsOnly ..).acc, State.setLink_acc, verNoted_frame]
  · rw [(pauseCheck_wordsOnly ..).frd, State.setLink_frd, verNoted_frame]

/-- Only publishing takes a frame. -/
theorem takeFrame_true {n : Acc} {h : FrameHdr} {ftype len : Nat} {bad : Bool} {body : List Byte} {s u : State}
    (htake : takeFrame n h ftype len bad body s = (true, u)) : ∃ pad, u = publishFrame n h ftype len pad body s := by
  have hfalse : ∀ {x : State}, (false, x) ≠ (true, u) := fun e => Bool.false_ne_true (congrArg Prod.fst e)
  unfold takeFrame at htake
  simp only at htake
  split at htake
  · exact absurd htake hfalse
  split at htake
  · exact absurd htake hfalse
  split at htake
  · exact absurd htake hfalse
  split at htake
  · split at htake
    · exact absurd htake hfalse
    · exact ⟨_, (congrArg Prod.snd htake).symm⟩
  · split at htake
    · exact absurd htake hfalse
    · exact ⟨_, (congrArg Prod.snd htake).symm⟩

/-- A frame that is good is taken (10 R287, R288). -/
theorem takeFrame_taken {n : Acc} {h : FrameHdr} {ftype len : Nat} {body : List Byte} {s : State}
    (hgood : goodFrame s n h ftype len body = true) :
    ∃ u, takeFrame n h ftype len false body s = (true, u) ∧ FrameTaken n h ftype len s u := by
  obtain ⟨u, htake, -, -⟩ := takeFrame_good hgood
  obtain ⟨pad, rfl⟩ := takeFrame_true htake
  exact ⟨_, htake, publishFrame_taken ..⟩

/-! Activity frames (10 R288, R290). -/

/-- The contents of an activity frame have a defect: not 49 contexts, or a FRAME_NS that has not grown (10 R288, R290). -/
def activityBad (s : State) (n : Acc) (a : Activity) : Bool :=
  a.ctx.length != 49 || (match s.srs.link[n].lastNs with | some p => decide (a.frameNs.toNat ≤ p) | none => false)

theorem activityBad_iff (s : State) (n : Acc) (a : Activity) : activityBad s n a = true ↔
    a.ctx.length ≠ 49 ∨ ∃ x, s.srs.link[n].lastNs = some x ∧ a.frameNs.toNat ≤ x := by
  unfold activityBad
  rw [Bool.or_eq_true, bne_iff_ne]
  refine or_congr_right ?_
  cases s.srs.link[n].lastNs with
  | none => simp
  | some p => simp

theorem activityFrame_next {n : Acc} {h : FrameHdr} {a : Activity} {s u : State} {ok : Bool}
    (htake : takeFrame n h 1 400 (activityBad s n a) (activityBytes a) s = (ok, u)) :
    exec (.activityFrame n h a) s = .next (if ok then takeActivity n a u else u) := by
  have hnext : exec (.activityFrame n h a) s = .next
      (if (takeFrame n h 1 400 (activityBad s n a) (activityBytes a) s).1
        then takeActivity n a (takeFrame n h 1 400 (activityBad s n a) (activityBytes a) s).2
        else (takeFrame n h 1 400 (activityBad s n a) (activityBytes a) s).2) := rfl
  rw [hnext, htake]

/-- A good activity frame is published and then taken (10 R290, R300). -/
theorem activityFrame_good {n : Acc} {h : FrameHdr} {a : Activity} {s : State}
    (hgood : goodFrame s n h 1 400 (activityBytes a) = true) (hctx : a.ctx.length = 49)
    (hns : ∀ x, s.srs.link[n].lastNs = some x → x < a.frameNs.toNat) :
    ∃ u, exec (.activityFrame n h a) s = .next (takeActivity n a u) ∧ FrameTaken n h 1 400 s u := by
  obtain ⟨u, htake, htaken⟩ := takeFrame_taken hgood
  have hbad : activityBad s n a = false := by
    rw [Bool.eq_false_iff, Ne, activityBad_iff]
    rintro (hnot | ⟨x, hx, hle⟩)
    · exact hnot hctx
    · exact Nat.not_lt.2 hle (hns x hx)
  exact ⟨u, activityFrame_next (hbad ▸ htake), htaken⟩

/-! A frame that is rewound (10 R288, R289). -/

/-- A link that has rewound a frame for its CRC or framing, or else for its format. -/
def LinkState.rewound (l : LinkState) (crc : Bool) : LinkState :=
  { l with crcErr := if crc then satAdd 0xFFFF l.crcErr else l.crcErr
           fmtErr := if crc then l.fmtErr else satAdd 0xFFFF l.fmtErr
           discarded := l.discarded + 1, badFrames := satAdd 0xFFFF l.badFrames }

/-- A rewound frame moves its link, and the record tells of it. -/
theorem discard_frame (n : Acc) (crc : Bool) (s : State) :
    discard n crc s = { s.setLink n (·.rewound crc) with rcd := (discard n crc s).rcd } := by
  unfold discard
  simp only
  split <;> rfl

/-- From `s` to `t` a frame of the link was rewound. -/
structure Rewound (n : Acc) (crc : Bool) (s t : State) : Prop where
  frame : t = intaken n s t
  queue : t.srs.link[n].queue = s.srs.link[n].queue
  w : t.srs.link[n].w = s.srs.link[n].w
  out : t.out = s.out
  crcErr : t.srs.link[n].crcErr = if crc then min 0xFFFF (s.srs.link[n].crcErr + 1) else s.srs.link[n].crcErr
  fmtErr : t.srs.link[n].fmtErr = if crc then s.srs.link[n].fmtErr else min 0xFFFF (s.srs.link[n].fmtErr + 1)

theorem discard_rewound (n : Acc) (crc : Bool) (s : State) : Rewound n crc s (discard n crc s) := by
  have hlink : (discard n crc s).srs.link[n] = s.srs.link[n].rewound crc := by
    rw [discard_frame]
    exact setLink_link_self n (·.rewound crc) s
  have hscope : AtLink n s (discard n crc s) := by
    rw [discard_frame]
    exact (AtLink.setLink n (·.rewound crc) s).trans (.of_frame rfl)
  refine ⟨hscope.intaken ?_ ?_, by rw [hlink]; rfl, by rw [hlink]; rfl, ?_, by rw [hlink]; rfl, by rw [hlink]; rfl⟩
  · rw [discard_frame]
    rfl
  · rw [discard_frame]
    rfl
  · rw [discard_frame]
    rfl

theorem takeFrame_broken {n : Acc} {h : FrameHdr} {ftype len : Nat} {bad : Bool} {body : List Byte} {s : State}
    (hstate : s.srs.link[n].state = 1 ∨ s.srs.link[n].state = 2) (hbroken : frameBroken h body = true) :
    takeFrame n h ftype len bad body s = (false, discard n true s) :=
  (if_neg fun ⟨h1, h2⟩ => hstate.elim h1 h2).trans (if_pos hbroken)

theorem takeFrame_format {n : Acc} {h : FrameHdr} {ftype len : Nat} {bad : Bool} {body : List Byte} {s : State}
    (hstate : s.srs.link[n].state = 1 ∨ s.srs.link[n].state = 2) (hwhole : frameBroken h body = false)
    (hformat : h.ftype.toNat ≠ ftype ∨ h.len.toNat ≠ len ∨ bad = true ∨ (!verOk s h.ver) = true) :
    takeFrame n h ftype len bad body s = (false, discard n false s) :=
  (if_neg fun ⟨h1, h2⟩ => hstate.elim h1 h2).trans
    ((if_neg (by rw [hwhole]; exact Bool.false_ne_true)).trans (if_pos hformat))

/-- The defects of a whole activity frame (10 R288, R290, R294). -/
theorem activityFormat_of {n : Acc} {h : FrameHdr} {a : Activity} {s : State}
    (hdefect : h.ftype ≠ 1 ∨ h.len ≠ 400 ∨ verOk s h.ver = false ∨ a.ctx.length ≠ 49 ∨
      ∃ x, s.srs.link[n].lastNs = some x ∧ a.frameNs.toNat ≤ x) :
    h.ftype.toNat ≠ 1 ∨ h.len.toNat ≠ 400 ∨ activityBad s n a = true ∨ (!verOk s h.ver) = true := by
  rcases hdefect with htype | hlen | hver | hbody
  · exact .inl fun e => htype (BitVec.eq_of_toNat_eq e)
  · exact .inr (.inl fun e => hlen (BitVec.eq_of_toNat_eq e))
  · exact .inr (.inr (.inr (by rw [hver]; rfl)))
  · exact .inr (.inr (.inl ((activityBad_iff s n a).2 hbody)))

/-! Event frames (10 R292). -/

/-- A good event frame is taken, and its entries act in order (10 R292). -/
theorem takeEvent_taken {n : Acc} {h : EventHdr} {e : EventEntry} {s : State} (hgood : goodEvents s n h e = true) :
    ∃ u, takeEvent n h e s = forAll h.more (eventEffect n) (eventEffect n e u) ∧
      FrameTaken n h.hdr 2 (3 + 2 * h.more.length) s u := by
  unfold goodEvents at hgood
  rw [Bool.and_eq_true, decide_eq_true_eq] at hgood
  obtain ⟨hframe, hfew⟩ := hgood
  obtain ⟨u, htake, htaken⟩ := takeFrame_taken hframe
  have hlen : 1 + 2 * (e :: h.more).length = 3 + 2 * h.more.length := by rw [List.length_cons]; omega
  have hcount : decide (32 < (e :: h.more).length) = false := decide_eq_false (by rw [List.length_cons]; omega)
  refine ⟨u, ?_, htaken⟩
  unfold takeEvent
  simp only [hlen, hcount, htake]
  rfl

/-- A record of a frame stays one in a step that leaves the queue and the tick alone. -/
theorem Published.of_queue {n : Acc} {h : FrameHdr} {ftype len : Nat} {s t u : State} (hp : Published n h ftype len s t)
    (hqueue : u.srs.link[n].queue = t.srs.link[n].queue) : Published n h ftype len s u := by
  obtain ⟨r, hr, hrest⟩ := hp
  exact ⟨r, by rwa [hqueue], hrest⟩

theorem beq_one_ite (b : Bool) : ((if b then 1 else 0 : BitVec 16) == 1) = b := by
  cases b <;> rfl

/-! PARK_DONE (10 R298). -/

/-- PARK_DONE of the present PARK_SEQ (10 R298). -/
theorem parkDone_row (n : Acc) (h : EventHdr) (p : Bool) (q : BitVec 16) (s : State)
    (hgood : goodEvents s n h { ns := h.ns, code := 5, arg := if p then 1 else 0, data := q.setWidth 32 } = true) :
    ∃ u, exec (.parkDone n h p q) s = .next (forAll h.more (eventEffect n) u) ∧ u = intaken n s u ∧
      Published n h.hdr 2 (3 + 2 * h.more.length) s u ∧
      u.srs.link[n].parkedSeen = (if q = s.srs.link[n].parkSeq then some p else s.srs.link[n].parkedSeen) := by
  obtain ⟨u, htake, htaken⟩ := takeEvent_taken hgood
  have heffect : eventEffect n { ns := h.ns, code := 5, arg := if p then 1 else 0, data := q.setWidth 32 } u =
      parkReported n p q u := by
    have hdata : (q.setWidth 32).setWidth 16 = q := by bv_omega
    change parkReported n ((if p then 1 else 0 : BitVec 16) == 1) ((q.setWidth 32).setWidth 16) u = _
    rw [beq_one_ite, hdata]
  have hseq : u.srs.link[n].parkSeq = s.srs.link[n].parkSeq := (congrArg LinkState.parkSeq htaken.apart :)
  have hseen : u.srs.link[n].parkedSeen = s.srs.link[n].parkedSeen := (congrArg LinkState.parkedSeen htaken.apart :)
  rw [heffect, parkReported, hseq] at htake
  refine ⟨_, congrArg Host.Outcome.next htake, ?_⟩
  split
  · exact ⟨(htaken.scope.trans (.setLink ..)).intaken htaken.acc htaken.frd, htaken.published.of_queue (setLink_queue n n u),
      by rw [setLink_link_self]⟩
  · exact ⟨htaken.scope.intaken htaken.acc htaken.frd, htaken.published, hseen⟩

/-! DS_LOCK_CHANGE (10 R299). -/

/-- The lock of the downstream lane as an accelerator reports it. -/
def lockNoted (n : Acc) (g : Bool) (s : State) : State := s.setLink n fun l => { l with dsLock := g, span := none }

theorem lockReported_eq (n : Acc) (g : Bool) (s : State) :
    lockReported n g s = if g then lockNoted n g s else setDsLost n true (lockNoted n g s) := rfl

/-- A lock gained counts later, one lost at once (10 R299). -/
theorem lockReported_link (n : Acc) (g : Bool) (s : State) : (lockReported n g s).srs.link[n].dsLock = g ∧
    (lockReported n g s).srs.link[n].dsLost = (s.srs.link[n].dsLost || !g) ∧
    (lockReported n g s).srs.link[n].queue = s.srs.link[n].queue := by
  rw [lockReported_eq]
  cases g with
  | true =>
    rw [if_pos rfl, lockNoted, setLink_link_self]
    exact ⟨rfl, (Bool.or_false _).symm, rfl⟩
  | false =>
    rw [if_neg Bool.false_ne_true, setDsLost_true_link, lockNoted, setLink_link_self, laneLost_eq]
    exact ⟨rfl, (Bool.or_true _).symm, rfl⟩

theorem lockReported_atLink (n : Acc) (g : Bool) (s : State) : AtLink n s (lockReported n g s) :=
  (AtLink.setLink ..).trans (.ite (.refl n _) (.setDsLost_true n _))

theorem lockReported_acc (n : Acc) (g : Bool) (s : State) :
    (lockReported n g s).acc = if g then s.acc else s.acc.set n { s.acc[n] with forceLane := true } := by
  rw [lockReported_eq]
  cases g with
  | true => rfl
  | false => exact setDsLost_true_acc ..

theorem lockReported_frd (n : Acc) (g : Bool) (s : State) : (lockReported n g s).frd = s.frd := by
  rw [lockReported_eq]
  cases g with
  | true => rfl
  | false => exact setDsLost_true_frd ..

/-- DS_LOCK_CHANGE (10 R299). -/
theorem dsLockChange_row (n : Acc) (h : EventHdr) (g : Bool) (e : BitVec 16) (s : State)
    (hgood : goodEvents s n h { ns := h.ns, code := 6, arg := if g then 1 else 0, data := e.setWidth 32 } = true) :
    ∃ u, exec (.dsLockChange n h g e) s = .next (forAll h.more (eventEffect n) u) ∧ u = { intaken n s u with acc := u.acc } ∧
      Published n h.hdr 2 (3 + 2 * h.more.length) s u ∧ u.srs.link[n].dsLock = g ∧
      u.srs.link[n].dsLost = (s.srs.link[n].dsLost || !g) ∧
      u.acc = (if g then s.acc else s.acc.set n { s.acc[n] with forceLane := true }) := by
  obtain ⟨u, htake, htaken⟩ := takeEvent_taken hgood
  have heffect : eventEffect n { ns := h.ns, code := 6, arg := if g then 1 else 0, data := e.setWidth 32 } u =
      lockReported n g u := by
    change lockReported n ((if g then 1 else 0 : BitVec 16) == 1) u = _
    rw [beq_one_ite]
  obtain ⟨hlock, hlost, hqueue⟩ := lockReported_link n g u
  have hheld : u.srs.link[n].dsLost = s.srs.link[n].dsLost := (congrArg LinkState.dsLost htaken.apart :)
  rw [heffect] at htake
  refine ⟨_, congrArg Host.Outcome.next htake, ?_, htaken.published.of_queue hqueue, hlock, hlost.trans (by rw [hheld]), ?_⟩
  · have hframe := (htaken.scope.trans (lockReported_atLink n g u)).intaken_with
    rw [lockReported_frd, htaken.frd] at hframe
    exact hframe
  · rw [lockReported_acc, htaken.acc]

/-! MEM_ECC (10 R292). -/

/-- MEM_ECC while the cluster runs (10 R292). -/
theorem memEcc_row (n : Acc) (h : EventHdr) (x : BitVec 16) (k : Word) (s : State)
    (hgood : goodEvents s n h { ns := h.ns, code := 7, arg := x, data := k } = true) (hrunning : running s = true) :
    ∃ u, exec (.memEcc n h x k) s = .next (forAll h.more (eventEffect n) u) ∧ u = intaken n s u ∧
      Published n h.hdr 2 (3 + 2 * h.more.length) s u ∧
      u.srs.link[n].eccLog = (s.sys.tick, x.toNat, k.toNat) :: s.srs.link[n].eccLog := by
  obtain ⟨u, htake, htaken⟩ := takeEvent_taken hgood
  have hrunning' : running u = true := by rwa [running, htaken.scope.sys]
  have heffect : eventEffect n { ns := h.ns, code := 7, arg := x, data := k } u =
      u.setLink n fun l => { l with eccLog := (u.sys.tick, x.toNat, k.toNat) :: l.eccLog } := if_pos hrunning'
  have hlog : u.srs.link[n].eccLog = s.srs.link[n].eccLog := (congrArg LinkState.eccLog htaken.apart :)
  rw [heffect] at htake
  refine ⟨_, congrArg Host.Outcome.next htake, (htaken.scope.trans (.setLink ..)).intaken htaken.acc htaken.frd,
    htaken.published.of_queue (setLink_queue n n u), ?_⟩
  rw [setLink_link_self, htaken.scope.sys, hlog]

/-! SENSOR_FAULT (12 R353). -/

/-- The on-die sensors have failed at the present tick. -/
def sensorNoted (n : Acc) (s : State) : State := s.setBand n fun b => { b with sensorTick := some s.sys.tick }

/-- The failure of the on-die temperatures is told and kept (12 R353). -/
def onDieLost (n : Acc) (s : State) : State :=
  (hostEvent 7 (emit s 4 n.1 0xFF 0x0C0F 1)).setBand n fun x => { x with
    failed := true, failTick := s.sys.tick, tableMax := false, fallSince := none }

theorem setBand_acc_self (n : Acc) (f : BandState → BandState) (s : State) : (s.setBand n f).cool.acc[n] = f s.cool.acc[n] := by
  simp

theorem sensorNoted_band (n : Acc) (s : State) :
    (sensorNoted n s).cool.acc[n] = { s.cool.acc[n] with sensorTick := some s.sys.tick } := setBand_acc_self ..

/-- A stale link starts the second of good frames again; the present tick is its start already. -/
theorem sensorNoted_stale (n : Acc) (s : State) : (sensorNoted n s).setBand n
    (fun x => { x with sensorTick := x.sensorTick.map fun _ => (sensorNoted n s).sys.tick }) = sensorNoted n s := by
  simp [sensorNoted, State.setBand]

theorem onDieFailed_sensorNoted {n : Acc} {s : State} (h : 2 ≤ chState s n) : onDieFailed (sensorNoted n s) n = true := by
  have hstate : 2 ≤ chState (sensorNoted n s) n := h
  have hsensor : (sensorNoted n s).cool.acc[n].sensorTick = some s.sys.tick := by rw [sensorNoted_band]
  unfold onDieFailed
  simp only
  rw [decide_eq_true hstate, hsensor, Option.isSome_some, Bool.or_true, Bool.true_or, Bool.true_and]

theorem sensorReported_eq {n : Acc} {s : State} (h : 2 ≤ chState s n) : sensorReported n s =
    if (sensorNoted n s).cool.acc[n].failed then sensorNoted n s else onDieLost n (sensorNoted n s) := by
  change onDieCheck n (sensorNoted n s) = _
  unfold onDieCheck
  simp only [onDieFailed_sensorNoted h, sensorNoted_stale, ite_self, Bool.true_beq, if_true]
  rfl

theorem sensorReported_frame {n : Acc} {s : State} (h : 2 ≤ chState s n) : sensorReported n s = { s with
    rcd := (sensorReported n s).rcd
    cool := { s.cool with acc := s.cool.acc.set n (sensorReported n s).cool.acc[n] }
    mbx := { s.mbx with evtDue := (sensorReported n s).mbx.evtDue } } := by
  rw [sensorReported_eq h]
  split
  · simp [sensorNoted, State.setBand]
  · simp [sensorNoted, onDieLost, State.setBand, hostEvent, emit, State.modMbx, State.modRcd]

theorem sensorReported_band {n : Acc} {s : State} (h : 2 ≤ chState s n) :
    (sensorReported n s).cool.acc[n].failed = true ∧ (sensorReported n s).cool.acc[n].sensorTick = some s.sys.tick := by
  rw [sensorReported_eq h]
  split
  next hfailed => exact ⟨hfailed, by rw [sensorNoted_band]⟩
  · rw [onDieLost, setBand_acc_self]
    exact ⟨rfl, congrArg BandState.sensorTick (sensorNoted_band n s)⟩

theorem sensorReported_told {n : Acc} {s : State} (h : 2 ≤ chState s n) (hheld : s.cool.acc[n].failed = false) :
    HostDue (sensorReported n s) 7 ∧ Raised (sensorReported n s) 4 n.1 0xFF 0x0C0F 1 := by
  have hnoted : (sensorNoted n s).cool.acc[n].failed = false := by rwa [sensorNoted_band]
  rw [sensorReported_eq h, if_neg (by rw [hnoted]; exact Bool.false_ne_true)]
  have hgrows : RecordGrows (hostEvent 7 (emit (sensorNoted n s) 4 n.1 0xFF 0x0C0F 1)) (onDieLost n (sensorNoted n s)) := .of_eq
  exact ⟨hgrows.hostDue (hostDue_hostEvent 7 _),
    hgrows.raised ((RecordGrows.hostEvent 7 _).raised (raised_emit _ _ _ _ _ _ (by decide)))⟩

/-- Behind a frame of link `n` the report adds the host event, the record and the temperatures of its accelerator. -/
theorem sensorReported_intaken {n : Acc} {s u : State} (hframe : u = intaken n s u) (h : 2 ≤ chState u n) :
    sensorReported n u = { intaken n s (sensorReported n u) with
      cool := { s.cool with acc := s.cool.acc.set n (sensorReported n u).cool.acc[n] }
      mbx := { s.mbx with evtDue := (sensorReported n u).mbx.evtDue } } := by
  have hreported := sensorReported_frame h
  have hcool : u.cool = s.cool := (congrArg State.cool hframe :)
  have hmbx : u.mbx = s.mbx := (congrArg State.mbx hframe :)
  have hsrs : (sensorReported n u).srs = u.srs := (congrArg State.srs hreported :)
  have hfree : (sensorReported n u).free = u.free := (congrArg State.free hreported :)
  have hout : (sensorReported n u).out = u.out := (congrArg State.out hreported :)
  have hintaken : intaken n s (sensorReported n u) = { intaken n s u with rcd := (sensorReported n u).rcd } := by
    simp only [intaken, hsrs, hfree, hout]
  rw [hintaken]
  refine hreported.trans ?_
  rw [hcool, hmbx]
  exact congrArg (fun v : State => { v with
    rcd := (sensorReported n u).rcd
    cool := { s.cool with acc := s.cool.acc.set n (sensorReported n u).cool.acc[n] }
    mbx := { s.mbx with evtDue := (sensorReported n u).mbx.evtDue } }) hframe

/-- SENSOR_FAULT in S2 or above (12 R353). -/
theorem sensorFault_row (n : Acc) (h : EventHdr) (x : BitVec 16) (s : State)
    (hgood : goodEvents s n h { ns := h.ns, code := 8, arg := x, data := 0 } = true) (hstate : 2 ≤ chState s n) :
    ∃ u, exec (.sensorFault n h x) s = .next (forAll h.more (eventEffect n) u) ∧
      Published n h.hdr 2 (3 + 2 * h.more.length) s u ∧ u.cool.acc[n].failed = true ∧
      u.cool.acc[n].sensorTick = some s.sys.tick ∧
      u = { intaken n s u with cool := { s.cool with acc := s.cool.acc.set n u.cool.acc[n] },
                               mbx := { s.mbx with evtDue := u.mbx.evtDue } } ∧
      (s.cool.acc[n].failed = false → HostDue u 7 ∧ Raised u 4 n.1 0xFF 0x0C0F 1) := by
  obtain ⟨u, htake, htaken⟩ := takeEvent_taken hgood
  have heffect : eventEffect n { ns := h.ns, code := 8, arg := x, data := 0 } u = sensorReported n u := rfl
  have hframe := htaken.scope.intaken htaken.acc htaken.frd
  have hcool : u.cool = s.cool := (congrArg State.cool hframe :)
  have hstate' : 2 ≤ chState u n := by rwa [chState, htaken.scope.crz]
  obtain ⟨hfailed, htick⟩ := sensorReported_band hstate'
  have hsrs : (sensorReported n u).srs = u.srs := (congrArg State.srs (sensorReported_frame hstate') :)
  rw [heffect] at htake
  exact ⟨_, congrArg Host.Outcome.next htake, htaken.published.of_queue (by rw [hsrs]), hfailed,
    htick.trans (by rw [htaken.scope.sys]), sensorReported_intaken hframe hstate',
    fun hheld => sensorReported_told hstate' (by rwa [hcool])⟩

/-- Settles O36: a good frame by what taking it leaves (`FrameTaken`) and the effect of its entry, a bad one by what rewinding it
leaves (`discard_rewound`). -/
theorem intakeFrameRows : Obligations.IntakeFrameRows := by
  unfold Obligations.IntakeFrameRows
  refine ⟨fun n h a s hgood hctx hns => ?_, fun n h a s hstate => ?_, parkDone_row, dsLockChange_row, memEcc_row,
    sensorFault_row⟩
  · obtain ⟨u, hnext, htaken⟩ := activityFrame_good hgood hctx hns
    exact ⟨u, hnext, htaken.scope.intaken htaken.acc htaken.frd, htaken.published, htaken.expect, htaken.lastGood,
      htaken.scope.free⟩
  · intro rewound
    refine ⟨fun hbroken => ?_, fun hwhole hdefect => ?_⟩
    · obtain ⟨hframe, hqueue, hw, hout, hcrc, hfmt⟩ := discard_rewound n true s
      exact ⟨_, activityFrame_next (takeFrame_broken hstate hbroken), ⟨hframe, hqueue, hw, hout⟩, hcrc, hfmt⟩
    · obtain ⟨hframe, hqueue, hw, hout, hcrc, hfmt⟩ := discard_rewound n false s
      exact ⟨_, activityFrame_next (takeFrame_format hstate hwhole (activityFormat_of hdefect)), ⟨hframe, hqueue, hw, hout⟩,
        hfmt, hcrc⟩

end Sys2Proof.Machine
end

section
/-! SUPPORT. Training and the known-answer run (11 R328 to R338): which failures the merge of a run counts. -/

namespace Sys2Proof.Machine

open Sys2Proof

/-! Masks from tests of units. -/

/-- A unit stands in a mask where its test says so. -/
theorem getLsbD_maskOf (w : Nat) (f : Nat → Bool) (i : Nat) : (maskOf w f).getLsbD i = (decide (i < w) && f i) := by
  have hfold : ∀ k, ((List.range k).foldl (fun a j => if f j then a ||| 2 ^ j else a) 0).testBit i =
      (decide (i < k) && f i) := by
    intro k
    induction k with
    | zero => simp
    | succ k ih =>
      rw [List.range_succ, List.foldl_append, List.foldl_cons, List.foldl_nil]
      rcases Nat.lt_trichotomy i k with hlt | rfl | hgt
      · split <;> simp [ih, hlt, Nat.lt_succ_of_lt hlt, hlt.ne']
      · split <;> simp_all
      · split <;> simp [ih, hgt.ne, Nat.not_lt.2 hgt.le, Nat.not_lt.2 (Nat.succ_le_of_lt hgt)]
  rw [maskOf, BitVec.getLsbD_ofNat, hfold]
  simp

/-- An engine is masked by the journal where an entry of KIND 1 names it (11 R322, R335). -/
theorem journalMasks_engine (l : List JEntry) (e : Fin 16384) :
    (journalMasks l).engine.getLsbD e.1 = l.any fun x => x.kind == 1 && x.unit == e.1 := by
  rw [journalMasks, getLsbD_maskOf, decide_eq_true e.2, Bool.true_and]

/-! What a merge counts as new (11 R332). -/

/-- The masks that a merge finds: those of S1, and those of the entries that the journal holds by now (11 R322, R332). -/
def masksFound (s : State) (n : Acc) : Masks :=
  maskUnion s.bup.acc[n].standing (journalMasks (serialEntries s ((s.acc[n].ident.map (·.serial)).getD 0)))

/-- The failed engines of a run that neither the fuse map nor the journal masks: the ones that a merge journals. -/
def newFailures (s : State) (n : Acc) (r : TestRun) : List (Fin 16384 × Nat) :=
  r.failed.filter fun p => !(masksFound s n).engine.getLsbD p.1.1

theorem appendEntry_acc (e : JEntry) (s : State) : (appendEntry e s).bup.acc = s.bup.acc := by
  unfold appendEntry
  split
  · rfl
  · dsimp only
    split <;> rfl

theorem declareFailed_newFail (n : Acc) (detail : Nat) (s : State) :
    (declareFailed n detail s).bup.acc[n].newFail = s.bup.acc[n].newFail := by
  unfold declareFailed
  split <;> simp [hostEvent, appendEntry_acc]

theorem demote_newFail (n : Acc) (bin : Nat) (s : State) : (demote n bin s).bup.acc[n].newFail = s.bup.acc[n].newFail := by
  simp [demote, appendEntry_acc]

/-- The judgement of the bin leaves the count of new failures. -/
theorem judgeBin_newFail (n : Acc) (s : State) : (judgeBin n s).bup.acc[n].newFail = s.bup.acc[n].newFail := by
  unfold judgeBin
  dsimp only
  split
  · exact declareFailed_newFail ..
  split
  · exact declareFailed_newFail ..
  split
  · exact declareFailed_newFail ..
  · split
    · rfl
    · exact demote_newFail ..

/-- The END of a run moves no mask. -/
theorem masksFound_sendTest (n : Acc) (op : Byte) (body : List Byte) (s : State) :
    masksFound (sendTest n op body s) n = masksFound s n := by
  rw [sendTest, sendWord_frame]
  rfl

/-- NEW_FAIL of a merge: a failed engine counts where neither S1 nor the journal has masked it (11 R332, R344). -/
theorem mergeRun_newFail (n : Acc) (r : TestRun) (untested : List Nat) (s : State) :
    (mergeRun n r untested s).bup.acc[n].newFail = (newFailures s n r).length := by
  unfold mergeRun
  extract_lets told st newEng newCtl engines controls fresh m merged limited
  have hnew : newEng = newFailures s n r := by
    rw [newFailures, ← masksFound_sendTest n 0x05 (leBytes 4 r.runId) s]
    rfl
  calc (judgeBin n _).bup.acc[n].newFail = limited.bup.acc[n].newFail := by rw [judgeBin_newFail, emit_bup]
    _ = newEng.length := by simp [limited, merged]
    _ = (newFailures s n r).length := by rw [hnew]

/-! The end of a run's time (11 R330). -/

/-- No engine is missing of a run with a result of every engine. -/
theorem missingEngines_got_all {s : State} {n : Acc} {r : TestRun} (h : r.got = BitVec.allOnes 16384) :
    missingEngines s n r = [] := by
  unfold missingEngines
  rw [List.flatMap_eq_nil_iff]
  intro c hc
  split
  · rw [List.filter_eq_nil_iff]
    intro e he
    obtain ⟨i, hi, rfl⟩ := List.mem_map.1 he
    have hlt : 16 * c + i < 16384 := by
      have := List.mem_range.1 hc
      have := List.mem_range.1 hi
      omega
    rw [h, BitVec.getLsbD_allOnes, decide_eq_true hlt]
    exact Bool.false_ne_true
  · rfl

/-- A run whose time is over (11 R330). -/
def TestRun.ended (r : TestRun) : TestRun := { r with seen := true, done := true }

/-- TEST_TIMEOUT merges a run that has every result. -/
theorem testTimeout_merges {s : State} {n : Acc} {r : TestRun} (hrun : runNow s n = some r) (hdone : r.done = false)
    (hdue : r.start + 1000 * fld s.bup.cfg 12 8 ≤ s.sys.tick)
    (hall : runComplete s n r.ended = true) :
    exec (.testTimeout n) s = .next (mergeRun n r.ended [] (putRun n r.ended s)) := by
  have hfinish : runDone n r s = mergeRun n r.ended [] (putRun n r.ended s) := by
    have hput : (putRun n r.ended s).bup.acc[n].run = some r.ended := by simp [putRun]
    unfold runDone finishRun
    rw [← TestRun.ended, hput]
    exact if_pos hall
  calc exec (.testTimeout n) s = execTestTimeout n s := rfl
    _ = .next (runDone n r s) := by
      rw [execTestTimeout, hrun]
      exact if_neg (by simp [hdone, hdue])
    _ = _ := by rw [hfinish]

/-! A second test of an accelerator in one power-up (11 R341). -/

/-- The entry of engine 3 of an accelerator of serial 7, which an earlier test of this boot has journaled. -/
def engineThree : JEntry := { kind := 1, bin := 0, formats := 1, unit := 3, serial := 7, runId := 1, boot := 0, position := 0 }

/-- The second run of that accelerator: every engine has its result, and engine 3 has failed again. -/
def secondRun : TestRun :=
  { runId := 2, seed := 0, fixed := false, attempt := 1, start := 0, seen := true, done := false, resends := 0,
    got := BitVec.allOnes 16384, failed := [(3, 1)], waiting := [], control := [] }

/-- Accelerator 0 in S11 at the end of TEST_MS of its second run. Its standing mask is that of S1, when nothing was masked; what the
first run has found stands in the journal. -/
def retested : State :=
  { State.reset with
    sys := { State.reset.sys with boot := .running, tick := 20000 }
    acc := State.reset.acc.set 0 { State.reset.acc[0] with
      fmax := List.replicate 5120 1600
      ident := some { serial := 7, binFuse := 0, fwFamily := 0, xnetRev := 0, fmax := List.replicate 5120 1600, dieMask := 0,
                      hbmMask := 0, clusterMask := 0, coreMask := 0, engineMask := 0 } }
    crz := { State.reset.crz with chan := State.reset.crz.chan.set 0 { State.reset.crz.chan[0] with state := 11, target := 11 } }
    bup := { State.reset.bup with acc := State.reset.bup.acc.set 0 { State.reset.bup.acc[0] with
      stage := 4, solo := true, run := some secondRun } }
    nv := { State.reset.nv with journal := [some engineThree] } }

theorem retested_run : runNow retested 0 = some secondRun := rfl

theorem retested_complete : runComplete retested 0 secondRun.ended = true := by
  have hgot : secondRun.ended.got = BitVec.allOnes 16384 := rfl
  rw [runComplete, missingEngines_got_all hgot]
  rfl

/-- The journal masks engine 3, so that its second failure is not new. -/
theorem retested_newFailures (r : TestRun) : newFailures (putRun 0 r retested) 0 secondRun.ended = [] := by
  have hentries : serialEntries (putRun 0 r retested) 7 = [engineThree] := by
    change (liveEntries [some engineThree]).filter (fun e => e.serial == 7) = _
    decide
  have hmasked : (masksFound (putRun 0 r retested) 0).engine.getLsbD (3 : Fin 16384).1 = true := by
    change (_ ||| (journalMasks (serialEntries (putRun 0 r retested) 7)).engine).getLsbD _ = true
    rw [BitVec.getLsbD_or, hentries, journalMasks_engine]
    exact Bool.or_true _
  exact List.filter_cons_of_neg (by rw [hmasked]; exact Bool.false_ne_true)

/-- The standing mask of S1 lacks engine 3. -/
theorem retested_unmasked : (secondRun.ended.failed.filter fun p =>
    !retested.bup.acc[(0 : Acc)].standing.engine.getLsbD p.1.1) = [(3, 1)] := by
  have hclear : retested.bup.acc[(0 : Acc)].standing.engine.getLsbD (3 : Fin 16384).1 = false := BitVec.getLsbD_zero
  exact List.filter_cons_of_pos (by rw [hclear]; rfl)

/-- Refutes O40: a merge counts no failure that the journal names already (11 R332), but `RunMerged` asks for every failure that the
standing mask of S1 lacks. In `retested` the entry of engine 3 was journaled after S1, so that its second failure is one of the latter
and not new: NEW_FAIL is 0 where the statement has 1. -/
theorem not_trainingAndTestRows : ¬ Obligations.TrainingAndTestRows := by
  unfold Obligations.TrainingAndTestRows
  rintro ⟨-, -, -, hmerge, -, -⟩
  obtain ⟨t, hnext, hmerged, -⟩ := hmerge (.testTimeout 0) [] 0 secondRun secondRun.ended retested retested_run
    (.inr (.inr ⟨rfl, rfl, rfl, by decide, rfl⟩))
  obtain ⟨-, -, -, -, hclaimed, -, -⟩ := hmerged retested_complete
  have hstep : mergeRun 0 secondRun.ended [] (putRun 0 secondRun.ended retested) = t :=
    Host.Outcome.next.inj ((testTimeout_merges retested_run rfl (by decide) retested_complete).symm.trans hnext)
  have hactual : t.bup.acc[(0 : Acc)].newFail = 0 := by
    rw [← hstep, mergeRun_newFail, retested_newFailures]
    rfl
  rw [hactual, retested_unmasked] at hclaimed
  exact absurd hclaimed (by decide)

end Sys2Proof.Machine
end

section
/-! SUPPORT. Parameters read back (15 R443 to R465): each field of a layout, and the lists of words and addresses behind the first. -/

set_option Elab.async false

namespace Sys2Proof.Machine

open Sys2Proof

/-! Fields. -/

/-- The bytes behind the first. -/
theorem slice_cons_succ (b : Byte) (l : List Byte) (off n : Nat) : slice (b :: l) (off + 1) n = slice l off n := rfl

@[simp] theorem leAt_cons_succ (b : Byte) (l : List Byte) (off n : Nat) : leAt (b :: l) (off + 1) n = leAt l off n := rfl

@[simp] theorem leAt_append_right {a b : List Byte} {off n : Nat} (h : a.length ≤ off) :
    leAt (a ++ b) off n = leAt b (off - a.length) n := congrArg leNat (slice_append_right a b off n h)

@[simp] theorem byteAt_cons_zero (b : Byte) (l : List Byte) : byteAt (b :: l) 0 = b := by
  simp [byteAt, leAt, slice, leNat]

@[simp] theorem byteAt_cons_succ (b : Byte) (l : List Byte) (off : Nat) : byteAt (b :: l) (off + 1) = byteAt l off := rfl

@[simp] theorem byteAt_append_right {a b : List Byte} {off : Nat} (h : a.length ≤ off) :
    byteAt (a ++ b) off = byteAt b (off - a.length) := congrArg (BitVec.ofNat 8) (leAt_append_right h)

/-- A number laid out at an offset is read back there. -/
@[simp] theorem leAt_leBytes_append (n x : Nat) (l : List Byte) : leAt (leBytes n x ++ l) 0 n = x % 256 ^ n := by
  have hslice := slice_append_left (leBytes n x) l
  rw [leBytes_length] at hslice
  rw [leAt, hslice, leNat_leBytes]

@[simp] theorem leAt_leBytes (n x : Nat) : leAt (leBytes n x) 0 n = x % 256 ^ n := by
  simpa using leAt_leBytes_append n x []

/-- Reserved bytes that are laid out as 0 are blank. -/
@[simp] theorem blankAt_cons_succ (b : Byte) (l : List Byte) (off n : Nat) : blankAt (b :: l) (off + 1) n = blankAt l off n := rfl

@[simp] theorem blankAt_append_right {a b : List Byte} {off n : Nat} (h : a.length ≤ off) :
    blankAt (a ++ b) off n = blankAt b (off - a.length) n := by
  rw [blankAt, slice_append_right a b off n h]
  rfl

@[simp] theorem blankAt_zero_cons (l : List Byte) (n : Nat) : blankAt (0#8 :: l) 0 (n + 1) = blankAt l 0 n := by
  simp [blankAt, slice]

@[simp] theorem blankAt_nothing (l : List Byte) : blankAt l 0 0 = true := by
  simp [blankAt, slice]

/-! Words. -/

@[simp] theorem wordsLe_cons (w : Word) (l : List Word) : wordsLe (w :: l) = leBytes 4 w.toNat ++ wordsLe l := rfl

@[simp] theorem wordsLe_nil : wordsLe [] = [] := rfl

@[simp] theorem wordsLe_append (l m : List Word) : wordsLe (l ++ m) = wordsLe l ++ wordsLe m := List.flatMap_append

@[simp] theorem wordsLe_length (l : List Word) : (wordsLe l).length = 4 * l.length := by
  induction l with
  | nil => rfl
  | cons w l ih => rw [wordsLe_cons, List.length_append, leBytes_length, ih, List.length_cons]; omega

@[simp] theorem wordAt_cons_succ (b : Byte) (l : List Byte) (off : Nat) : wordAt (b :: l) (off + 1) = wordAt l off := rfl

@[simp] theorem wordAt_append_right {a b : List Byte} {off : Nat} (h : a.length ≤ off) :
    wordAt (a ++ b) off = wordAt b (off - a.length) := congrArg (BitVec.ofNat 32) (leAt_append_right h)

@[simp] theorem wordAt_leBytes_append (w : Word) (l : List Byte) : wordAt (leBytes 4 w.toNat ++ l) 0 = w := by
  rw [wordAt, leAt_leBytes_append, Nat.mod_eq_of_lt (show w.toNat < 256 ^ 4 from w.isLt), BitVec.ofNat_toNat, BitVec.setWidth_eq]

@[simp] theorem wordAt_leBytes (w : Word) : wordAt (leBytes 4 w.toNat) 0 = w := by
  simpa using wordAt_leBytes_append w []

@[simp] theorem wordsAt_append_right {a b : List Byte} {off n : Nat} (h : a.length ≤ off) :
    wordsAt (a ++ b) off n = wordsAt b (off - a.length) n := by
  refine List.map_congr_left fun i _ => congrArg (BitVec.ofNat 32) ?_
  rw [leAt_append_right (Nat.le_add_right_of_le h), Nat.sub_add_comm h]

@[simp] theorem wordsAt_cons_succ (b : Byte) (l : List Byte) (off n : Nat) : wordsAt (b :: l) (off + 1) n = wordsAt l off n := by
  simpa using wordsAt_append_right (a := [b]) (b := l) (n := n) (Nat.le_add_left 1 off)

/-- A list of words is read back whole. -/
@[simp] theorem wordsAt_wordsLe_append {l : List Word} {n : Nat} (h : l.length = n) (rest : List Byte) :
    wordsAt (wordsLe l ++ rest) 0 n = l := by
  subst h
  induction l with
  | nil => rfl
  | cons w l ih =>
    have hhead : wordAt (wordsLe (w :: l) ++ rest) 0 = w := by
      rw [wordsLe_cons, List.append_assoc, wordAt_leBytes_append]
    have htail : wordsAt (wordsLe (w :: l) ++ rest) 4 l.length = l := by
      rw [wordsLe_cons, List.append_assoc, wordsAt_append_right (by rw [leBytes_length])]
      simpa using ih
    have hsplit : wordsAt (wordsLe (w :: l) ++ rest) 0 (l.length + 1) =
        wordAt (wordsLe (w :: l) ++ rest) 0 :: wordsAt (wordsLe (w :: l) ++ rest) 4 l.length := by
      simp only [wordsAt, List.range_succ_eq_map, List.map_cons, List.map_map, wordAt]
      refine congrArg₂ _ rfl (List.map_congr_left fun i _ => ?_)
      simp only [Function.comp]
      congr 2
      omega
    rw [List.length_cons, hsplit, hhead, htail]

@[simp] theorem wordsAt_wordsLe {l : List Word} {n : Nat} (h : l.length = n) : wordsAt (wordsLe l) 0 n = l := by
  simpa using wordsAt_wordsLe_append h []

/-! Addresses. -/

@[simp] theorem addrBytes_length (a : BitVec 128) : (addrBytes a).length = 16 := by simp [addrBytes]

@[simp] theorem addrAt_append_right {a b : List Byte} {off : Nat} (h : a.length ≤ off) :
    addrAt (a ++ b) off = addrAt b (off - a.length) := by
  rw [addrAt, slice_append_right a b off 16 h]
  rfl

/-- An address in network order is read back. -/
@[simp] theorem addrAt_addrBytes_append (a : BitVec 128) (l : List Byte) : addrAt (addrBytes a ++ l) 0 = a := by
  have hslice := slice_append_left (addrBytes a) l
  rw [addrBytes_length] at hslice
  rw [addrAt, hslice, addrBytes, List.reverse_reverse, leNat_leBytes_of_lt a.isLt, BitVec.ofNat_toNat, BitVec.setWidth_eq]

@[simp] theorem addrAt_addrBytes (a : BitVec 128) : addrAt (addrBytes a) 0 = a := by
  simpa using addrAt_addrBytes_append a []

@[simp] theorem addrAt_cons_succ (b : Byte) (l : List Byte) (off : Nat) : addrAt (b :: l) (off + 1) = addrAt l off := rfl

/-! Numbers of 16 and 64 bits. -/

@[simp] theorem ofNat_toNat_mod_16 (x : BitVec 16) : BitVec.ofNat 16 (x.toNat % 65536) = x := by
  rw [Nat.mod_eq_of_lt x.isLt, BitVec.ofNat_toNat, BitVec.setWidth_eq]

@[simp] theorem ofNat_toNat_mod_64 (x : BitVec 64) : BitVec.ofNat 64 (x.toNat % 18446744073709551616) = x := by
  rw [Nat.mod_eq_of_lt x.isLt, BitVec.ofNat_toNat, BitVec.setWidth_eq]

/-! The layouts. -/

/-- A layout of one length. -/
theorem sized_some {p : List Byte} {n : Nat} {c d : Cmd} (hlen : p.length = n) (hread : c = d) :
    sized p n c = some d := by
  rw [sized, if_pos hlen, hread]

/-- A chunk of 1 to 4,000 bytes behind its 12 bytes (15 R458, R465). -/
theorem chunk_some {p : List Byte} {c d : Cmd} {blank : Bool} (hblank : blank = true) (hlen : 13 ≤ p.length ∧ p.length ≤ 4012)
    (hread : c = d) : (if blank ∧ 13 ≤ p.length ∧ p.length ≤ 4012 then some c else none) = some d := by
  rw [if_pos ⟨hblank, hlen⟩, hread]

/-- The four addresses of net.set_config (15 R464). -/
theorem addrsAt_addrBytes {l : List (BitVec 128)} (h : l.length = 4) (x y : Byte) (u : BitVec 16) (rest : List Byte) :
    ((List.range 4).map fun i => addrAt (leBytes 2 u.toNat ++ x :: y :: (l.flatMap addrBytes ++ rest)) (4 + 16 * i)) = l := by
  obtain ⟨a, b, c, d, rfl⟩ : ∃ a b c d, l = [a, b, c, d] := by
    match l, h with
    | [a, b, c, d], _ => exact ⟨a, b, c, d, rfl⟩
  simp [List.range_succ]

/-- Settles O2: each command by the fields of its layout. -/
theorem parametersReadBackTheCommand : Obligations.ParametersReadBackTheCommand := by
  unfold Obligations.ParametersReadBackTheCommand
  intro c hwf
  cases c with
  | sysCapabilities | sysHeartbeat | sysStatus | powerStatus | rackPowerOn | rackHold | rackReset | rackJoin | rackDetach
  | trayPowerOn | trayFaultClear | crzStatus | supStatus | steerStatus | ledgerStatus | frondStatus | srsStatus | bupStatus
  | coolStatus | twbStatus | fwStatus | secDebugLock | secStatus => rfl
  | sysCommitEpoch | powerSetCap | powerSetEnvelope | rackPowerOff | trayPowerOff | crzClearFault | partitionPowerOn
  | partitionPowerOff | partitionReset | partitionPark | partitionUnpark | supMargin | steerSetMode | steerSetParkOrder
  | steerSetGroup | ledgerUnbindJob | ledgerSetConfig | frondUnload | frondRun | frondSetSched | srsSetConfig | bupTest
  | bupFloorPlan | bupJournalRead | bupJournalForget | bupSetConfig | coolSetConfig | coolSetMode | coolClearFault
  | coolClearLeak | netSubscribe | fwVerify | fwActivate | secDebugChallenge =>
    refine sized_some rfl ?_
    delta paramsOf
    simp
  | crzSetDep | crzSetConfig | steerSetConfig | coolSetCurve | coolSetTable | coolSetLoop =>
    have hlen := beq_iff_eq.1 hwf
    apply sized_some <;> delta paramsOf <;> simp [hlen]
  | twbSetConfig p a t =>
    obtain ⟨hp, ha⟩ := (Bool.and_eq_true_iff.1 hwf).imp beq_iff_eq.1 beq_iff_eq.1
    apply sized_some <;> delta paramsOf <;> simp [hp, ha]
  | supSetWindow | supSetFastWindow | steerSetPhasePref | ledgerBindJob | frondLoad =>
    generalize hp : paramsOf _ = p
    refine (if_pos ?_).trans (sized_some ?_ ?_) <;> subst hp <;> delta paramsOf <;> simp
  | ledgerSetCoeff | secDebugUnlock | secSetLifecycle | secSetKey =>
    have hlen := beq_iff_eq.1 hwf
    generalize hp : paramsOf _ = p
    refine (if_pos ?_).trans (sized_some ?_ ?_) <;> subst hp <;> delta paramsOf <;> simp [hlen]
  | coolSetMap f t u =>
    obtain ⟨hf, ht⟩ := (Bool.and_eq_true_iff.1 hwf).imp beq_iff_eq.1 beq_iff_eq.1
    generalize hp : paramsOf _ = p
    refine (if_pos ?_).trans (sized_some ?_ ?_) <;> subst hp <;> delta paramsOf <;> simp [hf, ht]
  | netSetConfig u l g =>
    have hlen := beq_iff_eq.1 hwf
    generalize hp : paramsOf _ = p
    refine (if_pos ?_).trans (sized_some ?_ ?_) <;> subst hp <;> delta paramsOf <;> dsimp only
    · simp
    · simp [hlen]
    · rw [addrsAt_addrBytes hlen]
      simp [hlen]
  | frondStage | fwStage =>
    have hdata := (Bool.and_eq_true_iff.1 hwf).imp of_decide_eq_true of_decide_eq_true
    refine chunk_some ?_ ?_ ?_ <;> delta paramsOf
    · simp
    · simp only [List.length_cons, List.length_append, wordsLe_length, List.length_nil]
      omega
    · simp [List.drop_append]
  | twbTransfer p a pr co wl rl wd =>
    have hlen := beq_iff_eq.1 hwf
    apply sized_some <;> delta paramsOf
    · simp [hlen]
      omega
    · simp [List.drop_append]

end Sys2Proof.Machine
end

section
/-! SUPPORT. Fields of a register: what a replaced field leaves of the others; and folds whose steps change one place each. -/

set_option Elab.async false

namespace Sys2Proof.Machine

open Sys2Proof

/-! Fields of a register. -/

theorem testBit_fld (w : Word) (lo n i : Nat) : (fld w lo n).testBit i = (decide (i < n) && fldB w (lo + i)) := by
  rw [fld, Nat.testBit_mod_two_pow, Nat.testBit_div_two_pow, Nat.add_comm i lo]
  rfl

/-- A register with a field replaced, as a number: what lies above the field, the field, what lies below. -/
theorem toNat_setFld {w : Word} {lo n : Nat} (h : lo + n ≤ 32) (x : Nat) :
    (setFld w lo n x).toNat = 2 ^ lo * (2 ^ n * (w.toNat / 2 ^ (lo + n)) + x % 2 ^ n) + w.toNat % 2 ^ lo := by
  have hsplit : w.toNat = 2 ^ lo * (2 ^ n * (w.toNat / 2 ^ (lo + n)) + fld w lo n) + w.toNat % 2 ^ lo := by
    rw [fld, pow_add, ← Nat.div_div_eq_div_mul, Nat.div_add_mod, Nat.div_add_mod]
  have hnew : w.toNat - fld w lo n * 2 ^ lo + x % 2 ^ n * 2 ^ lo =
      2 ^ lo * (2 ^ n * (w.toNat / 2 ^ (lo + n)) + x % 2 ^ n) + w.toNat % 2 ^ lo := by
    have hcomm : fld w lo n * 2 ^ lo = 2 ^ lo * fld w lo n := Nat.mul_comm ..
    have hcomm' : x % 2 ^ n * 2 ^ lo = 2 ^ lo * (x % 2 ^ n) := Nat.mul_comm ..
    rw [Nat.mul_add] at hsplit ⊢
    omega
  have hlt : 2 ^ lo * (2 ^ n * (w.toNat / 2 ^ (lo + n)) + x % 2 ^ n) + w.toNat % 2 ^ lo < 2 ^ 32 := by
    have hlow : w.toNat % 2 ^ lo < 2 ^ lo := Nat.mod_lt _ (Nat.two_pow_pos lo)
    have hmid : x % 2 ^ n < 2 ^ n := Nat.mod_lt _ (Nat.two_pow_pos n)
    have hpow : 2 ^ 32 = 2 ^ lo * 2 ^ n * 2 ^ (32 - (lo + n)) := by
      rw [← pow_add, ← pow_add]
      congr 1
      omega
    have hhigh : w.toNat / 2 ^ (lo + n) < 2 ^ (32 - (lo + n)) := by
      rw [Nat.div_lt_iff_lt_mul (Nat.two_pow_pos _), pow_add, Nat.mul_comm, ← hpow]
      exact w.isLt
    calc 2 ^ lo * (2 ^ n * (w.toNat / 2 ^ (lo + n)) + x % 2 ^ n) + w.toNat % 2 ^ lo
        < 2 ^ lo * (2 ^ n * (w.toNat / 2 ^ (lo + n)) + x % 2 ^ n + 1) := by rw [Nat.mul_add _ _ 1]; omega
      _ ≤ 2 ^ lo * (2 ^ n * (w.toNat / 2 ^ (lo + n) + 1)) := by
          refine Nat.mul_le_mul_left _ ?_
          rw [Nat.mul_add]
          omega
      _ ≤ 2 ^ lo * (2 ^ n * 2 ^ (32 - (lo + n))) := Nat.mul_le_mul_left _ (Nat.mul_le_mul_left _ hhigh)
      _ = 2 ^ 32 := by rw [hpow, Nat.mul_assoc]
  rw [setFld, BitVec.toNat_ofNat, hnew, Nat.mod_eq_of_lt hlt]

/-- A replaced field shows in its own bits alone. -/
theorem fldB_setFld {w : Word} {lo n : Nat} (h : lo + n ≤ 32) (x i : Nat) :
    fldB (setFld w lo n x) i = if lo ≤ i ∧ i < lo + n then x.testBit (i - lo) else fldB w i := by
  have hlow : w.toNat % 2 ^ lo < 2 ^ lo := Nat.mod_lt _ (Nat.two_pow_pos lo)
  have hmid : x % 2 ^ n < 2 ^ n := Nat.mod_lt _ (Nat.two_pow_pos n)
  rw [fldB, ← BitVec.testBit_toNat, toNat_setFld h, Nat.testBit_two_pow_mul_add _ hlow]
  split
  next hbelow =>
    rw [if_neg (by omega), Nat.testBit_mod_two_pow, decide_eq_true hbelow, Bool.true_and]
    rfl
  next hnot =>
    rw [Nat.testBit_two_pow_mul_add _ hmid]
    split
    next hin => rw [if_pos (by omega), Nat.testBit_mod_two_pow, decide_eq_true hin, Bool.true_and]
    next hover =>
      rw [if_neg (by omega), Nat.testBit_div_two_pow, show i - lo - n + (lo + n) = i by omega]
      rfl

theorem fld_setFld_same {w : Word} {lo n : Nat} (h : lo + n ≤ 32) (x : Nat) : fld (setFld w lo n x) lo n = x % 2 ^ n := by
  refine Nat.eq_of_testBit_eq fun i => ?_
  rw [testBit_fld, fldB_setFld h, Nat.testBit_mod_two_pow]
  by_cases hi : i < n
  · rw [if_pos (by omega), show lo + i - lo = i by omega]
  · simp [hi]

theorem fld_setFld_other {w : Word} {lo n : Nat} (h : lo + n ≤ 32) (x : Nat) {a b : Nat} (hab : a + b ≤ lo ∨ lo + n ≤ a) :
    fld (setFld w lo n x) a b = fld w a b := by
  refine Nat.eq_of_testBit_eq fun i => ?_
  rw [testBit_fld, testBit_fld, fldB_setFld h]
  by_cases hi : i < b
  · rw [if_neg (by omega)]
  · simp [hi]

/-- One bit of a register as a field. -/
theorem fld_one (w : Word) (i : Nat) : fld w i 1 = if fldB w i then 1 else 0 := by
  refine Nat.eq_of_testBit_eq fun j => ?_
  rw [testBit_fld]
  cases j with
  | zero => cases fldB w i <;> simp
  | succ j => cases fldB w i <;> simp [Nat.testBit_succ]

/-! Folds. -/

section
variable {ι β : Type} [DecidableEq ι] {view : State → ι → β} {g : ι → β → β} {f : ι → State → State} {p : State → Prop}
  (hp : ∀ m s, p s → p (f m s)) (h : ∀ m s n, p s → view (f m s) n = if n = m then g m (view s m) else view s n)
include hp h

/-- Where, as long as `p` holds, the step of `m` changes the view at `m` alone, a fold over distinct places changes it once at each. -/
theorem forAll_each {l : List ι} (hl : l.Nodup) (n : ι) {s : State} (hs : p s) :
    view (forAll l f s) n = if n ∈ l then g n (view s n) else view s n := by
  induction l generalizing s with
  | nil => rfl
  | cons m l ih =>
    obtain ⟨hm, hl⟩ := List.nodup_cons.1 hl
    have hstep : view (forAll (m :: l) f s) n = _ := ih hl (hp m s hs)
    rw [hstep, h m s n hs]
    by_cases hn : n = m
    · subst hn
      simp [hm]
    · simp [hn]

end

/-- The same over all places. -/
theorem forAll_finRange_each {k : Nat} {β : Type} {view : State → Fin k → β} {g : Fin k → β → β}
    {f : Fin k → State → State} {p : State → Prop} (hp : ∀ m s, p s → p (f m s))
    (h : ∀ m s n, p s → view (f m s) n = if n = m then g m (view s m) else view s n) (n : Fin k) {s : State} (hs : p s) :
    view (forAll (List.finRange k) f s) n = g n (view s n) :=
  (forAll_each hp h (List.nodup_finRange k) n hs).trans (if_pos (List.mem_finRange n))

/-- A place of a vector that a change at `i` sets. -/
theorem getElem_set_ite {α : Type} {k : Nat} (v : Vector α k) (i j : Fin k) (x : α) :
    ((v.set i x i.isLt)[j]'j.isLt) = if j = i then x else (v[j]'j.isLt) := by
  by_cases h : j = i
  · subst h
    simp
  · have hne : i.1 ≠ j.1 := fun e => h (Fin.ext e.symm)
    rw [if_neg h]
    exact Vector.getElem_set_ne _ _ hne

end Sys2Proof.Machine
end

section
/-! SUPPORT. Names of the parts of the state that stand in vectors: a fan, a channel, a port. They unfold to the entry
of the vector. -/

set_option Elab.async false

namespace Sys2Proof.Machine

open Sys2Proof

@[simp] abbrev State.fanAt (s : State) (i : Fan) : FanState := s.cool.fan[i]'i.isLt

@[simp] abbrev State.pumpAt (s : State) (i : Pump) : PumpState := s.cool.pump[i]'i.isLt

@[simp] abbrev State.loopAt (s : State) (i : Loop) : LoopState := s.cool.loop[i]'i.isLt

@[simp] abbrev State.leakAt (s : State) (i : Fin 10) : LeakState := s.cool.leak[i]'i.isLt

@[simp] abbrev State.thmAt (s : State) (i : Fin 24) : ThmState := s.cool.thm[i]'i.isLt

@[simp] abbrev State.coolAcc (s : State) (i : Acc) : BandState := s.cool.acc[i]'i.isLt

@[simp] abbrev State.chanAt (s : State) (i : Chan) : ChanState := s.crz.chan[i]'i.isLt

@[simp] abbrev State.accAt (s : State) (i : Acc) : AccState := s.acc[i]'i.isLt

@[simp] abbrev State.portAt (s : State) (i : Port) : PortState := s.twb.port[i]'i.isLt

@[simp] abbrev State.stageAt (s : State) (i : Fin 3) : StageState := s.sec.stage[i]'i.isLt

@[simp] abbrev State.fwAt (s : State) (i : Acc) : AccFwState := s.sec.acc[i]'i.isLt

@[simp] abbrev State.spdmAt (s : State) (i : Fin 2) : SpdmState := s.sec.spdm[i]'i.isLt

@[simp] abbrev State.bupAt (s : State) (i : Acc) : BupAcc := s.bup.acc[i]'i.isLt

@[simp] abbrev State.nvAcc (s : State) (i : Acc) : AccFlash := s.nv.acc[i]'i.isLt

theorem State.fanAt_setFan (s : State) (m n : Fan) (g : FanState → FanState) :
    (s.setFan m g).fanAt n = if n = m then g (s.fanAt m) else s.fanAt n :=
  getElem_set_ite s.cool.fan m n _

theorem State.pumpAt_setPump (s : State) (m n : Pump) (g : PumpState → PumpState) :
    (s.setPump m g).pumpAt n = if n = m then g (s.pumpAt m) else s.pumpAt n :=
  getElem_set_ite s.cool.pump m n _

theorem State.loopAt_setLoop (s : State) (m n : Loop) (g : LoopState → LoopState) :
    (s.setLoop m g).loopAt n = if n = m then g (s.loopAt m) else s.loopAt n :=
  getElem_set_ite s.cool.loop m n _

theorem State.leakAt_setLeak (s : State) (m n : Fin 10) (g : LeakState → LeakState) :
    (s.setLeak m g).leakAt n = if n = m then g (s.leakAt m) else s.leakAt n :=
  getElem_set_ite s.cool.leak m n _

theorem State.thmAt_setThm (s : State) (m n : Fin 24) (g : ThmState → ThmState) :
    (s.setThm m g).thmAt n = if n = m then g (s.thmAt m) else s.thmAt n :=
  getElem_set_ite s.cool.thm m n _

theorem State.accAt_setAcc (s : State) (m n : Acc) (g : AccState → AccState) :
    (s.setAcc m g).accAt n = if n = m then g (s.accAt m) else s.accAt n :=
  getElem_set_ite s.acc m n _

theorem State.chanAt_setChan (s : State) (m n : Chan) (g : ChanState → ChanState) :
    (s.setChan m g).chanAt n = if n = m then g (s.chanAt m) else s.chanAt n :=
  getElem_set_ite s.crz.chan m n _

theorem State.portAt_setPort (s : State) (m n : Port) (g : PortState → PortState) :
    (s.setPort m g).portAt n = if n = m then g (s.portAt m) else s.portAt n :=
  getElem_set_ite s.twb.port m n _

theorem State.fwAt_setAccFw (s : State) (m n : Acc) (g : AccFwState → AccFwState) :
    (s.setAccFw m g).fwAt n = if n = m then g (s.fwAt m) else s.fwAt n :=
  getElem_set_ite s.sec.acc m n _

theorem stageAt_taken (f : Frame) (c : Cmd) (s : State) : (taken f c s).stageAt = s.stageAt := by rw [taken_frame]

theorem portAt_taken (f : Frame) (c : Cmd) (s : State) : (taken f c s).portAt = s.portAt := by rw [taken_frame]

theorem fwAt_taken (f : Frame) (c : Cmd) (s : State) : (taken f c s).fwAt = s.fwAt := by rw [taken_frame]

end Sys2Proof.Machine
end

section
/-! SUPPORT. The cooling commands (12 R363 to R380; 15 R462): what driving fans and pumps leaves, what staged settings put in force. -/

set_option Elab.async false

namespace Sys2Proof.Machine

open Sys2Proof

/-! Driving (12 R356, R362). -/

/-- From `s` to `t` only duties of fans and pumps may differ. -/
structure DutiesOnly (s t : State) : Prop where
  frame : t = { s with cool := { s.cool with fan := t.cool.fan, pump := t.cool.pump } }
  fan : ∀ f : Fan, (t.fanAt f) = { (s.fanAt f) with duty := (t.fanAt f).duty }
  pump : ∀ p : Pump, (t.pumpAt p) = { (s.pumpAt p) with duty := (t.pumpAt p).duty }

namespace DutiesOnly

theorem refl (s : State) : DutiesOnly s s := ⟨rfl, fun _ => rfl, fun _ => rfl⟩

theorem trans {s t u : State} (h : DutiesOnly s t) (h' : DutiesOnly t u) : DutiesOnly s u where
  frame := by rw [h'.frame, h.frame]
  fan f := by rw [h'.fan, h.fan]
  pump p := by rw [h'.pump, h.pump]

theorem forAll {α : Type} {f : α → State → State} (h : ∀ x s, DutiesOnly s (f x s)) (l : List α) (s : State) :
    DutiesOnly s (forAll l f s) :=
  forAll_inv (DutiesOnly s) f l (fun x t ht => ht.trans (h x t)) s (refl s)

theorem setFan (f : Fan) (d : FanState → Rat) (s : State) :
    DutiesOnly s (s.setFan f fun x => { x with duty := d x }) := by
  refine ⟨rfl, fun g => ?_, fun _ => rfl⟩
  rw [State.fanAt_setFan]
  split
  next he => rw [he]
  next => rfl

theorem setPump (p : Pump) (d : PumpState → Rat) (s : State) :
    DutiesOnly s (s.setPump p fun x => { x with duty := d x }) := by
  refine ⟨rfl, fun _ => rfl, fun q => ?_⟩
  rw [State.pumpAt_setPump]
  split
  next he => rw [he]
  next => rfl

section
variable {s t : State} (h : DutiesOnly s t)
include h

theorem cool : t.cool = { s.cool with fan := t.cool.fan, pump := t.cool.pump } := by
  conv_lhs => rw [h.frame]

/-- What a duty is to be does not depend on the duties there are. -/
theorem compensates (f : Fan) : compensates t f = compensates s f := by
  have hmap : ∀ g, fanMapOf t g = fanMapOf s g := fun g => by rw [h.frame]; rfl
  have hstalled : ∀ g : Fan, (t.fanAt g).stalled = (s.fanAt g).stalled := fun g => by rw [h.fan]
  simp only [Machine.compensates, fanUsed, hmap, hstalled]

theorem fanWant (f : Fan) : fanWant t f = fanWant s f := by
  have hcomp : ∀ d, withComp t f d = withComp s f d := fun d => by
    rw [withComp, h.compensates, withComp, h.frame]
  have hover : overridden t = overridden s := by rw [h.frame]; rfl
  have htable : t.cool.table = s.cool.table := by rw [h.frame]
  have hmaxed : fanMaxed t f = fanMaxed s f := by rw [h.frame]; rfl
  have hmax : maxFan t = maxFan s := by rw [h.frame]; rfl
  have hrow : tableRow t = tableRow s := by rw [h.frame]; rfl
  have hentry : t.cool.entryDuty = s.cool.entryDuty := by rw [h.frame]
  have hcfg : t.cool.cfg = s.cool.cfg := by rw [h.frame]
  have hcurve : fanCurve t f = fanCurve s f := by rw [h.frame]; rfl
  simp only [Machine.fanWant, fanDemand, hcomp, hover, htable, hmaxed, hmax, hrow, hentry, hcfg, hcurve]

theorem pumpWant (l : Loop) : pumpWant t l = pumpWant s l := by rw [h.frame]; rfl

theorem slew (now want fall : Rat) : slew t now want fall = slew s now want fall := by rw [h.frame]; rfl

theorem activePump (l : Loop) : activePump t l = activePump s l := by rw [h.frame]; rfl

end

end DutiesOnly

/-- A fan that runs has the duty of its demand, slewed (12 R356). -/
def fanDriven (fall : Rat) (s : State) (f : Fan) (x : FanState) : FanState :=
  if x.state = 2 ∨ x.state = 4 ∨ x.state = 3 then { x with duty := slew s x.duty (fanWant s f) fall } else x

/-- Driving one fan, the fans, and the pumps. -/
def driveFan (fall : Rat) (f : Fan) (s : State) : State :=
  if (s.fanAt f).state = 2 ∨ (s.fanAt f).state = 4 ∨ (s.fanAt f).state = 3
    then s.setFan f fun x => { x with duty := slew s x.duty (fanWant s f) fall } else s

def driveFans (fall : Rat) (s : State) : State := forAll (List.finRange 16) (driveFan fall) s

def drivePumps (fall : Rat) (s : State) : State :=
  forAll (List.finRange 2) (fun (l : Loop) s =>
    let p := activePump s l
    if (s.pumpAt p).state = 2 then s.setPump p fun x => { x with duty := slew s x.duty (pumpWant s l) fall } else s) s

theorem driveAll_eq (fall : Rat) (s : State) : driveAll fall s = drivePumps fall (driveFans fall s) := rfl

theorem driveFan_dutiesOnly (fall : Rat) (f : Fan) (s : State) : DutiesOnly s (driveFan fall f s) := by
  unfold driveFan
  split
  · exact .setFan f _ s
  · exact .refl s

theorem driveFans_dutiesOnly (fall : Rat) (s : State) : DutiesOnly s (driveFans fall s) :=
  .forAll (fun f s => driveFan_dutiesOnly fall f s) _ s

theorem drivePumps_dutiesOnly (fall : Rat) (s : State) : DutiesOnly s (drivePumps fall s) := by
  refine .forAll (fun l s => ?_) _ s
  dsimp only
  split
  · exact .setPump _ _ s
  · exact .refl s

theorem driveAll_dutiesOnly (fall : Rat) (s : State) : DutiesOnly s (driveAll fall s) :=
  (driveFans_dutiesOnly fall s).trans (drivePumps_dutiesOnly fall _)

theorem drivePumps_fan (fall : Rat) (s : State) : (drivePumps fall s).cool.fan = s.cool.fan := by
  refine forAll_keeps (fun t : State => t.cool.fan) _ (fun l t => ?_) _ s
  dsimp only
  split <;> rfl

/-- Driving a fan moves that fan alone. -/
theorem driveFan_fan (fall : Rat) {s t : State} (h : DutiesOnly s t) (m n : Fan) :
    ((driveFan fall m t).fanAt n) = if n = m then fanDriven fall s m (t.fanAt m) else (t.fanAt n) := by
  unfold driveFan fanDriven
  rw [← h.fanWant, ← h.slew]
  split
  · exact State.fanAt_setFan ..
  · split
    next hn => rw [hn]
    next => rfl

/-- What each fan has once everything is driven. -/
theorem driveAll_fan (fall : Rat) (s : State) (f : Fan) :
    ((driveAll fall s).fanAt f) = fanDriven fall s f (s.fanAt f) := by
  rw [driveAll_eq, State.fanAt, drivePumps_fan, driveFans]
  exact forAll_finRange_each (p := DutiesOnly s) (view := fun t (f : Fan) => (t.fanAt f)) (g := fanDriven fall s)
    (fun m t ht => ht.trans (driveFan_dutiesOnly fall m t)) (fun m t n ht => driveFan_fan fall ht m n) f (.refl s)

/-! Maps (12 R355, R380). -/

/-- From `s` to `t` only fans may differ. -/
def FansOnly (s t : State) : Prop := t = { s with cool := { s.cool with fan := t.cool.fan } }

namespace FansOnly

theorem refl (s : State) : FansOnly s s := rfl

theorem setFan {s t : State} (h : FansOnly s t) (f : Fan) (g : FanState → FanState) : FansOnly s (t.setFan f g) := by
  unfold FansOnly at h ⊢
  rw [h]
  rfl

end FansOnly

/-- One fan as the maps change: newly unused it stops, newly used it is kicked once its group has been (12 R355, R358). -/
def remapFan (old : Vector Word 16) (f : Fan) (s : State) : State :=
  if fldB (s.cool.fanMap[f]'f.isLt) 8 == fldB (old[f]'f.isLt) 8 then s
  else if !fldB (s.cool.fanMap[f]'f.isLt) 8 then s.setFan f fun _ => { state := 5 }
  else if s.cool.fanTick.isSome && decide (f.1 / 4 < s.cool.kicked) then kickFan f s
  else s.setFan f fun _ => {}

theorem newMaps_eq (fm tm : List Word) (used : BitVec 16) (s : State) :
    newMaps fm tm used s = forAll (List.finRange 16) (remapFan s.cool.fanMap) (putMaps fm tm used s) := rfl

theorem remapFan_fansOnly (old : Vector Word 16) (f : Fan) {s t : State} (h : FansOnly s t) :
    FansOnly s (remapFan old f t) := by
  unfold remapFan
  split
  · exact h
  · split
    · exact h.setFan ..
    · split <;> exact h.setFan ..

/-- The fan that the change of the maps leaves. -/
def fanRemapped (old : Vector Word 16) (s : State) (f : Fan) (x : FanState) : FanState :=
  if fldB (s.cool.fanMap[f]'f.isLt) 8 == fldB (old[f]'f.isLt) 8 then x
  else if !fldB (s.cool.fanMap[f]'f.isLt) 8 then { state := 5 }
  else if s.cool.fanTick.isSome && decide (f.1 / 4 < s.cool.kicked) then
    { x with state := 1, duty := 100, tick := s.sys.tick, tach := {} }
  else {}

theorem remapFan_fan (old : Vector Word 16) {s t : State} (h : FansOnly s t) (m n : Fan) :
    ((remapFan old m t).fanAt n) = if n = m then fanRemapped old s m (t.fanAt m) else (t.fanAt n) := by
  have hmap : t.cool.fanMap = s.cool.fanMap := by rw [h]
  have htick : t.cool.fanTick = s.cool.fanTick := by rw [h]
  have hkicked : t.cool.kicked = s.cool.kicked := by rw [h]
  have hnow : t.sys.tick = s.sys.tick := by rw [h]
  unfold remapFan fanRemapped
  rw [hmap, htick, hkicked]
  split
  · split
    next hn => rw [hn]
    next => rfl
  · split
    · exact State.fanAt_setFan ..
    · split
      · rw [kickFan, State.fanAt_setFan, hnow]
      · exact State.fanAt_setFan ..

/-- New maps: the maps are put, and each fan follows them. -/
theorem newMaps_spec (fm tm : List Word) (used : BitVec 16) (s : State) :
    FansOnly (putMaps fm tm used s) (newMaps fm tm used s) ∧ ∀ f : Fan, ((newMaps fm tm used s).fanAt f) =
      fanRemapped s.cool.fanMap (putMaps fm tm used s) f (s.fanAt f) := by
  rw [newMaps_eq]
  refine ⟨forAll_inv (FansOnly (putMaps fm tm used s)) _ _ (fun f t ht => remapFan_fansOnly _ f ht) _ (.refl _), fun f => ?_⟩
  exact forAll_finRange_each (p := FansOnly (putMaps fm tm used s)) (view := fun t (f : Fan) => (t.fanAt f))
    (g := fanRemapped s.cool.fanMap (putMaps fm tm used s)) (fun m t ht => remapFan_fansOnly _ m ht)
    (fun m t n ht => remapFan_fan _ ht m n) f (.refl _)

theorem fanRemapped_kept {old : Vector Word 16} {s : State} {f : Fan} (h : fldB (s.cool.fanMap[f]'f.isLt) 8 = fldB (old[f]'f.isLt) 8)
    (x : FanState) : fanRemapped old s f x = x := by
  rw [fanRemapped, if_pos (by rw [h]; exact beq_self_eq_true _)]

theorem fanRemapped_unused {old : Vector Word 16} {s : State} {f : Fan} (hnow : fldB (s.cool.fanMap[f]'f.isLt) 8 = false)
    (hold : fldB (old[f]'f.isLt) 8 = true) (x : FanState) : fanRemapped old s f x = { state := 5 } := by
  rw [fanRemapped, hnow, hold]
  rfl

/-! Loops (12 R361, R362, R380). -/

theorem activePump_loop (s : State) (l : Loop) : (activePump s l).1 / 2 = l.1 := by
  have hbit : fld (s.loopAt l).cfg 30 1 < 2 := Nat.mod_lt _ (by decide)
  simp only [activePump, State.loopAt] at hbit ⊢
  omega

theorem otherPump_loop (s : State) (l : Loop) : (otherPump s l).1 / 2 = l.1 := by
  simp only [otherPump]
  omega

/-- From `s` to `t` only pumps of loop `l` may differ. -/
structure PumpsOf (l : Loop) (s t : State) : Prop where
  frame : t = { s with cool := { s.cool with pump := t.cool.pump } }
  other : ∀ q : Pump, q.1 / 2 ≠ l.1 → (t.pumpAt q) = (s.pumpAt q)

namespace PumpsOf

theorem refl (l : Loop) (s : State) : PumpsOf l s s := ⟨rfl, fun _ _ => rfl⟩

theorem trans {l : Loop} {s t u : State} (h : PumpsOf l s t) (h' : PumpsOf l t u) : PumpsOf l s u :=
  ⟨by rw [h'.frame, h.frame], fun q hq => (h'.other q hq).trans (h.other q hq)⟩

theorem setPump {l : Loop} {p : Pump} (h : p.1 / 2 = l.1) (f : PumpState → PumpState) (s : State) :
    PumpsOf l s (s.setPump p f) := by
  refine ⟨rfl, fun q hq => ?_⟩
  rw [State.pumpAt_setPump]
  exact if_neg fun e => hq (by rw [e, h])

theorem stopPump {l : Loop} {p : Pump} (h : p.1 / 2 = l.1) (k : Nat) (s : State) : PumpsOf l s (stopPump p k s) := by
  unfold Machine.stopPump
  split <;> exact setPump h _ s

theorem kickPump {l : Loop} {p : Pump} (h : p.1 / 2 = l.1) (s : State) : PumpsOf l s (kickPump p s) := setPump h _ s

end PumpsOf

/-- The pumps of a loop as its use changes: those of one newly unused stop, those of one newly used start (12 R361, R362). -/
def restartPumps (old : Word) (i : Loop) (s : State) : State :=
  let a := activePump s i
  let o := otherPump s i
  if fldB old 31 == fldB (s.loopAt i).cfg 31 then s
  else if !loopUsed s i then stopPump o 5 (stopPump a 5 s)
  else if !(s.crz.rail[trayRail 2]'(Fin.isLt _)).stable then stopPump o 0 (stopPump a 0 s)
  else if (s.pumpAt a).state = 4 then stopPump o 3 s
  else kickPump a (stopPump o 3 s)

/-- One loop as its settings change (12 R380). -/
def resetLoop (l : List Word) (i : Loop) (s : State) : State :=
  restartPumps (s.loopAt i).cfg i (s.setLoop i fun p => { p with cfg := loopWord (s.loopAt i).cfg (l.getD i.1 0) })

theorem newLoops_eq (l : List Word) (s : State) : newLoops l s = forAll (List.finRange 2) (resetLoop l) s := rfl

theorem restartPumps_pumpsOf (old : Word) (i : Loop) (s : State) : PumpsOf i s (restartPumps old i s) := by
  have ha := activePump_loop s i
  have ho := otherPump_loop s i
  unfold restartPumps
  dsimp only
  split
  · exact .refl i s
  · split
    · exact (PumpsOf.stopPump ha 5 s).trans (.stopPump ho 5 _)
    · split
      · exact (PumpsOf.stopPump ha 0 s).trans (.stopPump ho 0 _)
      · split
        · exact .stopPump ho 3 s
        · exact (PumpsOf.stopPump ho 3 s).trans (.kickPump ha _)

theorem resetLoop_frame (l : List Word) (i : Loop) (s : State) :
    resetLoop l i s = { s with cool := { s.cool with pump := (resetLoop l i s).cool.pump, loop := (resetLoop l i s).cool.loop } } := by
  rw [resetLoop, (restartPumps_pumpsOf ..).frame]
  rfl

theorem resetLoop_loop (l : List Word) (i j : Loop) (s : State) : ((resetLoop l i s).loopAt j) =
    if j = i then { (s.loopAt i) with cfg := loopWord (s.loopAt i).cfg (l.getD i.1 0) } else (s.loopAt j) := by
  rw [resetLoop, (restartPumps_pumpsOf ..).frame]
  simp only [State.loopAt, State.setLoop_cool, getElem_set_ite]

theorem newLoops_frame (l : List Word) (s : State) :
    newLoops l s = { s with cool := { s.cool with pump := (newLoops l s).cool.pump, loop := (newLoops l s).cool.loop } } := by
  rw [newLoops_eq]
  refine forAll_inv (fun t : State => t = { s with cool := { s.cool with pump := t.cool.pump, loop := t.cool.loop } }) _ _
    (fun i t ht => ?_) s rfl
  rw [resetLoop_frame, ht]

theorem newLoops_loop (l : List Word) (s : State) (i : Loop) : ((newLoops l s).loopAt i) =
    { (s.loopAt i) with cfg := loopWord (s.loopAt i).cfg (l.getD i.1 0) } := by
  rw [newLoops_eq]
  exact forAll_finRange_each (p := fun _ => True) (view := fun t (i : Loop) => (t.loopAt i))
    (g := fun i x => { x with cfg := loopWord x.cfg (l.getD i.1 0) }) (fun _ _ _ => trivial)
    (fun m t n _ => resetLoop_loop l m n t) i trivial

theorem fldB_loopWord_31 (old w : Word) : fldB (loopWord old w) 31 = fldB w 31 := by
  rw [loopWord, fldB_setFld (by decide), if_neg (by decide)]

/-- The pumps of a loop whose use does not change stay as they are. -/
theorem newLoops_pump {l : List Word} {s : State} {i : Loop} (h : fldB (l.getD i.1 0) 31 = fldB (s.loopAt i).cfg 31)
    {q : Pump} (hq : q.1 / 2 = i.1) : ((newLoops l s).pumpAt q) = (s.pumpAt q) := by
  rw [newLoops_eq]
  refine (forAll_inv (fun t : State => fldB (t.loopAt i).cfg 31 = fldB (l.getD i.1 0) 31 ∧
    (t.pumpAt q) = (s.pumpAt q)) _ _ (fun j t ⟨huse, hpump⟩ => ?_) s ⟨h.symm, rfl⟩).2
  rw [resetLoop_loop]
  by_cases hj : i = j
  · subst hj
    have hsame : (fldB (t.cool.loop[i]'i.isLt).cfg 31 == fldB (loopWord (t.cool.loop[i]'i.isLt).cfg (l.getD i.1 0)) 31) = true := by
      rw [fldB_loopWord_31, huse]
      exact beq_self_eq_true _
    refine ⟨by rw [if_pos rfl, fldB_loopWord_31], ?_⟩
    rw [← hpump, resetLoop, restartPumps]
    simp only [State.pumpAt, State.loopAt, State.setLoop_cool, getElem_set_ite, if_true, hsame]
  · have hother : ((resetLoop l j t).pumpAt q) = (t.pumpAt q) := by
      rw [resetLoop, (restartPumps_pumpsOf ..).other q (by rw [hq]; exact fun e => hj (Fin.ext e))]
      rfl
    exact ⟨by rw [if_neg hj, huse], hother.trans hpump⟩

end Sys2Proof.Machine
end

section
/-! SUPPORT. The cooling loop (12 R354, R356, R362; 15 R462), and the cooling commands. -/

set_option Elab.async false

namespace Sys2Proof.Machine

open Sys2Proof

/-! The loop. -/

/-- From `s` to `t` only what cooling settings write may differ. -/
def SettingsOnly (s t : State) : Prop := t = { s with cool := { s.cool with
  cfg := t.cool.cfg, cfg2 := t.cool.cfg2, curve := t.cool.curve, fanMap := t.cool.fanMap, fan := t.cool.fan,
  pump := t.cool.pump, loop := t.cool.loop, thm := t.cool.thm, leak := t.cool.leak } }

theorem SettingsOnly.trans {s t u : State} (h : SettingsOnly s t) (h' : SettingsOnly t u) : SettingsOnly s u := by
  unfold SettingsOnly at h h' ⊢
  rw [h', h]

theorem newCooling_settingsOnly (c : Cmd) (s : State) : SettingsOnly s (newCooling c s) := by
  cases c with
  | coolSetMap f t u =>
    have hfans : newMaps f t u s = _ := (newMaps_spec f t u s).1
    rw [newCooling, hfans]
    rfl
  | coolSetLoop l =>
    rw [newCooling, newLoops_frame]
    rfl
  | _ => rfl

theorem takeStaged_settingsOnly (s : State) : SettingsOnly (s.modCool fun k => { k with staged := [] }) (takeStaged s) :=
  forAll_inv (SettingsOnly (s.modCool fun k => { k with staged := [] })) _ _ (fun c t ht => ht.trans (newCooling_settingsOnly c t))
    _ rfl

/-- From `s` to `t` only the alarm of the outlet, its history and what reports it may differ (12 R354). -/
def AlarmOnly (s t : State) : Prop := t = { s with
  rcd := t.rcd, mbx := { s.mbx with evtDue := t.mbx.evtDue },
  cool := { s.cool with outHist := t.cool.outHist, ror := t.cool.ror, rorTick := t.cool.rorTick } }

theorem rorLoop_alarmOnly (s : State) :
    AlarmOnly s (rorLoop s) ∧ (rorLoop s).cool.outHist = (tOut s :: s.cool.outHist).take 100 := by
  unfold rorLoop
  dsimp only
  split
  · split
    · exact ⟨rfl, rfl⟩
    · split <;> exact ⟨rfl, rfl⟩
  · split <;> exact ⟨rfl, rfl⟩

/-- Where a cooling loop has its settings and its history, and drives fans and pumps from. -/
def loopStart (s : State) : State :=
  (rorLoop (takeStaged s)).modCool fun k => { k with
    loopDone := (tableCause s).isNone, entryDuty := k.entryDuty.map fun d => max 0 (d - fallStep (takeStaged s)) }

theorem loopStart_frame (s : State) : loopStart s = { takeStaged s with
    rcd := (loopStart s).rcd, mbx := { (takeStaged s).mbx with evtDue := (loopStart s).mbx.evtDue },
    cool := { (takeStaged s).cool with
      outHist := (tOut (takeStaged s) :: (takeStaged s).cool.outHist).take 100, ror := (loopStart s).cool.ror,
      rorTick := (loopStart s).cool.rorTick, loopDone := (tableCause s).isNone,
      entryDuty := (loopStart s).cool.entryDuty } } := by
  obtain ⟨hframe, hhist⟩ := rorLoop_alarmOnly (takeStaged s)
  rw [loopStart, ← hhist, hframe]
  rfl

theorem coolingLoop_next {s : State} (htick : s.sys.tick % 1000 = 0) (hrun : running s = true) :
    exec .coolingLoop s = .next (driveAll (fallStep (takeStaged s)) (loopStart s)) := by
  have hstart : running (loopStart s) = true := by
    rw [loopStart_frame, takeStaged_settingsOnly]
    exact hrun
  have hfall : fallStep ((rorLoop (takeStaged s)).modCool fun k => { k with loopDone := (tableCause s).isNone }) =
      fallStep (takeStaged s) := by
    rw [(rorLoop_alarmOnly (takeStaged s)).1]
    rfl
  have hready : (running (loopStart s) || (loopStart s).cool.table || overridden (loopStart s)) = true := by
    rw [hstart]
    rfl
  change execCoolingLoop s = _
  unfold execCoolingLoop
  rw [if_neg (not_not.2 htick)]
  simp only [hrun, if_true, hfall]
  exact if_pos hready

/-- What the loop leaves of the settings that it put in force. -/
structure Looped (s t : State) : Prop where
  frame : t = { takeStaged s with
    rcd := t.rcd, mbx := { (takeStaged s).mbx with evtDue := t.mbx.evtDue },
    cool := { (takeStaged s).cool with
      outHist := (tOut (takeStaged s) :: (takeStaged s).cool.outHist).take 100, ror := t.cool.ror, rorTick := t.cool.rorTick,
      loopDone := (tableCause s).isNone, entryDuty := t.cool.entryDuty, fan := t.cool.fan, pump := t.cool.pump } }
  fan : ∀ f : Fan, (t.fanAt f) = { ((takeStaged s).fanAt f) with duty := (t.fanAt f).duty }
  pump : ∀ p : Pump, (t.pumpAt p) = { ((takeStaged s).pumpAt p) with duty := (t.pumpAt p).duty }
  driven : ∀ f : Fan, (t.fanAt f) = fanDriven (fallStep (takeStaged s)) t f ((takeStaged s).fanAt f)

/-- COOLING_LOOP of firmware that runs. -/
theorem coolingLoop_row {s : State} (htick : s.sys.tick % 1000 = 0) (hrun : running s = true) :
    ∃ t, exec .coolingLoop s = .next t ∧ Looped s t := by
  have hduties : DutiesOnly (loopStart s) (driveAll (fallStep (takeStaged s)) (loopStart s)) := driveAll_dutiesOnly ..
  have hdriven := driveAll_fan (fallStep (takeStaged s)) (loopStart s)
  have hfan : (loopStart s).fanAt = (takeStaged s).fanAt := by rw [loopStart_frame]
  have hpump : (loopStart s).pumpAt = (takeStaged s).pumpAt := by rw [loopStart_frame]
  refine ⟨_, coolingLoop_next htick hrun, ?_, fun f => ?_, fun p => ?_, fun f => ?_⟩
  · rw [hduties.frame, loopStart_frame]
  · rw [hduties.fan, hfan]
  · rw [hduties.pump, hpump]
  · rw [hdriven, hfan, fanDriven, fanDriven, hduties.fanWant, hduties.slew]

/-! What one command puts in force. -/

theorem takeStaged_one {c : Cmd} {s : State} (h : s.cool.staged = [c]) :
    takeStaged s = newCooling c (s.modCool fun k => { k with staged := [] }) := by
  rw [takeStaged, h]
  rfl

/-- The maps that a command puts (12 R355, R373, R374, R380). -/
theorem newMaps_maps (fm tm : List Word) (u : BitVec 16) (s : State) :
    (∀ i : Fan, ((newMaps fm tm u s).cool.fanMap[i]'i.isLt) = fm.getD i.1 0) ∧
      (∀ i : Fin 10, ((newMaps fm tm u s).leakAt i).used = u.getLsbD i.1) ∧
      ∀ i : Fin 24, i.1 ≠ 0 → i.1 ≠ 1 → i.1 ≠ 12 → ((newMaps fm tm u s).thmAt i).map = tm.getD i.1 0 := by
  have hframe : newMaps fm tm u s = _ := (newMaps_spec fm tm u s).1
  rw [hframe]
  refine ⟨fun i => ?_, fun i => ?_, fun i h0 h1 h12 => ?_⟩
  · simp [putMaps]
  · simp only [putMaps, State.modCool_cool, Fin.getElem_fin, Vector.getElem_ofFn]
    split
    next h => exact h.symm
    next h => exact (Bool.not_eq_true _ ▸ h).symm
  · have hfree : ¬(i.1 = 0 ∨ i.1 = 1 ∨ i.1 = 12) := by tauto
    simp only [putMaps, State.modCool_cool, Fin.getElem_fin, Vector.getElem_ofFn, if_neg hfree]
    split <;> rfl

/-- The fans as the maps change. -/
theorem newMaps_fanState {fm tm : List Word} {u : BitVec 16} {s : State} (i : Fan) :
    (fldB (fm.getD i.1 0) 8 = fldB (s.cool.fanMap[i]'i.isLt) 8 → ((newMaps fm tm u s).fanAt i).state = (s.fanAt i).state) ∧
      (fldB (fm.getD i.1 0) 8 = false → fldB (s.cool.fanMap[i]'i.isLt) 8 = true → ((newMaps fm tm u s).fanAt i).state = 5) := by
  have hmap : ((putMaps fm tm u s).cool.fanMap[i]'i.isLt) = fm.getD i.1 0 := by simp [putMaps]
  rw [(newMaps_spec fm tm u s).2]
  refine ⟨fun hsame => ?_, fun hnow hold => ?_⟩
  · rw [fanRemapped_kept (by rw [hmap, hsame])]
  · rw [fanRemapped_unused (by rw [hmap, hnow]) hold]

/-- A loop that puts new maps in force. -/
theorem Looped.maps {fm tm : List Word} {u : BitVec 16} {s s' t : State} (h : Looped s t)
    (hu : takeStaged s = newMaps fm tm u s') :
    (∀ i : Fan, (t.cool.fanMap[i]'i.isLt) = fm.getD i.1 0) ∧ (∀ i : Fin 10, (t.leakAt i).used = u.getLsbD i.1) ∧
      (∀ i : Fin 24, i.1 ≠ 0 → i.1 ≠ 1 → i.1 ≠ 12 → (t.thmAt i).map = tm.getD i.1 0) ∧
      (∀ i : Fan, fldB (fm.getD i.1 0) 8 = fldB (s'.cool.fanMap[i]'i.isLt) 8 → (t.fanAt i).state = (s'.fanAt i).state) ∧
      ∀ i : Fan, fldB (fm.getD i.1 0) 8 = false → fldB (s'.cool.fanMap[i]'i.isLt) 8 = true → (t.fanAt i).state = 5 := by
  obtain ⟨hmap, hused, hthm⟩ := newMaps_maps fm tm u s'
  have hfanMap : t.cool.fanMap = (newMaps fm tm u s').cool.fanMap := by rw [h.frame, hu]
  have hleak : t.leakAt = (newMaps fm tm u s').leakAt := by rw [h.frame, hu]
  have hthms : t.thmAt = (newMaps fm tm u s').thmAt := by rw [h.frame, hu]
  have hstate : ∀ i : Fan, (t.fanAt i).state = ((newMaps fm tm u s').fanAt i).state := fun i => by rw [h.fan, hu]
  refine ⟨fun i => ?_, fun i => ?_, fun i => ?_, fun i hsame => ?_, fun i hnow hold => ?_⟩
  · rw [hfanMap, hmap]
  · rw [hleak, hused]
  · rw [hthms]
    exact hthm i
  · rw [hstate, (newMaps_fanState i).1 hsame]
  · rw [hstate, (newMaps_fanState i).2 hnow hold]

/-- A loop that puts new settings of the coolant loops in force. -/
theorem Looped.loops {l : List Word} {s s' t : State} (h : Looped s t) (hu : takeStaged s = newLoops l s') (i : Loop) :
    (t.loopAt i) = { (s'.loopAt i) with cfg := setFld (l.getD i.1 0) 30 1 (fld (s'.loopAt i).cfg 30 1) } ∧
      (fldB (l.getD i.1 0) 31 = fldB (s'.loopAt i).cfg 31 →
        (t.pumpAt (activePump s' i)).state = (s'.pumpAt (activePump s' i)).state ∧
        (t.pumpAt (otherPump s' i)).state = (s'.pumpAt (otherPump s' i)).state) := by
  have hloop : t.loopAt = (newLoops l s').loopAt := by rw [h.frame, hu]
  have hstate : ∀ p : Pump, (t.pumpAt p).state = ((newLoops l s').pumpAt p).state := fun p => by rw [h.pump, hu]
  refine ⟨by rw [hloop, newLoops_loop, loopWord], fun hsame => ⟨?_, ?_⟩⟩
  · rw [hstate, newLoops_pump hsame (activePump_loop s' i)]
  · rw [hstate, newLoops_pump hsame (otherPump_loop s' i)]

/-! The commands. -/

/-- A cooling setting waits for the next cooling loop, and for its store write (15 R448, R462). -/
theorem coolStaged_row (c : Cmd) {f : Frame} {s : State} (h : Admitted f c s) (hkey : (storeKey c).isSome)
    (hrule : applied f c none s = stageCooling c (taken f c s)) :
    ∃ t, runCommand f c none s = .next t ∧
      t = { bookkept s t with cool := { (bookkept s t).cool with staged := s.cool.staged ++ [c] } } ∧ AwaitsStore f c t := by
  obtain ⟨happlied, hwaits⟩ := settled_stored c hkey hrule
  exact ⟨_, runCommand_settled h none, settled_bookkept_of
    (g := fun u => u.modCool fun k => { k with staged := k.staged ++ [c] }) (fun _ _ => rfl) happlied, hwaits⟩

/-- Settles O17: each command by the rule that stages it; the cooling loop by the settings that it puts in force, which driving the
fans and pumps leaves but for duties. -/
theorem coolingSettingCommands : Obligations.CoolingSettingCommands := by
  unfold Obligations.CoolingSettingCommands
  refine ⟨fun f a b s h => coolStaged_row _ h rfl rfl, fun f l s h => coolStaged_row _ h rfl rfl, fun f l s h => ?_,
    fun f fm tm u s h => coolStaged_row _ h rfl rfl, fun f l s h => coolStaged_row _ h rfl rfl, fun c s hrun htick hstaged => ?_⟩
  · obtain ⟨happlied, hwaits⟩ := settled_stored (.coolSetTable l) (f := f) (s := s) rfl rfl
    exact ⟨_, runCommand_settled h none, settled_bookkept_of (fun _ _ => rfl) happlied, hwaits⟩
  · obtain ⟨t, hnext, hloop⟩ := coolingLoop_row htick hrun
    have hframe := hloop.frame
    have hu := takeStaged_settingsOnly s
    refine ⟨t, hnext, ?_, ?_, ?_, ?_, ?_, ?_, ?_, ?_⟩
    · rw [hframe, hu]
      rfl
    · rw [hframe, hu]
      rfl
    · rw [hframe, hu]
      rfl
    · rw [hframe, hu]
      rfl
    · rintro a b rfl
      rw [hframe, takeStaged_one hstaged]
      exact ⟨rfl, rfl⟩
    · rintro l rfl i
      rw [hframe, takeStaged_one hstaged]
      simp [newCooling]
    · rintro fm tm u rfl
      exact hloop.maps (s' := s.modCool fun k => { k with staged := [] }) (takeStaged_one hstaged)
    · rintro l rfl i
      exact hloop.loops (s' := s.modCool fun k => { k with staged := [] }) (takeStaged_one hstaged) i

end Sys2Proof.Machine
end

section
/-! SUPPORT. Table mode and the safety island's demands (12 R364, R368, R376), and the cooling commands that clear faults and leaks. -/

set_option Elab.async false

namespace Sys2Proof.Machine

open Sys2Proof

/-! Table mode (12 R368, R369). -/

/-- From `s` to `t` only what entering table mode writes and reports may differ, and all that waits in the merger still waits. -/
structure TableOnly (s t : State) : Prop where
  frame : t = { s with
    rcd := t.rcd, mbx := { s.mbx with evtDue := t.mbx.evtDue },
    cool := { s.cool with
      cause := t.cool.cause, table := t.cool.table, tableTick := t.cool.tableTick, loopDone := t.cool.loopDone,
      entryDuty := t.cool.entryDuty, fan := t.cool.fan, pump := t.cool.pump } }
  waits : ∀ w ∈ s.rcd.merger, w ∈ t.rcd.merger

/-- Table mode is entered with a cause: the state before everything is driven. -/
def tableEntered (c : Nat) (s : State) : State :=
  hostEvent 7 (emit (s.modCool fun k => { k with
    table := true, tableTick := s.sys.tick, cause := c, loopDone := false,
    entryDuty := Vector.ofFn fun (i : Fin 20) =>
      if h : i.1 < 16 then (k.fan[(⟨i.1, h⟩ : Fan)]'(Fin.isLt _)).duty else k.pump[(⟨i.1 - 16, by omega⟩ : Pump)].duty }) 4 8 0xFF 0x0C0C c)

theorem tableEntered_waits (c : Nat) {s : State} {w : Waiting} (hw : w ∈ s.rcd.merger) :
    w ∈ (tableEntered c s).rcd.merger := by
  unfold tableEntered
  rw [hostEvent_rcd]
  exact mem_emit (by simpa using hw) ..

theorem tableCause_of_host {s : State} (h : s.cool.hostTable = true) : tableCause s ≠ none := by
  unfold tableCause
  rw [h]
  split
  · simp
  · split
    · simp
    · split <;> simp

theorem tableCheck_unstarted {s : State} (h : s.saf.started = false) : tableCheck s = s := by
  rw [tableCheck, h]
  rfl

theorem tableCheck_noCause {s : State} (h : tableCause s = none) : tableCheck s = s := by
  rw [tableCheck, h]
  simp

theorem tableCheck_enters {s : State} {c : Nat} (hstarted : s.saf.started = true) (hcause : tableCause s = some c)
    (htable : s.cool.table = false) : tableCheck s = driveAll 0 (tableEntered c s) := by
  rw [tableCheck, hstarted, hcause]
  simp only [Bool.not_true, Bool.false_eq_true, if_false, htable]
  rfl

/-- In table mode already, only the cause that is reported may change. -/
theorem tableCheck_in_table {s : State} (h : s.cool.table = true) :
    tableCheck s = s ∨ ∃ c, tableCheck s = s.modCool fun k => { k with cause := c } := by
  unfold tableCheck
  split
  · exact .inl rfl
  · split
    · exact .inl rfl
    · split
      · exact .inr ⟨_, rfl⟩
      · exact .inl rfl

theorem driveEntered_tableOnly (c : Nat) (s : State) : TableOnly s (driveAll 0 (tableEntered c s)) := by
  have hduties := driveAll_dutiesOnly 0 (tableEntered c s)
  generalize driveAll 0 (tableEntered c s) = t at hduties
  refine ⟨?_, fun w hw => ?_⟩
  · rw [hduties.frame]
    rfl
  · rw [hduties.frame]
    exact tableEntered_waits c hw

theorem tableCheck_tableOnly (s : State) : TableOnly s (tableCheck s) := by
  have hrefl : TableOnly s s := ⟨rfl, fun _ hw => hw⟩
  cases hstarted : s.saf.started with
  | false => rwa [tableCheck_unstarted hstarted]
  | true =>
    cases hcause : tableCause s with
    | none => rwa [tableCheck_noCause hcause]
    | some c =>
      cases htable : s.cool.table with
      | false =>
        rw [tableCheck_enters hstarted hcause htable]
        exact driveEntered_tableOnly c s
      | true =>
        rcases tableCheck_in_table htable with heq | ⟨d, heq⟩
        · rwa [heq]
        · rw [heq]
          exact ⟨rfl, fun _ hw => hw⟩

/-- Table mode lasts, and starts with a cause while the safety island runs. -/
theorem tableCheck_table (s : State) :
    (s.cool.table = true → (tableCheck s).cool.table = true) ∧
      (s.saf.started = true → tableCause s ≠ none → (tableCheck s).cool.table = true) := by
  have hkept : s.cool.table = true → (tableCheck s).cool.table = true := fun htable => by
    rcases tableCheck_in_table htable with heq | ⟨d, heq⟩ <;> rw [heq] <;> exact htable
  refine ⟨hkept, fun hstarted hcause => ?_⟩
  obtain ⟨c, hc⟩ := Option.ne_none_iff_exists'.1 hcause
  cases htable : s.cool.table with
  | false =>
    rw [tableCheck_enters hstarted hc htable, (driveAll_dutiesOnly 0 (tableEntered c s)).frame]
    rfl
  | true => exact hkept htable

/-! The demands of the safety island (12 R364, R376; 17 R516). -/

/-- One accelerator's demand. -/
def islandForceOne (n : Acc) (s : State) : State :=
  s.setAcc n fun a => { a with forceSaf := s.saf.safe || flowLostFor s n || zoneWet s n }

theorem islandForce_eq (s : State) : islandForce s = forAll accList islandForceOne s := rfl

/-- From `s` to `t` only pins of the accelerators may differ. -/
def PinsOnly (s t : State) : Prop := t = { s with acc := t.acc }

theorem islandForceOne_pinsOnly (n : Acc) {s t : State} (h : PinsOnly s t) : PinsOnly s (islandForceOne n t) := by
  unfold PinsOnly at h ⊢
  rw [h]
  rfl

theorem islandForce_pinsOnly (s : State) : PinsOnly s (islandForce s) :=
  forAll_inv (PinsOnly s) _ _ (fun n _ ht => islandForceOne_pinsOnly n ht) s rfl

/-- Each accelerator's demand of the safety island. -/
theorem islandForce_acc (s : State) (n : Acc) : ((islandForce s).accAt n) =
    { (s.accAt n) with forceSaf := s.saf.safe || flowLostFor s n || zoneWet s n } := by
  rw [islandForce_eq, accList]
  refine forAll_finRange_each (p := PinsOnly s) (view := fun t (n : Acc) => (t.accAt n))
    (g := fun n a => { a with forceSaf := s.saf.safe || flowLostFor s n || zoneWet s n })
    (fun m t ht => islandForceOne_pinsOnly m ht) (fun m t k ht => ?_) n rfl
  have hsafe : t.saf.safe = s.saf.safe := by rw [ht]
  have hlost : flowLostFor t m = flowLostFor s m := by rw [ht]; rfl
  have hwet : zoneWet t m = zoneWet s m := by rw [ht]; rfl
  rw [islandForceOne, State.accAt_setAcc, hsafe, hlost, hwet]

/-! The commands. -/

/-- A command that moves the cooling block, and pins of the accelerators, leaves besides only its traces. -/
theorem settled_bookkept_coolAcc {f : Frame} {c : Cmd} {bus : Option TransferEnd} {s : State} {k : CoolState}
    {a : Vector AccState 8} (h : (applied f c bus s).1 = { taken f c s with cool := k, acc := a }) :
    settled f c bus s = { bookkept s (settled f c bus s) with cool := (settled f c bus s).cool, acc := a } := by
  have hold := settled_bookkept_applied f c bus s
  rw [h] at hold
  calc settled f c bus s
      = { settled f c bus s with cool := (settled f c bus s).cool } := rfl
    _ = { bookkept { taken f c s with cool := k, acc := a } (settled f c bus s) with cool := (settled f c bus s).cool } :=
        congrArg (fun t : State => { t with cool := (settled f c bus s).cool }) hold
    _ = { bookkept (taken f c s) (settled f c bus s) with cool := (settled f c bus s).cool, acc := a } := rfl
    _ = { bookkept s (settled f c bus s) with cool := (settled f c bus s).cool, acc := a } := by rw [bookkept_taken]

theorem settled_bookkept_cool {f : Frame} {c : Cmd} {bus : Option TransferEnd} {s : State} {k : CoolState}
    (h : (applied f c bus s).1 = { taken f c s with cool := k }) :
    settled f c bus s = { bookkept s (settled f c bus s) with cool := (settled f c bus s).cool } := by
  have hacc : (taken f c s).acc = s.acc := taken_acc f c s
  have hall := settled_bookkept_coolAcc (a := (taken f c s).acc) h
  rwa [hacc] at hall

/-- Pumps named failed whose loop flows are in reserve again (12 R363). -/
def pumpsCleared (b : Byte) (s : State) : State :=
  forAll ((List.finRange 4).filter fun (p : Pump) => b.getLsbD p.1) (fun p s => s.setPump p fun _ => { state := 3 }) s

theorem applyClearPumps_done {b : Byte} {s : State} (h : ∀ p : Pump, b.getLsbD p.1 = true →
    (s.pumpAt p).state = 4 ∧ (s.loopAt (⟨p.1 / 2, by omega⟩ : Loop)).okSince ≠ none) :
    applyClearPumps b s = done (pumpsCleared b s) := by
  have hnone : (((List.finRange 4).filter fun (p : Pump) => b.getLsbD p.1).find? fun p =>
      (s.pumpAt p).state ≠ 4 ∨ (s.loopAt (⟨p.1 / 2, by omega⟩ : Loop)).okSince.isNone) = none := by
    rw [List.find?_eq_none]
    intro p hp
    obtain ⟨hstate, hflow⟩ := h p (List.mem_filter.1 hp).2
    simpa using ⟨hstate, hflow⟩
  unfold applyClearPumps
  simp only [hnone]
  rfl

theorem pumpsCleared_frame (b : Byte) (s : State) :
    pumpsCleared b s = { s with cool := { s.cool with pump := (pumpsCleared b s).cool.pump } } := by
  refine forAll_inv (fun t : State => t = { s with cool := { s.cool with pump := t.cool.pump } }) _ _ (fun p t ht => ?_) s rfl
  rw [ht]
  rfl

theorem pumpsCleared_pump (b : Byte) (s : State) (p : Pump) :
    ((pumpsCleared b s).pumpAt p) = if b.getLsbD p.1 then { state := 3 } else (s.pumpAt p) := by
  have heach := forAll_each (l := (List.finRange 4).filter fun (p : Pump) => b.getLsbD p.1) (p := fun _ => True)
    (view := fun t (p : Pump) => (t.pumpAt p)) (g := fun _ _ => { state := 3 })
    (f := fun p s => s.setPump p fun _ => { state := 3 }) (fun _ _ _ => trivial)
    (fun m t n _ => State.pumpAt_setPump ..) ((List.nodup_finRange 4).filter _) p (s := s) trivial
  simpa [pumpsCleared] using heach

/-- The wet latch of a zone that read dry is cleared, and the island's demands follow (12 R376, R378). -/
theorem applyClearLeak_done {z : Fin 10} {s : State} (h : 201 ≤ (s.leakAt z).dryRun) :
    applyClearLeak z s = done (islandForce (s.setLeak z fun x => { x with latch := false })) := if_neg (Nat.not_lt.2 h)

/-- The other zones stay wet as they were. -/
theorem zoneWet_cleared (z : Fin 10) (s : State) (n : Acc) :
    zoneWet (s.setLeak z fun x => { x with latch := false }) n = (decide (n.1 ≠ z.1) && zoneWet s n) := by
  have hz : (⟨n.1, by omega⟩ : Fin 10) = z ↔ n.1 = z.1 := Fin.ext_iff
  unfold zoneWet
  simp only [State.setLeak_cool, getElem_set_ite, hz]
  by_cases h : n.1 = z.1 <;> simp [h]

/-- Settles O18: each command by the rule that applies it, on the state in which it is taken. -/
theorem coolingClearingCommands : Obligations.CoolingClearingCommands := by
  unfold Obligations.CoolingClearingCommands
  refine ⟨fun f b s h hpumps => ?_, fun f b z s h hb hdry => ?_, fun f m s h => ?_⟩
  · have hrule : applied f (.coolClearFault b) none s = done (pumpsCleared b (taken f (.coolClearFault b) s)) :=
      applyClearPumps_done (by simpa using hpumps)
    obtain ⟨happlied, hans⟩ := settled_done (.coolClearFault b) rfl hrule
    have hframe := pumpsCleared_frame b (taken f (.coolClearFault b) s)
    have hcool := settled_cool f (.coolClearFault b) none s
    rw [happlied] at hcool
    refine ⟨_, runCommand_settled h none, ?_, fun p => ?_, ?_, ?_, hans⟩
    · exact settled_bookkept_cool (happlied.trans hframe)
    · rw [hcool]
      exact (pumpsCleared_pump b _ p).trans (by rw [State.pumpAt, taken_cool])
    · rw [hcool, hframe, taken_cool]
    · rw [hcool, hframe, taken_cool]
  · have htaken : 201 ≤ ((taken f (.coolClearLeak b) s).leakAt z).dryRun := by rwa [State.leakAt, taken_cool]
    have hbyte : b.toNat < 10 := hb ▸ z.2
    have hz : (⟨b.toNat, hbyte⟩ : Fin 10) = z := Fin.ext hb
    have hrule : applied f (.coolClearLeak b) none s =
        done (islandForce ((taken f (.coolClearLeak b) s).setLeak z fun x => { x with latch := false })) := by
      refine (dif_pos hbyte).trans ?_
      rw [hz]
      exact applyClearLeak_done htaken
    obtain ⟨happlied, hans⟩ := settled_done (.coolClearLeak b) rfl hrule
    have hframe : islandForce ((taken f (.coolClearLeak b) s).setLeak z fun x => { x with latch := false }) = _ :=
      islandForce_pinsOnly _
    have hcool := settled_cool f (.coolClearLeak b) none s
    rw [happlied, hframe] at hcool
    have hacc : (settled f (.coolClearLeak b) none s).acc = _ := (settled_acc ..).trans (congrArg State.acc happlied)
    refine ⟨_, runCommand_settled h none, ?_, ?_, fun n => ?_, hans⟩
    · rw [hacc]
      exact settled_bookkept_coolAcc (happlied.trans hframe)
    · rw [hcool]
      simp
    · rw [hacc]
      refine (islandForce_acc ..).trans ?_
      rw [zoneWet_cleared, taken_frame]
      rfl
  · have hrule : applied f (.coolSetMode m) none s =
        done (tableCheck ((taken f (.coolSetMode m) s).modCool fun k => { k with hostTable := decide (m = 1) })) := rfl
    obtain ⟨happlied, hans⟩ := settled_done (.coolSetMode m) rfl hrule
    generalize hu : (taken f (.coolSetMode m) s).modCool (fun k => { k with hostTable := decide (m = 1) }) = u at happlied
    obtain ⟨hkept, henters⟩ := tableCheck_table u
    have hframe := (tableCheck_tableOnly u).frame
    have hcool := settled_cool f (.coolSetMode m) none s
    rw [happlied] at hcool
    have htable : (settled f (.coolSetMode m) none s).cool.table = (tableCheck u).cool.table := by rw [hcool]
    have hold : u.cool.table = s.cool.table := by rw [← hu]; simp
    refine ⟨_, runCommand_settled h none, ?_, fun ht => ?_, fun hm hstarted => ?_, fun hm ht hcause => ?_, ?_, ?_, hans⟩
    · rw [hcool, hframe, ← hu]
      rfl
    · rw [htable]
      exact hkept (hold.trans ht)
    · rw [htable]
      refine henters ?_ ?_
      · rw [← hu]
        simpa using hstarted
      · refine tableCause_of_host ?_
        rw [← hu]
        simp [hm]
    · have hnone : tableCause u = none := by
        rw [← hcause, ← hu, hm, taken_frame]
        rfl
      rw [htable, tableCheck_noCause hnone, hold, ht]
    · rw [settled_crz, happlied, hframe, ← hu]
      exact taken_crz ..
    · rw [settled_acc, happlied, hframe, ← hu]
      exact taken_acc ..

end Sys2Proof.Machine
end

section
/-! SUPPORT. Fans and pumps (12 R354 to R363): kicks, stalls, tach faults and the switch to the other pump. -/

set_option Elab.async false

namespace Sys2Proof.Machine

open Sys2Proof

/-! Fans (12 R358 to R360). -/

theorem tableCause_of_settings {s t : State} (h : SettingsOnly s t) : tableCause t = tableCause s := by
  rw [h]
  rfl

theorem fallStep_nonneg (s : State) : 0 ≤ fallStep s := div_nonneg (Nat.cast_nonneg _) (by decide)

/-- The loop of firmware that runs (12 R354, R356, R362). -/
theorem coolingLoop_drives {s : State} (htick : s.sys.tick % 1000 = 0) (hrun : running s = true) :
    let u := takeStaged s
    ∃ t, exec .coolingLoop s = .next t ∧ t.cool.staged = [] ∧
      t = { s with rcd := t.rcd, cool := t.cool, mbx := { s.mbx with evtDue := t.mbx.evtDue } } ∧
      t.cool.outHist = (tOut u :: s.cool.outHist).take 100 ∧ t.cool.loopDone = (tableCause u).isNone ∧
      t.cool.table = s.cool.table ∧
      ∀ f : Fan, (t.fanAt f).state = (u.fanAt f).state ∧
        (((u.fanAt f).state = 2 ∨ (u.fanAt f).state = 3 ∨ (u.fanAt f).state = 4) →
          (t.fanAt f).duty = slew t (u.fanAt f).duty (fanWant t f) (fallStep u) ∧
          (u.cool.table = false → overridden u = false → (u.fanAt f).duty - fallStep u ≤ (t.fanAt f).duty)) := by
  intro u
  have hu : SettingsOnly (s.modCool fun k => { k with staged := [] }) u := takeStaged_settingsOnly s
  obtain ⟨t, hnext, hframe, hfan, -, hdriven⟩ := coolingLoop_row htick hrun
  have htable : t.cool.table = u.cool.table := by rw [hframe]
  have hover : overridden t = overridden u := by rw [hframe]; rfl
  refine ⟨t, hnext, ?_, ?_, ?_, ?_, ?_, fun f => ⟨?_, fun hruns => ?_⟩⟩
  · rw [hframe]
    change u.cool.staged = []
    rw [hu]
    rfl
  · have hcool : u = { s with cool := u.cool } := by rw [hu]; rfl
    calc t = { u with rcd := t.rcd, cool := t.cool, mbx := { u.mbx with evtDue := t.mbx.evtDue } } := by rw [hframe]
      _ = { s with rcd := t.rcd, cool := t.cool, mbx := { s.mbx with evtDue := t.mbx.evtDue } } := by rw [hcool]
  · rw [hframe]
    change (tOut u :: u.cool.outHist).take 100 = _
    rw [hu]
    rfl
  · rw [hframe]
    change (tableCause s).isNone = _
    rw [tableCause_of_settings hu]
    rfl
  · rw [htable, hu]
    rfl
  · rw [hfan]
  · have hduty : (t.fanAt f).duty = slew t (u.fanAt f).duty (fanWant t f) (fallStep u) := by
      conv_lhs => rw [hdriven, fanDriven, if_pos (by tauto)]
    refine ⟨hduty, fun hnotable hnone => ?_⟩
    rw [hduty, slew, htable, hnotable, hover, hnone]
    simp only [Bool.or_false, decide_eq_true_eq]
    split
    · exact (sub_le_self _ (fallStep_nonneg u)).trans ‹_›
    · exact le_max_right ..

/-- FAN_GROUP_KICK (12 R358): the fans of the group that are used are kicked, the others are off. -/
def groupKicked (s : State) (f : Fan) (x : FanState) : FanState :=
  if fanUsed s f then { x with state := 1, duty := 100, tick := s.sys.tick, tach := {} } else { state := 5 }

/-- One fan of the group. -/
def kickUsed (f : Fan) (s : State) : State := if fanUsed s f then kickFan f s else s.setFan f fun _ => { state := 5 }

theorem kickUsed_fansOnly (f : Fan) {s t : State} (h : FansOnly s t) : FansOnly s (kickUsed f t) := by
  unfold kickUsed
  split <;> exact h.setFan ..

theorem kickUsed_fan {s t : State} (h : FansOnly s t) (m n : Fan) :
    ((kickUsed m t).fanAt n) = if n = m then groupKicked s m (t.fanAt m) else (t.fanAt n) := by
  have hused : fanUsed t m = fanUsed s m := by rw [h]; rfl
  have htick : t.sys.tick = s.sys.tick := by rw [h]
  unfold kickUsed groupKicked
  rw [hused]
  split
  · rw [kickFan, State.fanAt_setFan, htick]
  · exact State.fanAt_setFan ..

theorem fanGroupKick_row {g : Fin 5} {x : Nat} {s : State} (hfan12 : s.cool.fanTick = some x) (hturn : s.cool.kicked = g.1)
    (hg : g.1 < 4) (htick : x + 10000 * g.1 ≤ s.sys.tick) :
    ∃ t, exec (.fanGroupKick g) s = .next t ∧ t.cool.kicked = g.1 + 1 ∧
      t = { s with cool := { s.cool with fan := t.cool.fan, kicked := t.cool.kicked } } ∧
      ∀ f : Fan, (t.fanAt f) = if f.1 / 4 = g.1 then groupKicked s f (s.fanAt f) else (s.fanAt f) := by
  let u := s.modCool fun k => { k with kicked := g.1 + 1 }
  have hnext : exec (.fanGroupKick g) s =
      .next (forAll ((List.finRange 16).filter fun f => f.1 / 4 == g.1) kickUsed u) := by
    change execFanGroupKick g s = _
    unfold execFanGroupKick
    rw [hfan12]
    exact if_neg (by omega)
  have honly : FansOnly u (forAll ((List.finRange 16).filter fun f => f.1 / 4 == g.1) kickUsed u) :=
    forAll_inv (FansOnly u) _ _ (fun f t ht => kickUsed_fansOnly f ht) _ (.refl u)
  have heach := fun f => forAll_each (p := FansOnly u) (view := fun t (f : Fan) => (t.fanAt f)) (g := groupKicked u)
    (fun m t ht => kickUsed_fansOnly m ht) (fun m t n ht => kickUsed_fan ht m n)
    ((List.nodup_finRange 16).filter fun f => f.1 / 4 == g.1) f (.refl u)
  refine ⟨_, hnext, ?_, ?_, fun f => (heach f).trans ?_⟩
  · rw [honly]
    rfl
  · rw [honly]
    rfl
  · simp only [List.mem_filter, List.mem_finRange, true_and, beq_iff_eq]
    rfl

/-- FAN_KICK_DONE (12 R358, R360). -/
theorem fanKickDone_row {f : Fan} {s : State} (hkick : (s.fanAt f).state = 1) (hedges : 2 ≤ (s.fanAt f).tach.edges) :
    ∃ t, exec (.fanKickDone f) s = .next t ∧ (t.fanAt f).state = 2 ∧ (t.fanAt f).stalled = false ∧
      (t.fanAt f).rpm = (s.fanAt f).rpm ∧ (t.fanAt f).duty = fanWant t f ∧
      ((s.fanAt f).stalled = true → Raised t 4 8 f.1 0x0C03 ((s.fanAt f).rpm % 65536)) ∧
      t = { s with rcd := t.rcd, cool := { s.cool with fan := s.cool.fan.set f (t.fanAt f) f.isLt } } := by
  let v := if (s.fanAt f).stalled then emit s 4 8 f.1 0x0C03 (s.fanAt f).rpm else s
  let u := v.setFan f fun x => { x with state := 2, stalled := false }
  have hnext : exec (.fanKickDone f) s = .next (u.setFan f fun x => { x with duty := fanWant u f }) :=
    if_neg fun h => h.elim (· hkick) (Nat.not_lt.2 hedges)
  have hduties := DutiesOnly.setFan f (fun _ => fanWant u f) u
  have hcool : v.cool = s.cool := by
    simp only [v]
    split <;> rfl
  have hframe : v = { s with rcd := v.rcd } := by
    simp only [v]
    split <;> rfl
  refine ⟨_, hnext, ?_, ?_, ?_, ?_, fun hstalled => ?_, ?_⟩
  · simp [u]
  · simp [u]
  · simp [u, hcool]
  · rw [hduties.fanWant]
    simp
  · have hv : v = emit s 4 8 f.1 0x0C03 (s.fanAt f).rpm := if_pos hstalled
    exact (raised_emit_mod s 4 8 f.1 0x0C03 _).mono (by rw [State.setFan_sys, State.setFan_sys, hv, emit_sys])
      fun w hw => by rwa [State.setFan_rcd, State.setFan_rcd, hv]
  · obtain ⟨r, hr⟩ : ∃ r, v = { s with rcd := r } := ⟨_, hframe⟩
    simp [u, hr, State.setFan]

/-- A stalled fan, with what it leaves of the rest (12 R358, R359). -/
theorem stallFan_spec (f : Fan) (d : Nat) (hd : d < 65536) (s : State) :
    ((stallFan f d s).fanAt f).state = 3 ∧ ((stallFan f d s).fanAt f).stalled = true ∧
      ((stallFan f d s).fanAt f).tick = s.sys.tick ∧ Raised (stallFan f d s) 4 8 f.1 0x0C02 d ∧
      stallFan f d s = { s with rcd := (stallFan f d s).rcd,
                                cool := { s.cool with fan := (stallFan f d s).cool.fan, pump := (stallFan f d s).cool.pump } } := by
  let u := emit (s.setFan f fun x => { x with state := 3, stalled := true, tick := s.sys.tick }) 4 8 f.1 0x0C02 d
  have hduties : DutiesOnly u (stallFan f d s) := driveAll_dutiesOnly 0 u
  have hfan : (u.fanAt f) = { (s.fanAt f) with state := 3, stalled := true, tick := s.sys.tick } := by simp [u]
  have hraised : Raised u 4 8 f.1 0x0C02 d := raised_emit _ 4 8 f.1 0x0C02 d hd
  refine ⟨?_, ?_, ?_, hraised.mono ?_ fun w hw => ?_, ?_⟩
  · rw [hduties.fan, hfan]
  · rw [hduties.fan, hfan]
  · rw [hduties.fan, hfan]
  · rw [hduties.frame]
  · rwa [hduties.frame]
  · generalize stallFan f d s = t at hduties
    rw [hduties.frame]
    rfl

/-- The rows that declare a stall (12 R358, R359). -/
theorem stall_row {i : Instr} {f : Fan} {d : Nat} {s : State}
    (h : (i = .fanKickTimeout f ∧ d = 1 ∧ (s.fanAt f).state = 1 ∧ (s.fanAt f).stalled = false ∧
        (s.fanAt f).tach.edges < 2 ∧ (s.fanAt f).tick + 500000 ≤ s.sys.tick) ∨
      (i = .fanTachLoss f ∧ d = 2 ∧ (s.fanAt f).state = 2 ∧ 20 ≤ (s.fanAt f).duty ∧
        tachLost s.sys.tick (s.fanAt f).tach = true ∧
        (fldB s.cool.cfg 0 = false ∨ (s.portAt (8 : Port)).stuck = true)) ∨
      (i = .fanSlow f ∧ d = 3 ∧ (s.fanAt f).state = 2 ∧ 20 ≤ (s.fanAt f).duty ∧ (s.fanAt f).rpm < 1000 ∧
        ∃ x, (s.fanAt f).tach.slowSince = some x ∧ x + 300000 ≤ s.sys.tick)) :
    exec i s = .next (stallFan f d s) ∧ d < 65536 := by
  rcases h with ⟨rfl, rfl, hkick, hnew, hedges, hdue⟩ | ⟨rfl, rfl, hruns, hduty, hlost, hblind⟩ |
    ⟨rfl, rfl, hruns, hduty, hslow, x, hx, hdue⟩
  · refine ⟨?_, by decide⟩
    change execFanKickTimeout f s = _
    unfold execFanKickTimeout
    dsimp only
    rw [if_neg fun h => h.elim (· hkick) (Or.rec (Nat.not_le.2 hedges) (Nat.not_lt.2 hdue)), hnew]
    rfl
  · refine ⟨?_, by decide⟩
    have hmonitored : (fldB s.cool.cfg 0 && !(s.portAt (8 : Fin 11)).stuck && !currentFell s f) = false := by
      rcases hblind with hoff | hstuck
      · rw [hoff]
        rfl
      · rw [hstuck]
        simp
    change execFanTachLoss f s = _
    unfold execFanTachLoss
    dsimp only
    rw [if_neg (by simp only [ne_eq, not_or, not_not, not_lt, Bool.not_eq_true', Bool.not_eq_false]; exact ⟨hruns, hduty, hlost⟩), hmonitored]
    rfl
  · refine ⟨?_, by decide⟩
    change execFanSlow f s = _
    unfold execFanSlow
    dsimp only
    rw [hx]
    refine if_neg ?_
    simp only [ne_eq, not_or, not_not, not_lt, not_le, decide_eq_true hdue, Bool.not_true, Bool.false_eq_true, not_false_iff,
      and_true]
    exact ⟨hruns, hduty, hslow⟩

/-- FAN_TACH_LOSS where the current of the group decides (12 R359). -/
theorem fanTachLoss_monitored {f : Fan} {s : State} (hruns : (s.fanAt f).state = 2) (hduty : 20 ≤ (s.fanAt f).duty)
    (hon : fldB s.cool.cfg 0 = true) (hfree : (s.portAt (8 : Port)).stuck = false)
    (hlost : tachLost s.sys.tick (s.fanAt f).tach = true) :
    exec (.fanTachLoss f) s = .next (if currentFell s f then stallFan f 2 s
      else emit (s.setFan f fun x => { x with state := 4 }) 4 8 f.1 0x0C04 1) := by
  change execFanTachLoss f s = _
  unfold execFanTachLoss
  dsimp only
  rw [if_neg (by simp only [ne_eq, not_or, not_not, not_lt, Bool.not_eq_true', Bool.not_eq_false]; exact ⟨hruns, hduty, hlost⟩), hon, hfree]
  cases currentFell s f <;> rfl

theorem fanTachLoss_row {f : Fan} {g : Fin 4} {now old k : Nat} {s : State} (hruns : (s.fanAt f).state = 2)
    (hduty : 20 ≤ (s.fanAt f).duty) (hon : fldB s.cool.cfg 0 = true) (hfree : (s.portAt (8 : Port)).stuck = false)
    (hg : g.1 = f.1 / 4) (hlost : tachLost s.sys.tick (s.fanAt f).tach = true)
    (hnow : now = (((s.cool.groupCur[g]'g.isLt).head?).map (·.2)).getD 0)
    (hold : old = groupBefore (s.cool.groupCur[g]'g.isLt) ((s.fanAt f).tach.edge.getD 0)) (hk : k = groupRunning s g) :
    ∃ t, exec (.fanTachLoss f) s = .next t ∧
      (old ≤ 2 * k * (old - now) → (t.fanAt f).state = 3 ∧ (t.fanAt f).stalled = true ∧ Raised t 4 8 f.1 0x0C02 2) ∧
      (2 * k * (old - now) < old → (t.fanAt f) = { (s.fanAt f) with state := 4 } ∧ Raised t 4 8 f.1 0x0C04 1) := by
  obtain rfl : g = ⟨f.1 / 4, Nat.div_lt_of_lt_mul f.2⟩ := Fin.ext hg
  have hfell : currentFell s f = decide (old ≤ 2 * k * (old - now)) := by
    rw [hnow, hold, hk]
    rfl
  refine ⟨_, fanTachLoss_monitored hruns hduty hon hfree hlost, fun hle => ?_, fun hlt => ?_⟩
  · rw [hfell, decide_eq_true hle, if_pos rfl]
    obtain ⟨hstate, hstalled, -, hraised, -⟩ := stallFan_spec f 2 (by decide) s
    exact ⟨hstate, hstalled, hraised⟩
  · rw [hfell, decide_eq_false (by omega), if_neg Bool.false_ne_true]
    exact ⟨by simp, raised_emit_mod _ 4 8 f.1 0x0C04 1⟩

theorem tachFaultClear_row {f : Fan} {x : Nat} {s : State} (hfault : (s.fanAt f).state = 4)
    (hrun : (s.fanAt f).tach.runSince = some x) (hdue : x + 1000000 ≤ s.sys.tick) :
    ∃ t, exec (.tachFaultClear f) s = .next t ∧ Raised t 4 8 f.1 0x0C04 0 ∧
      t = { s with rcd := t.rcd, cool := { s.cool with fan := s.cool.fan.set f { (s.fanAt f) with state := 2 } f.isLt } } := by
  refine ⟨emit (s.setFan f fun x => { x with state := 2 }) 4 8 f.1 0x0C04 0, ?_, raised_emit_mod _ 4 8 f.1 0x0C04 0, rfl⟩
  change execTachFaultClear f s = _
  unfold execTachFaultClear
  rw [hrun]
  refine if_neg ?_
  simp only [ne_eq, not_or, not_not, decide_eq_true hdue, Bool.not_true, Bool.false_eq_true, not_false_iff, and_true]
  exact hfault

theorem fanRekick_row {f : Fan} {s : State} (hstalled : (s.fanAt f).state = 3)
    (hdue : (s.fanAt f).tick + 3000000 ≤ s.sys.tick) : exec (.fanRekick f) s = .next (kickFan f s) :=
  if_neg fun h => h.elim (· hstalled) (Nat.not_lt.2 hdue)

/-! Pumps (12 R362, R363). -/

theorem pumpKickDone_row {p : Pump} {l : Loop} {s : State} (hkick : (s.pumpAt p).state = 1)
    (hedges : 2 ≤ (s.pumpAt p).tach.edges) (hl : l.1 = p.1 / 2) :
    ∃ t, exec (.pumpKickDone p) s = .next t ∧ (t.pumpAt p).state = 2 ∧ (t.pumpAt p).duty = pumpWant t l ∧
      t = { s with cool := { s.cool with pump := s.cool.pump.set p (t.pumpAt p) p.isLt,
                                         loop := s.cool.loop.set l (t.loopAt l) l.isLt } } := by
  obtain rfl : l = ⟨p.1 / 2, Nat.div_lt_of_lt_mul p.2⟩ := Fin.ext hl
  let u := (s.setPump p fun x => { x with state := 2 }).setLoop ⟨p.1 / 2, Nat.div_lt_of_lt_mul p.2⟩ fun q => { q with
    lowSince := if q.switched.isSome then q.lowSince else none }
  have hnext : exec (.pumpKickDone p) s = .next (u.setPump p fun x => { x with duty := pumpWant u ⟨p.1 / 2, Nat.div_lt_of_lt_mul p.2⟩ }) :=
    if_neg fun h => h.elim (· hkick) (Nat.not_lt.2 hedges)
  have hduties := DutiesOnly.setPump p (fun _ => pumpWant u ⟨p.1 / 2, Nat.div_lt_of_lt_mul p.2⟩) u
  refine ⟨_, hnext, ?_, ?_, ?_⟩
  · simp [u]
  · rw [hduties.pumpWant]
    simp
  · simp [u, State.setPump, State.setLoop]

theorem otherPump_ne_activePump (s : State) (l : Loop) : otherPump s l ≠ activePump s l := by
  have h : fld (s.loopAt l).cfg 30 1 < 2 := Nat.mod_lt _ (by decide)
  intro he
  have hval : 2 * l.1 + (1 - fld (s.loopAt l).cfg 30 1) = 2 * l.1 + fld (s.loopAt l).cfg 30 1 := congrArg Fin.val he
  omega

/-- The switch of a loop whose second pump has not failed (12 R363). -/
theorem switchPump_spec {l : Loop} (d : Nat) {s : State} (hother : (s.pumpAt (otherPump s l)).state ≠ 4) (hd : d < 65536) :
    let t := switchPump l d s
    activePump t l = otherPump s l ∧ (t.pumpAt (activePump s l)).state = 4 ∧
      (t.pumpAt (activePump s l)).duty = 0 ∧ (t.pumpAt (otherPump s l)).state = 1 ∧
      (t.pumpAt (otherPump s l)).duty = 100 ∧ (t.loopAt l).switched = some s.sys.tick ∧
      Raised t 4 8 (activePump s l).1 0x0C05 d ∧
      t = { s with rcd := t.rcd, cool := { s.cool with pump := t.cool.pump, loop := t.cool.loop } } := by
  have hne := otherPump_ne_activePump s l
  let x := kickPump (otherPump s l) (s.setPump (activePump s l) fun x => { x with state := 4, duty := 0 })
  let u := x.setLoop l fun p => { p with
    cfg := setFld p.cfg 30 1 (1 - fld p.cfg 30 1), switched := some s.sys.tick, okSince := none }
  have hswitch : switchPump l d s = emit u 4 8 (activePump s l).1 0x0C05 d := if_neg hother
  have hpump : ∀ p : Pump, (u.pumpAt p) = if p = otherPump s l
      then { (s.pumpAt (otherPump s l)) with state := 1, duty := 100, tick := s.sys.tick, tach := {} }
      else if p = activePump s l then { (s.pumpAt p) with state := 4, duty := 0 } else (s.pumpAt p) := fun p => by
    change x.pumpAt p = _
    simp only [x, kickPump, State.pumpAt_setPump, State.setPump_sys, if_neg hne]
    split
    · rfl
    · split
      next he => rw [he]
      next => rfl
  have hloop : (u.loopAt l) = { (s.loopAt l) with
      cfg := setFld (s.loopAt l).cfg 30 1 (1 - fld (s.loopAt l).cfg 30 1), switched := some s.sys.tick, okSince := none } := by
    simp [u, x, kickPump]
  have hframe : u = { s with cool := { s.cool with pump := u.cool.pump, loop := u.cool.loop } } := rfl
  clear_value u
  intro t
  have ht : t = emit u 4 8 (activePump s l).1 0x0C05 d := hswitch
  have hpumps : t.pumpAt = u.pumpAt := by rw [ht]; rfl
  have hloops : t.loopAt = u.loopAt := by rw [ht]; rfl
  refine ⟨Fin.ext ?_, ?_, ?_, ?_, ?_, ?_, ?_, ?_⟩
  · change 2 * l.1 + fld (t.loopAt l).cfg 30 1 = 2 * l.1 + (1 - fld (s.loopAt l).cfg 30 1)
    rw [hloops, hloop, fld_setFld_same (by decide)]
    omega
  · rw [hpumps, hpump, if_neg hne.symm, if_pos rfl]
  · rw [hpumps, hpump, if_neg hne.symm, if_pos rfl]
  · rw [hpumps, hpump, if_pos rfl]
  · rw [hpumps, hpump, if_pos rfl]
  · rw [hloops, hloop]
  · rw [ht]
    exact raised_emit _ 4 8 _ 0x0C05 d hd
  · rw [ht, hframe]
    rfl

/-- The rows that hand over to the second pump (12 R363). -/
theorem handover_row {i : Instr} {l : Loop} {d : Nat} {s : State} (hused : loopUsed s l = true)
    (h : (i = .flowLow l ∧ d = 1 ∧ flowLow s l = true ∧ (s.pumpAt (activePump s l)).state = 2 ∧
        (s.loopAt l).switched = none) ∨
      (i = .pumpTachLoss l ∧ d = 2 ∧ (((s.pumpAt (activePump s l)).state = 2 ∧ 0 < (s.pumpAt (activePump s l)).duty ∧
          tachLost s.sys.tick (s.pumpAt (activePump s l)).tach = true) ∨
        ((s.pumpAt (activePump s l)).state = 1 ∧ (s.pumpAt (activePump s l)).tach.edges < 2 ∧
          (s.pumpAt (activePump s l)).tick + 500000 ≤ s.sys.tick)))) :
    exec i s = .next (switchPump l d s) ∧ d < 65536 := by
  rcases h with ⟨rfl, rfl, hlow, hruns, hnone⟩ | ⟨rfl, rfl, hloss⟩
  · refine ⟨if_pos ?_, by decide⟩
    simp only [hused, hlow, hruns, hnone]
    rfl
  · refine ⟨if_pos ?_, by decide⟩
    rcases hloss with ⟨hruns, hduty, hlost⟩ | ⟨hkick, hedges, hdue⟩
    · simp only [hused, hruns, hduty, hlost]
      rfl
    · simp only [hused, hkick, hedges, hdue]
      rfl

/-- Settles O52: a row each for the loop, the kicks, the stalls, the tach faults and the pumps. -/
theorem coolingDriveRows : Obligations.CoolingDriveRows := by
  unfold Obligations.CoolingDriveRows
  refine ⟨?_, ?_, ?_, ?_, ?_, ?_, ?_, ?_⟩
  · rintro _ s htick hrun rfl
    exact coolingLoop_drives htick hrun
  · intro g x s hfan12 hturn hg htick
    obtain ⟨t, hnext, hkicked, hframe, hfan⟩ := fanGroupKick_row hfan12 hturn hg htick
    refine ⟨t, hnext, hkicked, hframe, fun f => ⟨fun hother => ?_, fun hgroup hused => ?_, fun hgroup hunused => ?_⟩⟩
    · exact (hfan f).trans (if_neg hother)
    · exact ((hfan f).trans (if_pos hgroup)).trans (if_pos hused)
    · exact congrArg FanState.state (((hfan f).trans (if_pos hgroup)).trans (if_neg (ne_true_of_eq_false hunused)))
  · exact fun f s => fanKickDone_row
  · intro i f d s h
    obtain ⟨hnext, hd⟩ := stall_row h
    exact ⟨_, hnext, stallFan_spec f d hd s⟩
  · exact fun f g now old k s => fanTachLoss_row
  · exact fun f s => ⟨fun x => tachFaultClear_row, fanRekick_row⟩
  · exact fun p l s => pumpKickDone_row
  · intro i l d s hused hother h
    obtain ⟨hnext, hd⟩ := handover_row hused h
    exact ⟨_, hnext, switchPump_spec d hother hd⟩

end Sys2Proof.Machine
end

section
/-! SUPPORT. Flow, cooling established and table mode (12 R361 to R370): what new targets leave, flow lost and back, T4, the
heartbeat. -/

set_option Elab.async false

namespace Sys2Proof.Machine

open Sys2Proof

theorem ChannelsOnly.recordGrows {s t : State} (h : ChannelsOnly s t) : RecordGrows s t :=
  .of_eq h.sys (by rw [h.frame]) (by rw [h.frame])

/-! New targets leave the rails, and the safety island's demand on each accelerator (04 R91; 12 R364). -/

/-- From `s` to `t` channels got new targets. -/
structure Aimed (s t : State) : Prop where
  only : ChannelsOnly s t
  crz : t.crz = { s.crz with chan := t.crz.chan }
  force : ∀ n : Acc, (t.accAt n).forceSaf = (s.accAt n).forceSaf

namespace Aimed

theorem refl (s : State) : Aimed s s := ⟨.refl s, rfl, fun _ => rfl⟩

theorem trans {s t u : State} (h : Aimed s t) (h' : Aimed t u) : Aimed s u :=
  ⟨h.only.trans h'.only, by rw [h'.crz, h.crz], fun n => (h'.force n).trans (h.force n)⟩

theorem forAll {α : Type} {f : α → State → State} (h : ∀ x s, Aimed s (f x s)) (l : List α) (s : State) :
    Aimed s (forAll l f s) :=
  forAll_inv (Aimed s) f l (fun x t ht => ht.trans (h x t)) s (refl s)

theorem ite {s t : State} {c : Prop} {_ : Decidable c} (h : Aimed s t) : Aimed s (if c then t else s) := by
  split
  · exact h
  · exact refl s

theorem setChan (c : Chan) (f : ChanState → ChanState) (s : State) : Aimed s (s.setChan c f) := ⟨⟨rfl⟩, rfl, fun _ => rfl⟩

theorem leaveDown (n : Acc) (s : State) : Aimed s (leaveDown n s) := by
  refine ⟨leaveDown_channelsOnly n s, by rw [leaveDown_crz], fun m => ?_⟩
  simp only [State.accAt, leaveDown_acc, getElem_set_ite]
  split
  next h => rw [h]; rfl
  next => rfl

theorem aim (c : Chan) (k : Nat) (s : State) : Aimed s (aim c k s) := by
  have htarget : Aimed s (setTarget c k s) := setChan c _ s
  unfold Machine.aim
  dsimp only
  split
  · exact htarget.trans (.ite (leaveDown _ _))
  · exact htarget

end Aimed

theorem lowerAll_aimed (k : Nat) (s : State) : Aimed s (lowerAll k s) :=
  .forAll (fun n t => .ite (.aim (accChan n) k t)) _ _

theorem armStagger_aimed (s : State) : Aimed s (armStagger s) :=
  .forAll (fun n t => .setChan (accChan n) _ t) _ _

/-! Flow lost (12 R364). -/

theorem flowLostFor_congr {s t : State} (h : t.cool = s.cool) (n : Acc) : flowLostFor t n = flowLostFor s n := by
  rw [flowLostFor, h]
  rfl

theorem flowLostFor_of_lost {l : Loop} {n : Acc} {s : State} (hlost : (s.loopAt l).lost = true)
    (hmask : (fld (s.loopAt l).cfg 16 8).testBit n.1 = true) : flowLostFor s n = true :=
  List.any_eq_true.2 ⟨l, List.mem_finRange l, by rw [hlost, hmask]; rfl⟩

/-- The loss is known, the demands asserted and the host told. -/
def flowLostKnown (l : Loop) (s : State) : State :=
  hostEvent 7 (emit (islandForce (s.setLoop l fun p => { p with lost := true })) 4 8 l.1 0x0C06 l.1)

/-- An accelerator of the loop goes to S3 at most. -/
def lowerIfOf (l : Loop) (n : Acc) (s : State) : State :=
  if (fld (s.loopAt l).cfg 16 8).testBit n.1 ∧ 3 < (s.chanAt (accChan n)).target then aimAcc n 3 s else s

theorem lowerIfOf_aimed (l : Loop) (n : Acc) (s : State) : Aimed s (lowerIfOf l n s) := .ite (.aim (accChan n) 3 s)

theorem lowerIfOf_target (l : Loop) {s t : State} (h : Aimed s t) (m n : Acc) :
    accTarget (lowerIfOf l m t) n = if n = m then
      (if (fld (s.loopAt l).cfg 16 8).testBit m.1 ∧ 3 < accTarget t m then 3 else accTarget t m) else accTarget t n := by
  have hcool : t.cool = s.cool := h.only.cool
  unfold lowerIfOf
  rw [apply_ite (accTarget · n), accTarget_aimAcc, State.loopAt, hcool]
  by_cases hmn : n = m
  · subst hmn
    simp only [if_true]
    rfl
  · rw [if_neg (Ne.symm hmn), ite_self, if_neg hmn]

theorem flowLostKnown_acc {l : Loop} {n : Acc} {s : State} (h : (fld (s.loopAt l).cfg 16 8).testBit n.1 = true) :
    ((flowLostKnown l s).accAt n).forceSaf = true := by
  have hlost : flowLostFor (s.setLoop l fun p => { p with lost := true }) n = true :=
    flowLostFor_of_lost (l := l) (by simp) (by simpa using h)
  rw [flowLostKnown, State.accAt, hostEvent_acc, emit_acc, ← State.accAt, islandForce_acc, hlost]
  simp

theorem flowLost_next {l : Loop} {s : State} (hused : loopUsed s l = true) (hnew : (s.loopAt l).lost = false)
    (h : (∃ x, (s.loopAt l).switched = some x ∧ x + 200000 ≤ s.sys.tick) ∨
      (((s.pumpAt (otherPump s l)).state = 4 ∨ (s.pumpAt (activePump s l)).state = 4) ∧ flowLow s l = true)) :
    exec (.flowLost l) s = .next (forAll accList (lowerIfOf l) (flowLostKnown l s)) := by
  refine if_neg ?_
  rw [hused, hnew]
  rcases h with ⟨x, hx, hdue⟩ | ⟨hpump, hlow⟩
  · rw [hx]
    simp [hdue]
  · rw [hlow]
    rcases hpump with hother | hactive
    · rw [hother]
      simp
    · rw [hactive]
      simp

theorem flowLost_row {l : Loop} {s : State} (hused : loopUsed s l = true) (hnew : (s.loopAt l).lost = false)
    (h : (∃ x, (s.loopAt l).switched = some x ∧ x + 200000 ≤ s.sys.tick) ∨
      (((s.pumpAt (otherPump s l)).state = 4 ∨ (s.pumpAt (activePump s l)).state = 4) ∧ flowLow s l = true)) :
    ∃ t, exec (.flowLost l) s = .next t ∧ (t.loopAt l).lost = true ∧ HostDue t 7 ∧ Raised t 4 8 l.1 0x0C06 l.1 ∧
      ∀ n : Acc, (fld (s.loopAt l).cfg 16 8).testBit n.1 = true → (t.accAt n).forceSaf = true ∧
        (t.chanAt (accChan n)).target = min (s.chanAt (accChan n)).target 3 := by
  have hpins := islandForce_pinsOnly (s.setLoop l fun p => { p with lost := true })
  have hcool : (flowLostKnown l s).cool = (s.setLoop l fun p => { p with lost := true }).cool := by
    rw [flowLostKnown, hostEvent_cool, emit_cool, hpins]
  have hcrz : (flowLostKnown l s).crz = s.crz := by
    rw [flowLostKnown, hostEvent_crz, emit_crz, hpins]
    rfl
  have hraised : Raised (flowLostKnown l s) 4 8 l.1 0x0C06 l.1 :=
    (RecordGrows.hostEvent 7 _).raised (raised_emit _ 4 8 l.1 0x0C06 l.1 (by omega))
  have haimed : Aimed (flowLostKnown l s) (forAll accList (lowerIfOf l) (flowLostKnown l s)) :=
    .forAll (fun n t => lowerIfOf_aimed l n t) _ _
  have htarget := fun n : Acc => forAll_finRange_each (p := Aimed (flowLostKnown l s)) (view := accTarget)
    (g := fun m x => if (fld ((flowLostKnown l s).loopAt l).cfg 16 8).testBit m.1 ∧ 3 < x then 3 else x)
    (fun m t ht => ht.trans (lowerIfOf_aimed l m t)) (fun m t k ht => lowerIfOf_target l ht m k) n (.refl _)
  refine ⟨_, flowLost_next hused hnew h, ?_, ?_, ?_, fun n hmask => ⟨?_, (htarget n).trans ?_⟩⟩
  · rw [State.loopAt, haimed.only.cool, hcool]
    simp
  · exact haimed.only.recordGrows.hostDue (hostDue_hostEvent 7 _)
  · exact haimed.only.recordGrows.raised hraised
  · rw [haimed.force, flowLostKnown_acc hmask]
  · have hcfg : (fld ((flowLostKnown l s).loopAt l).cfg 16 8).testBit n.1 = true := by
      rw [State.loopAt, hcool]
      simpa using hmask
    rw [hcfg, accTarget, hcrz]
    simp only [true_and, State.chanAt]
    split <;> omega

theorem flowHoldEnd_row {l : Loop} {x : Nat} {s : State} (hok : (s.loopAt l).okSince = some x)
    (hlost : (s.loopAt l).lost = true) (hdue : x + 1000000 ≤ s.sys.tick) :
    ∃ t, exec (.flowHoldEnd l) s = .next t ∧ (t.loopAt l).lost = false ∧
      (∀ n : Acc, (t.accAt n) = { (s.accAt n) with forceSaf := s.saf.safe || flowLostFor t n || zoneWet s n }) ∧
      t = { s with acc := t.acc, cool := { s.cool with
        loop := s.cool.loop.set l { (s.loopAt l) with lost := false } l.isLt } } := by
  let u := s.setLoop l fun p => { p with lost := false }
  have hpins := islandForce_pinsOnly u
  have hnext : exec (.flowHoldEnd l) s = .next (islandForce u) := by
    change execFlowHoldEnd l s = _
    unfold execFlowHoldEnd
    rw [hok]
    exact if_pos ⟨hlost, hdue⟩
  refine ⟨_, hnext, ?_, fun n => ?_, ?_⟩
  · rw [hpins]
    simp [u]
  · have hflow : flowLostFor (islandForce u) n = flowLostFor u n := flowLostFor_congr (by rw [hpins]) n
    rw [islandForce_acc, hflow]
    rfl
  · generalize islandForce u = t at hpins
    rw [hpins]
    rfl

/-! Sensors and pressure (12 R361, R365). -/

theorem flowPressureFailed_row {ch : Fin 6} {x : Nat} {s : State} (hout : (s.cool.chanOut[ch]'ch.isLt) = some x)
    (hdue : x + 5000 ≤ s.sys.tick) : exec (.flowPressureFailed ch) s = .next { s with cool := { s.cool with
      chanFailed := s.cool.chanFailed.set ch true ch.isLt } } := by
  change execFlowPressureFailed ch s = _
  unfold execFlowPressureFailed
  rw [hout]
  exact if_pos hdue

theorem pressLow_row {l : Loop} {x : Nat} {s : State} (hlow : (s.loopAt l).pressSince = some x)
    (hnew : (s.loopAt l).pressLow = false) (hdue : x + 100000 ≤ s.sys.tick) :
    ∃ t, exec (.pressLow l) s = .next t ∧ HostDue t 7 ∧
      Raised t 4 8 l.1 0x0C0E ((toReport (pressOf (slowOf s l.1 13))).toNat % 65536) ∧
      t = { s with rcd := t.rcd, mbx := { s.mbx with evtDue := t.mbx.evtDue }, cool := { s.cool with
        loop := s.cool.loop.set l { (s.loopAt l) with pressLow := true } l.isLt } } := by
  let kpa := (toReport (pressOf (slowOf s l.1 13))).toNat
  let u := emit (s.setLoop l fun p => { p with pressLow := true }) 4 8 l.1 0x0C0E kpa
  have hnext : exec (.pressLow l) s = .next (hostEvent 7 u) := by
    change execPressLow l s = _
    unfold execPressLow
    rw [hlow]
    refine if_neg ?_
    rw [hnew]
    simp only [Bool.false_eq_true, false_or]
    omega
  exact ⟨_, hnext, hostDue_hostEvent 7 u, (RecordGrows.hostEvent 7 u).raised (raised_emit_mod _ 4 8 l.1 0x0C0E kpa), rfl⟩

/-! Cooling established (12 R366). -/

theorem coolEst_blocked {s : State} (h : coolReady s = false ∨ s.sys.refclkSettled = false ∨ rackHolds s = true) :
    exec .coolEst s = .next s := by
  refine if_neg ?_
  rcases h with h | h | h <;> simp [h]

theorem coolEst_row {s : State} (hT3 : inT3 s = true) (hready : coolReady s = true) (hclk : s.sys.refclkSettled = true)
    (hrack : rackHolds s = false) : ∃ t, exec .coolEst s = .next t ∧ Raised t 4 8 0xFF 0x0C0D 1 ∧
      t = { s with rcd := t.rcd, cool := { s.cool with est := true }, crz := { s.crz with
        chan := s.crz.chan.set trayChan { (s.chanAt trayChan) with
          state := 4, chTick := s.sys.tick, dir := 0, waiting := false } trayChan.isLt } } := by
  let u := emit (s.modCool fun k => { k with est := true }) 4 8 0xFF 0x0C0D 1
  have hput : putState trayChan 4 u = u.setChan trayChan fun x => { x with state := 4, chTick := u.sys.tick } := rfl
  have hnext : exec .coolEst s =
      .next ((putState trayChan 4 u).setChan trayChan fun c => { c with dir := 0, waiting := false }) := by
    refine if_pos ?_
    rw [hT3, hready, hclk, hrack]
    rfl
  refine ⟨_, hnext, raised_emit_mod (s.modCool fun k => { k with est := true }) 4 8 0xFF 0x0C0D 1, ?_⟩
  rw [hput]
  simp [u, State.setChan, State.modCool]

theorem coolEstTimeout_row {s : State} (hT3 : inT3 s = true) (hnew : s.cool.estLate = false)
    (hdue : s.cool.t3Tick + 3000000 ≤ s.sys.tick) : ∃ t, exec .coolEstTimeout s = .next t ∧ Raised t 4 8 0xFF 0x0C0D 2 ∧
        t = { s with rcd := t.rcd, cool := { s.cool with estLate := true } } := by
  refine ⟨emit (s.modCool fun k => { k with estLate := true }) 4 8 0xFF 0x0C0D 2, if_pos ?_,
    raised_emit_mod _ 4 8 0xFF 0x0C0D 2, rfl⟩
  rw [hT3, hnew, decide_eq_true hdue]
  rfl

/-! Table mode (12 R368 to R370). -/

theorem heartbeatTimeout_next {s : State} (hnone : ∀ w ∈ s.rcd.merger, ∀ q, w.item ≠ .req q) (hnew : s.cool.hbLost = false)
    (hdue : s.cool.hbTick + 100000 * fld s.cool.cfg 24 8 ≤ s.sys.tick) :
    exec .heartbeatTimeout s = .next (tableCheck (s.modCool fun k => { k with hbLost := true })) := by
  refine if_neg ?_
  rw [hnew, decide_eq_false (by omega), Bool.or_false, Bool.or_false, List.any_eq_true]
  rintro ⟨w, hw, hreq⟩
  split at hreq
  next q hq => exact hnone w hw q hq
  next => exact Bool.false_ne_true hreq

/-- Entering table mode is recorded, with its cause, and the host told. -/
theorem tableCheck_reported {s : State} {c : Nat} (hstarted : s.saf.started = true) (hcause : tableCause s = some c)
    (htable : s.cool.table = false) (hc : c < 65536) : (tableCheck s).cool.table = true ∧ (tableCheck s).cool.cause = c ∧
      HostDue (tableCheck s) 7 ∧ Raised (tableCheck s) 4 8 0xFF 0x0C0C c := by
  have hduties := driveAll_dutiesOnly 0 (tableEntered c s)
  rw [tableCheck_enters hstarted hcause htable]
  generalize driveAll 0 (tableEntered c s) = t at hduties
  have hgrow : RecordGrows (tableEntered c s) t := .of_eq (by rw [hduties.frame]) (by rw [hduties.frame]) (by rw [hduties.frame])
  refine ⟨?_, ?_, hgrow.hostDue (hostDue_hostEvent 7 _),
    hgrow.raised ((RecordGrows.hostEvent 7 _).raised (raised_emit _ 4 8 0xFF 0x0C0C c hc))⟩ <;> rw [hduties.frame] <;> rfl

theorem tableModeExit_row {s : State} (htable : s.cool.table = true) (hnone : tableCause s = none)
    (hfw : s.sys.fwRunning = true) (hloop : s.cool.loopDone = true) :
    ∃ t, exec .tableModeExit s = .next t ∧ Raised t 4 8 0xFF 0x0C0C 0 ∧
      t = { s with rcd := t.rcd, cool := { s.cool with table := false, cause := 0 } } := by
  refine ⟨emit (s.modCool fun k => { k with table := false, cause := 0 }) 4 8 0xFF 0x0C0C 0, if_pos ?_,
    raised_emit_mod _ 4 8 0xFF 0x0C0C 0, rfl⟩
  rw [htable, hnone, hfw, hloop]
  rfl

/-- Settles O53: a row each. -/
theorem flowAndModeRows : Obligations.FlowAndModeRows := by
  unfold Obligations.FlowAndModeRows
  refine ⟨fun l s => flowLost_row, fun l x s => flowHoldEnd_row, fun ch x s => flowPressureFailed_row, fun l x s => pressLow_row,
    fun s hT3 => ⟨coolEst_blocked, coolEst_row hT3, coolEstTimeout_row hT3⟩, fun s hnone hnew hdue => ?_,
    fun s => tableModeExit_row⟩
  let u := s.modCool fun k => { k with hbLost := true }
  have honly : TableOnly u (tableCheck u) := tableCheck_tableOnly u
  refine ⟨_, heartbeatTimeout_next hnone hnew hdue, ?_, ?_, ?_, fun htable hstarted => ?_⟩
  · rw [honly.frame]
    rfl
  · rw [honly.frame]
    rfl
  · rw [honly.frame]
    rfl
  · exact tableCheck_reported (s := u) hstarted rfl htable (by decide)

end Sys2Proof.Machine
end

section
/-! SUPPORT. Sensors, the critical shutdown and leaks (12 R351 to R353, R371 to R378), and the actions of RACKFLT_N (04 R116). -/

set_option Elab.async false

namespace Sys2Proof.Machine

open Sys2Proof

/-! Sensors (12 R351, R352, R373). -/

theorem thmFault_row {i : Fin 24} {x : Nat} {s : State} (hout : (s.thmAt i).outSince = some x) (hrole : roleOf s i ≠ 0)
    (hnew : (s.thmAt i).failed = false) (hdue : x + 5000 ≤ s.sys.tick) :
    ∃ t, exec (.thmFault i) s = .next t ∧ Raised t 4 8 i.1 0x0C07 1 ∧ t = { s with rcd := t.rcd, cool := { s.cool with
        thm := s.cool.thm.set i { (s.thmAt i) with failed := true } i.isLt } } := by
  refine ⟨emit (s.setThm i fun t => { t with failed := true }) 4 8 i.1 0x0C07 1, ?_, raised_emit_mod _ 4 8 i.1 0x0C07 1, rfl⟩
  change execThmFault i s = _
  unfold execThmFault
  rw [hout]
  refine if_neg ?_
  rw [hnew]
  simp only [hrole, Bool.false_eq_true, false_or]
  omega

theorem thmRecover_row {i : Fin 24} {x : Nat} {s : State} (hin : (s.thmAt i).inSince = some x)
    (hfailed : (s.thmAt i).failed = true) (hdue : x + 1000000 ≤ s.sys.tick) :
    ∃ t, exec (.thmRecover i) s = .next t ∧ Raised t 4 8 i.1 0x0C07 0 ∧ t = { s with rcd := t.rcd, cool := { s.cool with
        thm := s.cool.thm.set i { (s.thmAt i) with failed := false } i.isLt } } := by
  refine ⟨emit (s.setThm i fun t => { t with failed := false }) 4 8 i.1 0x0C07 0, ?_, raised_emit_mod _ 4 8 i.1 0x0C07 0, rfl⟩
  change execThmRecover i s = _
  unfold execThmRecover
  rw [hin]
  exact if_pos ⟨hfailed, hdue⟩

/-- The refresh request that is due, raised at once and lowered after 1 s (12 R352). -/
theorem refreshWant_of_due {n : Acc} {w : Nat} {s : State}
    (h : (((s.coolAcc n).refreshed = false ∨ (s.coolAcc n).refresh < refreshFor (s.coolAcc n).band) ∧
          w = refreshFor (s.coolAcc n).band) ∨
        ((s.coolAcc n).refreshed = true ∧ (s.coolAcc n).band ≤ 2 ∧ 0 < (s.coolAcc n).refresh ∧
          (s.coolAcc n).calmSince + 100000 ≤ s.sys.tick ∧ w = 0) ∨
        ((s.coolAcc n).refreshed = true ∧ (s.coolAcc n).band = 3 ∧ 1 < (s.coolAcc n).refresh ∧
          (s.coolAcc n).mildSince + 100000 ≤ s.sys.tick ∧ w = 1)) :
    refreshWant s n = w ∧ ((s.coolAcc n).refreshed = false ∨ w ≠ (s.coolAcc n).refresh) := by
  unfold refreshWant
  dsimp only
  rcases h with ⟨hup, rfl⟩ | ⟨hdone, hband, hheld, hcalm, rfl⟩ | ⟨hdone, hband, hheld, hmild, rfl⟩
  · refine ⟨if_pos ?_, hup.imp_right fun hlt => (Nat.ne_of_lt hlt).symm⟩
    rcases hup with hnew | hlt
    · rw [hnew]
      rfl
    · rw [decide_eq_true hlt, Bool.or_true]
  · have hwant : refreshFor (s.coolAcc n).band = 0 := if_pos hband
    rw [hdone, hwant]
    refine ⟨?_, .inr (Nat.ne_of_lt hheld)⟩
    rw [if_neg (by simp), if_pos ⟨rfl, hcalm⟩]
  · have hwant : refreshFor (s.coolAcc n).band = 1 := by rw [hband]; rfl
    rw [hdone, hwant]
    refine ⟨?_, .inr (Nat.ne_of_lt hheld)⟩
    rw [if_neg (by rw [decide_eq_false (Nat.not_lt.2 hheld.le)]; decide), if_neg (by simp), if_pos ⟨le_rfl, hmild⟩]
    exact min_eq_right hheld.le

theorem refreshRequest_row {n : Acc} {w : Nat} {s : State} (hiso : (s.accAt n).isoEn = true) (hstate : 1 ≤ chState s n)
    (hfree : (s.portAt (mainPort n)).stuck = false) (hretry : (s.coolAcc n).retryTick ≤ s.sys.tick)
    (hwant : refreshWant s n = w) (hdue : (s.coolAcc n).refreshed = false ∨ w ≠ (s.coolAcc n).refresh) (ok : Bool) :
    exec (.refreshRequest n ok) s = .next (
      if ok then (s.setBand n fun x => { x with refresh := w, refreshed := true }).send (.refresh n w)
      else s.setBand n fun x => { x with retryTick := s.sys.tick + 1000 }) := by
  have hnew : (!(s.coolAcc n).refreshed || w != (s.coolAcc n).refresh) = true := by
    rcases hdue with h | h
    · rw [h]
      rfl
    · rw [bne_iff_ne.2 h, Bool.or_true]
  have hport : (s.portAt (⟨n.1, by omega⟩ : Port)).stuck = false := hfree
  change execRefreshRequest n ok s = _
  unfold execRefreshRequest
  dsimp only
  rw [hwant, hnew, hiso, hport, decide_eq_true hretry, decide_eq_true hstate]
  cases ok <;> rfl

/-! What the tray taken down leaves of the cooling block: all but what S0 clears of the bands. -/

theorem accRailsOff_crit (n : Acc) (s : State) : (accRailsOff n s).cool.crit = s.cool.crit :=
  accRailsOff_inv (fun t => t.cool.crit = s.cool.crit) n (fun r t ht => by rw [disableRail_frame]; exact ht) rfl

theorem accUnlinked_cool (n : Acc) (s : State) : (accUnlinked n s).cool = s.cool := by
  rw [accUnlinked, (linkDown_linksOnly n 4 _).frame, dropDrain_frame]
  rfl

theorem accCleared_crit (n : Acc) (s : State) : (accCleared n s).cool.crit = s.cool.crit := rfl

theorem enterS0_crit (n : Acc) (s : State) : (enterS0 n s).cool.crit = s.cool.crit := by
  rw [enterS0_eq, accCleared_crit, accUnlinked_cool, accRailsOff_crit]

theorem accUndrained_cool (n : Acc) (s : State) : (accUndrained n s).cool = s.cool := by
  rw [accUndrained, dropDrain_frame]
  split
  · rw [leaveTop_frame]
  · rfl

theorem accGone_crit (n : Acc) (s : State) : (accGone n s).cool.crit = s.cool.crit :=
  congrArg CoolState.crit (accUndrained_cool n s)

theorem accTrayOff_crit (n : Acc) (s : State) : (accTrayOff n s).cool.crit = s.cool.crit := by
  unfold accTrayOff
  split
  · exact accGone_crit n s
  · rw [enterS0_crit, accGone_crit]

theorem railTrayOff_crit (r : Rail) (s : State) : (railTrayOff r s).cool.crit = s.cool.crit := by
  unfold railTrayOff
  split
  · rfl
  · rw [railCut, State.setRail_cool, disableRail_frame]

theorem accsTrayOff_crit (s : State) : (accsTrayOff s).cool.crit = s.cool.crit := by
  unfold accsTrayOff
  generalize accList = l
  exact forAll_keeps (fun t : State => t.cool.crit) accTrayOff accTrayOff_crit l s

theorem railsTrayOff_crit (s : State) : (railsTrayOff s).cool.crit = s.cool.crit := by
  unfold railsTrayOff
  generalize List.finRange 120 = l
  exact forAll_keeps (fun t : State => t.cool.crit) railTrayOff railTrayOff_crit l s

theorem trayLatched_crit (s : State) : (trayLatched s).cool.crit = s.cool.crit := rfl

theorem trayLatched_shdn (s : State) : (trayLatched s).rack.shdn = s.rack.shdn := rfl

theorem trayOff_crit (s : State) : (trayOff s).cool.crit = s.cool.crit := by
  rw [trayOff_eq, trayLatched_crit, accsTrayOff_crit, railsTrayOff_crit]
  rfl

theorem trayOff_shdn (s : State) : (trayOff s).rack.shdn = s.rack.shdn := by
  have hnoted : (noteFault trayChan 11 0x7F 0 (emit s 1 8 0xFF 0x20B (s.chanAt trayChan).state)).rack = s.rack := noteFault_rack ..
  rw [trayOff_eq, trayLatched_shdn, (accsTrayOff_accDown _).rack, (railsTrayOff_accDown _).rack, hnoted]

/-- The tray taken down from a state with the channels and rails of `s`. -/
theorem TrayDown.of_crz {s u t : State} (h : u.crz = s.crz) (ht : TrayDown u t) : TrayDown s t := by
  unfold TrayDown at ht ⊢
  rwa [h] at ht

/-! The critical shutdown (12 R371, R372). -/

/-- The latch is set, and the tray drives TRAYFLT_N. -/
def critLatched (s : State) : State :=
  (s.modCool fun k => { k with crit := true, shdnSeen := true }).modRack fun r => { r with shdn := true, trayfltDrive := true }

theorem critTemp_row {s : State} (hvote : critVote s ≠ 0) (hnew : s.cool.crit = false) (hstarted : s.saf.started = true) :
    ∃ t, exec .critTemp s = .next t ∧ t.cool.crit = true ∧ t.rack.shdn = true ∧ t.rack.trayfltDrive = true ∧ HostDue t 8 ∧
      Raised t 1 8 0xFF 0x0C0A (critVote s) ∧ TrayDown s t := by
  have hsmall : critVote s < 65536 := by
    unfold critVote
    dsimp only
    repeat' split
    all_goals decide
  let u := hostEvent 8 (emit (critLatched s) 1 8 0xFF 0x0C0A (critVote s))
  have hnext : exec .critTemp s = .next (trayOff u) := by
    refine if_neg ?_
    rw [hnew, hstarted]
    simpa using hvote
  obtain ⟨hgrow, -, hdrive⟩ := trayOff_kept u
  refine ⟨_, hnext, ?_, ?_, ?_, hgrow.hostDue (hostDue_hostEvent 8 _),
    hgrow.raised ((RecordGrows.hostEvent 8 _).raised (raised_emit _ 1 8 0xFF 0x0C0A _ hsmall)),
    (trayDown_trayOff u).of_crz rfl⟩
  · rw [trayOff_crit]
    rfl
  · rw [trayOff_shdn]
    rfl
  · rw [hdrive]
    rfl

/-! Evaluations of the leak channels (12 R374). -/

/-- What an evaluation makes of one channel. -/
def LeakState.taken (ohms : Nat) (x : LeakState) : LeakState :=
  let r := if ohms < 5000 then 1 else if 20000 < ohms then 2 else 0
  { x with
    res := min 0xFFF (ohms / 100), reading := r, wetRun := if r = 1 then x.wetRun + 1 else 0,
    openRun := if r = 2 then x.openRun + 1 else 0, dryRun := if r = 0 then x.dryRun + 1 else 0,
    confirmed := x.confirmed && r == 1 }

/-- From `s` to `t` only readings of leak channels may differ. -/
def LeaksOnly (s t : State) : Prop :=
  t = { s with cool := { s.cool with leak := t.cool.leak } } ∧ ∀ c : Fin 10, (t.leakAt c).used = (s.leakAt c).used

theorem takeLeak_leak (c : Fin 10) (ohms : Nat) (t : State) (d : Fin 10) : ((takeLeak c ohms t).leakAt d) =
    if d = c ∧ leakUsed t c = true then (t.leakAt c).taken ohms else (t.leakAt d) := by
  unfold takeLeak
  cases hused : leakUsed t c with
  | false => simp
  | true =>
    simp only [Bool.not_true, Bool.false_eq_true, if_false, and_true]
    exact State.leakAt_setLeak ..

theorem takeLeak_leaksOnly (c : Fin 10) (ohms : Nat) {s t : State} (h : LeaksOnly s t) : LeaksOnly s (takeLeak c ohms t) := by
  obtain ⟨hframe, hused⟩ := h
  refine ⟨?_, fun d => ?_⟩
  · unfold takeLeak
    split
    · exact hframe
    · rw [hframe]
      rfl
  · rw [takeLeak_leak]
    split
    next hd => rw [hd.1]; exact hused c
    next => exact hused d

theorem LeaksOnly.leakUsed {s t : State} (h : LeaksOnly s t) (c : Fin 10) : leakUsed t c = leakUsed s c := by
  rw [Machine.leakUsed, h.2, h.1]
  rfl

theorem leakEvaluation_row (ohms : Vector Nat 10) {s : State} (htick : s.sys.tick % 5000 = 0) :
    ∃ t, exec (.leakEvaluation ohms) s = .next t ∧ t = { s with cool := { s.cool with leak := t.cool.leak } } ∧
      ∀ c : Fin 10, (t.leakAt c) = if leakUsed s c then (s.leakAt c).taken (ohms[c]'c.isLt) else (s.leakAt c) := by
  have honly : LeaksOnly s (forAll (List.finRange 10) (fun c s => takeLeak c (ohms[c]'c.isLt) s) s) :=
    forAll_inv (LeaksOnly s) _ _ (fun c t ht => takeLeak_leaksOnly c _ ht) s ⟨rfl, fun _ => rfl⟩
  refine ⟨_, if_neg (by omega), honly.1, fun c => ?_⟩
  exact forAll_finRange_each (p := LeaksOnly s) (view := fun t (c : Fin 10) => (t.leakAt c))
    (g := fun c x => if leakUsed s c then x.taken (ohms[c]'c.isLt) else x) (fun m t ht => takeLeak_leaksOnly m _ ht)
    (fun m t d ht => by
      rw [takeLeak_leak, ht.leakUsed]
      by_cases hd : d = m
      · subst hd
        simp
      · simp [hd]) c ⟨rfl, fun _ => rfl⟩

/-! The actions of RACKFLT_N (04 R116). -/

/-- The fault is noted, the tray detached and off until the lines are high again. -/
def rackFaulted (s : State) : State :=
  (detach (hostEvent 8 (noteFault trayChan 12 0x7F 0 (emit s 1 8 0xFF 0x20C (s.chanAt trayChan).state)))).modRack fun r =>
    { r with faultDetached := true, offLatch := true, fastDown := true }

theorem rackOff_eq (s : State) : rackOff s = enterRack 11 (rackFaulted s) := rfl

theorem rackFaulted_cool (s : State) : (rackFaulted s).cool = s.cool := rfl
theorem rackFaulted_acc (s : State) : (rackFaulted s).acc = s.acc := rfl
theorem rackFaulted_rail (s : State) : (rackFaulted s).crz.rail = s.crz.rail := rfl

/-- The state in which the actions of rack state 11 begin, and what they make of it. -/
def rackFalling (s : State) : State := rackBegun 11 (rackFaulted s)
def rackFallen (s : State) : State := armStagger (lowerAll 3 (rackFalling s))

theorem rackOff_fallen (s : State) : rackOff s = announce (rackFallen s) := rfl

theorem rackFallen_aimed (s : State) : Aimed (rackFalling s) (rackFallen s) := (lowerAll_aimed 3 _).trans (armStagger_aimed _)

theorem rackFalling_crz (s : State) : (rackFalling s).crz = (rackFaulted s).crz := rfl
theorem rackFalling_cool (s : State) : (rackFalling s).cool = (rackFaulted s).cool := rfl
theorem rackFalling_acc (s : State) : (rackFalling s).acc = (rackFaulted s).acc := rfl

theorem announce_recordGrows (s : State) : RecordGrows s (announce s) :=
  .of_eq (announce_sys s) (by rw [announce_frame]) (announce_mbx s)

theorem armStagger_target (n : Acc) (s : State) : accTarget (armStagger s) n = accTarget s n := by
  refine forAll_keeps (fun t => accTarget t n) _ (fun m t => ?_) _ s
  by_cases hmn : m = n
  · subst hmn
    simp [accTarget]
  · exact congrArg ChanState.target (setChan_chan_of_ne (fun e => hmn (accChan_injective e)) _ t)

theorem noteFault_tray_target (code rail trans : Nat) (s : State) (n : Acc) :
    accTarget (noteFault trayChan code rail trans s) n = accTarget s n := by
  rw [noteFault_eq, accTarget, hostEvent_crz]
  exact congrArg ChanState.target (setChan_chan_of_ne (trayChan_ne_accChan n) _ s)

/-- RACKFLT_N takes the tray through rack state 11. -/
theorem rackOff_spec (s : State) :
    Raised (rackOff s) 1 8 0xFF 0x20C ((s.chanAt trayChan).state % 65536) ∧ HostDue (rackOff s) 8 ∧
      RecordGrows s (rackOff s) ∧
      (∃ d e q, (rackOff s).rack = { (rackFaulted s).rack.entered 11 s.sys.tick with deadline := d, drained := e, quiesced := q }) ∧
      (rackOff s).crz.rail = s.crz.rail ∧ (rackOff s).cool = s.cool ∧
      (∀ n : Acc, ((rackOff s).accAt n).forceSaf = (s.accAt n).forceSaf) ∧
      ∀ n : Acc, accTarget (rackOff s) n = min (accTarget s n) 3 := by
  have hnoted : RecordGrows (emit s 1 8 0xFF 0x20C (s.chanAt trayChan).state) (rackFaulted s) :=
    ((noteFault_recordGrows trayChan 12 0x7F 0 _).trans (.hostEvent 8 _)).trans (by exact .of_eq rfl rfl rfl)
  have haimed := rackFallen_aimed s
  have hgrow : RecordGrows (rackFaulted s) (rackOff s) :=
    (RecordGrows.of_eq (s := rackFaulted s) (t := rackFalling s) rfl rfl rfl).trans (haimed.only.recordGrows.trans (announce_recordGrows _))
  refine ⟨hgrow.raised (hnoted.raised (raised_emit_mod s 1 8 0xFF 0x20C _)), hgrow.hostDue ?_,
    (RecordGrows.emit s ..).trans (hnoted.trans hgrow), ⟨_, _, _, enterRack_rack 11 (rackFaulted s)⟩, ?_, ?_, fun n => ?_,
    fun n => ?_⟩
  · exact (hostDue_hostEvent 8 (noteFault trayChan 12 0x7F 0 (emit s 1 8 0xFF 0x20C (s.chanAt trayChan).state))).mono rfl
      fun _ hp => hp
  · rw [rackOff_fallen, announce_crz, haimed.crz, rackFalling_crz, rackFaulted_rail]
  · rw [rackOff_fallen, announce_cool, haimed.only.cool, rackFalling_cool, rackFaulted_cool]
  · rw [rackOff_fallen, State.accAt, announce_acc, haimed.force, State.accAt, rackFalling_acc, rackFaulted_acc]
  · have hstagger : accTarget (rackFallen s) n = accTarget (lowerAll 3 (rackFalling s)) n :=
      armStagger_target n _
    rw [rackOff_fallen, accTarget, announce_crz]
    refine hstagger.trans ((accTarget_lowerAll n 3 _).trans (congrArg (min · 3) ?_))
    exact noteFault_tray_target 12 0x7F 0 (emit s 1 8 0xFF 0x20C (s.chanAt trayChan).state) n

/-! Leaks (12 R374 to R377). -/

/-- RACKFLT_N is driven and every pump stops. -/
def leakStopped (s : State) : State :=
  (s.modRack fun r => { r with rackfltDrive := true }).modCool fun k => { k with
    rackflt := true, pumpsOff := true,
    pump := k.pump.map fun p => { p with duty := 0, state := if p.state = 4 ∨ p.state = 5 then p.state else 0 } }

/-- PUMP12 is off too. -/
def leakUnpowered (s : State) : State := disableRail (trayRail 2) (leakStopped s)

theorem trayLeak_eq (s : State) : trayLeak s = rackOff (leakUnpowered s) := rfl

/-- A rail of the tray drops no accelerator's inputs. -/
theorem disableRail_tray_acc (j : Fin 8) (s : State) : (disableRail (trayRail j) s).acc = s.acc := by
  have hnone : accOfRail (trayRail j) = none := by
    revert j
    decide
  unfold disableRail
  dsimp only
  split
  · rfl
  · rw [hnone]
    exact dropMargin_acc ..

theorem leakUnpowered_cool (s : State) : (leakUnpowered s).cool = (leakStopped s).cool := by
  rw [leakUnpowered, disableRail_frame]

theorem leakUnpowered_target (s : State) (n : Acc) : accTarget (leakUnpowered s) n = accTarget s n := by
  unfold accTarget leakUnpowered
  simp only [disableRail_chan]
  rfl

theorem leakUnpowered_recordGrows (s : State) : RecordGrows s (leakUnpowered s) :=
  (RecordGrows.of_eq (s := s) (t := leakStopped s) rfl rfl rfl).trans (disableRail_recordGrows _ _)

theorem trayLeak_recordGrows (s : State) : RecordGrows s (trayLeak s) := by
  obtain ⟨-, -, hgrow, -⟩ := rackOff_spec (leakUnpowered s)
  exact (leakUnpowered_recordGrows s).trans hgrow

theorem trayLeak_cool (s : State) : (trayLeak s).cool = (leakStopped s).cool := by
  obtain ⟨-, -, -, -, -, hcool, -⟩ := rackOff_spec (leakUnpowered s)
  rw [trayLeak_eq, hcool, leakUnpowered_cool]

theorem trayLeak_leaks (s : State) : (trayLeak s).leakAt = s.leakAt ∧ (trayLeak s).cool.leakSeen = s.cool.leakSeen := by
  unfold State.leakAt
  rw [trayLeak_cool]
  exact ⟨rfl, rfl⟩

/-- A leak at the tray leaves the demands and lowers the targets. -/
theorem trayLeak_acc (s : State) (n : Acc) :
    ((trayLeak s).accAt n).forceSaf = (s.accAt n).forceSaf ∧ accTarget (trayLeak s) n = min (accTarget s n) 3 := by
  obtain ⟨-, -, -, -, -, -, hforce, htarget⟩ := rackOff_spec (leakUnpowered s)
  refine ⟨(hforce n).trans ?_, (htarget n).trans ?_⟩
  · rw [leakUnpowered, State.accAt, disableRail_tray_acc]
    rfl
  · rw [leakUnpowered_target]

/-- What a leak at the tray does (12 R377). -/
theorem trayLeak_spec (s : State) : (trayLeak s).rack.rackfltDrive = true ∧ (trayLeak s).cool.pumpsOff = true ∧
    (trayLeak s).rack.detached = true ∧ (trayLeak s).rack.state = 11 ∧ (trayLeak s).crz.rail[trayRail 2].en = false ∧
    ∀ p : Pump, ((trayLeak s).pumpAt p).duty = 0 := by
  have hrackKept : (leakUnpowered s).rack = (leakStopped s).rack := by rw [leakUnpowered, disableRail_frame]
  obtain ⟨-, -, -, ⟨d, e, q, hrack⟩, hrail, -⟩ := rackOff_spec (leakUnpowered s)
  have hdrive : (rackFaulted (leakUnpowered s)).rack.rackfltDrive = (leakUnpowered s).rack.rackfltDrive := rfl
  refine ⟨?_, ?_, ?_, ?_, ?_, fun p => ?_⟩
  · rw [trayLeak_eq, hrack]
    refine hdrive.trans ?_
    rw [hrackKept]
    rfl
  · rw [trayLeak_cool]
    rfl
  · rw [trayLeak_eq, hrack]
    rfl
  · rw [trayLeak_eq, hrack]
    rfl
  · rw [trayLeak_eq, rail_congr hrail]
    exact disableRail_en _ _
  · rw [State.pumpAt, trayLeak_cool]
    simp [leakStopped]

/-- The leak is recorded, told to the host, and confirmed. -/
def leakConfirmed (c : Fin 10) (s : State) : State :=
  hostEvent 8 (((emit s 1 8 c.1 0x0C09 (s.leakAt c).res).modCool fun k => { k with leakSeen := true }).setLeak c fun x =>
    { x with confirmed := true })

/-- The zone of an accelerator is wet: FORCEMIN_N, and its channel to S0. -/
def zoneDrained (c : Fin 10) (n : Acc) (s : State) : State :=
  aimAcc n 0 (islandForce ((leakConfirmed c s).setLeak c fun x => { x with latch := true }))

theorem leakWet_tray {c : Fin 10} {s : State} (hused : leakUsed s c = true) (hnew : (s.leakAt c).confirmed = false)
    (hwet : 4 ≤ (s.leakAt c).wetRun) (hc : accOf c.1 = none) :
    exec (.leakWet c) s = .next (trayLeak (leakConfirmed c s)) := by
  change execLeakWet c s = _
  unfold execLeakWet
  dsimp only
  rw [if_neg, hc]
  · rfl
  · rw [hused, hnew]
    simpa using hwet

theorem leakWet_zone {c : Fin 10} {n : Acc} {s : State} (hused : leakUsed s c = true) (hnew : (s.leakAt c).confirmed = false)
    (hwet : 4 ≤ (s.leakAt c).wetRun) (hc : accOf c.1 = some n) :
    exec (.leakWet c) s = .next (if accList.any fun m => m != n && zoneWet (leakConfirmed c s) m
      then trayLeak (zoneDrained c n s) else zoneDrained c n s) := by
  change execLeakWet c s = _
  unfold execLeakWet
  dsimp only
  rw [if_neg, hc]
  · rfl
  · rw [hused, hnew]
    simpa using hwet

theorem leakConfirmed_leak (c : Fin 10) (s : State) (d : Fin 10) : ((leakConfirmed c s).leakAt d) =
    if d = c then { (s.leakAt c) with confirmed := true } else (s.leakAt d) := by
  rw [State.leakAt, leakConfirmed, hostEvent_cool, ← State.leakAt, State.leakAt_setLeak]
  rfl

theorem zoneWet_leakConfirmed (c : Fin 10) (s : State) (n : Acc) : zoneWet (leakConfirmed c s) n = zoneWet s n := by
  rw [zoneWet, ← State.leakAt, leakConfirmed_leak]
  split
  next h =>
    subst h
    rfl
  next => rfl

theorem leakConfirmed_raised (c : Fin 10) (s : State) :
    Raised (leakConfirmed c s) 1 8 c.1 0x0C09 ((s.leakAt c).res % 65536) ∧ HostDue (leakConfirmed c s) 8 :=
  ⟨((RecordGrows.of_eq (s := emit s 1 8 c.1 0x0C09 (s.leakAt c).res) rfl rfl rfl).trans (.hostEvent 8 _)).raised (raised_emit_mod s ..),
    hostDue_hostEvent 8 _⟩

/-- The zone of accelerator `n` drained: its channel on the way to S0, with the demand of the safety island. -/
theorem zoneDrained_spec {c : Fin 10} {n : Acc} (s : State) (hc : c.1 = n.1) :
    RecordGrows (leakConfirmed c s) (zoneDrained c n s) ∧
      (zoneDrained c n s).cool = ((leakConfirmed c s).setLeak c fun x => { x with latch := true }).cool ∧
      ((zoneDrained c n s).accAt n).forceSaf = true ∧ accTarget (zoneDrained c n s) n = 0 := by
  let u := (leakConfirmed c s).setLeak c fun x => { x with latch := true }
  have hpins : PinsOnly u (islandForce u) := islandForce_pinsOnly u
  have haimed : Aimed (islandForce u) (zoneDrained c n s) := .aim (accChan n) 0 _
  have hzone : zoneWet u n = true := by
    obtain rfl : c = ⟨n.1, n.2.trans (by decide)⟩ := Fin.ext hc
    simp [u, zoneWet]
  have hgrow : RecordGrows (leakConfirmed c s) (islandForce u) :=
    (RecordGrows.of_eq (s := leakConfirmed c s) (t := u) rfl rfl rfl).trans (.of_eq (by rw [hpins]) (by rw [hpins]) (by rw [hpins]))
  refine ⟨hgrow.trans haimed.only.recordGrows, ?_, ?_, ?_⟩
  · rw [haimed.only.cool, hpins]
  · rw [haimed.force, islandForce_acc, hzone]
    exact Bool.or_true _
  · rw [zoneDrained, accTarget_aimAcc, if_pos rfl]

/-- A wet channel: of the tray, of a zone alone, of a second zone (12 R376, R377). -/
theorem leakWet_row {c : Fin 10} {s : State} (hused : leakUsed s c = true) (hnew : (s.leakAt c).confirmed = false)
    (hwet : 4 ≤ (s.leakAt c).wetRun) :
    ∃ t, exec (.leakWet c) s = .next t ∧ (t.leakAt c).confirmed = true ∧ t.cool.leakSeen = true ∧ HostDue t 8 ∧
      Raised t 1 8 c.1 0x0C09 ((s.leakAt c).res % 65536) ∧
      (∀ n : Acc, c.1 = n.1 → (t.leakAt c).latch = true ∧ (t.accAt n).forceSaf = true ∧
        (t.chanAt (accChan n)).target = 0) ∧
      ((8 ≤ c.1 ∨ ∃ m : Acc, m.1 ≠ c.1 ∧ zoneWet s m = true) → t.rack.rackfltDrive = true ∧ t.cool.pumpsOff = true ∧
        t.rack.detached = true ∧ t.rack.state = 11 ∧ (t.crz.rail[trayRail 2]'(Fin.isLt _)).en = false ∧
        ∀ p : Pump, (t.pumpAt p).duty = 0) := by
  obtain ⟨hraised, hdue⟩ := leakConfirmed_raised c s
  by_cases hc : c.1 < 8
  · have hzone : accOf c.1 = some ⟨c.1, hc⟩ := dif_pos hc
    obtain ⟨hgrow, hcool, hforce, htarget⟩ := zoneDrained_spec (c := c) (n := ⟨c.1, hc⟩) s rfl
    have hown : ∀ n : Acc, c.1 = n.1 → n = ⟨c.1, hc⟩ := fun n h => Fin.ext h.symm
    have hleak : ((zoneDrained c ⟨c.1, hc⟩ s).leakAt c).confirmed = true ∧
        ((zoneDrained c ⟨c.1, hc⟩ s).leakAt c).latch = true ∧ (zoneDrained c ⟨c.1, hc⟩ s).cool.leakSeen = true := by
      rw [State.leakAt, hcool]
      simp [leakConfirmed]
    obtain ⟨hconfirmed, hlatch, hseen⟩ := hleak
    have hnext := leakWet_zone hused hnew hwet hzone
    cases hsecond : accList.any fun m => m != ⟨c.1, hc⟩ && zoneWet (leakConfirmed c s) m with
    | true =>
      rw [if_pos hsecond] at hnext
      have htray := trayLeak_recordGrows (zoneDrained c ⟨c.1, hc⟩ s)
      obtain ⟨hforce', htarget'⟩ := trayLeak_acc (zoneDrained c ⟨c.1, hc⟩ s) ⟨c.1, hc⟩
      obtain ⟨hleaks, hseens⟩ := trayLeak_leaks (zoneDrained c ⟨c.1, hc⟩ s)
      rw [htarget, Nat.zero_min] at htarget'
      refine ⟨_, hnext, ?_, hseens.trans hseen, htray.hostDue (hgrow.hostDue hdue), htray.raised (hgrow.raised hraised), fun n hn => ?_,
        fun _ => trayLeak_spec _⟩
      · rw [hleaks, hconfirmed]
      · rw [hown n hn, hleaks]
        exact ⟨hlatch, hforce'.trans hforce, htarget'⟩
    | false =>
      have halone := Bool.eq_false_iff.1 hsecond
      rw [if_neg halone] at hnext
      refine ⟨_, hnext, hconfirmed, hseen, hgrow.hostDue hdue, hgrow.raised hraised, fun n hn => ?_, fun hmore => absurd ?_ halone⟩
      · rw [hown n hn]
        exact ⟨hlatch, hforce, htarget⟩
      · obtain h8 | ⟨m, hm, hwetm⟩ := hmore
        · omega
        · refine List.any_eq_true.2 ⟨m, mem_accList m, ?_⟩
          have hne : m ≠ ⟨c.1, hc⟩ := fun e => hm (congrArg Fin.val e)
          rw [zoneWet_leakConfirmed, hwetm, bne_iff_ne.2 hne]
          rfl
  · have htray := trayLeak_recordGrows (leakConfirmed c s)
    obtain ⟨hleaks, hseens⟩ := trayLeak_leaks (leakConfirmed c s)
    refine ⟨_, leakWet_tray hused hnew hwet (dif_neg hc), ?_, ?_, htray.hostDue hdue, htray.raised hraised, fun n hn => ?_,
      fun _ => trayLeak_spec _⟩
    · rw [hleaks, leakConfirmed_leak, if_pos rfl]
    · rw [hseens]
      rfl
    · omega

theorem leakSensor_row {c : Fin 10} {s : State} (hused : leakUsed s c = true) (hnew : (s.leakAt c).failed = false)
    (hopen : 31 ≤ (s.leakAt c).openRun) :
    ∃ t, exec (.leakSensor c) s = .next t ∧ Raised t 4 8 c.1 0x0C08 1 ∧ t = { s with rcd := t.rcd, cool := { s.cool with
        leak := s.cool.leak.set c { (s.leakAt c) with failed := true } c.isLt } } := by
  refine ⟨emit (s.setLeak c fun x => { x with failed := true }) 4 8 c.1 0x0C08 1, if_neg ?_,
    raised_emit_mod _ 4 8 c.1 0x0C08 1, rfl⟩
  rw [hused, hnew]
  simpa using hopen

theorem leakSensorRecover_row {c : Fin 10} {s : State} (hused : leakUsed s c = true) (hfailed : (s.leakAt c).failed = true)
    (hdry : 201 ≤ (s.leakAt c).dryRun) :
    ∃ t, exec (.leakSensorRecover c) s = .next t ∧ Raised t 4 8 c.1 0x0C08 0 ∧ t = { s with rcd := t.rcd, cool := { s.cool with
        leak := s.cool.leak.set c { (s.leakAt c) with failed := false } c.isLt } } := by
  refine ⟨emit (s.setLeak c fun x => { x with failed := false }) 4 8 c.1 0x0C08 0, if_neg ?_,
    raised_emit_mod _ 4 8 c.1 0x0C08 0, rfl⟩
  rw [hused, hfailed]
  simpa using hdry

/-- Settles O54: a row each. -/
theorem sensorAndLeakRows : Obligations.SensorAndLeakRows := by
  unfold Obligations.SensorAndLeakRows
  refine ⟨fun i x s => ⟨thmFault_row, thmRecover_row⟩, fun n s => ⟨fun hfailed hnew hdue => if_pos ⟨hfailed, by rw [hnew]; rfl, hdue⟩,
    fun w hiso hstate hfree hretry hdue => ?_⟩, fun s => critTemp_row, fun ohms s htick => ?_, fun c s => leakWet_row,
    fun c s => ⟨leakSensor_row, leakSensorRecover_row⟩⟩
  · obtain ⟨hwant, hnew⟩ := refreshWant_of_due hdue
    exact ⟨refreshRequest_row hiso hstate hfree hretry hwant hnew true,
      refreshRequest_row hiso hstate hfree hretry hwant hnew false⟩
  · obtain ⟨t, hnext, hframe, hleak⟩ := leakEvaluation_row ohms htick
    refine ⟨t, hnext, hframe, fun c => ⟨fun hunused => ?_, fun hused => ?_⟩⟩
    · exact (hleak c).trans (if_neg (ne_true_of_eq_false hunused))
    · rw [← State.leakAt, hleak, if_pos hused]
      refine ⟨rfl, rfl, ?_⟩
      simp only [LeakState.taken]
      generalize (ohms[c]'c.isLt) = o
      by_cases hwet : o < 5000
      · simp [hwet]
      · by_cases hopen : 20000 < o <;> simp [hwet, hopen]

end Sys2Proof.Machine
end

section
/-! SUPPORT. SAFE (17 R510 to R519) and the shared fault lines (04 R114, R116): what the latch sets, and that neither the runs it
aborts nor the table it brings touch it. -/

set_option Elab.async false

namespace Sys2Proof.Machine

open Sys2Proof

/-! The runs that SAFE aborts (09 R276). -/

/-- From `s` to `t` no more than Frond's slots, the record and the mailboxes differ, and the record has grown. -/
structure RunsEnded (s t : State) : Prop where
  only : FrondOnly s t
  grow : RecordGrows s t

namespace RunsEnded

theorem refl (s : State) : RunsEnded s s := ⟨.refl s, .refl s⟩

theorem trans {s t u : State} (h : RunsEnded s t) (h' : RunsEnded t u) : RunsEnded s u :=
  ⟨h.only.trans h'.only, h.grow.trans h'.grow⟩

theorem forAll {α : Type} {f : α → State → State} (h : ∀ x s, RunsEnded s (f x s)) (l : List α) (s : State) :
    RunsEnded s (forAll l f s) :=
  forAll_inv (RunsEnded s) f l (fun x t ht => ht.trans (h x t)) s (refl s)

theorem setFrd (x : Slot) (f : FrdSlot → FrdSlot) (s : State) : RunsEnded s (s.setFrd x f) := ⟨rfl, .of_eq rfl rfl rfl⟩

theorem completeLate (q : Reply) (a : Ans) (s : State) : RunsEnded s (completeLate q a s) :=
  ⟨completeLate_frondOnly q a s, completeLate_recordGrows q a s⟩

theorem workEnd (w : FrdWork) (s : State) : RunsEnded s (workEnd w s) := by
  refine ⟨workEnd_frondOnly w s, ?_⟩
  unfold Machine.workEnd
  split
  · split
    · exact .of_eq rfl rfl rfl
    · exact .refl s
  · exact .of_eq rfl rfl rfl

theorem resetSlotState (x : Slot) (why : Nat) (s : State) : RunsEnded s (resetSlotState x why s) :=
  ⟨resetSlotState_frondOnly x why s, (RecordGrows.of_eq (s := s) (t := s.setFrd x fun k => { k with leaky := [], captures := [] })
    rfl rfl rfl).trans
    (.emit ..)⟩

theorem emptySlot (x : Slot) (why : Nat) (s : State) : RunsEnded s (emptySlot x why s) := by
  refine ⟨emptySlot_frondOnly x why s, RecordGrows.trans ?_ (.hostEvent 11 _)⟩
  exact (setFrd x _ s).grow.trans (.emit ..)

theorem seatModel (x : Slot) (b : List Byte) (s : State) : RunsEnded s (seatModel x b s) :=
  (setFrd x _ s).trans (resetSlotState x 2 _)

theorem afterRun (x : Slot) (s : State) : RunsEnded s (afterRun x s) := by
  have hreset : ∀ (b : Bool) (t : State), RunsEnded t (if b then Machine.resetSlotState x 1 t else t) := by
    intro b t
    split
    · exact resetSlotState ..
    · exact .refl t
  have hcleared := (setFrd x (fun k => { k with afterReset := false, afterUnload := none }) s).trans
    (hreset (s.frd.slot[x]'x.isLt).afterReset _)
  unfold Machine.afterRun
  dsimp only
  split
  · exact hcleared
  · split
    · exact (hcleared.trans (emptySlot ..)).trans (seatModel ..)
    · exact hcleared.trans (emptySlot ..)

theorem dropQueue (x : Slot) (s : State) : RunsEnded s (dropQueue x s) :=
  (setFrd x _ s).trans (forAll (fun _ _ => completeLate ..) _ _)

end RunsEnded

theorem frondSafe_runsEnded (s : State) : RunsEnded s (frondSafe s) := by
  refine .forAll (fun x t => ?_) _ s
  dsimp only
  split
  · exact .refl t
  next r hr =>
    have hfree := (RunsEnded.setFrd x (fun k => { k with run := none }) t).trans (.workEnd (.slot x) _)
    split
    · exact ((hfree.trans (.completeLate ..)).trans (.dropQueue x _)).trans (.afterRun x _)
    · exact (hfree.trans (.dropQueue x _)).trans (.afterRun x _)

/-! The latch (17 R516). -/

theorem PinsOnly.recordGrows {s t : State} (h : PinsOnly s t) : RecordGrows s t :=
  .of_eq (by rw [h]) (by rw [h]) (by rw [h])

/-- SAF_ with the latch set. -/
def SafState.latched (f : SafState) (cause now : Nat) : SafState :=
  { f with safe := true, cause := cause, causeTick := now, presentTick := now, override := decide (cause = 1 ∨ cause = 2) }

/-- The safety island's demand on one accelerator. -/
def forceSafe (n : Acc) (s : State) : State := s.setAcc n fun a => { a with forceSaf := true }

/-- Every accelerator is forced. -/
def forcedSafe (s : State) : State := forAll accList forceSafe s

/-- The latch is recorded and set. -/
def safeLatched (cause : Nat) (s : State) : State :=
  (emit s 1 9 0xFF 0x1101 cause).modSaf fun f => f.latched cause s.sys.tick

/-- The tray detached, every accelerator on its way to S0. -/
def safeAimed (s : State) : State := forAll accList (fun n s => aimAcc n 0 s) (detach s)

/-- The tray channel goes no higher (17 R516). -/
def ChanState.heldLow (c : ChanState) : ChanState := { c with target := if 3 ≤ c.state then c.state else min c.target c.state }

theorem enterSafe_new {cause : Nat} {s : State} (h : s.saf.safe = false) : enterSafe cause s =
    announce ((safeAimed (forcedSafe (safeLatched cause s))).setChan trayChan ChanState.heldLow) := by
  unfold enterSafe
  rw [if_neg (by simp [h])]
  rfl

theorem enterSafe_again {cause : Nat} {s : State} (h : s.saf.safe = true) : enterSafe cause s = s := if_pos h

theorem forceSafe_pinsOnly (n : Acc) {s t : State} (h : PinsOnly s t) : PinsOnly s (forceSafe n t) := by
  unfold PinsOnly at h ⊢
  rw [h]
  rfl

theorem forcedSafe_pinsOnly (s : State) : PinsOnly s (forcedSafe s) :=
  forAll_inv (PinsOnly s) _ _ (fun n _ ht => forceSafe_pinsOnly n ht) s rfl

theorem forcedSafe_force (s : State) (n : Acc) : ((forcedSafe s).accAt n).forceSaf = true :=
  congrArg AccState.forceSaf (forAll_finRange_each (p := fun _ => True) (view := fun t (n : Acc) => (t.accAt n))
    (g := fun _ a => { a with forceSaf := true }) (f := forceSafe) (fun _ _ _ => trivial)
    (fun _ _ _ _ => State.accAt_setAcc ..) n (s := s) trivial)

theorem safeAimed_aimed (s : State) : Aimed (detach s) (safeAimed s) :=
  .forAll (fun n t => .aim (accChan n) 0 t) _ _

/-- What the latch sets (17 R516). -/
structure SafeEntered (cause : Nat) (s t : State) : Prop where
  saf : t.saf = s.saf.latched cause s.sys.tick
  sys : t.sys = s.sys
  rack : t.rack = (detach s).rack
  force : ∀ n : Acc, (t.accAt n).forceSaf = true
  target : ∀ n : Acc, (t.chanAt (accChan n)).target = 0
  raised : Raised t 1 9 0xFF 0x1101 cause
  grow : RecordGrows s t

theorem safeEntered_enterSafe {cause : Nat} {s : State} (h : s.saf.safe = false) (hc : cause < 65536) :
    SafeEntered cause s (enterSafe cause s) := by
  have hpins := forcedSafe_pinsOnly (safeLatched cause s)
  have haimed := safeAimed_aimed (forcedSafe (safeLatched cause s))
  have hdetach : RecordGrows (forcedSafe (safeLatched cause s)) (detach (forcedSafe (safeLatched cause s))) := .of_eq rfl rfl rfl
  have hgrow : RecordGrows (safeLatched cause s) (safeAimed (forcedSafe (safeLatched cause s))) :=
    (hpins.recordGrows.trans hdetach).trans haimed.only.recordGrows
  have htarget := fun n => accTarget_forAll_aimAcc n 0 (detach (forcedSafe (safeLatched cause s)))
  have hsaf : (safeAimed (forcedSafe (safeLatched cause s))).saf = (safeLatched cause s).saf := by
    rw [haimed.only.saf]
    change (forcedSafe (safeLatched cause s)).saf = _
    rw [hpins]
  have hrack : (safeAimed (forcedSafe (safeLatched cause s))).rack = (detach s).rack := by
    rw [haimed.only.rack]
    rw [hpins]
    rfl
  have hforce : ∀ n : Acc, ((safeAimed (forcedSafe (safeLatched cause s))).accAt n).forceSaf = true := fun n =>
    (haimed.force n).trans (forcedSafe_force _ n)
  change ∀ n, accTarget (safeAimed (forcedSafe (safeLatched cause s))) n = 0 at htarget
  rw [enterSafe_new h]
  generalize safeAimed (forcedSafe (safeLatched cause s)) = t at hgrow htarget hsaf hrack hforce
  have hall : RecordGrows (safeLatched cause s) (announce (t.setChan trayChan ChanState.heldLow)) :=
    (hgrow.trans (.of_eq (t := t.setChan trayChan ChanState.heldLow) rfl rfl rfl)).trans (announce_recordGrows _)
  have hemit : RecordGrows (emit s 1 9 0xFF 0x1101 cause) (safeLatched cause s) := .of_eq rfl rfl rfl
  refine ⟨?_, ?_, ?_, fun n => ?_, fun n => ?_, hall.raised (hemit.raised (raised_emit s 1 9 0xFF 0x1101 cause hc)),
    (RecordGrows.emit s ..).trans (hemit.trans hall)⟩
  · rw [announce_saf]
    exact hsaf
  · exact hall.sys
  · rw [announce_rack]
    exact hrack
  · rw [State.accAt, announce_acc]
    exact hforce n
  · rw [State.chanAt, announce_crz, State.setChan_crz]
    exact (congrArg ChanState.target (setChan_chan_of_ne (trayChan_ne_accChan n) _ t)).trans (htarget n)

/-! What follows the latch (17 R517). -/

/-- From `s` to `t` only Frond, cooling, the record and the host's events may differ. -/
structure AfterLatch (s t : State) : Prop where
  frame : t = { s with rcd := t.rcd, mbx := t.mbx, frd := t.frd, cool := t.cool }
  grow : RecordGrows s t

theorem RunsEnded.afterLatch {s t : State} (h : RunsEnded s t) : AfterLatch s t :=
  ⟨by rw [h.only], h.grow⟩

theorem DutiesOnly.afterLatch {s t : State} (h : DutiesOnly s t) : AfterLatch s t :=
  ⟨by rw [h.frame], .of_eq (by rw [h.frame]) (by rw [h.frame]) (by rw [h.frame])⟩

theorem tableEntered_recordGrows (c : Nat) (s : State) : RecordGrows s (tableEntered c s) :=
  RecordGrows.trans (t := s.modCool fun k => { k with
    table := true, tableTick := s.sys.tick, cause := c, loopDone := false,
    entryDuty := Vector.ofFn fun (i : Fin 20) =>
      if h : i.1 < 16 then (k.fan[(⟨i.1, h⟩ : Fan)]'(Fin.isLt _)).duty else k.pump[(⟨i.1 - 16, by omega⟩ : Pump)].duty })
    (by exact .of_eq rfl rfl rfl)
    ((RecordGrows.emit ..).trans (.hostEvent 7 _))

theorem tableCheck_recordGrows (s : State) : RecordGrows s (tableCheck s) := by
  have honly := tableCheck_tableOnly s
  refine ⟨by rw [honly.frame], honly.waits, ?_⟩
  cases hstarted : s.saf.started with
  | false =>
    rw [tableCheck_unstarted hstarted]
    exact fun _ hp => hp
  | true =>
    cases hcause : tableCause s with
    | none =>
      rw [tableCheck_noCause hcause]
      exact fun _ hp => hp
    | some c =>
      cases htable : s.cool.table with
      | true => rcases tableCheck_in_table htable with heq | ⟨d, heq⟩ <;> rw [heq] <;> exact fun _ hp => hp
      | false =>
        rw [tableCheck_enters hstarted hcause htable]
        exact ((tableEntered_recordGrows c s).trans (driveAll_dutiesOnly 0 _).afterLatch.grow).due

theorem tableCheck_afterLatch (s : State) : AfterLatch s (tableCheck s) :=
  ⟨by rw [(tableCheck_tableOnly s).frame], tableCheck_recordGrows s⟩

theorem AfterLatch.trans {s t u : State} (h : AfterLatch s t) (h' : AfterLatch t u) : AfterLatch s u :=
  ⟨by rw [h'.frame, h.frame], h.grow.trans h'.grow⟩

theorem safeNow_afterLatch (cause : Nat) (s : State) : AfterLatch (enterSafe cause s) (safeNow cause s) := by
  have hruns := (frondSafe_runsEnded (enterSafe cause s)).afterLatch
  unfold safeNow
  dsimp only
  split
  · exact hruns.trans (driveAll_dutiesOnly 0 _).afterLatch
  · exact hruns.trans (tableCheck_afterLatch _)

/-- The latch and what follows it. -/
theorem safeEntered_safeNow {cause : Nat} {s : State} (h : s.saf.safe = false) (hc : cause < 65536) :
    SafeEntered cause s (safeNow cause s) := by
  obtain ⟨hsaf, hsys, hrack, hforce, htarget, hraised, hgrow⟩ := safeEntered_enterSafe (cause := cause) h hc
  obtain ⟨hframe, hafter⟩ := safeNow_afterLatch cause s
  refine ⟨?_, ?_, ?_, fun n => ?_, fun n => ?_, hafter.raised hraised, hgrow.trans hafter⟩
  · rw [hframe]
    exact hsaf
  · rw [hframe]
    exact hsys
  · rw [hframe]
    exact hrack
  · rw [hframe]
    exact hforce n
  · rw [hframe]
    exact htarget n

/-- Whether the latch was set already or not: SAFE, nothing of SYS_ changed, no record lost. -/
theorem safeNow_always (cause : Nat) (s : State) (hc : cause < 65536) :
    (safeNow cause s).saf.safe = true ∧ (safeNow cause s).sys = s.sys ∧ RecordGrows s (safeNow cause s) ∧
      (safeNow cause s).saf.ringLow = s.saf.ringLow := by
  cases h : s.saf.safe with
  | false =>
    have hentered := safeEntered_safeNow (cause := cause) h hc
    rw [hentered.saf]
    exact ⟨rfl, hentered.sys, hentered.grow, rfl⟩
  | true =>
    obtain ⟨hframe, hafter⟩ := safeNow_afterLatch cause s
    rw [enterSafe_again h] at hframe hafter
    rw [hframe]
    exact ⟨h, rfl, hframe ▸ hafter, rfl⟩

/-! Causes of SAFE (17 R510 to R515), and the rows that take the tray down (04 R114, R116; 17 R519). -/

/-- The latch set from a state that a row has prepared. -/
theorem safeNow_row {cause : Nat} {s u : State} (hnew : u.saf.safe = false) (htick : u.sys.tick = s.sys.tick)
    (hc : cause < 65536) : (safeNow cause u).saf.safe = true ∧ (safeNow cause u).saf.cause = cause ∧
      (safeNow cause u).saf.causeTick = s.sys.tick ∧ (safeNow cause u).rack.detached = true ∧
      (∀ n : Acc, ((safeNow cause u).accAt n).forceSaf = true ∧ ((safeNow cause u).chanAt (accChan n)).target = 0) ∧
      Raised (safeNow cause u) 1 9 0xFF 0x1101 cause := by
  obtain ⟨hsaf, -, hrack, hforce, htarget, hraised, -⟩ := safeEntered_safeNow (cause := cause) hnew hc
  rw [hsaf, hrack]
  exact ⟨rfl, rfl, htick, rfl, fun n => ⟨hforce n, htarget n⟩, hraised⟩

/-- A ring found low (17 R514). -/
def ringSeen (s : State) : State :=
  (emit (s.modSys fun y => { y with paceLow := true }) 1 9 0xFF 0x0101 s.saf.ringTwice.toNat).modSaf fun f =>
    { f with ringLow := true }

theorem paceLow_new {s : State} (htwice : s.saf.ringTwice ≠ 0) (hnew : s.saf.ringLow = false) :
    exec .paceLow s = .next (safeNow 3 (ringSeen s)) := by
  change execPaceLow s = _
  unfold execPaceLow
  rw [hnew, if_neg Bool.false_ne_true, if_neg htwice]
  rfl

theorem paceLow_again {s : State} (hlow : s.saf.ringLow = true) (hsafe : s.saf.safe = false) (hpace : s.sys.paceLow = true) :
    exec .paceLow s = .next (safeNow 3 s) := by
  change execPaceLow s = _
  unfold execPaceLow
  rw [hlow, hsafe, hpace]
  rfl

theorem paceLow_idle {s : State}
    (h : (s.saf.ringLow = true ∧ s.saf.safe = true) ∨ (s.saf.ringLow = false ∧ s.saf.ringTwice = 0)) :
    exec .paceLow s = .next s := by
  change execPaceLow s = _
  unfold execPaceLow
  rcases h with ⟨hlow, hsafe⟩ | ⟨hhigh, hnone⟩
  · rw [hlow, hsafe]
    rfl
  · rw [hhigh, if_neg Bool.false_ne_true, if_pos hnone]

theorem lockstepDivergence_next {d : Divergence} {s : State} (hstarted : s.saf.started = true) (hd : diverges d = true) :
    exec (.lockstepDivergence d) s = .next (safeNow 1 (s.modSys fun y => { y with safOk := false })) :=
  if_neg (by rw [hstarted, hd]; decide)

theorem lockstepDivergence_brief {us : Nat} (h : us < 500) (s : State) :
    exec (.lockstepDivergence (.unmatched us)) s = .next s ∧ exec (.lockstepDivergence (.silent us)) s = .next s := by
  have hnot : decide (500 ≤ us) = false := decide_eq_false (by omega)
  constructor <;> exact if_pos (by simp [diverges, hnot])

theorem convertersBothFault_next {x : Nat} {s : State} (hsince : s.saf.bothSince = some x) (hdue : x + 10000 ≤ s.sys.tick)
    (hup : ∃ n, chState s n ≠ 0) : exec .convertersBothFault s = .next (safeNow 5 s) := by
  obtain ⟨n, hn⟩ := hup
  change execConvertersBothFault s = _
  unfold execConvertersBothFault
  rw [hsince]
  refine if_neg ?_
  rintro (hearly | hdown)
  · omega
  · exact hn (by simpa using List.all_eq_true.1 hdown n (mem_accList n))

theorem safeTrayflt_next {s : State} (hsafe : s.saf.safe = true) (hdrive : s.rack.trayfltDrive = false)
    (hdue : s.saf.causeTick + 100000 ≤ s.sys.tick) (hup : ∃ n, chState s n ≠ 0) :
    exec .safeTrayflt s = .next (driveTrayflt s) := by
  obtain ⟨n, hn⟩ := hup
  have hnot : (accList.all fun n => chState s n == 0) = false := by
    rw [Bool.eq_false_iff, ne_eq, List.all_eq_true]
    exact fun hdown => hn (by simpa using hdown n (mem_accList n))
  refine if_neg ?_
  rw [hsafe, hdrive, decide_eq_false (by omega), hnot]
  decide

/-- RACKFLT_N low takes the tray through rack state 11 (04 R116). -/
theorem rackflt_row {s : State} (hdrive : s.rack.rackfltDrive = false) :
    ∃ t, exec .rackflt s = .next t ∧ t.rack.state = 11 ∧ t.rack.detached = true ∧
    t.rack.faultDetached = true ∧ t.rack.offLatch = true ∧ t.rack.fastDown = true ∧ HostDue t 8 ∧
    Raised t 1 8 0xFF 0x20C ((s.chanAt trayChan).state % 65536) ∧
    ∀ n : Acc, (t.chanAt (accChan n)).target = min (s.chanAt (accChan n)).target 3 := by
  obtain ⟨hraised, hdue, -, ⟨d, e, q, hrack⟩, -, -, -, htarget⟩ := rackOff_spec s
  refine ⟨_, if_neg (by simp [hdrive]), ?_, ?_, ?_, ?_, ?_, hdue, hraised, htarget⟩ <;> rw [hrack] <;> rfl

/-- Settles O55: the causes by `safeNow_row`, the lines by `trayDown_trayOff` and `rackOff_spec`. -/
theorem safeAndFaultLineRows : Obligations.SafeAndFaultLineRows := by
  unfold Obligations.SafeAndFaultLineRows
  refine ⟨fun i cause s hsafe h => ?_, fun s htwice hnew => ?_, fun s => paceLow_idle, fun us s h => lockstepDivergence_brief h s,
    fun d s hstarted hd => ?_, fun s => ?_, fun s hsafe hdrive hdue hup => ?_, fun s => ?_, fun s => rackflt_row⟩
  · rcases h with ⟨rfl, rfl, htwice, hnew⟩ | ⟨rfl, rfl, hlow, hpace⟩ | ⟨d, rfl, hd, rfl, hstarted⟩ | ⟨rfl, rfl⟩ |
      ⟨x, rfl, rfl, hsince, hdue, hup⟩
    · exact ⟨_, paceLow_new htwice hnew, safeNow_row hsafe rfl (by decide)⟩
    · exact ⟨_, paceLow_again hlow hsafe hpace, safeNow_row hsafe rfl (by decide)⟩
    · exact ⟨_, lockstepDivergence_next hstarted hd, safeNow_row hsafe rfl (by decide)⟩
    · exact ⟨_, rfl, safeNow_row hsafe rfl (by decide)⟩
    · exact ⟨_, convertersBothFault_next hsince hdue hup, safeNow_row hsafe rfl (by decide)⟩
  · obtain ⟨-, hsys, hgrow, hring⟩ := safeNow_always 3 (ringSeen s) (by decide)
    have hraised : Raised (ringSeen s) 1 9 0xFF 0x0101 s.saf.ringTwice.toNat :=
      (raised_emit (s.modSys fun y => { y with paceLow := true }) 1 9 0xFF 0x0101 _ (by omega)).mono rfl fun _ hw => hw
    exact ⟨_, paceLow_new htwice hnew, hsys, hring, hgrow.raised hraised⟩
  · obtain ⟨-, hsys, -⟩ := safeNow_always 1 (s.modSys fun y => { y with safOk := false }) (by decide)
    exact ⟨_, lockstepDivergence_next hstarted hd, hsys⟩
  · obtain ⟨hsafe, hsys, -⟩ :=
      safeNow_always 2 (s.modSys fun y => { y with memEccUe := true, eccUe := y.eccUe + 1 }) (by decide)
    exact ⟨_, rfl, hsys, hsafe⟩
  · obtain ⟨hdown, hdriven⟩ := trayDown_driveTrayflt s
    exact ⟨_, safeTrayflt_next hsafe hdrive hdue hup, hdriven, hdown⟩
  · obtain ⟨-, -, hkept⟩ := trayOff_kept s
    exact ⟨_, rfl, trayDown_trayOff s, hkept⟩

end Sys2Proof.Machine
end

section
/-! SUPPORT. twb.set_config and the outcomes of twb.transfer (13 R389, R393 to R395, R411, R412). -/

set_option Elab.async false

namespace Sys2Proof.Machine

open Sys2Proof

/-! twb.set_config (13 R412). -/

/-- What a port's register takes of a word: RATE and ALERT_EN, PEC always on. -/
theorem portCfg_fields (w : Word) (tray : Prop) [Decidable tray] :
    let c := setFld (setFld (0x200 : Word) 0 2 (fld w 0 2)) 10 1 (if tray then 0 else fld w 10 1)
    fld c 0 2 = fld w 0 2 ∧ fldB c 9 = true ∧ fldB c 10 = (fldB w 10 && !decide tray) := by
  intro c
  refine ⟨?_, ?_, ?_⟩
  · rw [fld_setFld_other (by decide) _ (by decide), fld_setFld_same (by decide), fld, Nat.mod_mod]
  · rw [fldB_setFld (by decide), if_neg (by decide), fldB_setFld (by decide), if_neg (by decide)]
    decide
  · rw [fldB_setFld (by decide), if_pos (by decide), fld_one]
    by_cases htray : tray
    · simp [htray]
    · cases fldB w 10 <;> simp [htray]

/-! twb.transfer (13 R393 to R395, R411). -/

theorem applied_twbTransfer {f : Frame} {p : Port} {b a pr co : Byte} {wl rl : BitVec 16} {wd : List Byte} (e : TransferEnd)
    (hb : b.toNat = p.1) (s : State) : applied f (.twbTransfer b a pr co wl rl wd) (some e) s =
      applyTransfer p a.toNat pr.toNat wl.toNat rl.toNat e (taken f (.twbTransfer b a pr co wl rl wd) s) := by
  have hp : (⟨b.toNat, hb ▸ p.2⟩ : Port) = p := Fin.ext hb
  exact (dif_pos (hb ▸ p.2)).trans (by rw [hp])

theorem applyTransfer_stuck {p : Port} {s : State} (h : (s.portAt p).stuck = true) (a pr wl rl : Nat) (e : TransferEnd) :
    applyTransfer p a pr wl rl e s = (s, some { res := .busFault }) := if_pos h

theorem applyTransfer_tooLong {p : Port} {pr wl rl : Nat} {s : State} (h : (s.portAt p).stuck = false)
    (hlong : tooLong s p pr wl rl = true) (a : Nat) (e : TransferEnd) :
    applyTransfer p a pr wl rl e s = (s, some { res := .tooLong }) := by
  rw [applyTransfer, h, if_neg Bool.false_ne_true, if_pos hlong]

theorem applyTransfer_made {p : Port} {pr wl rl : Nat} {s : State} (h : (s.portAt p).stuck = false)
    (hfits : tooLong s p pr wl rl = false) (a : Nat) (e : TransferEnd) :
    applyTransfer p a pr wl rl e s = xferEnd p a rl e s := by
  rw [applyTransfer, h, hfits]
  rfl

theorem tooLong_taken (f : Frame) (c : Cmd) (s : State) (p : Port) (pr wl rl : Nat) :
    tooLong (taken f c s) p pr wl rl = tooLong s p pr wl rl := by
  rw [tooLong, taken_twb]
  rfl

/-- The eighth loss is the last: it is recorded and every loss counted (13 R395). -/
def arbGivenUp (p : Port) (a k : Nat) (x : BitVec 32) (s : State) : State :=
  (emit (s.setPort p fun q => { q with arbLost := addSat (min k 8) q.arbLost, arb := x }) 7 (portUnit p) p.1 0x0D04 a).setPort p
    fun q => { q with arbLost := addSat (8 - min k 8) q.arbLost }

theorem xferEnd_arbFail (p : Port) (a rl k : Nat) (x : BitVec 7) (y : BitVec 8) (z : BitVec 3) (s : State) :
    xferEnd p a rl (.arbLost k x y z none) s =
      (arbGivenUp p a k (BitVec.ofNat 32 (x.toNat * 2 ^ 16 + y.toNat * 2 ^ 8 + z.toNat)) s, some { res := .arbFail }) := rfl

/-- A command that moves the two-wire ports, and hands events to the merger, leaves besides only its traces. -/
theorem settled_bookkept_twb {f : Frame} {c : Cmd} {bus : Option TransferEnd} {s u : State} {r : RecState} {g : TwbState}
    (hu : u = { taken f c s with rcd := r, twb := g }) (h : (applied f c bus s).1 = u) :
    settled f c bus s = { bookkept s (settled f c bus s) with twb := (settled f c bus s).twb } := by
  rw [hu] at h
  have htwb : (settled f c bus s).twb = g := by rw [settled_twb, h]
  calc settled f c bus s
      = bookkept { taken f c s with rcd := r, twb := g } (settled f c bus s) := h ▸ settled_bookkept_applied f c bus s
    _ = { bookkept (taken f c s) (settled f c bus s) with twb := g } := rfl
    _ = { bookkept s (settled f c bus s) with twb := (settled f c bus s).twb } := by rw [bookkept_taken, htwb]

/-- Settles O19: the registers by `portCfg_fields`, a transfer by the rule of its outcome. -/
theorem twoWireCommands : Obligations.TwoWireCommands := by
  unfold Obligations.TwoWireCommands
  refine ⟨fun f p a g s h => ?_, ?_⟩
  · have hrule : applied f (.twbSetConfig p a g) none s = done (putTwb p a g (taken f (.twbSetConfig p a g) s)) := rfl
    obtain ⟨happlied, hwaits⟩ := settled_stored (.twbSetConfig p a g) rfl hrule
    have htwb : (settled f (.twbSetConfig p a g) none s).twb = (putTwb p a g s).twb := by
      rw [settled_twb, happlied, putTwb, State.modTwb_twb, taken_twb]
      rfl
    refine ⟨_, runCommand_settled h none, ?_, fun i => ?_, fun n hn => ?_, ?_, hwaits⟩
    · exact settled_bookkept_of (g := fun u => { u with twb := (settled f (.twbSetConfig p a g) none s).twb }) (fun _ _ => rfl)
        (by rw [happlied, htwb, putTwb, putTwb, State.modTwb, State.modTwb, taken_twb])
    · obtain ⟨hrate, hpec, halert⟩ := portCfg_fields (p.getD i.1 0) (i.1 = 10)
      rw [htwb]
      simp only [putTwb, State.modTwb_twb, Fin.getElem_fin, Vector.getElem_ofFn]
      exact ⟨hrate, hpec, halert, trivial⟩
    · rw [htwb]
      simp only [putTwb, State.modTwb_twb, Fin.getElem_fin, Vector.getElem_ofFn, if_neg hn]
    · rw [htwb]
      rfl
  · intro f p b a pr co wl rl wd e s c h hb
    have hrule := applied_twbTransfer (f := f) (a := a) (pr := pr) (co := co) (wl := wl) (rl := rl) (wd := wd) e hb s
    have hnext : exec (.twbTransfer f b a pr co wl rl wd e) s = .next (settled f c (some e) s) := runCommand_settled h (some e)
    have hstuck : ((taken f c s).portAt p).stuck = (s.portAt p).stuck := by rw [portAt_taken]
    have hans : ∀ {u : State} {x : Ans}, applied f c (some e) s = (u, some x) → (applied f c (some e) s).1 = u ∧
        AnsweredWith f c x.res x.data (settled f c (some e) s) := fun hu =>
      ⟨congrArg Prod.fst hu, settled_answered (congrArg Prod.snd hu) (storeWaits_of_unstored rfl ..)⟩
    refine ⟨fun hbusy => ?_, fun hfree hlong => ?_, fun hfree hfits => ?_⟩
    · obtain ⟨hkept, hanswered⟩ := hans (hrule.trans (applyTransfer_stuck (hstuck.trans hbusy) ..))
      exact ⟨_, hnext, settled_bookkept hkept, hanswered.answered⟩
    · obtain ⟨hkept, hanswered⟩ := hans (hrule.trans (applyTransfer_tooLong (hstuck.trans hfree) ((tooLong_taken ..).trans hlong) ..))
      exact ⟨_, hnext, settled_bookkept hkept, hanswered.answered⟩
    · have hmade := hrule.trans (applyTransfer_made (hstuck.trans hfree) ((tooLong_taken ..).trans hfits) ..)
      refine ⟨fun d hd => ?_, fun hd => ?_, fun hd => ?_, fun k x y z hd => ?_⟩ <;> subst hd
      · obtain ⟨hkept, hanswered⟩ := hans hmade
        exact ⟨_, hnext, settled_bookkept hkept, hanswered⟩
      · obtain ⟨hset, hanswered⟩ := hans hmade
        exact ⟨_, hnext, settled_bookkept_of (g := fun u => u.setPort p fun q => { q with nack := addSat 3 q.nack })
          (fun _ _ => rfl) hset, hanswered.answered⟩
      · obtain ⟨hset, hanswered⟩ := hans hmade
        exact ⟨_, hnext, settled_bookkept_of
          (g := fun u => u.setPort p fun q => { q with nack := addSat 3 q.nack, pec := addSat 3 q.pec })
          (fun _ _ => rfl) hset, hanswered.answered⟩
      · obtain ⟨hset, hanswered⟩ := hans (hmade.trans (xferEnd_arbFail ..))
        have hraised := (raised_emit ((taken f c s).setPort p fun q => { q with
          arbLost := addSat (min k 8) q.arbLost, arb := BitVec.ofNat 32 (x.toNat * 2 ^ 16 + y.toNat * 2 ^ 8 + z.toNat) })
          7 (portUnit p) p.1 0x0D04 a.toNat (by omega))
        refine ⟨_, hnext, ?_, (settled_recordGrows ..).raised ?_, hanswered.answered⟩
        · exact settled_bookkept_twb rfl hset
        · rw [hset]
          exact hraised.mono rfl fun _ hw => hw

end Sys2Proof.Machine
end

section
/-! SUPPORT. The network, firmware, debug, lifecycle, key and epoch commands (14 R428, R431; 16 R480 to R507). -/

set_option Elab.async false

namespace Sys2Proof.Machine

open Sys2Proof

/-- A command whose rule makes a change that its traces do not touch, and besides hands on events, ends in that change and its
traces. -/
theorem settled_bookkept_like {g : State → State} (hg : ∀ u t, bookkept (g u) t = g (bookkept u t)) {f : Frame} {c : Cmd}
    {bus : Option TransferEnd} {s u : State} (hu : (applied f c bus s).1 = u)
    (h : ∀ t, bookkept u t = bookkept (g (taken f c s)) t) :
    settled f c bus s = g (bookkept s (settled f c bus s)) := by
  calc settled f c bus s
      = bookkept u (settled f c bus s) := hu ▸ settled_bookkept_applied f c bus s
    _ = bookkept (g (taken f c s)) (settled f c bus s) := h _
    _ = g (bookkept (taken f c s) (settled f c bus s)) := hg ..
    _ = g (bookkept s (settled f c bus s)) := by rw [bookkept_taken]

/-! net.subscribe (14 R431). -/

/-- The lease of a sender. -/
def ownLease (q : Reply) (o : Option Lease) : Bool :=
  match o with | some l => l.addr == q.addr && l.udp == q.udp | none => false

/-- The lease that a command opens (14 R431). -/
def leaseOf (streams version : Byte) (div : BitVec 16) (q : Reply) (now : Nat) : Lease :=
  { addr := q.addr, udp := q.udp, port := portOf q.src, records := streams.getLsbD 0,
    events := streams.getLsbD 1, version := version, div := div.toNat, expiry := now + 1000000 }

/-- A lease is set. -/
def leased (k : Fin 4) (l : Lease) (s : State) : State := s.modNet fun n => { n with leases := n.leases.set k (some l) k.isLt }

theorem find?_isNone_first {v : Vector (Option Lease) 4} {k : Fin 4} (hk : (v[k]'k.isLt) = none) (hfirst : ∀ j : Fin 4, j < k → (v[j]'j.isLt) ≠ none) :
    (List.finRange 4).find? (fun k => (v[k]'k.isLt).isNone) = some k := by
  have hgo : ∀ l : List (Fin 4), k ∈ l → l.Pairwise (· < ·) → l.find? (fun k => (v[k]'k.isLt).isNone) = some k := by
    intro l hmem hsorted
    induction l with
    | nil => cases hmem
    | cons a l ih =>
      obtain ⟨ha, hl⟩ := List.pairwise_cons.1 hsorted
      rcases List.mem_cons.1 hmem with rfl | hin
      · rw [List.find?_cons_of_pos (by rw [hk]; rfl)]
      · rw [List.find?_cons_of_neg (by simpa using hfirst a (ha k hin)), ih hin hl]
  exact hgo _ (List.mem_finRange k) (by decide)

theorem applySubscribe_eq (streams version : Byte) (div : BitVec 16) (q : Reply) (s : State) :
    applySubscribe streams version div q s =
      match ((List.finRange 4).find? (fun k => ownLease q (s.net.leases[k]'k.isLt))).or
        ((List.finRange 4).find? fun k => (s.net.leases[k]'k.isLt).isNone) with
      | none => refuse 0x0E02 0xFF s
      | some k => doneWith [BitVec.ofNat 8 k.1] (emit (leased k (leaseOf streams version div q s.sys.tick) s) 5 9 k.1 0x0E03
          (if ((List.finRange 4).find? fun k => ownLease q (s.net.leases[k]'k.isLt)).isSome then 2 else 1)) := rfl

theorem applySubscribe_opens {streams version : Byte} {div : BitVec 16} {q : Reply} {k : Fin 4} {s : State}
    (hnew : ∀ j : Fin 4, ownLease q (s.net.leases[j]'j.isLt) = false) (hk : (s.net.leases[k]'k.isLt) = none)
    (hfirst : ∀ j : Fin 4, j < k → (s.net.leases[j]'j.isLt) ≠ none) :
    applySubscribe streams version div q s = doneWith [BitVec.ofNat 8 k.1]
      (emit (leased k (leaseOf streams version div q s.sys.tick) s) 5 9 k.1 0x0E03 1) := by
  have hold : (List.finRange 4).find? (fun k => ownLease q (s.net.leases[k]'k.isLt)) = none :=
    List.find?_eq_none.2 fun j _ => by rw [hnew j]; exact Bool.false_ne_true
  have hfree := find?_isNone_first hk hfirst
  rw [applySubscribe_eq, hold, hfree]
  rfl

/-- Settles O20: net.set_config does nothing yet; net.subscribe by `applySubscribe_opens`. -/
theorem networkCommands : Obligations.NetworkCommands := by
  unfold Obligations.NetworkCommands
  refine ⟨fun f u l g s h => ?_, fun f st v d k s h hnew hk hfirst => ?_⟩
  · obtain ⟨happlied, hwaits⟩ := settled_stored (.netSetConfig u l g) (f := f) (s := s) rfl rfl
    exact ⟨_, runCommand_settled h none, settled_bookkept happlied, hwaits⟩
  · have hown : ∀ j : Fin 4, ownLease (ticket (reqOf f (.netSubscribe st v d) none s) (submitted f s))
        ((taken f (.netSubscribe st v d) s).net.leases[j]'j.isLt) = false := by
      intro j
      rw [taken_leases]
      cases hl : (s.net.leases[j]'j.isLt) with
      | none => rfl
      | some x =>
        have hne := hnew j x hl
        simp only [ownLease]
        rw [Bool.eq_false_iff, ne_eq, Bool.and_eq_true, beq_iff_eq, beq_iff_eq]
        exact hne
    obtain ⟨happlied, hans⟩ := settled_doneWith (.netSubscribe st v d) rfl (applySubscribe_opens hown (by rwa [taken_leases])
      (by rwa [taken_leases]))
    refine ⟨_, runCommand_settled h none, ?_, (settled_recordGrows ..).raised ?_, hans⟩
    · refine (settled_bookkept_like (g := leased k (leaseOf st v d (ticket (reqOf f (.netSubscribe st v d) none s) (submitted f s))
        s.sys.tick)) (fun _ _ => rfl) happlied fun t => ?_).trans ?_
      · rw [taken_sys]
        rfl
      · rfl
    · rw [happlied]
      exact raised_emit _ 5 9 k.1 0x0E03 1 (by decide)

/-! Firmware (16 R492 to R494, R501). -/

theorem targetOf_eq {b : Byte} {k : Fin 3} (h : b.toNat = k.1) : targetOf b = some k := by
  have hlt : b.toNat < 3 := h ▸ k.2
  exact (dif_pos hlt).trans (congrArg some (Fin.ext h))

/-- The area with a chunk more (16 R492). -/
def StageState.staged (x : StageState) (first : Bool) (total : Nat) (data : List Byte) : StageState :=
  { verified := x.verified && !first, total := total, data := (if first then [] else x.data) ++ data }

/-- An area is set. -/
def stagePut (k : Fin 3) (x : StageState) (s : State) : State := s.modSec fun c => { c with stage := c.stage.set k x k.isLt }

/-- An area is set, and recorded when it is full. -/
def chunkPut (k : Fin 3) (x : StageState) (s : State) : State :=
  if stageFull x then firmware (stagePut k x s) k.1 0x1002 k.1 else stagePut k x s

theorem applyFwStage_done (k : Fin 3) (first : Bool) (total : Nat) (data : List Byte) (s : State) :
    applyFwStage k first total data s = done (chunkPut k ((s.stageAt k).staged first total data) s) := rfl

theorem chunkPut_kept (k : Fin 3) (x : StageState) (s : State) :
    (chunkPut k x s).sec = { s.sec with stage := s.sec.stage.set k x k.isLt } ∧ (chunkPut k x s).nv = s.nv ∧
      (chunkPut k x s).crz = s.crz := by
  unfold chunkPut
  split <;> exact ⟨rfl, rfl, rfl⟩

theorem raised_firmware {s : State} {obj code detail : Nat} (hd : detail < 65536) :
    Raised (firmware s obj code detail) 7 9 obj code detail ∧ HostDue (firmware s obj code detail) 12 :=
  ⟨(RecordGrows.hostEvent 12 _).raised (raised_emit s 7 9 obj code detail hd), hostDue_hostEvent 12 _⟩

theorem verifyImage_taken (f : Frame) (c : Cmd) (s : State) (t : Nat) (b : List Byte) :
    verifyImage (taken f c s) t b = verifyImage s t b := by
  rw [taken_frame]
  rfl

theorem versionOk_taken (f : Frame) (c : Cmd) (s : State) (t : Nat) (b : List Byte) :
    versionOk (taken f c s) t b = versionOk s t b := by
  rw [taken_frame]
  rfl

theorem applyFwVerify_done {k : Fin 3} {s : State} (hfull : stageFull (s.stageAt k) = true)
    (hgood : verifyImage s k.1 (s.stageAt k).data = 1) (hmin : imgEpochMin (s.stageAt k).data ≤ s.sec.committed)
    (hmax : s.sec.committed ≤ imgEpochMax (s.stageAt k).data) (hversion : versionOk s k.1 (s.stageAt k).data = true) :
    applyFwVerify k s = done (firmware (stagePut k { (s.stageAt k) with verified := true } s) k.1 0x1003 1) := by
  unfold applyFwVerify
  dsimp only
  rw [hfull, hgood, hversion, if_neg (by decide), if_neg (by decide), if_neg (by decide), if_neg (by decide),
    if_neg fun h => h.elim (Nat.not_lt.2 hmin) (Nat.not_lt.2 hmax), if_neg (by decide)]
  rfl

theorem inTrial_taken (f : Frame) (c : Cmd) (s : State) : inTrial (taken f c s) = inTrial s := by
  rw [taken_frame]
  rfl

theorem activating_taken (f : Frame) (c : Cmd) (s : State) : activating (taken f c s) = activating s := by
  rw [activating, taken_sec]
  rfl

/-- A controller image goes to the other slot (16 R494). -/
theorem applyFwActivate_controller {slot : Nat} {s : State} (hverified : (s.stageAt (0 : Fin 3)).verified = true)
    (hslot : s.sec.bootSlot ≠ slot) (htrial : inTrial s = false) (hgolden : (s.sec.goldenBad[(0 : Fin 3)]'(Fin.isLt _)) = false)
    (hidle : activating s = false) : applyFwActivate 0 slot false s = done (s.modSec fun c => { c with
      activate := some { slot := slot, image := (s.stageAt (0 : Fin 3)).data, golden := false } }) := by
  unfold applyFwActivate
  dsimp only
  rw [hverified, htrial, hgolden, hidle, if_neg (by decide), if_neg (by simpa using hslot), if_neg (by simp), if_neg (by decide),
    if_neg (by simp), if_neg (by decide), if_pos rfl]

/-- An accelerator image is queued for the accelerators of its family (16 R494, R501). -/
theorem applyFwActivate_family {k : Fin 3} {slot : Nat} {s : State} (hk : k ≠ 0) (hverified : (s.stageAt k).verified = true)
    (hgolden : (s.sec.goldenBad[k]'k.isLt) = false) (hidle : activating s = false) : applyFwActivate k slot false s =
      done (forAll (familyMembers s (k.1 - 1)) (queueAccWrite (s.stageAt k).data) s) := by
  unfold applyFwActivate
  dsimp only
  rw [hverified, hgolden, hidle, if_neg (by decide), if_neg (fun e => hk e.1), if_neg (fun e => hk e.1), if_neg (by decide),
    if_neg (by simp), if_neg (by decide), if_neg hk]
  rfl

/-- From `s` to `t` only writes of accelerator images may differ. -/
def WritesOnly (s t : State) : Prop := t = { s with sec := { s.sec with acc := t.sec.acc } }

theorem queueAccWrite_writesOnly (b : List Byte) (n : Acc) {s t : State} (h : WritesOnly s t) :
    WritesOnly s (queueAccWrite b n t) := by
  unfold WritesOnly at h ⊢
  rw [h]
  rfl

/-- Of the writes, the one of its accelerator is queued. -/
theorem queueAccWrite_acc (b : List Byte) {s t : State} (h : WritesOnly s t) (m n : Acc) :
    ((queueAccWrite b m t).fwAt n) = if n = m then
      { (t.fwAt m) with
        write := some (1 - (selectOf s m).active, b), writing := decide (chState s m < 9) || decide (chState s m = 12),
        state := if decide (chState s m < 9) || decide (chState s m = 12) then 3 else (t.fwAt m).state }
      else (t.fwAt n) := by
  have hselect : selectOf t m = selectOf s m := by
    rw [h]
    rfl
  have hstate : chState t m = chState s m := by
    rw [h]
    rfl
  rw [queueAccWrite, hselect, hstate]
  exact State.fwAt_setAccFw ..

theorem queueAccWrites_writesOnly (b : List Byte) (l : List Acc) (s : State) : WritesOnly s (forAll l (queueAccWrite b) s) :=
  forAll_inv (WritesOnly s) _ _ (fun n _ ht => queueAccWrite_writesOnly b n ht) s rfl

theorem queueAccWrites_acc (b : List Byte) {l : List Acc} (hl : l.Nodup) (s : State) (n : Acc) :
    (n ∈ l → ((forAll l (queueAccWrite b) s).fwAt n).write = some (1 - (selectOf s n).active, b)) ∧
      (n ∉ l → ((forAll l (queueAccWrite b) s).fwAt n) = (s.fwAt n)) := by
  have heach := forAll_each (p := WritesOnly s) (view := fun t (n : Acc) => (t.fwAt n))
    (g := fun m a => { a with
        write := some (1 - (selectOf s m).active, b), writing := decide (chState s m < 9) || decide (chState s m = 12),
        state := if decide (chState s m < 9) || decide (chState s m = 12) then 3 else a.state })
    (fun m t ht => queueAccWrite_writesOnly b m ht) (fun m t k ht => queueAccWrite_acc b ht m k) hl n (s := s) rfl
  refine ⟨fun hn => ?_, fun hn => heach.trans (if_neg hn)⟩
  rw [if_pos hn] at heach
  exact congrArg AccFwState.write heach

theorem familyMembers_taken (f : Frame) (c : Cmd) (s : State) (k : Nat) :
    familyMembers (taken f c s) k = familyMembers s k := by
  rw [familyMembers, taken_acc]
  rfl

theorem selectOf_taken (f : Frame) (c : Cmd) (s : State) (n : Acc) : selectOf (taken f c s) n = selectOf s n := by
  rw [taken_frame]
  rfl

theorem mem_familyMembers {s : State} {n : Acc} {id : Identity} {k : Nat} (hid : (s.accAt n).ident = some id)
    (hfamily : id.fwFamily.toNat = k) : n ∈ familyMembers s k := by
  refine List.mem_filter.2 ⟨mem_accList n, ?_⟩
  rw [hid]
  exact beq_iff_eq.2 hfamily

/-- Settles O21: each command by the rule that applies it. -/
theorem firmwareCommands : Obligations.FirmwareCommands := by
  unfold Obligations.FirmwareCommands
  refine ⟨fun f b fl k o l d s h hb => ?_, fun f b k s h hb hfull hgood hmin hmax hversion => ?_,
    fun f sl s h hverified hslot htrial hgolden hidle => ?_, fun f b sl k s h hb hk hverified hgolden hidle => ?_⟩
  · have hrule : applied f (.fwStage b fl o l d) none s = _ :=
      (onSome_eq (targetOf_eq hb) _ _).trans (applyFwStage_done k (fl.getLsbD 0) l.toNat d _)
    obtain ⟨happlied, hans⟩ := settled_done (.fwStage b fl o l d) rfl hrule
    rw [stageAt_taken] at happlied
    obtain ⟨hsec, hnv, hcrz⟩ := chunkPut_kept k ((s.stageAt k).staged (fl.getLsbD 0) l.toNat d) (taken f (.fwStage b fl o l d) s)
    rw [← happlied] at hsec hnv hcrz
    refine ⟨_, runCommand_settled h none, ?_, fun htotal hlen => ?_, ?_, ?_, hans⟩
    · rw [settled_sec, hsec, taken_sec]
      rfl
    · have hfull : stageFull ((s.stageAt k).staged (fl.getLsbD 0) l.toNat d) = true := by
        rw [stageFull, Bool.and_eq_true]
        exact ⟨bne_iff_ne.2 htotal, beq_iff_eq.2 hlen⟩
      rw [chunkPut, if_pos hfull] at happlied
      obtain ⟨hraised, hdue⟩ := raised_firmware (s := stagePut k ((s.stageAt k).staged (fl.getLsbD 0) l.toNat d)
        (taken f (.fwStage b fl o l d) s)) (obj := k.1) (code := 0x1002) (detail := k.1) (by omega)
      rw [← happlied] at hraised hdue
      exact ⟨(settled_recordGrows ..).raised hraised, hostDue_settled hdue⟩
    · rw [settled_nv, hnv, taken_nv]
    · rw [settled_crz, hcrz, taken_crz]
  · have hrule : applied f (.fwVerify b) none s = _ :=
      (onSome_eq (targetOf_eq hb) _ _).trans (applyFwVerify_done (by simpa using hfull)
        (by rw [stageAt_taken, verifyImage_taken, hgood]) (by simpa using hmin) (by simpa using hmax)
        (by rw [stageAt_taken, versionOk_taken, hversion]))
    obtain ⟨happlied, hans⟩ := settled_done (.fwVerify b) rfl hrule
    obtain ⟨hraised, hdue⟩ := raised_firmware (s := stagePut k { ((taken f (.fwVerify b) s).stageAt k) with verified := true }
      (taken f (.fwVerify b) s)) (obj := k.1) (code := 0x1003) (detail := 1) (by decide)
    rw [← happlied] at hraised hdue
    refine ⟨_, runCommand_settled h none, ?_, (settled_recordGrows ..).raised hraised, hostDue_settled hdue, ?_, ?_, hans⟩
    · rw [settled_sec, happlied, firmware, hostEvent_sec, emit_sec, stagePut, State.modSec_sec, stageAt_taken, taken_sec]
    · rw [settled_nv, happlied]
      exact taken_nv ..
    · rw [settled_crz, happlied]
      exact taken_crz ..
  · have hrule : applied f (.fwActivate 0 sl 0) none s = _ :=
      applyFwActivate_controller (slot := sl.toNat) (by simpa using hverified) (by simpa using hslot)
        ((inTrial_taken ..).trans htrial) (by simpa using hgolden) ((activating_taken ..).trans hidle)
    obtain ⟨happlied, hans⟩ := settled_done (.fwActivate 0 sl 0) rfl hrule
    refine ⟨_, runCommand_settled h none, ?_, hans⟩
    refine (settled_bookkept_of (g := fun u => u.modSec fun c => { c with
      activate := some { slot := sl.toNat, image := (s.stageAt (0 : Fin 3)).data, golden := false } }) (fun _ _ => rfl) ?_).trans rfl
    rw [happlied, stageAt_taken]
  · have hrule : applied f (.fwActivate b sl 0) none s = _ :=
      (onSome_eq (targetOf_eq hb) _ _).trans (applyFwActivate_family (slot := sl.toNat) hk (by simpa using hverified)
        (by simpa using hgolden) ((activating_taken ..).trans hidle))
    obtain ⟨happlied, hans⟩ := settled_done (.fwActivate b sl 0) rfl hrule
    have hnodup : (familyMembers s (k.1 - 1)).Nodup := (List.nodup_finRange 8).filter _
    rw [stageAt_taken, familyMembers_taken] at happlied
    have honly := queueAccWrites_writesOnly (s.stageAt k).data (familyMembers s (k.1 - 1)) (taken f (.fwActivate b sl 0) s)
    have hacc := fun n => queueAccWrites_acc (s.stageAt k).data hnodup (taken f (.fwActivate b sl 0) s) n
    generalize forAll (familyMembers s (k.1 - 1)) (queueAccWrite (s.stageAt k).data) (taken f (.fwActivate b sl 0) s) = u at *
    have hsettled : (settled f (.fwActivate b sl 0) none s).sec = u.sec := by rw [settled_sec, happlied]
    refine ⟨_, runCommand_settled h none, ?_, fun n id hid hfamily => ?_, fun n hn => ?_, hans⟩
    · refine (settled_bookkept_of (g := fun x => x.modSec fun c => { c with acc := u.sec.acc }) (fun _ _ => rfl)
        (happlied.trans honly)).trans ?_
      rw [hsettled]
      rfl
    · rw [hsettled, (hacc n).1 (mem_familyMembers hid hfamily), selectOf_taken]
    · rw [hsettled]
      exact ((hacc n).2 hn).trans (by rw [fwAt_taken])

end Sys2Proof.Machine
end

section
/-! SUPPORT. The debug, lifecycle, key and epoch commands (16 R480 to R488, R504). -/

set_option Elab.async false

namespace Sys2Proof.Machine

open Sys2Proof

/-! Debug (16 R486 to R488). -/

theorem applyChallenge_done {s : State} (h : s.sec.refuseUntil ≤ s.sys.tick) :
    applyChallenge s = doneWith (bytes32 (Config.freeValue s.free)) { s with free := s.free + 1, sec := { s.sec with
      nonce := some (Config.freeValue s.free, s.sys.tick + 6000000) } } :=
  if_neg (Nat.not_lt.2 h)

/-- What a debug command signs (16 R486). -/
def unlockText (level : Nat) (x : BitVec 256) (s : State) : List Byte :=
  serialBytes s ++ leBytes 1 s.nv.lc ++ leBytes 1 level ++ bytes32 x ++ bytes32 s.sec.dbgHist

/-- The signature over a nonce is one of the debug signers'. -/
def unlockGood (level : Nat) (x : BitVec 256) (sig : List Byte) (s : State) : Bool :=
  (signerKeys s 3).any fun p => Config.mldsaVerify p (unlockText level x s) "FM8 debug" sig

theorem unlockGood_taken (f : Frame) (c : Cmd) (level : Nat) (x : BitVec 256) (sig : List Byte) (s : State) :
    unlockGood level x sig (taken f c s) = unlockGood level x sig s := by
  rw [taken_frame]
  rfl

/-- The nonce is used up. -/
def nonceUsed (s : State) : State := s.modSec fun c => { c with nonce := none }

theorem unlockGood_nonceUsed (level : Nat) (x : BitVec 256) (sig : List Byte) (s : State) :
    ((signerKeys (nonceUsed s) 3).any fun p => Config.mldsaVerify p (unlockText level x s) "FM8 debug" sig) =
      unlockGood level x sig s := rfl

/-- A signature that fails is counted; the third in a row stops challenges for 60 s (16 R486). -/
def SecState.unlockFailed (c : SecState) (now : Nat) : SecState :=
  { c with
    nonce := none, fails := satAdd 0xFFFF c.fails, failRun := if decide (2 ≤ c.failRun) then 0 else c.failRun + 1,
    refuseUntil := if decide (2 ≤ c.failRun) then now + 6000000 else c.refuseUntil }

theorem applyUnlock_next {level e : Nat} {x : BitVec 256} {sig : List Byte} {s : State} (hnonce : s.sec.nonce = some (x, e))
    (hlive : s.sys.tick < e) (hoff : level = 2 → s.rack.detached = true ∧ ∀ n : Acc, chState s n = 0) :
    applyUnlock level sig s = if unlockGood level x sig s
      then done (setDebug level x ((nonceUsed s).modSec fun c => { c with failRun := 0 }))
      else (emit (s.modSec fun c => c.unlockFailed s.sys.tick) 7 9 0xFF 0x100A (0x10 + level), some { res := .authFail }) := by
  have hquiet : ¬(level = 2 ∧ (!(s.rack.detached && accList.all fun n => chState s n == 0)) = true) := by
    rintro ⟨hlevel, hbusy⟩
    obtain ⟨hdetached, hdown⟩ := hoff hlevel
    have hall : (accList.all fun n => chState s n == 0) = true := List.all_eq_true.2 fun n _ => by rw [hdown n]; rfl
    rw [hdetached, hall] at hbusy
    exact Bool.false_ne_true hbusy
  unfold applyUnlock
  rw [hnonce]
  dsimp only
  rw [if_neg (Nat.not_le.2 hlive), if_neg hquiet]
  rfl

/-- The level and the history are set, and an unlock is counted. -/
def levelSet (level : Nat) (x : BitVec 256) (s : State) : State :=
  s.modSec fun c => { c with debug := level, dbgHist := Config.sha3 (bytes32 s.sec.dbgHist ++ leBytes 1 level ++ bytes32 x) }

def unlockCounted (s : State) : State := s.modNv fun v => { v with unlocks := satAdd 0xFFFF v.unlocks }

/-- The level changed, on a state with the traces of a command (16 R488). -/
theorem setDebug_unlock {level : Nat} (hlevel : level ≠ 0) (x : BitVec 256) (s : State) : setDebug level x s =
    emit (unlockCounted (levelSet level x s)) 7 9 0xFF 0x100A level := by
  unfold setDebug
  dsimp only
  rw [if_neg hlevel]
  rfl

theorem applyLock_done {s : State} (h : s.sec.debug = 1) :
    applyLock s = done (emit (levelSet 0 0 s) 7 9 0xFF 0x100A 0) :=
  if_neg (not_not.2 h)

/-- A level that is in range is not 0 (15 R465). -/
theorem unlockLevel_ne_zero {f : Frame} {b : Byte} {sig : List Byte} {s : State} (h : Admitted f (.secDebugUnlock b sig) s) :
    b.toNat ≠ 0 := by
  have hrange : ((b == 1 || b == 2) && decide (sig.length = 2420)) = true := h.range
  rw [Bool.and_eq_true, Bool.or_eq_true, beq_iff_eq, beq_iff_eq] at hrange
  obtain ⟨rfl | rfl, -⟩ := hrange <;> decide

/-- Settles O22: each command by the rule that applies it. -/
theorem debugCommands : Obligations.DebugCommands := by
  unfold Obligations.DebugCommands
  refine ⟨fun f b s h hfree => ?_, fun f b sig x e s h hnonce hlive hoff => ?_, fun f s h hlevel => ?_⟩
  · obtain ⟨happlied, hans⟩ := settled_doneWith (.secDebugChallenge b) (f := f) (s := s) rfl (applyChallenge_done (by simpa using hfree))
    rw [taken_free] at happlied hans
    refine ⟨_, runCommand_settled h none, ?_, hans⟩
    refine (settled_bookkept_of (g := fun u => { u with free := s.free + 1, sec := { u.sec with
      nonce := some (Config.freeValue s.free, s.sys.tick + 6000000) } }) (fun _ _ => rfl) ?_).trans rfl
    rw [happlied, taken_sys]
  · have hrule : applied f (.secDebugUnlock b sig) none s = _ :=
      applyUnlock_next (level := b.toNat) (sig := sig) (by simpa using hnonce) (by simpa using hlive) (fun hb => by
        have hb2 : b = 2 := BitVec.eq_of_toNat_eq hb
        simpa using hoff hb2)
    rw [unlockGood_taken] at hrule
    intro good
    refine ⟨fun hgood => ?_, fun hbad => ?_⟩
    · have hgood : unlockGood b.toNat x sig s = true := hgood
      rw [if_pos hgood, setDebug_unlock (unlockLevel_ne_zero h)] at hrule
      obtain ⟨happlied, hans⟩ := settled_done (.secDebugUnlock b sig) rfl hrule
      refine ⟨_, runCommand_settled h none, ?_, ?_, ?_, ?_, ?_, (settled_recordGrows ..).raised ?_, hans⟩
      · rw [settled_sec, happlied]
        rfl
      · rw [settled_sec, happlied]
        rfl
      · rw [settled_sec, happlied]
        rfl
      · rw [settled_sec, happlied]
        simp [nonceUsed, levelSet, unlockCounted]
      · rw [settled_nv, happlied]
        exact congrArg (fun v : NvState => { v with unlocks := satAdd 0xFFFF v.unlocks }) (taken_nv ..)
      · rw [happlied]
        exact raised_emit _ 7 9 0xFF 0x100A b.toNat (by omega)
    · have hbad : unlockGood b.toNat x sig s = false := hbad
      rw [if_neg (by rw [hbad]; exact Bool.false_ne_true)] at hrule
      have hans := settled_answered (congrArg Prod.snd hrule) (storeWaits_of_unstored rfl ..)
      refine ⟨_, runCommand_settled h none, ?_, hans.answered⟩
      rw [settled_sec, hrule, emit_sec, State.modSec_sec, taken_sec, taken_sys]
      simp only [SecState.unlockFailed, decide_eq_true_eq]
      rfl
  · obtain ⟨happlied, hans⟩ := settled_done .secDebugLock (f := f) (s := s) rfl (applyLock_done (by simpa using hlevel))
    refine ⟨_, runCommand_settled h none, ?_, (settled_recordGrows ..).raised ?_, hans⟩
    · refine (settled_bookkept_like (g := levelSet 0 0) (fun _ _ => rfl) happlied fun t => rfl).trans rfl
    · rw [happlied]
      exact raised_emit _ 7 9 0xFF 0x100A 0 (by decide)

/-! Lifecycle, keys and the epoch (16 R480, R483, R484, R504). -/

theorem pendingOk_taken (f : Frame) (c : Cmd) (s : State) : pendingOk (taken f c s) = pendingOk s := by
  rw [taken_frame]
  rfl

theorem keyOf_taken (f : Frame) (c : Cmd) (s : State) (k : Fin 3) : keyOf (taken f c s) k = keyOf s k := by
  rw [taken_frame]
  rfl

theorem blankKey_taken (f : Frame) (c : Cmd) (s : State) : blankKey (taken f c s) = blankKey s := by
  rw [taken_frame]
  rfl

theorem applyLifecycle_done {new : Nat} {sig : List Byte} {s : State} (hlegal : lcLegal s.nv.lc new = true)
    (hidle : s.sec.lifecycle = none) (howner : s.nv.lc = 0 → new = 1 → s.sys.wpN = true ∧ pendingOk s = true)
    (hkey : s.nv.lc = 1 → new = 2 → keyOf s 1 ≠ blankKey s) :
    applyLifecycle new sig s = done (s.modSec fun c => { c with lifecycle := some (new, sig) }) := by
  have hpin : ¬(s.nv.lc = 0 ∧ new = 1 ∧ (!s.sys.wpN) = true) := fun ⟨hold, hnew, hlow⟩ => by
    rw [(howner hold hnew).1] at hlow
    exact Bool.false_ne_true hlow
  have hpending : ¬(s.nv.lc = 0 ∧ new = 1 ∧ (!pendingOk s) = true) := fun ⟨hold, hnew, hbad⟩ => by
    rw [(howner hold hnew).2] at hbad
    exact Bool.false_ne_true hbad
  unfold applyLifecycle
  dsimp only
  rw [if_neg (by simp [hlegal, hidle]), if_neg hpin, if_neg hpending, if_neg fun ⟨hold, hnew, hblank⟩ => hkey hold hnew hblank]

/-- What wraps a key (16 R480). -/
def wrapText (k : Nat) (ctr : BitVec 64) (s : State) : List Byte := serialBytes s ++ leBytes 8 ctr.toNat ++ leBytes 1 (k + 1)

/-- The key that a wrapped one holds. -/
def unwrapped (k : Nat) (ctr : BitVec 64) (w : List Byte) (s : State) : BitVec 256 :=
  BitVec.ofNat 256 (leNat (w.take 32)) ^^^ Config.kmac (keyOf s 1) (wrapText k ctr s) 256 "FM8 wrap"

theorem wrapText_taken (f : Frame) (c : Cmd) (k : Nat) (ctr : BitVec 64) (s : State) :
    wrapText k ctr (taken f c s) = wrapText k ctr s := by
  rw [taken_frame]
  rfl

theorem unwrapped_taken (f : Frame) (c : Cmd) (k : Nat) (ctr : BitVec 64) (w : List Byte) (s : State) :
    unwrapped k ctr w (taken f c s) = unwrapped k ctr w s := by
  rw [unwrapped, wrapText_taken, keyOf_taken]
  rfl

theorem applySetKey_done {k : Fin 3} {w : List Byte} {q : Reply} {s : State}
    (htag : BitVec.ofNat 128 (leNat (w.drop 32)) = Config.kmac (keyOf s 1) (wrapText k.1 q.ctr s ++ w.take 32) 128 "FM8 wtag")
    (hkey : unwrapped k.1 q.ctr w s ≠ blankKey s) : applySetKey k w q s = done (emit (s.modSec fun z => { z with
      keys := z.keys.set k (some (unwrapped k.1 q.ctr w s)) k.isLt, storeDue := true }) 7 9 (k.1 + 1) 0x100C (k.1 + 1)) := by
  exact (if_neg (not_not.2 htag)).trans (if_neg hkey)

theorem applied_secSetKey {f : Frame} {b : Byte} {k : Fin 3} {w : List Byte} (hb : b.toNat = k.1 + 1) (s : State) :
    applied f (.secSetKey b w) none s =
      applySetKey k w (ticket (reqOf f (.secSetKey b w) none s) (submitted f s)) (taken f (.secSetKey b w) s) := by
  have hin : 1 ≤ b.toNat ∧ b.toNat ≤ 3 := by omega
  have hk : (⟨b.toNat - 1, by omega⟩ : Fin 3) = k := Fin.ext (by simp [hb])
  exact (dif_pos hin).trans (by rw [hk])

theorem epochMax_taken (f : Frame) (c : Cmd) (s : State) : epochMax (taken f c s) = epochMax s := by
  rw [epochMax, taken_sec]
  rfl

theorem quietRack_taken (f : Frame) (c : Cmd) (s : State) : quietRack (taken f c s) = quietRack s := by
  rw [taken_frame]
  rfl

theorem applyCommitEpoch_done {e : Nat} {s : State} (hnext : e = s.sec.committed + 1) (hmax : e ≤ epochMax s)
    (hquiet : quietRack s = true) :
    applyCommitEpoch e s = done (firmware (s.modSec fun c => { c with committed := e, storeDue := true }) 0xFF 0x100D e) := by
  unfold applyCommitEpoch
  rw [if_neg (by omega), if_neg (by simp [hquiet])]

/-- Settles O23: each command by the rule that applies it. -/
theorem lifecycleKeyAndEpochCommands : Obligations.LifecycleKeyAndEpochCommands := by
  unfold Obligations.LifecycleKeyAndEpochCommands
  refine ⟨fun f b sig s h hlegal hidle howner hkey => ?_, ?_, fun f e s h hnext hmax hquiet => ?_⟩
  · obtain ⟨happlied, hans⟩ := settled_done (.secSetLifecycle b sig) (f := f) (s := s) rfl (applyLifecycle_done (new := b.toNat)
      (by simpa using hlegal) (by simpa using hidle) (by simpa [pendingOk_taken] using howner)
      (by simpa [keyOf_taken, blankKey_taken] using hkey))
    exact ⟨_, runCommand_settled h none,
      settled_bookkept_of (g := fun u => u.modSec fun c => { c with lifecycle := some (b.toNat, sig) }) (fun _ _ => rfl) happlied,
      hans⟩
  · intro f b k w s h hb x key htag hkey
    have hrule : applied f (.secSetKey b w) none s = _ := (applied_secSetKey hb s).trans (applySetKey_done
      (by rw [keyOf_taken, wrapText_taken]; exact htag) (by rw [unwrapped_taken, blankKey_taken]; exact hkey))
    obtain ⟨happlied, hans⟩ := settled_done (.secSetKey b w) rfl hrule
    rw [unwrapped_taken] at happlied
    refine ⟨_, runCommand_settled h none, ?_, (settled_recordGrows ..).raised ?_, hans⟩
    · refine (settled_bookkept_like (g := fun u => u.modSec fun z => { z with keys := z.keys.set k (some key) k.isLt, storeDue := true })
        (fun _ _ => rfl) happlied fun t => ?_).trans rfl
      rfl
    · rw [happlied]
      exact raised_emit _ 7 9 (k.1 + 1) 0x100C (k.1 + 1) (by omega)
  · obtain ⟨happlied, hans⟩ := settled_done (.sysCommitEpoch e) (f := f) (s := s) rfl (applyCommitEpoch_done (e := e.toNat)
      (by simpa using hnext) (by rwa [epochMax_taken]) ((quietRack_taken ..).trans hquiet))
    obtain ⟨hraised, hdue⟩ := raised_firmware (s := (taken f (.sysCommitEpoch e) s).modSec fun c =>
      { c with committed := e.toNat, storeDue := true }) (obj := 0xFF) (code := 0x100D) (detail := e.toNat) (by omega)
    rw [← happlied] at hraised hdue
    refine ⟨_, runCommand_settled h none, ?_, ?_, ?_, ?_, (settled_recordGrows ..).raised hraised, hostDue_settled hdue, hans⟩
    · rw [settled_sec, happlied, firmware, hostEvent_sec, emit_sec, State.modSec_sec, taken_sec]
    · rw [settled_nv, happlied]
      exact taken_nv ..
    · rw [settled_crz, happlied]
      exact taken_crz ..
    · rw [settled_rack, happlied]
      exact taken_rack ..

end Sys2Proof.Machine
end

section
/-! SUPPORT. Every command as an instruction (14 R414): what a Read answers, the mailbox registers, and the first check that
fails. -/

set_option Elab.async false

namespace Sys2Proof.Machine

open Sys2Proof

/-! An instruction that submits a command runs it. -/

/-- What the bus does to the transfer that an instruction carries. -/
def transferEnd : Instr → Option TransferEnd
  | .twbTransfer _ _ _ _ _ _ _ _ e => some e
  | _ => none

/-- An instruction that submits a command runs it; of the others nothing is said. -/
def RunsCommand (i : Instr) (s : State) : Option (Frame × Cmd) → Prop
  | some (f, c) => exec i s = runCommand f c (transferEnd i) s
  | none => s = s

theorem runsCommand (i : Instr) (s : State) : RunsCommand i s i.cmd? := by
  cases i <;> rfl

theorem exec_of_cmd {i : Instr} {f : Frame} {c : Cmd} (h : i.cmd? = some (f, c)) (s : State) :
    ∃ bus, exec i s = runCommand f c bus s := by
  have hruns := runsCommand i s
  rw [h] at hruns
  exact ⟨_, hruns⟩

/-! Reads (15 R445). -/

/-- A Read writes nothing to the store. -/
theorem storeKey_read (c : Cmd) : (bif isRead (codeOf c) then storeKey c else none) = none := by
  cases c <;> rfl

/-- A Read answers its data. -/
theorem applyCmd_read (c : Cmd) (bus : Option TransferEnd) (q : Reply) (s : State) :
    (bif isRead (codeOf c) then applyCmd bus q c s else doneWith (readData s c) s) = doneWith (readData s c) s := by
  cases c <;> rfl

/-- What a Read leaves and answers. -/
theorem settled_read {f : Frame} {c : Cmd} {s : State} (h : isRead (codeOf c) = true) (bus : Option TransferEnd) :
    settled f c bus s = bookkept s (settled f c bus s) ∧ AnsweredWith f c .ok (readData (taken f c s) c) (settled f c bus s) := by
  have hkey := storeKey_read c
  have happly := applyCmd_read c bus (ticket (reqOf f c bus s) (submitted f s)) (taken f c s)
  rw [h] at hkey happly
  have hrule : applied f c bus s = doneWith (readData (taken f c s) c) (taken f c s) := happly
  exact ⟨settled_bookkept (congrArg Prod.fst hrule), settled_answered (congrArg Prod.snd hrule) (storeWaits_of_unstored hkey ..)⟩

/-- Settles O5, by `settled_read`; sys.heartbeat by its own rule. -/
theorem readCommandsAnswerWithData : Obligations.ReadCommandsAnswerWithData := by
  unfold Obligations.ReadCommandsAnswerWithData
  refine ⟨fun i f c s hi hread h => ?_, fun f s h => ?_⟩
  · obtain ⟨bus, hexec⟩ := exec_of_cmd hi s
    exact ⟨_, hexec.trans (runCommand_settled h bus), settled_read hread bus⟩
  · obtain ⟨happlied, hans⟩ := settled_done .sysHeartbeat (f := f) (s := s) rfl rfl
    exact ⟨_, runCommand_settled h none, settled_bookkept happlied, hans⟩

/-! The mailbox registers (14 R420 to R423). -/

/-- SEQ and the length of a command area, and the area copied (14 R420). -/
def areaSeq (s : State) (m : Fin 2) : BitVec 16 := BitVec.ofNat 16 (leNat (cellsRead s.mbx.mem (areaBase m + 2) 2))

def areaRaw (s : State) (m : Fin 2) : List Byte :=
  cellsRead s.mbx.mem (areaBase m) (0x40 + min 4032 (leNat (cellsRead s.mbx.mem (areaBase m + 4) 2)))

/-- The request that the area of a mailbox spells. -/
def areaReq (s : State) (m : Fin 2) : Req := reqOfRaw (if m = 0 then .mb0 else .mb1) (areaRaw s m) s.sys.tick

theorem execMbxGo_eq (m : Fin 2) (seq : BitVec 16) (s : State) : exec (.mbxGo m seq) s =
    if boxReady s m && areaSeq s m != seq then .next (s.setBox m fun x => { x with goMismatch := satAdd 255 x.goMismatch })
    else .next (goWrite m seq (fun u => arrive (reqOfRaw (if m = 0 then .mb0 else .mb1) (areaRaw s m) u.sys.tick) u) s) := rfl

theorem goWrite_busy {m : Fin 2} {s : State} (h : boxReady s m = false) (seq : BitVec 16) (go : State → State) :
    goWrite m seq go s = s.setBox m fun b => { b with goBusy := satAdd 255 b.goBusy } := if_pos (by rw [h]; rfl)

theorem goWrite_again {m : Fin 2} {seq : BitVec 16} {s : State} (h : boxReady s m = true) (hdone : (s.mbx.box[m]'m.isLt).result ≠ 0xFF)
    (hseq : (s.mbx.box[m]'m.isLt).seq = seq) (go : State → State) : goWrite m seq go s =
      s.setBox m fun b => { b with goMismatch := satAdd 255 b.goMismatch, reread := true, statRead := true } :=
  (if_neg (by rw [h]; decide)).trans (if_pos ⟨hdone, hseq⟩)

theorem goWrite_taken {m : Fin 2} {seq : BitVec 16} {s : State} (h : boxReady s m = true)
    (hnew : (s.mbx.box[m]'m.isLt).result = 0xFF ∨ (s.mbx.box[m]'m.isLt).seq ≠ seq) (go : State → State) :
    goWrite m seq go s = go (s.setBox m fun b => { b with busy := true, seq := seq }) :=
  (if_neg (by rw [h]; decide)).trans (if_neg fun ⟨hdone, hseq⟩ => hnew.elim hdone fun hne => hne hseq)

/-- A request of this tick waits for the batch of a later one (02 R41). -/
theorem arrive_waits {r : Req} {s : State} (h : r.stamp = s.sys.tick) :
    arrive r s = s.modRcd fun x => { x with merger := insertWaiting (waitingOf r) x.merger } :=
  if_neg fun ⟨hdue, _⟩ => by omega

/-- Settles O32: MBX_GO by the four outcomes of `goWrite`, MBX_STAT_READ by its two. -/
theorem mailboxRows : Obligations.MailboxRows := by
  unfold Obligations.MailboxRows
  refine ⟨fun m seq s hready harea hnew => ?_, fun m seq s hbusy => ?_, fun m seq s hready harea => ?_,
    fun m seq s hready harea hdone hseq => ?_, fun m s hidle hdone => ?_, fun m s hopen => ?_⟩
  · have harea : areaSeq s m = seq := harea
    rw [execMbxGo_eq, if_neg (by simp [harea]), goWrite_taken hready hnew, arrive_waits rfl]
    refine ⟨_, rfl, rfl, ⟨waitingOf (areaReq s m), (mem_insertWaiting ..).2 (.inl rfl), rfl, ?_, rfl⟩, rfl⟩
    fin_cases m <;> rfl
  · rw [execMbxGo_eq, if_neg (by simp [hbusy]), goWrite_busy hbusy]
    rfl
  · have harea : areaSeq s m ≠ seq := harea
    rw [execMbxGo_eq, if_pos (by rw [hready, bne_iff_ne.2 harea]; rfl)]
    rfl
  · have harea : areaSeq s m = seq := harea
    rw [execMbxGo_eq, if_neg (by simp [harea]), goWrite_again hready hdone hseq]
    rfl
  · exact if_neg (by rw [hidle]; simpa using hdone)
  · exact if_pos hopen

/-! The first check that fails (14 R414). -/

/-- The state in which the batch of the present tick, with nothing in it but a command of the network, is applied (02 R41). -/
theorem arrive_due {r : Req} {s : State} (hdue : r.stamp + 2 ≤ s.sys.tick) (hfresh : ∀ x, s.rcd.released = some x → x < r.stamp)
    (halone : ∀ w ∈ s.rcd.merger, s.sys.tick < w.stamp + 2) : arrive r s = applyItem (waitingOf r)
      (showHostEvents (s.modRcd fun x => { x with released := some (s.sys.tick - 2) })) := by
  have hstamp : (waitingOf r).stamp = r.stamp := rfl
  obtain ⟨hitems, hrest⟩ := insertWaiting_due (waitingOf r) s.sys.tick hdue halone
  have hout : batchOut s = false := by
    unfold batchOut
    cases hx : s.rcd.released with
    | none => rfl
    | some x =>
      have := hfresh x hx
      simp
      omega
  let u := s.modRcd fun x => { x with merger := insertWaiting (waitingOf r) x.merger }
  have hdueItems : dueItems u = [waitingOf r] := hitems
  have hopen : openBatch u = showHostEvents (s.modRcd fun x => { x with released := some (s.sys.tick - 2) }) := by
    have hnow : 2 ≤ s.sys.tick := by omega
    unfold openBatch
    rw [hdueItems]
    simp only [u, List.any_cons, List.any_nil, Bool.or_false, State.modRcd, hnow, if_true, hrest]
    cases hx : s.rcd.released with
    | none => simp
    | some x =>
      have hearly : decide ((waitingOf r).stamp ≤ x) = false := decide_eq_false (Nat.not_le.2 (hfresh x hx))
      simp [hearly]
  exact (if_pos ⟨hdue, hout⟩).trans (by rw [release, hdueItems, hopen]; rfl)

/-- A command on FMP or MCTP that the running cluster takes and that is alone due. -/
structure NetTaken (f : Frame) (c : Cmd) (s : State) : Prop where
  net : boxOf f.src = none
  running : running s = true
  formed : f.wellFormed = true
  device : f.device = s.nv.serial
  fresh : duplicateOf (reqOf f c none s) s = none
  mctp : f.src = .mctp → f.assembled = true ∧ s.twb.eid ≠ 0
  due : f.stamp + 2 ≤ s.sys.tick
  unreleased : ∀ x, s.rcd.released = some x → x < f.stamp
  alone : ∀ w ∈ s.rcd.merger, s.sys.tick < w.stamp + 2

theorem NetTaken.stamp {f : Frame} {c : Cmd} {s : State} (h : NetTaken f c s) : stampOf f s = f.stamp := by
  have hdue := h.due
  unfold stampOf
  dsimp only
  split
  · omega
  · split
    next x hx =>
      have := h.unreleased x hx
      omega
    next => omega

/-- It is judged in the state in which it is taken. -/
theorem NetTaken.runCommand {f : Frame} {c : Cmd} {s : State} (h : NetTaken f c s) (bus : Option TransferEnd) :
    runCommand f c bus s = .next (runReq (reqOf f c bus s) (submitted f s)) := by
  have hnet := h.net
  have hstamp : (reqOf f c bus s).stamp = f.stamp := h.stamp
  have hsubmitted : showHostEvents (s.modRcd fun x => { x with released := some (s.sys.tick - 2) }) = submitted f s := by
    unfold submitted
    rw [hnet]
  have hfresh : duplicateOf (reqOf f c bus s) (submitted f s) = none := by
    have hkept : duplicateOf (reqOf f c bus s) (submitted f s) = duplicateOf (reqOf f c none s) s := by
      rw [submitted_frame]
      rfl
    rw [hkept, h.fresh]
  have hitem : applyItem (waitingOf (reqOf f c bus s)) (submitted f s) = runReq (reqOf f c bus s) (submitted f s) := by
    have hframe : (reqOf f c bus s).frame = f := rfl
    simp only [applyItem, waitingOf, hframe, hnet, takeNet, hfresh]
  have hlost : ¬(f.src = .mctp ∧ (!f.assembled) = true) := fun ⟨hsrc, hparts⟩ => by
    rw [(h.mctp hsrc).1] at hparts
    exact Bool.false_ne_true hparts
  have hunaddressed : ¬(f.src = .mctp ∧ s.twb.eid = 0) := fun ⟨hsrc, heid⟩ => (h.mctp hsrc).2 heid
  have htakes : takeFrameIn (reqOf f c bus s) s = arrive (reqOf f c bus s) s := by
    have hgood : ¬((!f.wellFormed) = true ∨ f.device ≠ s.nv.serial) := by
      rintro (hbad | hother)
      · rw [h.formed] at hbad
        exact Bool.false_ne_true hbad
      · exact hother h.device
    exact (if_neg (by rw [h.running]; decide)).trans
      ((if_neg hlost).trans ((if_neg hunaddressed).trans (if_neg hgood)))
  unfold Machine.runCommand
  rw [hnet]
  refine congrArg Host.Outcome.next ?_
  rw [htakes, arrive_due (by rw [hstamp]; exact h.due) (by rw [hstamp]; exact h.unreleased) h.alone, hsubmitted, hitem]

/-- Judged to `u` with an answer, a command leaves `u` with its traces. -/
theorem NetTaken.judged {f : Frame} {c : Cmd} {s : State} (h : NetTaken f c s) (bus : Option TransferEnd) {u : State} {a : Ans}
    (hres : a.res ≠ .ok)
    (hjudge : judge (reqOf f c bus s) (ticket (reqOf f c bus s) (submitted f s)) (submitted f s) = (u, some a)) :
    ∃ t, Machine.runCommand f c bus s = .next t ∧
      t = { u with rcd := t.rcd, cool := { u.cool with hbTick := t.cool.hbTick, hbLost := t.cool.hbLost } } ∧
      Answered f c a.res t := by
  have hformed : (reqOf f c bus s).frame.wellFormed = true := h.formed
  have hrun : runReq (reqOf f c bus s) (submitted f s) =
      settleReq (reqOf f c bus s) (ticket (reqOf f c bus s) (submitted f s)) (some a) u := by
    unfold runReq
    rw [hformed, if_neg (by decide), hjudge]
  have hwaits : storeWaits (reqOf f c bus s) a = none := by
    have hcmd : (reqOf f c bus s).cmd = some c := rfl
    simp [storeWaits, hcmd, hres]
  obtain ⟨q, hq, hsrc, hseq, hcode, hresult, -⟩ :=
    settleReq_answered (reqOf f c bus s) (ticket (reqOf f c bus s) (submitted f s)) a u hwaits
  exact ⟨_, (h.runCommand bus).trans (congrArg Host.Outcome.next hrun), settleReq_frame .., q, hq, hsrc, hseq, hcode, hresult⟩

/-! What each check leaves and answers. -/

/-- OBJECT of a refusal by the state: the rail of a margin (05 R152). -/
def refusedObject : Cmd → Nat
  | .supMargin rl _ => rl.toNat
  | _ => 0xFF

/-- The checks of a command that is taken, from the role on (14 R414). -/
def judgeTaken (bus : Option TransferEnd) (q : Reply) (f : Frame) (c : Cmd) (s : State) : State × Option Ans :=
  let r := reqOf f c bus s
  let s := taken f c s
  if !mayDo r then (s, some { res := .denied })
  else if !present s c then (s, some { res := .unsupported })
  else if !paramsOk s c then (s, some badParam)
  else match stateReason s r c with
  | some x => (loadDenied c (if x = 0x0C06 then s.modSys fun y => { y with lockViol := true } else s),
      some (conflict x (refusedObject c)))
  | none =>
    let (s, a) := applyCmd bus q c s
    (noteSetting r c a s, a)

section
variable {f : Frame} {c : Cmd} {s : State} (bus : Option TransferEnd) (q : Reply)

theorem ifverN_submitted : ifverN (submitted f s) = ifverN s := by
  rw [submitted_frame]
  rfl

theorem ctrOk_submitted : ctrOk (submitted f s) f = ctrOk s f := by
  rw [submitted_frame]
  rfl

theorem judge_version (h : ¬(f.ifver.toNat = ifverN s ∨ f.ifver.toNat + 1 = ifverN s)) :
    judge (reqOf f c bus s) q (submitted f s) = (submitted f s, some { res := .version }) :=
  if_pos (by rw [ifverN_submitted]; exact not_or.1 h)

variable (hversion : f.ifver.toNat = ifverN s ∨ f.ifver.toNat + 1 = ifverN s)
include hversion

theorem judge_tag (htag : tagOk s (reqOf f c none s) = false) :
    judge (reqOf f c bus s) q (submitted f s) = (submitted f s, some { res := .authFail }) := by
  have hold : ¬(f.ifver.toNat ≠ ifverN (submitted f s) ∧ f.ifver.toNat + 1 ≠ ifverN (submitted f s)) := by
    rw [ifverN_submitted]
    exact not_and_or.2 (hversion.imp not_not.2 not_not.2)
  have hcode : knownCodes.contains (reqOf f c bus s).code = true := codeOf_known c
  have htag' : tagOk (submitted f s) (reqOf f c bus s) = false := (tagOk_submitted f _ s).trans htag
  exact (if_neg hold).trans ((if_neg (by rw [hcode]; decide)).trans (if_pos (by rw [htag']; rfl)))

variable (htag : tagOk s (reqOf f c none s) = true)
include htag

/-- Past the version, the code and the tag comes the counter. -/
theorem judge_counted : judge (reqOf f c bus s) q (submitted f s) =
    if !ctrOk (submitted f s) f then
      (submitted f s, some { res := .replay, detail := leBytes 8 (((submitted f s).net.ctr[ctrIx f]'(ctrIx f).isLt).toNat + 1) })
    else judgeTaken bus q f c s := by
  have hold : ¬(f.ifver.toNat ≠ ifverN (submitted f s) ∧ f.ifver.toNat + 1 ≠ ifverN (submitted f s)) := by
    rw [ifverN_submitted]
    exact not_and_or.2 (hversion.imp not_not.2 not_not.2)
  have hcode : knownCodes.contains (reqOf f c bus s).code = true := codeOf_known c
  have htag' : tagOk (submitted f s) (reqOf f c bus s) = true := (tagOk_submitted f _ s).trans htag
  have hframe : (reqOf f c bus s).frame = f := rfl
  unfold judge
  simp only [hcode, htag', hframe, Bool.not_true, Bool.false_eq_true, if_false]
  rw [if_neg hold]
  rfl

end

/-! The traces of a rejected command. -/

/-- Judged on the state in which it comes in, a command leaves its traces there, and consumes no counter. -/
theorem NetTaken.untaken {f : Frame} {c : Cmd} {s : State} (h : NetTaken f c s) (bus : Option TransferEnd) {a : Ans}
    (hres : a.res ≠ .ok)
    (hjudge : judge (reqOf f c bus s) (ticket (reqOf f c bus s) (submitted f s)) (submitted f s) = (submitted f s, some a)) :
    ∃ t, Machine.runCommand f c bus s = .next t ∧ t = bookkept s t ∧ t.net.ctr = s.net.ctr ∧ Answered f c a.res t := by
  obtain ⟨t, hnext, hframe, hans⟩ := h.judged bus hres hjudge
  rw [submitted_frame] at hframe
  refine ⟨t, hnext, ?_, ?_, hans⟩
  · rw [hframe]
    rfl
  · rw [hframe]

/-- Judged once it is taken, it leaves its traces. -/
theorem NetTaken.rejected {f : Frame} {c : Cmd} {s : State} (h : NetTaken f c s) (bus : Option TransferEnd) {a : Ans}
    (hres : a.res ≠ .ok)
    (hjudge : judge (reqOf f c bus s) (ticket (reqOf f c bus s) (submitted f s)) (submitted f s) = (taken f c s, some a)) :
    ∃ t, Machine.runCommand f c bus s = .next t ∧ t = bookkept s t ∧ Answered f c a.res t := by
  obtain ⟨t, hnext, hframe, hans⟩ := h.judged bus hres hjudge
  rw [taken_frame] at hframe
  refine ⟨t, hnext, ?_, hans⟩
  rw [hframe]
  rfl

/-- A load refused by the state notes its reason (09 R266). -/
theorem loadDenied_frame (c : Cmd) (s : State) : loadDenied c s = { s with
    rcd := (loadDenied c s).rcd, mbx := { s.mbx with evtDue := (loadDenied c s).mbx.evtDue }, frd := (loadDenied c s).frd } := by
  unfold loadDenied
  split
  · split <;> rfl
  · rfl

theorem loadDenied_frd (c : Cmd) {s u : State} (h : u.frd = s.frd) : (loadDenied c u).frd = (loadDenied c s).frd := by
  unfold loadDenied
  split
  · split
    · simp only [rejectModel, hostEvent_frd, emit_frd, State.setFrd_frd, h]
    · exact h
  · exact h

/-- LOCK_VIOL where a table is refused by the lifecycle (12 R380). -/
def violationNoted (x : Nat) (s : State) : State := if x = 0x0C06 then s.modSys fun y => { y with lockViol := true } else s

theorem violationNoted_frame (x : Nat) (s : State) :
    violationNoted x s = { s with sys := { s.sys with lockViol := s.sys.lockViol || x == 0x0C06 } } := by
  unfold violationNoted
  split
  next h => simp [h, State.modSys]
  next h => rw [beq_eq_false_iff_ne.2 h, Bool.or_false]

/-- What notes something of SYS_ and Frond behind a command's traces, and is then answered. -/
theorem bookkept_of_noted {s k u t : State} {y : SysState} {w : FrdState} (hk : k = bookkept s k)
    (hu : u = { k with rcd := u.rcd, mbx := { k.mbx with evtDue := u.mbx.evtDue }, sys := y, frd := w })
    (ht : t = { u with rcd := t.rcd, cool := { u.cool with hbTick := t.cool.hbTick, hbLost := t.cool.hbLost } }) :
    t = { bookkept s t with sys := y, frd := w } := by
  rw [ht, hu, hk]
  rfl

/-- A refusal by the state, once SYS_ has noted it. -/
theorem loadDenied_noted (c : Cmd) {k u : State} {y : SysState} (hu : u = { k with sys := y }) :
    loadDenied c u = { k with
      sys := y, rcd := (loadDenied c u).rcd, mbx := { k.mbx with evtDue := (loadDenied c u).mbx.evtDue },
      frd := (loadDenied c k).frd } := by
  have hframe := loadDenied_frame c u
  rw [loadDenied_frd c (show u.frd = k.frd by rw [hu])] at hframe
  generalize loadDenied c u = v at hframe
  rw [hframe, hu]

theorem taken_bookkept (f : Frame) (c : Cmd) (s : State) : taken f c s = bookkept s (taken f c s) := by
  rw [taken_frame]
  rfl

/-- Refused by the state, it leaves its traces, LOCK_VIOL or the reject reason. -/
theorem NetTaken.conflicted {f : Frame} {c : Cmd} {s : State} (h : NetTaken f c s) (bus : Option TransferEnd) {x : Nat} {a : Ans}
    (hres : a.res ≠ .ok) (hjudge : judge (reqOf f c bus s) (ticket (reqOf f c bus s) (submitted f s)) (submitted f s) =
      (loadDenied c (violationNoted x (taken f c s)), some a)) :
    ∃ t, Machine.runCommand f c bus s = .next t ∧
      t = { bookkept s t with sys := { s.sys with lockViol := s.sys.lockViol || x == 0x0C06 }, frd := (loadDenied c s).frd } ∧
      Answered f c a.res t := by
  obtain ⟨t, hnext, hframe, hans⟩ := h.judged bus hres hjudge
  have hu := loadDenied_noted c (violationNoted_frame x (taken f c s))
  rw [taken_sys, loadDenied_frd c (taken_frd f c s)] at hu
  exact ⟨t, hnext, bookkept_of_noted (taken_bookkept f c s) hu hframe, hans⟩

/-- Settles O3: every clause by what `judge` answers there, and the frame of a rejected command. -/
theorem rejectedCommandAnswersFirstFailedStep : Obligations.RejectedCommandAnswersFirstFailedStep := by
  unfold Obligations.RejectedCommandAnswersFirstFailedStep
  intro i f c s hi hbox hrun hformed hdevice hdup hmctp hdue hfresh halone r version
  have h : NetTaken f c s := ⟨hbox, hrun, hformed, hdevice, hdup, hmctp, hdue, hfresh, halone⟩
  obtain ⟨bus, hexec⟩ := exec_of_cmd hi s
  rw [hexec]
  have hcount := fun (hversion : version) (htag : tagOk s r = true) =>
    judge_counted bus (ticket (reqOf f c bus s) (submitted f s)) hversion htag
  have hpast : ∀ (hversion : version) (htag : tagOk s r = true) (hctr : ctrOk s f = true),
      judge (reqOf f c bus s) (ticket (reqOf f c bus s) (submitted f s)) (submitted f s) =
        judgeTaken bus (ticket (reqOf f c bus s) (submitted f s)) f c s := fun hversion htag hctr =>
    (hcount hversion htag).trans (if_neg (by rw [ctrOk_submitted, hctr]; decide))
  have hpar : paramsOk (taken f c s) c = paramsOk s c := paramsOk_of_blocks s _ c (by simp) (by simp) (by simp) (by simp)
  have hmay : mayDo r = true → ¬(!mayDo (reqOf f c bus s)) = true := fun hrole => by
    rw [show mayDo (reqOf f c bus s) = true from hrole]
    decide
  have hhas : present s c = true → ¬(!present (taken f c s) c) = true := fun hunit => by
    rw [present_taken, hunit]
    decide
  refine ⟨fun hold => ?_, fun hversion htag => ?_, fun hversion htag hctr => ?_, fun hversion htag hctr hrole => ?_,
    fun hversion htag hctr hrole hunit => ?_, fun hversion htag hctr hrole hunit hbad => ?_,
    fun hversion htag hctr hrole hunit hgood x hx => ?_⟩
  · exact h.untaken bus (a := { res := .version }) (by decide) (judge_version bus _ hold)
  · exact h.untaken bus (a := { res := .authFail }) (by decide) (judge_tag bus _ hversion htag)
  · refine h.untaken bus (a := { res := .replay, detail := leBytes 8 (((submitted f s).net.ctr[ctrIx f]'(ctrIx f).isLt).toNat + 1) }) nofun ?_
    rw [hcount hversion htag, ctrOk_submitted, hctr]
    rfl
  · exact h.rejected bus (a := { res := .denied }) (by decide) ((hpast hversion htag hctr).trans (if_pos (by rw [show mayDo (reqOf f c bus s) = false from hrole]; rfl)))
  · exact h.rejected bus (a := { res := .unsupported }) (by decide) ((hpast hversion htag hctr).trans
      ((if_neg (hmay hrole)).trans (if_pos (by rw [present_taken, hunit]; rfl))))
  · exact h.rejected bus (a := badParam) (by decide) ((hpast hversion htag hctr).trans
      ((if_neg (hmay hrole)).trans ((if_neg (hhas hunit)).trans (if_pos (by rw [hpar, hbad]; rfl)))))
  · refine h.conflicted bus (x := x) (a := conflict x (refusedObject c)) nofun ?_
    refine (hpast hversion htag hctr).trans ((if_neg (hmay hrole)).trans ((if_neg (hhas hunit)).trans
      ((if_neg (by rw [hpar, hgood]; decide)).trans ?_)))
    rw [stateReason_taken, show stateReason s (reqOf f c bus s) c = some x from hx]
    rfl

end Sys2Proof.Machine
end

section
/-! SUPPORT. The partition commands (15 R453, R454; 03 R74, R75). -/

set_option Elab.async false

namespace Sys2Proof.Machine

open Sys2Proof

/-! What these rules read of a state in which a command is taken. -/

theorem raiseReason_taken (f : Frame) (c : Cmd) (s : State) (n : Acc) : raiseReason (taken f c s) n = raiseReason s n := by
  rw [taken_frame]
  rfl

theorem resetReason_taken (f : Frame) (c : Cmd) (s : State) (n : Acc) : resetReason (taken f c s) n = resetReason s n := by
  rw [taken_frame]
  rfl

theorem rackHolds_taken (f : Frame) (c : Cmd) (s : State) : rackHolds (taken f c s) = rackHolds s := by
  rw [rackHolds, taken_rack, taken_saf]
  rfl

/-! partition.power_on (15 R453). -/

/-- The channel raised to S12. -/
def raisedToTop (n : Acc) (s : State) : State :=
  setAccTarget n 12 (((s.setChan (accChan n) fun c => { c with setOff := false }).setBup n fun b =>
    { b with bootFailed := false, solo := true }).setAcc n fun a =>
      { a with testWanted := a.testWanted || decide ((s.chanAt (accChan n)).target ≠ 12) })

theorem applyPowerOn_idle {n : Acc} {s : State} (hdecision : (s.accAt n).decision = none)
    (h : (s.chanAt (accChan n)).state = 12 ∧ (s.chanAt (accChan n)).target = 12) : applyPowerOn n s = done s :=
  (if_neg (by rw [hdecision]; decide)).trans (if_pos h)

theorem applyPowerOn_raises {n : Acc} {s : State} (hdecision : (s.accAt n).decision = none)
    (hbelow : ¬((s.chanAt (accChan n)).state = 12 ∧ (s.chanAt (accChan n)).target = 12))
    (hfault : (s.chanAt (accChan n)).fault = false) (htest : (s.bupAt n).failed = false) (hraise : raiseReason s n = 0)
    (havs : (s.twb.avs[n]'n.isLt).failed = false) : applyPowerOn n s = done (raisedToTop n s) := by
  unfold applyPowerOn
  dsimp only
  rw [hdecision, if_neg (by decide), if_neg hbelow, hfault, if_neg (by decide), htest, if_neg (by decide),
    if_neg (not_not.2 hraise), havs, if_neg (by decide)]
  rfl

theorem raisedToTop_spec (n : Acc) (s : State) :
    (raisedToTop n s).crz = { s.crz with
      chan := s.crz.chan.set (accChan n) { (s.crz.chan[accChan n]'(accChan n).isLt) with setOff := false, target := 12 }
        (accChan n).isLt } ∧
    ((raisedToTop n s).acc[n]'n.isLt).testWanted = ((s.acc[n]'n.isLt).testWanted || decide ((s.crz.chan[accChan n]'(accChan n).isLt).target ≠ 12)) ∧
    ((raisedToTop n s).bup.acc[n]'n.isLt) = { (s.bup.acc[n]'n.isLt) with bootFailed := false, solo := true } := by
  simp [raisedToTop, setAccTarget, setTarget]

theorem setAccTarget_acc (n : Acc) (t : Nat) (s : State) : (setAccTarget n t s).acc = s.acc := rfl

theorem setAccTarget_state (n : Acc) (t : Nat) (s : State) : chState (setAccTarget n t s) n = chState s n := by
  simp [setAccTarget, setTarget, chState]

/-! The drain of a reset or a power-off (03 R74; 15 R453, R454). -/

/-- XNET_DRAIN asserted in a given tick, with the command in flight. -/
def drainFrom (n : Acc) (tick : Nat) (goal : DrainFor) (q : Reply) (s : State) : State :=
  s.setAcc n fun a => { a with xnetDrain := true, drain := some { start := tick, goal, reply := q, idle := false } }

theorem applyPartOff_drains {n : Acc} {full : Bool} {q : Reply} {s : State} (hdecision : (s.accAt n).decision = none)
    (hdrain : (s.accAt n).drain = none) (hup : 3 ≤ chState s n) :
    applyPartOff n full q s = (beginDrain n (.powerOff full) q s, none) :=
  (if_neg (by rw [hdecision]; decide)).trans ((if_neg (by rw [hdrain]; decide)).trans (if_neg (by omega)))

/-- An accelerator below S3 has no XNET: its channel goes lower at once. -/
def loweredOff (n : Acc) (full : Bool) (s : State) : State :=
  s.setChan (accChan n) fun c => { c with setOff := true, target := min c.target (if full then 0 else 3) }

theorem carryOut_powerOff_low {n : Acc} {full : Bool} {s : State} (hlow : chState s n < 3) :
    carryOut n (.powerOff full) s = loweredOff n full s := by
  have haim : aimAcc n (min (s.chanAt (accChan n)).target (if full then 0 else 3)) s =
      setTarget (accChan n) (min (s.chanAt (accChan n)).target (if full then 0 else 3)) s := by
    have hstate (t : Nat) : ((setTarget (accChan n) t s).chanAt (accChan n)).state < 3 := (setAccTarget_state n t s).trans_lt hlow
    unfold aimAcc aim
    simp only [accOf_accChan]
    exact if_neg fun ⟨h, _⟩ => absurd h (Nat.not_le.2 ((hstate _).trans (by decide)))
  simp only [carryOut, haim]
  simp [loweredOff, setTarget, State.setChan]

theorem applyPartOff_low {n : Acc} {full : Bool} {q : Reply} {s : State} (hdecision : (s.accAt n).decision = none)
    (hdrain : (s.accAt n).drain = none) (hlow : chState s n < 3) :
    applyPartOff n full q s = done (loweredOff n full s) :=
  (if_neg (by rw [hdecision]; decide)).trans ((if_neg (by rw [hdrain]; decide)).trans ((if_pos hlow).trans
    (by rw [carryOut_powerOff_low hlow])))

theorem applyReset_drains {n : Acc} {test : Bool} {q : Reply} {s : State} (hdecision : (s.accAt n).decision = none)
    (hdrain : (s.accAt n).drain = none) (hreset : resetReason s n = 0) (hup : 3 ≤ chState s n) :
    applyReset n test q s = (beginDrain n (.reset test) q s, none) :=
  (if_neg (by rw [hdecision]; decide)).trans ((if_neg (not_not.2 hreset)).trans
    ((if_neg (by rw [hdrain]; decide)).trans (if_neg (by omega))))

/-! The decisions (03 R75; 15 R454). -/

/-- The decision is taken. -/
def decided (n : Acc) (s : State) : State := s.setAcc n fun a => { a with decision := none }

theorem applyResetForce_resets {n : Acc} {test g : Bool} {d : Nat} {s : State}
    (hdecision : (s.accAt n).decision = some (.reset g, d)) (hreset : resetReason s n = 0) :
    applyResetForce n test s = done (carryOut n (.reset test) (decided n s)) := by
  unfold applyResetForce
  rw [hdecision]
  exact if_neg (not_not.2 hreset)

theorem applyResetForce_refused {n : Acc} {test g : Bool} {d : Nat} {s : State}
    (hdecision : (s.accAt n).decision = some (.reset g, d)) (hreset : resetReason s n ≠ 0) :
    applyResetForce n test s = refuse (resetReason s n) n.1 s := by
  unfold applyResetForce
  rw [hdecision]
  exact if_pos hreset

theorem applyResetForce_powerOff {n : Acc} {test g : Bool} {d : Nat} {s : State}
    (hdecision : (s.accAt n).decision = some (.powerOff g, d)) :
    applyResetForce n test s = done (carryOut n (.powerOff g) (decided n s)) := by
  unfold applyResetForce
  rw [hdecision]
  rfl

theorem applyResetAbort_done {n : Acc} {s : State} (h : (s.accAt n).decision ≠ none) :
    applyResetAbort n s = done (abortDrain n s) :=
  if_neg (by simpa using h)

/-- The first tick of a reset: below S9 nothing but the test; in HOLD it waits; else the channel leaves for S8. -/
def resetBegun (n : Acc) (test : Bool) (s : State) : State :=
  if chState s n < 9 then s.setAcc n fun a => { a with testWanted := test }
  else if rackHolds s then
    (s.setAcc n fun a => { a with testWanted := test }).setChan (accChan n) fun c => { c with resetDue := true }
  else leaveDown n (s.setAcc n fun a => { a with testWanted := test })

theorem carryOut_reset_eq (n : Acc) (test : Bool) (s : State) :
    carryOut n (.reset test) s = setAccTarget n 12 (resetBegun n test s) := rfl

theorem carryOut_reset_decision (n : Acc) (test : Bool) (s : State) :
    ((carryOut n (.reset test) s).accAt n).decision = (s.accAt n).decision := by
  rw [carryOut_reset_eq, State.accAt, setAccTarget_acc]
  unfold resetBegun
  split
  · simp
  · split
    · simp
    · simp [AccState.inReset]

theorem carryOut_reset_state (n : Acc) (test : Bool) (s : State) :
    (9 ≤ chState s n → rackHolds s = false → chState (carryOut n (.reset test) s) n = 8 ∧
      ((carryOut n (.reset test) s).accAt n).rst = true ∧ ((carryOut n (.reset test) s).accAt n).forceCrz = true) ∧
    (9 ≤ chState s n → rackHolds s = true → chState (carryOut n (.reset test) s) n = chState s n ∧
      ((carryOut n (.reset test) s).chanAt (accChan n)).resetDue = true) ∧
    (chState s n < 9 → chState (carryOut n (.reset test) s) n = chState s n) := by
  rw [carryOut_reset_eq, setAccTarget_state, State.accAt, setAccTarget_acc]
  refine ⟨fun htop hfree => ?_, fun htop hholds => ?_, fun hlow => ?_⟩
  · rw [resetBegun, if_neg (by omega), hfree, if_neg Bool.false_ne_true]
    simp [chState, AccState.inReset, ChanState.leftTop]
  · rw [resetBegun, if_neg (by omega), if_pos hholds]
    simp [chState, setAccTarget, setTarget]
  · rw [resetBegun, if_pos hlow]
    rfl

theorem aimAcc_decision (n : Acc) (t : Nat) (s : State) : ((aimAcc n t s).accAt n).decision = (s.accAt n).decision := by
  unfold aimAcc aim
  simp only [accOf_accChan]
  split
  · simp [setTarget, AccState.inReset]
  · rfl

theorem carryOut_powerOff_decision (n : Acc) (full : Bool) (s : State) :
    ((carryOut n (.powerOff full) s).accAt n).decision = (s.accAt n).decision :=
  aimAcc_decision ..

/-! partition.reset by its MODE (15 R454). -/

/-- What partition.reset does in a mode. -/
def resetByMode (m fl : Byte) (q : Reply) (n : Acc) (s : State) : State × Option Ans :=
  if m = 0 then applyReset n (fl.getLsbD 0) q s
  else if m = 1 then applyResetForce n (fl.getLsbD 0) s
  else applyResetAbort n s

theorem applied_resetByMode {f : Frame} {b fl : Byte} {n : Acc} (m : Byte) (s : State) (hb : b.toNat = n.1) :
    applied f (.partitionReset b m fl) none s = resetByMode m fl (ticket (reqOf f (.partitionReset b m fl) none s)
      (submitted f s)) n (taken f (.partitionReset b m fl) s) :=
  onAcc_eq hb (resetByMode m fl _) _

/-- Settles O10: each command by the rule that applies it. -/
theorem partitionCommands : Obligations.PartitionCommands := by
  unfold Obligations.PartitionCommands
  refine ⟨fun f b n s h hb hdecision => ⟨fun hstate htarget => ?_, fun hbelow hfault htest hraise havs => ?_⟩,
    fun f b m n s h hb hdecision hdrain => ⟨fun hup => ?_, fun hlow => ?_⟩,
    fun f b fl n s h hb hdecision hdrain hreset hup => ?_,
    fun f b fl n g d s h hb hdecision => ⟨fun hreset => ?_, fun hreset => ?_⟩,
    fun f b fl n g d s h hb hdecision => ?_, fun f b fl n s h hb hdecision => ?_⟩
  · have hrule : applied f (.partitionPowerOn b) none s = _ :=
      (onAcc_eq hb _ _).trans (applyPowerOn_idle (by simpa using hdecision) (by simpa using ⟨hstate, htarget⟩))
    obtain ⟨happlied, hans⟩ := settled_done (.partitionPowerOn b) rfl hrule
    exact ⟨_, runCommand_settled h none, settled_bookkept happlied, hans⟩
  · have hrule : applied f (.partitionPowerOn b) none s = _ :=
      (onAcc_eq hb _ _).trans (applyPowerOn_raises (by simpa using hdecision) (by simpa using hbelow) (by simpa using hfault)
        (by simpa using htest) ((raiseReason_taken ..).trans hraise) (by simpa using havs))
    obtain ⟨happlied, hans⟩ := settled_done (.partitionPowerOn b) rfl hrule
    obtain ⟨hcrz, htested, hbup⟩ := raisedToTop_spec n (taken f (.partitionPowerOn b) s)
    refine ⟨_, runCommand_settled h none, ?_, ?_, ?_, hans⟩
    · rw [settled_crz, happlied, hcrz, taken_crz]
    · rw [settled_acc, happlied, htested, taken_acc, taken_crz]
    · rw [settled_bup, happlied, hbup, taken_bup]
  · have hrule : applied f (.partitionPowerOff b m) none s = _ :=
      (onAcc_eq hb _ _).trans (applyPartOff_drains (by simpa using hdecision) (by simpa using hdrain) (by simpa using hup))
    refine ⟨_, ticket (reqOf f (.partitionPowerOff b m) none s) (submitted f s), runCommand_settled h none, ?_, rfl, rfl, rfl⟩
    refine (settled_bookkept_of (g := drainFrom n s.sys.tick (.powerOff (m == 1)) (ticket (reqOf f (.partitionPowerOff b m) none s) (submitted f s)))
      (fun _ _ => rfl) ?_).trans rfl
    rw [hrule, beginDrain, taken_sys]
    rfl
  · have hrule : applied f (.partitionPowerOff b m) none s = _ :=
      (onAcc_eq hb _ _).trans (applyPartOff_low (by simpa using hdecision) (by simpa using hdrain) (by simpa using hlow))
    obtain ⟨happlied, hans⟩ := settled_done (.partitionPowerOff b m) rfl hrule
    refine ⟨_, runCommand_settled h none, (settled_bookkept_of (g := loweredOff n (m == 1)) (fun _ _ => rfl) happlied).trans ?_, hans⟩
    simp only [loweredOff, State.setChan, beq_iff_eq]
    rfl
  · have hrule : applied f (.partitionReset b 0 fl) none s = _ :=
      (applied_resetByMode 0 s hb).trans (applyReset_drains (by simpa using hdecision) (by simpa using hdrain)
        ((resetReason_taken ..).trans hreset) (by simpa using hup))
    refine ⟨_, ticket (reqOf f (.partitionReset b 0 fl) none s) (submitted f s), runCommand_settled h none, ?_, rfl, rfl, rfl⟩
    refine (settled_bookkept_of (g := drainFrom n s.sys.tick (.reset (fl.getLsbD 0)) (ticket (reqOf f (.partitionReset b 0 fl) none s) (submitted f s)))
      (fun _ _ => rfl) ?_).trans rfl
    rw [hrule, beginDrain, taken_sys]
    rfl
  · have hrule : applied f (.partitionReset b 1 fl) none s = _ :=
      (applied_resetByMode 1 s hb).trans (applyResetForce_resets (by simpa using hdecision) ((resetReason_taken ..).trans hreset))
    obtain ⟨happlied, hans⟩ := settled_done (.partitionReset b 1 fl) rfl hrule
    let u := decided n (taken f (.partitionReset b 1 fl) s)
    have hstate : chState u n = chState s n := chState_taken ..
    have hholds : rackHolds u = rackHolds s := rackHolds_taken ..
    obtain ⟨htest, htarget, -⟩ := carryOut_reset n (fl.getLsbD 0) u
    have hdecided := carryOut_reset_decision n (fl.getLsbD 0) u
    obtain ⟨htop, hheld, hlow⟩ := carryOut_reset_state n (fl.getLsbD 0) u
    rw [hstate, hholds] at htop hheld
    rw [hstate] at hlow
    have hacc : (settled f (.partitionReset b 1 fl) none s).acc = (carryOut n (.reset (fl.getLsbD 0)) u).acc := by
      rw [settled_acc, happlied]
    have hcrz : (settled f (.partitionReset b 1 fl) none s).crz = (carryOut n (.reset (fl.getLsbD 0)) u).crz := by
      rw [settled_crz, happlied]
    have hstate' : chState (settled f (.partitionReset b 1 fl) none s) n = chState (carryOut n (.reset (fl.getLsbD 0)) u) n := by
      rw [chState, hcrz, chState]
    refine ⟨_, runCommand_settled h none, ?_, ?_, ?_, ?_, ?_, ?_, hans⟩
    · rw [hacc, hdecided]
      simp [u, decided]
    · rw [hacc, htest]
    · rw [hcrz, htarget]
    · rw [hstate', hacc]
      exact htop
    · rw [hstate', hcrz]
      exact hheld
    · rw [hstate']
      exact hlow
  · have hrule : applied f (.partitionReset b 1 fl) none s = _ :=
      (applied_resetByMode 1 s hb).trans (applyResetForce_refused (by simpa using hdecision) (by rwa [resetReason_taken]))
    have hans := settled_answered (congrArg Prod.snd hrule) (storeWaits_of_unstored rfl ..)
    exact ⟨_, runCommand_settled h none, settled_bookkept (congrArg Prod.fst hrule), hans.answered⟩
  · have hrule : applied f (.partitionReset b 1 fl) none s = _ :=
      (applied_resetByMode 1 s hb).trans (applyResetForce_powerOff (by simpa using hdecision))
    obtain ⟨happlied, hans⟩ := settled_done (.partitionReset b 1 fl) rfl hrule
    let u := decided n (taken f (.partitionReset b 1 fl) s)
    obtain ⟨hoff, htarget, -⟩ := carryOut_powerOff n g u
    have hcrz : (settled f (.partitionReset b 1 fl) none s).crz = (carryOut n (.powerOff g) u).crz := by rw [settled_crz, happlied]
    refine ⟨_, runCommand_settled h none, ?_, ?_, ?_, hans⟩
    · rw [settled_acc, happlied, carryOut_powerOff_decision]
      simp [decided]
    · rw [hcrz, htarget]
      simp [u, decided]
    · rw [hcrz, hoff]
  · have hrule : applied f (.partitionReset b 2 fl) none s = _ :=
      (applied_resetByMode 2 s hb).trans (applyResetAbort_done (by simpa using hdecision))
    obtain ⟨happlied, hans⟩ := settled_done (.partitionReset b 2 fl) rfl hrule
    exact ⟨_, runCommand_settled h none, (settled_bookkept_of (g := abortDrain n) (fun _ _ => rfl) happlied).trans rfl, hans⟩

end Sys2Proof.Machine
end

section
/-! SUPPORT. A closing e-fuse that is not wanted any more (03 R71; 04 R87): the READ_VOUT that completes its close opens it again. -/

set_option Elab.async false

namespace Sys2Proof.Machine

open Sys2Proof

/-- An e-fuse closes while its channel, still in S0, is aimed at S0 again: a power-off came in between. -/
def unwantedClose : State :=
  (State.reset.setAcc 0 fun a => { a with efuseOn := true }).setChan (accChan 0) fun c => { c with efuseClose := some 0 }

theorem linear11_forty : linear11 0x28 = 40 := by
  have hmant : signed 11 (BitVec.toNat (0x28 : BitVec 16) % 2048) = 40 := by decide
  have hexp : signed 5 (BitVec.toNat (0x28 : BitVec 16) / 2048) = 0 := by decide
  rw [linear11, hmant, hexp]
  norm_num [pow2]

/-- The close of an e-fuse is complete (04 R87). -/
def closeDone (c : ChanState) : ChanState := { c with efuseGood := true, efuseClose := none }

theorem crzUp_atLowTarget {c : Chan} {s : State} (hdir : (s.chanAt c).dir ≠ 3) (hdone : (s.chanAt c).stepDone = true)
    (htarget : (s.chanAt c).target ≤ (s.chanAt c).state) : crzUp c s = atTarget c s :=
  (if_neg (not_or.2 ⟨hdir, by rw [hdone]; decide⟩)).trans (if_pos htarget)

theorem efuseBack_opens {n : Acc} {s : State} (hstate : (s.chanAt (accChan n)).state = 0) (hon : (s.accAt n).efuseOn = true) :
    ((efuseBack (accChan n) s).chanAt (accChan n)).efuseGood = false := by
  have hrule : efuseBack (accChan n) s = (s.setAcc n fun a => { a with efuseOn := false }).setChan (accChan n) fun x =>
      { x with efuseGood := false, efuseClose := none } := by
    unfold efuseBack
    simp only [accOf_accChan]
    exact if_pos ⟨hstate, hon⟩
  rw [hrule]
  simp

theorem atTarget_opens {n : Acc} {s : State} (hstate : (s.chanAt (accChan n)).state = 0) (hon : (s.accAt n).efuseOn = true) :
    ((atTarget (accChan n) s).chanAt (accChan n)).efuseGood = false := by
  have hopen := efuseBack_opens hstate hon
  rw [atTarget]
  generalize efuseBack (accChan n) s = u at *
  simpa using hopen

/-- At 40 V the close is complete, and the channel opens the e-fuse that it does not want. -/
theorem efuseVout_unwanted {n : Acc} {w : BitVec 16} {s : State} (hvolts : 40 ≤ linear11 w) (hon : (s.accAt n).efuseOn = true)
    (hstate : (s.chanAt (accChan n)).state = 0) (htarget : (s.chanAt (accChan n)).target = 0)
    (hdir : (s.chanAt (accChan n)).dir ≠ 3) (hdone : (s.chanAt (accChan n)).stepDone = true) :
    ((efuseVout n (.ok w) s).chanAt (accChan n)).efuseGood = false := by
  have hclosed : ((s.setChan (accChan n) closeDone).chanAt (accChan n)) = closeDone (s.chanAt (accChan n)) := by simp
  have hrests : crzUp (accChan n) (s.setChan (accChan n) closeDone) = atTarget (accChan n) (s.setChan (accChan n) closeDone) :=
    crzUp_atLowTarget (by rw [hclosed]; exact hdir) (by rw [hclosed]; exact hdone)
      (by rw [hclosed]; exact htarget.trans_le (Nat.zero_le _))
  have hrule : efuseVout n (.ok w) s = atTarget (accChan n) (s.setChan (accChan n) closeDone) := (if_pos hvolts).trans hrests
  rw [hrule]
  exact atTarget_opens (by rw [hclosed]; exact hstate) hon

/-- Refutes O47: READ_VOUT at 40 V completes the close of an e-fuse whose channel is aimed at S0 again, and the same step opens
the e-fuse (03 R71), so that it is not closed after it. -/
theorem not_scheduledReadRows : ¬ Obligations.ScheduledReadRows := by
  unfold Obligations.ScheduledReadRows
  rintro ⟨-, -, -, hslotB, -⟩
  obtain ⟨hclosed, -⟩ := hslotB 0 0x28 unwantedClose rfl (by decide)
  obtain ⟨t, hnext, hgood, -⟩ := hclosed (by decide) rfl (by rw [linear11_forty])
  have ht : efuseVout 0 (.ok 0x28) (unwantedClose.setPort (mainPort 0) fun x => { x with frameB := some 0 }) = t :=
    Host.Outcome.next.inj hnext
  rw [← ht, efuseVout_unwanted (by rw [linear11_forty]) rfl rfl rfl (by decide) rfl] at hgood
  exact Bool.false_ne_true hgood

end Sys2Proof.Machine
end

section
/-! SUPPORT. Alerts and stuck buses of the two-wire ports (13 R397 to R401). -/

set_option Elab.async false

namespace Sys2Proof.Machine

open Sys2Proof

/-! Alerts (13 R397, R398). -/

section
variable {p : Port} {s : State} (henabled : fldB (s.portAt p).cfg 10 = true) (hmask : (s.portAt p).alertMasked = false)
  (hbus : busDown s (.port p) = false)
include henabled hmask hbus

theorem alert_heard : ¬((!fldB (s.portAt p).cfg 10) = true ∨ (s.portAt p).alertMasked = true ∨
    busDown (s.setPort p fun x => { x with alertLine := true }) (.port p) = true) := by
  have hkept : busDown (s.setPort p fun x => { x with alertLine := true }) (.port p) = busDown s (.port p) := by
    simp [busDown, busStuck, busHung]
  rw [hkept, henabled, hmask, hbus]
  decide

theorem twbAlert_unanswered (w : BitVec 16) (low : Bool) : exec (.twbAlert p none w low) s = .next { s with twb := { s.twb with
    port := s.twb.port.set p { (s.portAt p) with
      alertLine := true, cycles := (s.portAt p).cycles + 1, araNack := true, nack := min 255 ((s.portAt p).nack + 1) } p.isLt } } :=
  (if_neg (alert_heard henabled hmask hbus)).trans (by simp [countFailed, State.setPort, satAdd])

end

/-- An alert cycle that a device answered. -/
def alertAnswered (p : Port) (low : Bool) (s : State) : State :=
  s.setPort p fun x => { x with alertLine := low, cycles := if low then x.cycles + 1 else 0, araNack := false }

/-- What the answer of a device at an address leads to. -/
def answerTaken (p : Port) (a : BitVec 7) (w : BitVec 16) (s : State) : State :=
  match alerter p a.toNat with
  | some (unit, obj) => if statusFault w then vrStatus unit obj p a.toNat w s else s.send (.clearFaults p a.toNat)
  | none => emit s 3 (portUnit p) p.1 0x0D06 a.toNat

theorem twbAlert_answered {p : Port} {s : State} (henabled : fldB (s.portAt p).cfg 10 = true)
    (hmask : (s.portAt p).alertMasked = false) (hbus : busDown s (.port p) = false) (a : BitVec 7) (w : BitVec 16)
    (low : Bool) : exec (.twbAlert p (some a) w low) s = .next (answerTaken p a w (alertAnswered p low s)) := by
  refine (if_neg (alert_heard henabled hmask hbus)).trans ?_
  have hline : (s.setPort p fun x => { x with alertLine := true }).setPort p (fun x => { x with
      alertLine := low, cycles := if low then x.cycles + 1 else 0, araNack := false }) = alertAnswered p low s := by
    simp [alertAnswered, State.setPort]
  simp only [hline, answerTaken]
  cases alerter p a.toNat <;> rfl

theorem answerTaken_frame (p : Port) (a : BitVec 7) (w : BitVec 16) (s : State) :
    answerTaken p a w s = { s with rcd := (answerTaken p a w s).rcd, out := (answerTaken p a w s).out } := by
  unfold answerTaken
  split
  · split <;> rfl
  · rfl

theorem answerTaken_device {p : Port} {a : BitVec 7} {x : Nat × Nat} (h : alerter p a.toNat = some x) (w : BitVec 16)
    (s : State) : (answerTaken p a w s).out = .clearFaults p a.toNat :: s.out ∧
      (statusFault w = true → Raised (answerTaken p a w s) 3 x.1 x.2 0x0503 w.toNat) := by
  have hrule : answerTaken p a w s =
      if statusFault w then vrStatus x.1 x.2 p a.toNat w s else s.send (.clearFaults p a.toNat) := by
    rw [answerTaken, h]
  rw [hrule]
  refine ⟨by split <;> rfl, fun hfault => ?_⟩
  rw [if_pos hfault]
  exact raised_emit s 3 x.1 x.2 0x0503 w.toNat w.isLt

theorem answerTaken_other {p : Port} {a : BitVec 7} (h : alerter p a.toNat = none) (w : BitVec 16) (s : State) :
    answerTaken p a w s = emit s 3 (portUnit p) p.1 0x0D06 a.toNat := by
  rw [answerTaken, h]

theorem alertStuck_masks {p : Port} {x : Nat} {s : State} (henabled : fldB (s.portAt p).cfg 10 = true)
    (hmask : (s.portAt p).alertMasked = false) (hcause : alertCause (s.portAt p) = x) (hx : x ≠ 0) :
    exec (.alertStuck p) s = .next (emit (s.setPort p fun y => { y with
      alertMasked := true, maskTick := s.sys.tick, cycles := 0, araNack := false }) 3 (portUnit p) p.1 0x0D05 x) := by
  subst hcause
  refine if_neg ?_
  rw [henabled, hmask]
  rintro (h | h | h)
  · exact Bool.false_ne_true h
  · exact Bool.false_ne_true h
  · exact hx h

theorem alertCause_eq {x : PortState} {k : Nat} (hline : x.alertLine = true)
    (h : (x.araNack = true ∧ k = 1) ∨ (x.araNack = false ∧ 16 ≤ x.cycles ∧ k = 2)) : alertCause x = k := by
  rcases h with ⟨hnack, rfl⟩ | ⟨hnack, hcycles, rfl⟩
  · simp [alertCause, hline, hnack]
  · simp [alertCause, hline, hnack, hcycles]

/-! Stuck buses (13 R399 to R401). -/

@[simp] theorem writeSettings_twb (n : Acc) (s : State) : (writeSettings n s).twb = s.twb := by
  unfold writeSettings
  split
  · rfl
  · simp only
    split <;> rfl

theorem writeSettings_recordGrows (n : Acc) (s : State) : RecordGrows s (writeSettings n s) := by
  unfold writeSettings
  split
  · exact .of_eq rfl rfl rfl
  · simp only
    split <;> exact .of_eq rfl rfl rfl

/-- A bus resumes its schedule. -/
def busResumed (b : Bus) (s : State) : State :=
  match b with
  | .port p => s.setPort p fun x => { x with state := 0, stuck := false, accSide := false, sdaLow := false, sclLow := false, sdaRun := 0 }
  | .efuse n => s.setPort (mainPort n) fun x => { x with efbState := 0, efbStuck := false, efbSdaRun := 0 }

/-- The isolation switch of a freed main bus, and a settings record that waited. -/
def isoResumed (b : Bus) (s : State) : State :=
  match busAcc b with
  | none => s
  | some n =>
    let s := s.setAcc n fun a => { a with
      isoEn := a.isoEn || ((s.crz.rail[railOf n 0]'(Fin.isLt _)).stable && decide (1 ≤ chState s n)) }
    if (s.bupAt n).boxDue && chState s n == 9 then writeSettings n s else s

theorem busFreed_eq (b : Bus) (k : Nat) (s : State) : busFreed b k s = isoResumed b (busResumed b (busEvent b 0x0D02 k s)) := by
  cases b <;> rfl

theorem isoResumed_spec (b : Bus) (s : State) :
    (isoResumed b s).twb = s.twb ∧ (isoResumed b s).crz = s.crz ∧ RecordGrows s (isoResumed b s) := by
  unfold isoResumed
  split
  · exact ⟨rfl, rfl, .refl s⟩
  · simp only
    split
    · exact ⟨by simp, by simp, (setAcc_recordGrows ..).trans (writeSettings_recordGrows ..)⟩
    · exact ⟨rfl, rfl, setAcc_recordGrows ..⟩

theorem busStuck_congr {s t : State} (h : t.twb = s.twb) (b : Bus) : busStuck t b = busStuck s b := by
  cases b <;> simp only [busStuck, h]

theorem busHung_congr {s t : State} (h : t.twb = s.twb) (b : Bus) : busHung t b = busHung s b := by
  cases b <;> simp only [busHung, h]

theorem busResumed_free (b : Bus) (s : State) : busStuck (busResumed b s) b = false ∧ busHung (busResumed b s) b = false := by
  cases b <;> simp [busResumed, busStuck, busHung]

theorem busResumed_recordGrows (b : Bus) (s : State) : RecordGrows s (busResumed b s) := by
  cases b <;> exact .of_eq rfl rfl rfl

theorem busResumed_crz (b : Bus) (s : State) : (busResumed b s).crz = s.crz := by
  cases b <;> rfl

/-- A freed bus: no longer stuck or hung, with the pulses it took reported. -/
theorem busFreed_spec (b : Bus) {k : Nat} (hk : k < 65536) (s : State) : busStuck (busFreed b k s) b = false ∧
    busHung (busFreed b k s) b = false ∧ Raised (busFreed b k s) 3 (portUnit (busPort b)) (busObject b) 0x0D02 k ∧
    (busFreed b k s).crz = s.crz := by
  rw [busFreed_eq]
  obtain ⟨htwb, hcrz, hgrows⟩ := isoResumed_spec b (busResumed b (busEvent b 0x0D02 k s))
  obtain ⟨hstuck, hhung⟩ := busResumed_free b (busEvent b 0x0D02 k s)
  exact ⟨(busStuck_congr htwb b).trans hstuck, (busHung_congr htwb b).trans hhung,
    ((busResumed_recordGrows ..).trans hgrows).raised (raised_emit _ _ _ _ _ _ hk), hcrz.trans (busResumed_crz ..)⟩

/-- The first failure of an episode is reported. -/
def stuckReported (b : Bus) (side : Bool) (s : State) : State :=
  if busStuck s b then s else busEvent b 0x0D01 (if side && (busAcc b).isSome then 1 else 2) s

/-- The isolation switch of a stuck main bus is open. -/
def isoOpened (b : Bus) (s : State) : State :=
  match busAcc b with
  | some n => s.setAcc n fun a => { a with isoEn := false }
  | none => s

/-- A bus waits, stuck, for its next attempt. -/
def busWaits (b : Bus) (side : Bool) (s : State) : State :=
  match b with
  | .port p => s.setPort p fun x => { x with
      state := 4, stuck := true, accSide := side, sdaLow := !side, sclLow := false, tryTick := s.sys.tick }
  | .efuse n => s.setPort (mainPort n) fun x => { x with efbState := 4, efbStuck := true, efbTick := s.sys.tick }

theorem busHeld_eq (b : Bus) (side : Bool) (s : State) :
    busHeld b side s = busWaits b (side && (busAcc b).isSome) (isoOpened b (stuckReported b side s)) := by
  cases b <;> rfl

theorem busWaits_spec (b : Bus) (side : Bool) (s : State) : busStuck (busWaits b side s) b = true ∧
    busTried (busWaits b side s) b = s.sys.tick ∧ (busWaits b side s).crz = s.crz ∧ (busWaits b side s).acc = s.acc ∧
    RecordGrows s (busWaits b side s) := by
  cases b
  · exact ⟨by simp [busWaits, busStuck], by simp [busWaits, busTried], rfl, rfl, .of_eq rfl rfl rfl⟩
  · exact ⟨by simp [busWaits, busStuck], by simp [busWaits, busTried], rfl, rfl, .of_eq rfl rfl rfl⟩

theorem isoOpened_spec (b : Bus) (s : State) : (isoOpened b s).crz = s.crz ∧ RecordGrows s (isoOpened b s) ∧
    ∀ n, busAcc b = some n → (isoOpened b s).acc = s.acc.set n { (s.accAt n) with isoEn := false } n.isLt := by
  unfold isoOpened
  cases hacc : busAcc b with
  | none => exact ⟨rfl, .refl s, nofun⟩
  | some m => exact ⟨rfl, .of_eq rfl rfl rfl, fun n hn => by obtain rfl := Option.some.inj hn; rfl⟩

theorem stuckReported_spec (b : Bus) (side : Bool) (s : State) : (stuckReported b side s).crz = s.crz ∧
    (stuckReported b side s).acc = s.acc ∧ (stuckReported b side s).sys = s.sys ∧
    (busStuck s b = false → Raised (stuckReported b side s) 3 (portUnit (busPort b)) (busObject b) 0x0D01
      (if side = true ∧ busAcc b ≠ none then 1 else 2)) := by
  unfold stuckReported
  split
  next hstuck => exact ⟨rfl, rfl, rfl, fun h => absurd hstuck (by rw [h]; decide)⟩
  next =>
    refine ⟨rfl, rfl, rfl, fun _ => ?_⟩
    have hdetail : (if (side && (busAcc b).isSome) = true then 1 else 2) = if side = true ∧ busAcc b ≠ none then 1 else 2 := by
      simp [Option.isSome_iff_ne_none]
    rw [← hdetail]
    exact raised_emit _ _ _ _ _ _ (by split <;> decide)

/-- A bus that stays stuck after its pulses. -/
theorem busHeld_spec (b : Bus) (side : Bool) (s : State) : busStuck (busHeld b side s) b = true ∧
    busTried (busHeld b side s) b = s.sys.tick ∧ (busHeld b side s).crz = s.crz ∧
    (∀ n, busAcc b = some n → (busHeld b side s).acc = s.acc.set n { (s.accAt n) with isoEn := false } n.isLt) ∧
    (busStuck s b = false → Raised (busHeld b side s) 3 (portUnit (busPort b)) (busObject b) 0x0D01
      (if side = true ∧ busAcc b ≠ none then 1 else 2)) := by
  rw [busHeld_eq]
  obtain ⟨hcrz, hacc, hsys, hraised⟩ := stuckReported_spec b side s
  obtain ⟨hcrz', hgrows, hopen⟩ := isoOpened_spec b (stuckReported b side s)
  obtain ⟨hstuck, htried, hcrz'', hacc'', hgrows'⟩ :=
    busWaits_spec b (side && (busAcc b).isSome) (isoOpened b (stuckReported b side s))
  refine ⟨hstuck, htried.trans ?_, hcrz''.trans (hcrz'.trans hcrz), fun n hn => ?_, fun h => ?_⟩
  · rw [hgrows.sys, hsys]
  · rw [hacc'', hopen n hn, hacc, State.accAt, hacc]
  · exact (hgrows.trans hgrows').raised (hraised h)

/-! The recoveries (13 R399 to R401). -/

/-- The isolation switch of a bus whose segment was the accelerator's side closes before a new attempt. -/
def isoRetried (b : Bus) (s : State) : State :=
  match busAcc b with
  | some n => if (s.portAt (busPort b)).accSide && decide (1 ≤ chState s n) then s.setAcc n fun a => { a with isoEn := true } else s
  | none => s

/-- A recovery of a bus starts: after 100 us of SDA low, with SCL released, or 1 s after the last attempt. -/
inductive RecoveryStarts (b : Bus) (rec : Recovery) (s : State) : Instr → State → Prop
  | dataLine : busStuck s b = false → busHung s b = false → 10 ≤ sdaRunOf s b →
      RecoveryStarts b rec s (.stuckDataLine b rec) (countTimeout b s)
  | released : busHung s b = true → sclRunOf s b = 0 → RecoveryStarts b rec s (.sclReleased b rec) s
  | retry : busStuck s b = true → busTried s b + 100000 ≤ s.sys.tick → RecoveryStarts b rec s (.segRetry b rec) (isoRetried b s)

theorem RecoveryStarts.next {b : Bus} {rec : Recovery} {i : Instr} {s u : State} (h : RecoveryStarts b rec s i u) :
    exec i s = .next (recoverBus b rec u) := by
  cases h with
  | dataLine hstuck hhung hrun =>
    refine if_neg ?_
    rw [hstuck, hhung]
    rintro (h | h | h)
    · exact Bool.false_ne_true h
    · exact Bool.false_ne_true h
    · omega
  | released hhung hrun => exact if_pos ⟨hhung, hrun⟩
  | retry hstuck htime =>
    refine if_neg ?_
    rw [hstuck]
    rintro (h | h)
    · exact Bool.false_ne_true h
    · omega

/-- What the start of a recovery leaves. -/
theorem RecoveryStarts.kept {b : Bus} {rec : Recovery} {i : Instr} {s u : State} (h : RecoveryStarts b rec s i u) :
    u.crz = s.crz ∧ u.sys = s.sys ∧ busStuck u b = busStuck s b ∧
      ∀ n : Acc, busAcc b = some n → u.acc.set n { (u.accAt n) with isoEn := false } n.isLt = s.acc.set n { (s.accAt n) with isoEn := false } n.isLt := by
  cases h with
  | dataLine => exact ⟨rfl, rfl, by cases b <;> simp [countTimeout, busPort, busStuck], fun _ _ => rfl⟩
  | released => exact ⟨rfl, rfl, rfl, fun _ _ => rfl⟩
  | retry =>
    unfold isoRetried
    cases busAcc b with
    | none => exact ⟨rfl, rfl, rfl, nofun⟩
    | some m =>
      simp only
      split
      · refine ⟨rfl, rfl, by cases b <;> rfl, fun n hn => ?_⟩
        obtain rfl := Option.some.inj hn
        simp
      · exact ⟨rfl, rfl, rfl, fun _ _ => rfl⟩

theorem recoveryStarts_of {i : Instr} {b : Bus} {rec : Recovery} {s : State}
    (h : (i = .stuckDataLine b rec ∧ busStuck s b = false ∧ busHung s b = false ∧ 10 ≤ sdaRunOf s b) ∨
      (i = .sclReleased b rec ∧ busHung s b = true ∧ sclRunOf s b = 0) ∨
      (i = .segRetry b rec ∧ busStuck s b = true ∧ busTried s b + 100000 ≤ s.sys.tick)) : ∃ u, RecoveryStarts b rec s i u := by
  rcases h with ⟨rfl, hstuck, hhung, hrun⟩ | ⟨rfl, hhung, hrun⟩ | ⟨rfl, hstuck, htime⟩
  · exact ⟨_, .dataLine hstuck hhung hrun⟩
  · exact ⟨_, .released hhung hrun⟩
  · exact ⟨_, .retry hstuck htime⟩

/-- A bus with a hung clock. -/
def busHangs (b : Bus) (s : State) : State :=
  match b with
  | .port p => s.setPort p fun x => { x with state := 3 }
  | .efuse n => s.setPort (mainPort n) fun x => { x with efbState := 3 }

theorem clkTimeout_next {b : Bus} {s : State} (hhung : busHung s b = false) (hrun : 3500 ≤ sclRunOf s b) :
    exec (.clkTimeout b) s = .next (busHangs b (busEvent b 0x0D03 0 (countTimeout b s))) := by
  refine (if_neg ?_).trans (by cases b <;> rfl)
  rw [hhung]
  rintro (h | h)
  · exact Bool.false_ne_true h
  · omega

theorem busHangs_frame (b : Bus) (s : State) : busHung (busHangs b s) b = true ∧ RecordGrows s (busHangs b s) ∧
    ((busHangs b s).portAt (busPort b)).timeouts = (s.portAt (busPort b)).timeouts ∧
    busHangs b s = { s with twb := { s.twb with port := s.twb.port.set (busPort b) ((busHangs b s).portAt (busPort b)) (busPort b).isLt } } := by
  cases b
  · exact ⟨by simp [busHangs, busHung], .of_eq rfl rfl rfl, by simp [busHangs, busPort], by simp [busHangs, busPort, State.setPort]⟩
  · exact ⟨by simp [busHangs, busHung], .of_eq rfl rfl rfl, by simp [busHangs, busPort], by simp [busHangs, busPort, State.setPort]⟩

theorem busHangs_rcd (b : Bus) (s : State) : (busHangs b s).rcd = s.rcd := by
  cases b <;> rfl

/-- Settles O48: the alert cycle, the masking and the recovery of a bus, each by the rule above. -/
theorem twoWireFaultRows : Obligations.TwoWireFaultRows := by
  unfold Obligations.TwoWireFaultRows
  refine ⟨fun p w s henabled hmask hbus => ⟨fun low => ?_, fun a low => ?_⟩, fun p x s henabled hmask hline hcause => ?_,
    fun p s hmask htime => ?_, fun n s => rfl, fun i b k s h => ?_, fun i b side s h => ?_, fun b s hhung hrun => ?_⟩
  · exact twbAlert_unanswered henabled hmask hbus w low
  · refine ⟨_, twbAlert_answered henabled hmask hbus a w low, answerTaken_frame .., fun x hx => answerTaken_device hx .., fun hx => ?_⟩
    rw [answerTaken_other hx]
    exact ⟨raised_emit _ _ _ _ _ _ (by omega), rfl⟩
  · have hx : alertCause (s.portAt p) = x := alertCause_eq hline hcause
    have hne : x ≠ 0 ∧ x < 65536 := by omega
    exact ⟨_, alertStuck_masks henabled hmask hx hne.1, raised_emit _ _ _ _ _ _ hne.2, rfl⟩
  · refine if_neg ?_
    rw [hmask]
    rintro (h | h)
    · exact Bool.false_ne_true h
    · omega
  · obtain ⟨u, hstart⟩ := recoveryStarts_of h
    obtain ⟨hcrz, -, -, -⟩ := hstart.kept
    obtain ⟨hstuck, hhung, hraised, hcrz'⟩ := busFreed_spec b (k := k.1) (by omega) u
    exact ⟨_, hstart.next, hstuck, hhung, hraised, hcrz'.trans hcrz⟩
  · obtain ⟨u, hstart⟩ := recoveryStarts_of h
    obtain ⟨hcrz, hsys, hstuckU, hacc⟩ := hstart.kept
    obtain ⟨hstuck, htried, hcrz', hopen, hraised⟩ := busHeld_spec b side u
    refine ⟨_, hstart.next, hstuck, htried.trans (by rw [hsys]), hcrz'.trans hcrz, fun n hn => (hopen n hn).trans (hacc n hn), ?_⟩
    rw [← hstuckU]
    exact hraised
  · obtain ⟨hhangs, hgrows, htimeouts, hframe⟩ := busHangs_frame b (busEvent b 0x0D03 0 (countTimeout b s))
    refine ⟨_, clkTimeout_next hhung hrun, hhangs, hgrows.raised (raised_emit _ _ _ _ _ _ (by decide)), ?_, htimeouts.trans ?_⟩
    · refine hframe.trans ?_
      simp [busEvent, countTimeout, State.setPort, busHangs_rcd]
    · simp [busEvent, countTimeout, satAdd]

end Sys2Proof.Machine
end

section
/-! SUPPORT. MCTP control messages and PLDM requests (13 R409, R410; 16 R492). -/

set_option Elab.async false

namespace Sys2Proof.Machine

open Sys2Proof

/-! Messages that the cluster takes (18 R537). -/

theorem mctpIn_running {f : State → State} {s : State} (h : running s = true) : mctpIn f s = .next (f s) := by
  rw [mctpIn, if_pos h]

theorem mctpIn_stopped {f : State → State} {s : State} (h : running s = false) :
    mctpIn f s = .next { s with net := { s.net with dropped := min 255 (s.net.dropped + 1) } } := by
  rw [mctpIn, h, if_neg Bool.false_ne_true]
  rfl

theorem mctpApp_taken {f : State → State} {s : State} (h : running s = true) (hid : s.twb.eid ≠ 0) :
    mctpApp f s = .next (f s) := by
  rw [mctpApp, mctpIn_running h, if_neg hid]

/-! PLDM requests (16 R492). -/

/-- A request that passes its checks does what its command does, and is answered. -/
theorem pldmRun_applies {c : Cmd} {s : State} (hpresent : present s c = true) (hparams : paramsOk s c = true)
    (hreason : pldmReason s c = none) (hlife : s.nv.lc ≠ 4) : ∃ d : List Byte,
    pldmRun c s = (applyCmd none (ticket (reqOfRaw .mctp [] s.sys.tick) s) c s).1.send (.answer d) := by
  unfold pldmRun
  simp only [hpresent, hparams, hreason, Bool.not_true, Bool.false_eq_true, if_false, if_neg hlife]
  exact ⟨_, rfl⟩

/-- What a PLDM request to the running cluster answers, by the rule of its command. -/
theorem pldm_next {c : Cmd} {s : State} (hrun : running s = true) (hid : s.twb.eid ≠ 0) (hlife : s.nv.lc ≠ 4)
    (hpresent : present s c = true) (hparams : paramsOk s c = true) (hreason : pldmReason s c = none)
    {g : State → State × Option Ans} (hrule : ∀ q, applyCmd none q c s = g s) :
    ∃ d : List Byte, mctpApp (pldmRun c) s = .next ((g s).1.send (.answer d)) := by
  obtain ⟨d, hd⟩ := pldmRun_applies hpresent hparams hreason hlife
  exact ⟨d, (mctpApp_taken hrun hid).trans (congrArg _ (hd.trans (by rw [hrule])))⟩

/-- The messages of these rows. -/
theorem exec_mctp {i : Instr} (s : State) (h : (∃ e, i = .mctpSetEndpointId e) ∨ i = .getVendorDefinedMessageSupport ∨
    (∃ r, i = .pldmMonitoring r) ∨ (∃ b, i = .pldmVerifyComplete b) ∨ (∃ b k, i = .pldmActivateFirmware b k) ∨
    (∃ b f o n d, i = .pldmFwTransfer b f o n d)) : ∃ f, exec i s = mctpIn f s := by
  rcases h with ⟨e, rfl⟩ | rfl | ⟨r, rfl⟩ | ⟨b, rfl⟩ | ⟨b, k, rfl⟩ | ⟨b, f, o, n, d, rfl⟩
  · exact ⟨_, by change execMctpSetEndpointId e s = _; rfl⟩
  · exact ⟨_, by change execGetVendorDefinedMessageSupport s = _; rfl⟩
  · exact ⟨_, by change execPldmMonitoring r s = _; rfl⟩
  · exact ⟨_, by change execPldmVerifyComplete b s = _; rfl⟩
  · exact ⟨_, by change execPldmActivateFirmware b k s = _; rfl⟩
  · exact ⟨_, by change execPldmFwTransfer b f o n d s = _; rfl⟩

/-- Settles O58: the control messages by their definition, the PLDM requests by the rule of the command they stand for. -/
theorem mctpAndPldmRows : Obligations.MctpAndPldmRows := by
  unfold Obligations.MctpAndPldmRows
  refine ⟨fun e s hrun => ?_, fun s hrun => mctpIn_running hrun, fun s => rfl, fun req s hrun hid => mctpApp_taken hrun hid,
    fun i s hstopped hmessage => ?_, fun k b first o n d c s hrun hid hlife hb hc hpresent hparams hreason => ?_,
    fun k b s hrun hid hlife hb hpresent hparams hreason hfull hgood hmin hmax hversion => ?_,
    fun sl s hrun hid hlife hpresent hparams hreason hverified hslot htrial hgolden hidle => ?_⟩
  · have hnext : execMctpSetEndpointId e s = _ := mctpIn_running hrun
    exact ⟨_, hnext, raised_emit _ _ _ _ _ _ (by omega), rfl⟩
  · obtain ⟨f, hf⟩ := exec_mctp s hmessage
    exact hf.trans (mctpIn_stopped hstopped)
  · subst hc
    have hflag : (if first then 1 else 0 : Byte).getLsbD 0 = first := by cases first <;> rfl
    obtain ⟨x, hnext⟩ := pldm_next (g := fun s => done (chunkPut k ((s.stageAt k).staged first n.toNat d) s)) hrun hid hlife
      hpresent hparams hreason fun q => (onSome_eq (targetOf_eq hb) _ _).trans (by rw [hflag]; exact applyFwStage_done ..)
    obtain ⟨hsec, hnv, hcrz⟩ := chunkPut_kept k ((s.stageAt k).staged first n.toNat d) s
    exact ⟨_, hnext, hsec, hnv, hcrz⟩
  · obtain ⟨x, hnext⟩ := pldm_next (g := fun s => done (firmware (stagePut k { (s.stageAt k) with verified := true } s) k.1 0x1003 1))
      hrun hid hlife hpresent hparams hreason
      fun q => (onSome_eq (targetOf_eq hb) _ _).trans (applyFwVerify_done hfull hgood hmin hmax hversion)
    obtain ⟨hraised, hdue⟩ := raised_firmware (s := stagePut k { (s.stageAt k) with verified := true } s) (obj := k.1)
      (code := 0x1003) (detail := 1) (by decide)
    exact ⟨_, hnext, hraised, hdue, rfl, rfl, rfl⟩
  · obtain ⟨x, hnext⟩ := pldm_next (g := fun s => done (s.modSec fun c => { c with
        activate := some { slot := sl.toNat, image := (s.stageAt (0 : Fin 3)).data, golden := false } }))
      hrun hid hlife hpresent hparams hreason fun q => applyFwActivate_controller hverified hslot htrial hgolden hidle
    exact ⟨_, hnext, rfl⟩

end Sys2Proof.Machine
end

section
/-! SUPPORT. The SPDM responder and IDE key management (16 R477, R478; 18 R541). -/

set_option Elab.async false

namespace Sys2Proof.Machine

open Sys2Proof

/-! The conversation of a path. -/

theorem setSpdm_spdm (p : SpdmPath) (f : SpdmState → SpdmState) (s : State) :
    ((s.setSpdm p f).sec.spdm[pathIx p]'(pathIx p).isLt) = f (s.sec.spdm[pathIx p]'(pathIx p).isLt) := by
  simp [State.setSpdm, State.modSec]

theorem setSpdm_frame (p : SpdmPath) (f : SpdmState → SpdmState) (s : State) : s.setSpdm p f = { s with
    sec := { s.sec with spdm := s.sec.spdm.set (pathIx p) ((s.setSpdm p f).sec.spdm[pathIx p]'(pathIx p).isLt) (pathIx p).isLt } } := by
  rw [setSpdm_spdm]
  rfl

theorem setSpdm_setSpdm (p : SpdmPath) (f g : SpdmState → SpdmState) (s : State) :
    (s.setSpdm p f).setSpdm p g = s.setSpdm p (g ∘ f) := by
  simp [State.setSpdm, State.modSec]

/-- A request and its answer join the transcript. -/
def SpdmState.said (req body : List Byte) (x : SpdmState) : SpdmState := { x with transcript := x.transcript ++ req ++ body }

theorem spdmAnswer_eq (p : SpdmPath) (req body : List Byte) (s : State) :
    spdmAnswer p req body s = (s.setSpdm p (SpdmState.said req body)).send (.answer body) := rfl

theorem spdmAnswer_spdm (p : SpdmPath) (req body : List Byte) (s : State) :
    ((spdmAnswer p req body s).sec.spdm[pathIx p]'(pathIx p).isLt) = (s.sec.spdm[pathIx p]'(pathIx p).isLt).said req body :=
  setSpdm_spdm p (SpdmState.said req body) s

/-- An answer, after a change of the conversation that leaves its transcript. -/
theorem spdmAnswered_set (p : SpdmPath) (req body : List Byte) {f : SpdmState → SpdmState} {s : State}
    (hf : (f (s.sec.spdm[pathIx p]'(pathIx p).isLt)).transcript = (s.sec.spdm[pathIx p]'(pathIx p).isLt).transcript) :
    SpdmAnswered p req body s (spdmAnswer p req body (s.setSpdm p f)) := by
  refine ⟨rfl, ?_, ?_⟩
  · rw [spdmAnswer_spdm, setSpdm_spdm, SpdmState.said, hf]
  · rw [spdmAnswer_eq, setSpdm_setSpdm]
    exact congrArg (State.send _) (setSpdm_frame ..)

theorem spdmAnswered (p : SpdmPath) (req body : List Byte) (s : State) :
    SpdmAnswered p req body s (spdmAnswer p req body s) := by
  refine ⟨rfl, ?_, congrArg (State.send _) (setSpdm_frame ..)⟩
  rw [spdmAnswer_spdm, SpdmState.said]

/-! Requests in their order (16 R477). -/

theorem spdmIn_ready {p : SpdmPath} {f : State → State} {s : State} (h : spdmReady p s = true) : spdmIn p f s = .next (f s) := by
  cases p with
  | mctp =>
    obtain ⟨hrun, hid⟩ : running s = true ∧ s.twb.eid ≠ 0 := by simpa [spdmReady] using h
    exact mctpApp_taken hrun hid
  | doe => exact congrArg _ (if_pos (by simpa [spdmReady, cxlUp] using h))

theorem afterAlgs_ready {p : SpdmPath} {f : State → State} {s : State} (h : spdmReady p s = true)
    (halgs : (s.sec.spdm[pathIx p]'(pathIx p).isLt).algs = true) : afterAlgs p f s = .next (f s) :=
  (spdmIn_ready h).trans (congrArg _ (if_pos halgs))

/-! Sessions (18 R541). -/

section
variable {p : SpdmPath} {s : State} (h : spdmReady p s = true) (halgs : (s.sec.spdm[pathIx p]'(pathIx p).isLt).algs = true)
include h halgs

theorem finish_established {k : BitVec 256} (hsession : (s.sec.spdm[pathIx p]'(pathIx p).isLt).session = some (k, false)) :
    exec (.spdmFinish p true) s = .next (spdmAnswer p (asciiBytes "FINISH") (Config.standardAnswer (asciiBytes "FINISH"))
      (s.setSpdm p fun c => { c with session := some (k, true) })) := by
  refine (afterAlgs_ready h halgs).trans ?_
  rw [hsession]
  rfl

theorem finish_rejected {k : BitVec 256} (hsession : (s.sec.spdm[pathIx p]'(pathIx p).isLt).session = some (k, false)) :
    exec (.spdmFinish p false) s = .next (spdmError (s.setSpdm p fun c => { c with session := none })) := by
  refine (afterAlgs_ready h halgs).trans ?_
  rw [hsession]
  rfl

theorem endSession_ends {k : BitVec 256} (hsession : (s.sec.spdm[pathIx p]'(pathIx p).isLt).session = some (k, true)) :
    exec (.spdmEndSession p) s = .next (spdmAnswer p (asciiBytes "END_SESSION")
      (Config.standardAnswer (asciiBytes "END_SESSION")) (s.setSpdm p fun c => { c with session := none })) := by
  refine (afterAlgs_ready h halgs).trans ?_
  rw [hsession]

end

/-- The request of a key exchange, and the answer but for its signature. -/
def exchangeRequest (share : List Byte) : List Byte := asciiBytes "KEY_EXCHANGE" ++ share
def exchangeBody (share : List Byte) (x : BitVec 256) : List Byte := Config.standardAnswer (exchangeRequest share ++ bytes32 x)

/-- A session is agreed upon, not yet established. -/
def sessionOpened (share : List Byte) (s : State) : State :=
  s.draw.2.setSpdm .doe fun c => { c with session := some (Config.sessionKey s.draw.1 share, false) }

theorem keyExchange_doe {s : State} (h : spdmReady .doe s = true) (halgs : (s.sec.spdm[(1 : Fin 2)]'(Fin.isLt _)).algs = true)
    (share : List Byte) : exec (.spdmKeyExchange .doe share) s = .next (spdmAnswer .doe (exchangeRequest share)
      (exchangeBody share s.draw.1 ++ aliasSign (sessionOpened share s) .doe (exchangeRequest share) (exchangeBody share s.draw.1))
      (sessionOpened share s)) := by
  change execSpdmKeyExchange .doe share s = _
  refine (afterAlgs_ready h halgs).trans (congrArg _ ?_)
  rw [if_neg (by decide)]
  rfl

theorem keyExchange_mctp {s : State} (h : spdmReady .mctp s = true) (share : List Byte) :
    exec (.spdmKeyExchange .mctp share) s = .next (spdmError s) := by
  change execSpdmKeyExchange .mctp share s = _
  unfold execSpdmKeyExchange afterAlgs
  rw [spdmIn_ready h]
  exact congrArg _ (ite_self _)

/-- A message of IDE key management takes effect. -/
def ideApplied (m : IdeMessage) (s : State) : State :=
  match m with
  | .keyProg key => s.modLk fun k => { k with ideKeys := k.ideKeys ++ [key] }
  | .setGo => s.modLk fun k => { k with ide := k.ideKeys != [] }
  | .setStop => s.modLk fun k => { k with ide := false }

theorem ide_within {s : State} {k : BitVec 256} (h : spdmReady .doe s = true)
    (hsession : (s.sec.spdm[(1 : Fin 2)]'(Fin.isLt _)).session = some (k, true)) (m : IdeMessage) : exec (.ideKeyManagement m) s =
      .next ((ideApplied m s).send (.answer (Config.standardAnswer (asciiBytes "IDE_KM")))) := by
  change execIdeKeyManagement m s = _
  refine (spdmIn_ready h).trans (congrArg _ ?_)
  rw [hsession]
  cases m <;> rfl

/-- Settles O57: each request by the rule of its place in the conversation. -/
theorem spdmRows : Obligations.SpdmRows := by
  unfold Obligations.SpdmRows
  refine ⟨fun p s h => ?_, fun p s h halgs => ?_, fun share s h halgs => ?_, fun share s h => ?_, fun k s h hsession => ?_⟩
  · intro x v c n entry
    refine ⟨?_, fun hversion => ?_, fun hcaps => ?_⟩
    · refine (spdmIn_ready h).trans ?_
      simp [spdmAnswer, State.setSpdm, State.modSec, State.send, v]
    · refine ⟨_, (spdmIn_ready h).trans (congrArg _ (if_pos hversion)), spdmAnswered_set p c _ rfl, ?_, rfl⟩
      rw [spdmAnswer_spdm, setSpdm_spdm, SpdmState.said]
    · refine ⟨_, (spdmIn_ready h).trans (congrArg _ (if_pos hcaps)), spdmAnswered_set p n _ rfl, ?_, rfl⟩
      rw [spdmAnswer_spdm, setSpdm_spdm, SpdmState.said]
  · refine ⟨?_, fun o l => ?_, fun nonce => ?_, fun ix nonce sign hix => ?_, fun k e hsession => ⟨fun he => ?_, fun he => ?_, fun he => ?_⟩⟩
    · exact ⟨_, afterAlgs_ready h halgs, spdmAnswered ..⟩
    · exact ⟨_, (afterAlgs_ready h halgs).trans (congrArg _ (if_neg (by decide))), spdmAnswered ..⟩
    · exact ⟨_, (afterAlgs_ready h halgs).trans (congrArg _ (if_neg (by decide))), spdmAnswered ..⟩
    · refine ⟨_, (afterAlgs_ready h halgs).trans (congrArg _ (if_neg ?_)), spdmAnswered ..⟩
      rintro ⟨hzero, hall, hnone⟩
      rcases hix with rfl | rfl | hsome
      · exact hzero rfl
      · exact hall rfl
      · rw [Option.isNone_iff_eq_none] at hnone
        rw [hnone] at hsome
        exact Bool.false_ne_true hsome
    · refine ⟨_, finish_established h halgs (by rw [hsession, he]), ?_, spdmAnswered_set p _ _ rfl⟩
      rw [spdmAnswer_spdm, setSpdm_spdm, SpdmState.said]
    · refine ⟨_, finish_rejected h halgs (by rw [hsession, he]), ?_⟩
      exact congrArg SpdmState.session (setSpdm_spdm p (fun c => { c with session := none }) s)
    · refine ⟨_, endSession_ends h halgs (by rw [hsession, he]), ?_, spdmAnswered_set p _ _ rfl⟩
      rw [spdmAnswer_spdm, setSpdm_spdm, SpdmState.said]
  · refine ⟨_, keyExchange_doe h halgs share, rfl, ?_⟩
    exact congrArg SpdmState.session ((spdmAnswer_spdm .doe _ _ _).trans (congrArg _ (setSpdm_spdm .doe _ s.draw.2)))
  · exact keyExchange_mctp h share
  · intro o
    exact ⟨fun key => ide_within h hsession (.keyProg key), ide_within h hsession .setGo, ide_within h hsession .setStop⟩

end Sys2Proof.Machine
end

section
/-! SUPPORT. Boot flashes (16 R497 to R501). -/

set_option Elab.async false

namespace Sys2Proof.Machine

open Sys2Proof

/-! Slots and select records (16 R497, R499). -/

theorem accSlot_putAccSlot (n : Acc) (k : Nat) (b : List Byte) (s : State) : accSlot (putAccSlot n k b s) n k = b := by
  simp [accSlot, putAccSlot, slotIx]

/-- The copy of a select record that counts, and the other one (16 R497). -/
def winner : Option Select → Option Select → Select
  | none, none => { active := 0, trial := false, seq := 0 }
  | some a, none => a
  | none, some b => b
  | some a, some b => if a.seq < b.seq then b else a

def loser : Option Select → Option Select → Fin 2
  | none, _ => 0
  | some _, none => 1
  | some a, some b => if a.seq < b.seq then 0 else 1

theorem selectOf_eq (s : State) (n : Acc) :
    selectOf s n = winner (((s.nvAcc n).select[(0 : Fin 2)]'(Fin.isLt _))) (((s.nvAcc n).select[(1 : Fin 2)]'(Fin.isLt _))) := rfl

/-- A record in the place of the losing copy, with a higher SEQ, wins. -/
theorem winner_over_loser {a b : Option Select} {r : Select} (hseq : r.seq = (winner a b).seq + 1) :
    (loser a b = 0 → winner (some r) b = r) ∧ (loser a b = 1 → winner a (some r) = r) := by
  match a, b with
  | none, none => exact ⟨fun _ => rfl, nofun⟩
  | none, some b => exact ⟨fun _ => if_neg (by rw [hseq]; exact Nat.not_lt.2 (Nat.le_succ _)), nofun⟩
  | some a, none => exact ⟨nofun, fun _ => if_pos (by rw [hseq]; exact Nat.lt_succ_self _)⟩
  | some a, some b =>
    by_cases hlt : a.seq < b.seq
    · have hb : r.seq = b.seq + 1 := hseq.trans (by rw [winner, if_pos hlt])
      exact ⟨fun _ => if_neg (by omega), fun h => by rw [loser, if_pos hlt] at h; exact absurd h nofun⟩
    · have ha : r.seq = a.seq + 1 := hseq.trans (by rw [winner, if_neg hlt])
      exact ⟨fun h => by rw [loser, if_neg hlt] at h; exact absurd h nofun, fun _ => if_pos (by omega)⟩

/-- The copies of a select record, one replaced. -/
theorem winner_set_loser (v : Vector (Option Select) 2) {r : Select} {k : Fin 2}
    (h0 : k = 0 → winner (some r) (v[1]'Nat.one_lt_two) = r) (h1 : k = 1 → winner (v[0]'Nat.two_pos) (some r) = r) :
    winner ((v.set k (some r) k.isLt)[0]'Nat.two_pos) ((v.set k (some r) k.isLt)[1]'Nat.one_lt_two) = r := by
  match k with
  | 0 => exact (congrArg₂ winner (Vector.getElem_set_self _) (Vector.getElem_set_ne _ _ Nat.zero_ne_one)).trans (h0 rfl)
  | 1 => exact (congrArg₂ winner (Vector.getElem_set_ne _ _ Nat.one_ne_zero) (Vector.getElem_set_self _)).trans (h1 rfl)

theorem writeSelect_select (n : Acc) (k : Nat) (trial : Bool) (s : State) : ((writeSelect n k trial s).nvAcc n).select =
    (s.nvAcc n).select.set (losingCopy s n) (some { active := k, trial := trial, seq := ((selectOf s n).seq + 1) % 2 ^ 32 })
      (losingCopy s n).isLt := by
  simp [writeSelect]

theorem selectOf_writeSelect (n : Acc) (k : Nat) (trial : Bool) {s : State} (hseq : (selectOf s n).seq + 1 < 2 ^ 32) :
    selectOf (writeSelect n k trial s) n = { active := k, trial := trial, seq := (selectOf s n).seq + 1 } := by
  rw [selectOf_eq, writeSelect_select, Nat.mod_eq_of_lt hseq]
  obtain ⟨h0, h1⟩ := winner_over_loser (r := { active := k, trial := trial, seq := (selectOf s n).seq + 1 })
    (congrArg (·.seq + 1) (selectOf_eq s n))
  exact winner_set_loser _ h0 h1

/-! Verification (16 R498). -/

theorem verifyImage_le (s : State) (t : Nat) (b : List Byte) : verifyImage s t b ≤ 7 := by
  unfold verifyImage
  repeat' split
  all_goals decide

/-- The outcomes of a verification are 1 to 8. -/
theorem verifyAcc_lt (s : State) (n : Acc) (b : List Byte) : verifyAcc s n b < 65536 := by
  unfold verifyAcc
  split
  · decide
  · exact (verifyImage_le ..).trans_lt (by decide)

theorem verifyActive_good {n : Acc} {s : State} (h : verifyAcc s n (accSlot s n (selectOf s n).active) = 1) :
    verifyActive n s = noteVerified n (accSlot s n (selectOf s n).active) s := if_pos h

/-- A failed verification is recorded. -/
def failureNoted (n : Acc) (s : State) : State :=
  emit s 7 n.1 (selectOf s n).active 0x1007 (verifyAcc s n (accSlot s n (selectOf s n).active))

/-- The active slot is rewritten from the golden copy. -/
def repaired (n : Acc) (s : State) : State := reflash n (selectOf s n).active (failureNoted n s)

section
variable {n : Acc} {s : State} (hbad : verifyAcc s n (accSlot s n (selectOf s n).active) ≠ 1)
include hbad

theorem verifyActive_unknown (hid : (s.accAt n).ident = none) :
    verifyActive n s = (failureNoted n s).setAccFw n fun a => { a with state := 4 } :=
  (if_neg hbad).trans (if_pos (by rw [Option.isNone_iff_eq_none]; exact hid))

theorem verifyActive_repaired (hid : (s.accAt n).ident ≠ none) : verifyActive n s =
    if verifyAcc s n (goldenOf s (familyOf s n)) = 1 then noteVerified n (goldenOf s (familyOf s n)) (repaired n s)
    else bootFails n (repaired n s) := by
  have hgolden : accSlot (repaired n s) n (selectOf s n).active = goldenOf s (familyOf s n) := accSlot_putAccSlot n _ _ (failureNoted n s)
  have hverify (b : List Byte) : verifyAcc (repaired n s) n b = verifyAcc s n b := rfl
  refine (if_neg hbad).trans ((if_neg (by simpa using hid)).trans ?_)
  change (if verifyAcc (repaired n s) n (accSlot (repaired n s) n (selectOf s n).active) = 1 then
    noteVerified n (accSlot (repaired n s) n (selectOf s n).active) (repaired n s) else bootFails n (repaired n s)) = _
  rw [hgolden, hverify]

end

/-- A slot rewritten from the golden copy: what is recorded and reported, and what stands in the slot. -/
theorem repaired_spec (n : Acc) (s : State) :
    Raised (repaired n s) 7 n.1 (selectOf s n).active 0x1007 (verifyAcc s n (accSlot s n (selectOf s n).active)) ∧
      Raised (repaired n s) 7 n.1 (selectOf s n).active 0x1008 1 ∧ HostDue (repaired n s) 12 ∧
      accSlot (repaired n s) n (selectOf s n).active = goldenOf s (familyOf s n) ∧ (repaired n s).crz = s.crz := by
  let u := putAccSlot n (selectOf s n).active (goldenOf s (familyOf s n)) (failureNoted n s)
  have hgrow : RecordGrows (failureNoted n s) u := .of_eq rfl rfl rfl
  have hrepaired : repaired n s = hostEvent 12 (emit u 7 n.1 (selectOf s n).active 0x1008 1) := rfl
  rw [hrepaired]
  refine ⟨(RecordGrows.hostEvent 12 _).raised ((RecordGrows.emit u ..).raised (hgrow.raised ?_)),
    (RecordGrows.hostEvent 12 _).raised (raised_emit u _ _ _ _ _ (by decide)), hostDue_hostEvent 12 _, ?_, ?_⟩
  · exact raised_emit s _ _ _ _ _ (verifyAcc_lt ..)
  · exact accSlot_putAccSlot n _ _ (failureNoted n s)
  · rw [hostEvent_crz, emit_crz]
    change (failureNoted n s).crz = s.crz
    rw [failureNoted, emit_crz]

/-- Below S0 and S12 the inactive slot is left alone (16 R500). -/
theorem bootFlashVerified_next {n : Acc} {s : State} (hrun : running s = true) (hwrite : (s.fwAt n).write = none)
    (h0 : chState s n ≠ 0) (h12 : chState s n ≠ 12) : exec (.bootFlashVerified n) s = .next (verifyActive n s) := by
  have hidle : ¬(!running s || (s.fwAt n).write.isSome) = true := by
    rw [hrun, hwrite]
    decide
  refine (if_neg hidle).trans (congrArg (fun u => Host.Outcome.next (verifyActive n u)) (if_neg ?_))
  rintro ⟨h | h, -⟩
  · exact h0 h
  · exact h12 h

/-- A failed boot: target S3, with the boot and the slot marked (16 R498). -/
theorem bootFails_spec (n : Acc) (s : State) : ((bootFails n s).bupAt n).bootFailed = true ∧
    ((bootFails n s).bupAt n).stage = 7 ∧ ((bootFails n s).fwAt n).state = 4 ∧
    ((bootFails n s).chanAt (accChan n)).target = 3 := by
  let u := (s.setBup n fun b => { b with stage := 7, bootFailed := true }).setAccFw n fun a => { a with state := 4 }
  have hkept := aimAcc_bootKept n 3 u
  have haim : aimAcc n 3 u = aim (accChan n) 3 u := rfl
  have hsec : (aimAcc n 3 u).sec = u.sec := by rw [haim, (aim_channelsOnly (accChan n) 3 u).frame]
  have hbup : (u.bupAt n).stage = 7 ∧ (u.bupAt n).bootFailed = true := by simp [u]
  refine ⟨hkept.failed hbup.2, hkept.stage hbup.1, ?_, (aimAcc_target_drain n 3 u).1⟩
  change ((aimAcc n 3 u).sec.acc[n]'n.isLt).state = 4
  rw [hsec]
  simp [u]

/-! Writes (16 R501). -/

/-- A write that ended. -/
def writeOver (n : Acc) (s : State) : State := s.setAccFw n fun a => { a with write := none, writing := false }

/-- A slot and its select record are written. -/
def slotWritten (n : Acc) (k : Nat) (b : List Byte) (s : State) : State :=
  writeSelect n k true (putAccSlot n k b (writeOver n s))

section
variable {n : Acc} {k : Nat} {b : List Byte} {s : State} (hrun : running s = true) (hwriting : (s.fwAt n).writing = true)
  (hwrite : (s.fwAt n).write = some (k, b))
include hrun hwriting hwrite

theorem accFwWriteDone_good : exec (.accFwWriteDone n true) s = .next (verifyActive n (slotWritten n k b s)) := by
  change execAccFwWriteDone n true s = _
  unfold execAccFwWriteDone
  simp only [hwrite, hwriting, hrun]
  rfl

theorem accFwWriteDone_failed : exec (.accFwWriteDone n false) s = .next ((putAccSlot n k (partWritten b (writeOver n s)).1
    (partWritten b (writeOver n s)).2).setAccFw n fun a => { a with state := 4 }) := by
  change execAccFwWriteDone n false s = _
  unfold execAccFwWriteDone
  simp only [hwrite, hwriting, hrun]
  rfl

end

/-- From `s` to `t` only boot flashes and what the firmware notes of them may differ. -/
def FlashesOnly (s t : State) : Prop :=
  t = { s with nv := { s.nv with acc := t.nv.acc }, sec := { s.sec with acc := t.sec.acc } }

theorem FlashesOnly.verifyAcc {s t : State} (h : FlashesOnly s t) (n : Acc) (b : List Byte) :
    verifyAcc t n b = Machine.verifyAcc s n b := by
  unfold FlashesOnly at h
  rw [h]
  rfl

theorem FlashesOnly.trans {s t u : State} (h : FlashesOnly s t) (h' : FlashesOnly t u) : FlashesOnly s u := by
  unfold FlashesOnly at h h' ⊢
  rw [h', h]

theorem writeOver_flashesOnly (n : Acc) (s : State) : FlashesOnly s (writeOver n s) := rfl

theorem putAccSlot_flashesOnly (n : Acc) (k : Nat) (b : List Byte) (s : State) : FlashesOnly s (putAccSlot n k b s) := rfl

theorem writeSelect_flashesOnly (n : Acc) (k : Nat) (trial : Bool) (s : State) : FlashesOnly s (writeSelect n k trial s) := rfl

theorem slotWritten_flashesOnly (n : Acc) (k : Nat) (b : List Byte) (s : State) : FlashesOnly s (slotWritten n k b s) :=
  (writeOver_flashesOnly n s).trans ((putAccSlot_flashesOnly n k b _).trans (writeSelect_flashesOnly n k true _))

theorem slotWritten_verified {n : Acc} {k : Nat} {b : List Byte} {s : State} (hseq : (selectOf s n).seq + 1 < 2 ^ 32)
    (hgood : verifyAcc s n b = 1) : selectOf (slotWritten n k b s) n =
      { active := k, trial := true, seq := (selectOf s n).seq + 1 } ∧
    accSlot (slotWritten n k b s) n k = b ∧ verifyActive n (slotWritten n k b s) = noteVerified n b (slotWritten n k b s) := by
  have hsame : selectOf (putAccSlot n k b (writeOver n s)) n = selectOf s n := by
    simp only [selectOf_eq]
    simp [putAccSlot, writeOver]
  have hselect : selectOf (slotWritten n k b s) n = { active := k, trial := true, seq := (selectOf s n).seq + 1 } := by
    rw [slotWritten, selectOf_writeSelect n k true (by rw [hsame]; exact hseq), hsame]
  have hslot : accSlot (slotWritten n k b s) n k = b := by
    simp [accSlot, slotWritten, writeSelect, putAccSlot, slotIx]
  refine ⟨hselect, hslot, ?_⟩
  have hactive : accSlot (slotWritten n k b s) n (selectOf (slotWritten n k b s) n).active = b := by rw [hselect, hslot]
  have hverified : verifyAcc (slotWritten n k b s) n (accSlot (slotWritten n k b s) n (selectOf (slotWritten n k b s) n).active) = 1 := by
    rw [hactive, (slotWritten_flashesOnly n k b s).verifyAcc, hgood]
  exact (verifyActive_good hverified).trans (by rw [hactive])

/-- Settles O39: the verification by its outcome, a write by its end. -/
theorem bootFlashRows : Obligations.BootFlashRows := by
  unfold Obligations.BootFlashRows
  refine ⟨fun n s hrun hwrite h0 h12 => ?_, fun n k b s hrun hwriting hwrite hk hseq => ⟨fun hgood => ?_, ?_⟩⟩
  · intro k b g
    have hnext := bootFlashVerified_next hrun hwrite h0 h12
    refine ⟨fun hgood => hnext.trans (congrArg _ (verifyActive_good hgood)), fun hbad hid => ?_, fun hbad hid hgold => ?_,
      fun hbad hid hgold => ?_⟩
    · rw [hnext, verifyActive_unknown hbad hid]
      exact ⟨_, rfl, raised_emit _ _ _ _ _ _ (verifyAcc_lt s n b), by simp, rfl⟩
    · rw [hnext, verifyActive_repaired hbad hid, if_pos hgold]
      obtain ⟨hfailed, hrewritten, hdue, hslot, hcrz⟩ := repaired_spec n s
      have hgrow : RecordGrows (repaired n s) (noteVerified n g (repaired n s)) := .of_eq rfl rfl rfl
      exact ⟨_, rfl, hgrow.raised hfailed, hgrow.raised hrewritten, hgrow.hostDue hdue, hslot, by simp [noteVerified],
        by simp [noteVerified, g], hcrz⟩
    · rw [hnext, verifyActive_repaired hbad hid, if_neg hgold]
      exact ⟨_, rfl, bootFails_spec n _⟩
  · obtain ⟨hselect, hslot, hverified⟩ := slotWritten_verified (k := k) hseq hgood
    rw [accFwWriteDone_good hrun hwriting hwrite, hverified]
    refine ⟨_, rfl, ?_, hslot, hselect, ?_, ?_⟩
    · simp [noteVerified, slotWritten, writeSelect, putAccSlot, writeOver]
    · simp [noteVerified]
    · simp [noteVerified, slotWritten, writeSelect, putAccSlot, writeOver, State.setAccFw, State.modNv]
  · rw [accFwWriteDone_failed hrun hwriting hwrite]
    refine ⟨_, rfl, ?_, ?_, ?_, ?_, rfl, ?_⟩
    · simp [putAccSlot, partWritten, writeOver]
    · simp
    · simp [putAccSlot]
    · simp only [selectOf_eq]
      simp [putAccSlot, partWritten, writeOver]
    · simp [putAccSlot, partWritten, writeOver, State.setAccFw, State.modNv]

end Sys2Proof.Machine
end

section
/-! SUPPORT. Resets: the flash writes that one cuts (16 R494, R495, R501), the warm reset (18 R537), and the watchdog (17 R512, R513). -/

set_option Elab.async false

namespace Sys2Proof.Machine

open Sys2Proof

/-! Writes cut short. -/

/-- From `s` to `t` only images in flash, what the firmware notes of an accelerator's, and the draws may differ. -/
def CutOnly (s t : State) : Prop := t = { s with
  nv := { s.nv with slot := t.nv.slot, golden := t.nv.golden, acc := t.nv.acc }, sec := { s.sec with acc := t.sec.acc },
  free := t.free }

theorem CutOnly.refl (s : State) : CutOnly s s := rfl

theorem CutOnly.trans {s t u : State} (h : CutOnly s t) (h' : CutOnly t u) : CutOnly s u := by
  unfold CutOnly at h h' ⊢
  rw [h', h]

theorem putGolden_cutOnly (t : Nat) (b : List Byte) (s : State) : CutOnly s (putGolden t b s) := by
  unfold putGolden
  by_cases h0 : t = 0
  · cases hwp : s.sys.wpN <;> simp only [h0] <;> rfl
  · by_cases h1 : t = 1 <;> simp only [h0, h1] <;> rfl

/-- A controller slot whose write is cut. -/
def slotCut (a : Activate) (s : State) : State :=
  (partWritten a.image s).2.modNv fun v => { v with
    slot := if a.slot = 0 then v.slot.set 0 (partWritten a.image s).1 else v.slot.set 1 (partWritten a.image s).1 }

theorem slotCut_cutOnly (a : Activate) (s : State) : CutOnly s (slotCut a s) := rfl

/-- A cut write of a slot, and of the golden copy behind it. -/
def cutActivate (s : State) : State :=
  match s.sec.activate with
  | none => s
  | some a =>
    if a.golden && !a.cut && (partWritten a.image s).1.length == a.image.length then
      putGolden 0 (partWritten a.image (slotCut a s)).1 (partWritten a.image (slotCut a s)).2
    else slotCut a s

/-- A cut write of a family's golden copy. -/
def cutGolden (s : State) : State :=
  match s.sec.goldenWrite with
  | none => s
  | some (t, b) =>
    let (g, s) := partWritten b s
    putGolden t g s

/-- A cut write of an accelerator's slot. -/
def cutAcc (n : Acc) (s : State) : State :=
  match (s.fwAt n).write with
  | none => s
  | some (k, b) =>
    if !(s.fwAt n).writing then s else
    let (c, s) := partWritten b s
    putAccSlot n k c s

theorem cutWrites_eq (s : State) : cutWrites s = forAll accList cutAcc (cutGolden (cutActivate s)) := rfl

theorem cutActivate_cutOnly (s : State) : CutOnly s (cutActivate s) := by
  unfold cutActivate
  split
  · exact .refl s
  next a _ =>
    split
    · exact (slotCut_cutOnly a s).trans (.trans (t := (slotCut a s).draw.2) rfl (putGolden_cutOnly ..))
    · exact slotCut_cutOnly a s

theorem cutGolden_cutOnly (s : State) : CutOnly s (cutGolden s) := by
  unfold cutGolden
  split
  · exact .refl s
  · exact .trans (t := s.draw.2) rfl (putGolden_cutOnly ..)

theorem cutAcc_cutOnly (n : Acc) (s : State) : CutOnly s (cutAcc n s) := by
  unfold cutAcc
  split
  · exact .refl s
  · split <;> rfl

theorem cutWrites_cutOnly (s : State) : CutOnly s (cutWrites s) := by
  rw [cutWrites_eq]
  exact forAll_inv (CutOnly s) _ _ (fun n t ht => ht.trans (cutAcc_cutOnly n t)) _
    ((cutActivate_cutOnly s).trans (cutGolden_cutOnly _))

/-- Where no write is under way nothing is cut. -/
theorem cutWrites_idle {s : State} (h : noFlashWrite s = true) : cutWrites s = s := by
  simp only [noFlashWrite, Bool.and_eq_true, Option.isNone_iff_eq_none, List.all_eq_true] at h
  obtain ⟨⟨hactivate, hgolden⟩, hacc⟩ := h
  have hcut : cutActivate s = s := by unfold cutActivate; rw [hactivate]
  have hcut' : cutGolden s = s := by unfold cutGolden; rw [hgolden]
  rw [cutWrites_eq, hcut, hcut']
  refine forAll_inv (· = s) _ _ (fun n t ht => ?_) s rfl
  subst ht
  have hn := hacc n (mem_accList n)
  unfold cutAcc
  split
  · rfl
  next hw =>
    have hwrite : (t.sec.acc[n]'n.isLt).write.isNone = false := by
      change (t.fwAt n).write.isNone = false
      rw [hw]
      rfl
    rw [hwrite] at hn
    exact if_pos hn

/-- What a cut leaves in flash (16 R494, R495, R501). -/
theorem flashKept_of_cut {s u t : State} (hsec : u.sec = s.sec) (hnv : u.nv = s.nv) (ht : t.nv = (cutWrites u).nv) :
    FlashKept s t s.nv := by
  have hcut := cutWrites_cutOnly u
  unfold CutOnly at hcut
  rw [FlashKept, ht]
  refine ⟨?_, fun hidle => ?_⟩
  · rw [← hnv, hcut]
  · have hidle' : noFlashWrite u = true := by rw [noFlashWrite, hsec]; exact hidle
    rw [cutWrites_idle hidle', hnv]

/-! The warm reset (18 R537). -/

/-- An accelerator's drain ends. -/
def drainEnded (n : Acc) (s : State) : State := s.setAcc n fun a => { a with drain := none }

theorem drainEnded_frame (s : State) : forAll accList drainEnded s = { s with acc := (forAll accList drainEnded s).acc } :=
  forAll_inv (fun t => t = { s with acc := t.acc }) _ _ (fun n t ht => by rw [ht]; rfl) s rfl

theorem drainEnded_acc (s : State) (n : Acc) : (forAll accList drainEnded s).accAt n = { (s.accAt n) with drain := none } :=
  forAll_finRange_each (p := fun _ => True) (view := State.accAt) (g := fun _ a => { a with drain := none })
    (fun _ _ _ => trivial) (fun _ _ _ _ => State.accAt_setAcc ..) n (s := s) trivial

/-- Commands in flight end: what is left but for replies, drains and runs. -/
structure Aborted (s t : State) : Prop where
  frame : t = { s with rcd := t.rcd, acc := t.acc, frd := t.frd }
  acc : ∀ n : Acc, t.accAt n = { (s.accAt n) with drain := none }

theorem abortAll_aborted (s : State) : Aborted s (abortAll s) := by
  let u := s.modRcd fun r => { r with
    replies := (inFlight s).map (abortReply s), storeQ := [],
    merger := r.merger.filter fun w => match w.item with | .ev _ => true | _ => false }
  have habort : abortAll s = (forAll accList drainEnded u).modFrd fun f => { f with
    slot := f.slot.map fun k => { k with run := none, queue := [] }, cur := none } := rfl
  refine ⟨?_, drainEnded_acc u⟩
  rw [habort, drainEnded_frame u]
  rfl

/-- What is left when the application cluster stops: the flash writes cut, the commands in flight ended. -/
def stopped (s : State) : State := cutWrites (abortAll (missSeal s))

/-- The state of a warm reset before table mode is judged. -/
def warmStopped (cause : Nat) (s : State) : State :=
  ((firmwareReset s).modSys fun y => { y with boot := .warmRom, fwRunning := false }).modSec fun c => { c with nextCause := cause }

theorem warmReset_eq (cause : Nat) (s : State) : warmReset cause s = tableCheck (warmStopped cause (stopped s)) := rfl

/-- What a warm reset does and leaves. -/
structure WarmReset (cause : Nat) (s t : State) : Prop where
  boot : t.sys.boot = .warmRom
  fwRunning : t.sys.fwRunning = false
  nextCause : t.sec.nextCause = cause
  resetTick : t.sec.resetTick = none
  saf : t.saf = s.saf
  crz : t.crz = s.crz
  acc : ∀ n : Acc, t.accAt n = { (s.accAt n) with drain := none }
  flash : FlashKept s t s.nv

theorem missSeal_kept (s : State) : (missSeal s).saf = s.saf ∧ (missSeal s).sec = s.sec := by
  rw [missSeal_frame]
  exact ⟨rfl, rfl⟩

theorem Aborted.kept {s t : State} (h : Aborted s t) : t.saf = s.saf ∧ t.crz = s.crz ∧ t.sec = s.sec ∧ t.nv = s.nv := by
  rw [h.frame]
  exact ⟨rfl, rfl, rfl, rfl⟩

theorem CutOnly.kept {s t : State} (h : CutOnly s t) : t.saf = s.saf ∧ t.crz = s.crz ∧ t.acc = s.acc := by
  unfold CutOnly at h
  rw [h]
  exact ⟨rfl, rfl, rfl⟩

theorem stopped_kept (s : State) : (stopped s).saf = s.saf ∧ (stopped s).crz = s.crz ∧
    (∀ n : Acc, (stopped s).accAt n = { (s.accAt n) with drain := none }) ∧ FlashKept s (stopped s) s.nv := by
  obtain ⟨hsaf, hcrz, hacc⟩ := (cutWrites_cutOnly (abortAll (missSeal s))).kept
  obtain ⟨hsaf', hcrz', hsec', hnv'⟩ := (abortAll_aborted (missSeal s)).kept
  obtain ⟨hsaf'', hsec''⟩ := missSeal_kept s
  refine ⟨hsaf.trans (hsaf'.trans hsaf''), hcrz.trans (hcrz'.trans (missSeal_crz s)), fun n => ?_,
    flashKept_of_cut (hsec'.trans hsec'') (hnv'.trans (missSeal_nv s)) rfl⟩
  have hkept : (stopped s).accAt n = (abortAll (missSeal s)).accAt n := by rw [State.accAt, stopped, hacc]
  rw [hkept, (abortAll_aborted (missSeal s)).acc n, State.accAt, missSeal_acc]

theorem firmwareReset_saf (s : State) : (firmwareReset s).saf = s.saf := by
  rw [firmwareReset, State.modSec_saf, State.modCool_saf, State.modBup_saf, State.modFrd_saf, State.modStr_saf]

theorem firmwareReset_crz (s : State) : (firmwareReset s).crz = s.crz := by
  rw [firmwareReset, State.modSec_crz, State.modCool_crz, State.modBup_crz, State.modFrd_crz, State.modStr_crz]

theorem firmwareReset_acc (s : State) : (firmwareReset s).acc = s.acc := by
  rw [firmwareReset, State.modSec_acc, State.modCool_acc, State.modBup_acc, State.modFrd_acc, State.modStr_acc]

theorem firmwareReset_nv (s : State) : (firmwareReset s).nv = s.nv := by
  rw [firmwareReset, State.modSec_nv, State.modCool_nv, State.modBup_nv, State.modFrd_nv, State.modStr_nv]

theorem firmwareReset_resetTick (s : State) : (firmwareReset s).sec.resetTick = none := by
  rw [firmwareReset, State.modSec_sec]

theorem warmStopped_kept (cause : Nat) (s : State) : (warmStopped cause s).saf = s.saf ∧ (warmStopped cause s).crz = s.crz ∧
    (warmStopped cause s).acc = s.acc ∧ (warmStopped cause s).nv = s.nv ∧ (warmStopped cause s).sec.resetTick = none :=
  ⟨firmwareReset_saf s, firmwareReset_crz s, firmwareReset_acc s, firmwareReset_nv s, firmwareReset_resetTick s⟩

theorem warmStopped_set (cause : Nat) (s : State) : (warmStopped cause s).sys.boot = .warmRom ∧
    (warmStopped cause s).sys.fwRunning = false ∧ (warmStopped cause s).sec.nextCause = cause := ⟨rfl, rfl, rfl⟩

theorem tableCheck_kept (s : State) : (tableCheck s).sys = s.sys ∧ (tableCheck s).sec = s.sec ∧ (tableCheck s).saf = s.saf ∧
    (tableCheck s).crz = s.crz ∧ (tableCheck s).acc = s.acc ∧ (tableCheck s).nv = s.nv ∧ (tableCheck s).rack = s.rack := by
  rw [(tableCheck_tableOnly s).frame]
  exact ⟨rfl, rfl, rfl, rfl, rfl, rfl, rfl⟩

theorem warmReset_spec (cause : Nat) (s : State) : WarmReset cause s (warmReset cause s) := by
  obtain ⟨hsaf, hcrz, hacc, hflash⟩ := stopped_kept s
  rw [warmReset_eq]
  generalize stopped s = u at hsaf hcrz hacc hflash
  obtain ⟨hsaf', hcrz', hacc', hnv', htick⟩ := warmStopped_kept cause u
  obtain ⟨hboot, hfw, hcause⟩ := warmStopped_set cause u
  generalize warmStopped cause u = v at *
  obtain ⟨ksys, ksec, ksaf, kcrz, kacc, knv, -⟩ := tableCheck_kept v
  refine ⟨ksys ▸ hboot, ksys ▸ hfw, ksec ▸ hcause, ksec ▸ htick, ksaf.trans (hsaf'.trans hsaf), kcrz.trans (hcrz'.trans hcrz),
    fun n => ?_, ?_⟩
  · rw [State.accAt, kacc, hacc']
    exact hacc n
  · rw [FlashKept, knv, hnv']
    exact hflash

/-! The watchdog (17 R512, R513). -/

/-- An expiry is counted and recorded. -/
def expiryNoted (s : State) : State :=
  let l := s.sys.tick :: s.saf.expiries.filter fun x => decide (s.sys.tick < x + 60000000)
  emit (s.modSaf fun f => { f with expiries := l, wdtCount := min 15 l.length, serveTick := s.sys.tick }) 1 9 0xFF 0x1103
    (min 15 l.length)

theorem wdtExpiry_again {x : Bool} {s : State}
    (h : (s.saf.expiries.filter fun x => decide (s.sys.tick < x + 60000000)).length < 2) :
    wdtExpiry x s = warmReset 3 (expiryNoted s) :=
  if_neg fun ⟨hthird, _⟩ => by
    rw [List.length_cons] at hthird
    omega

/-- A cluster that stopped stays so. -/
def expiryStopped (x : Bool) (s : State) : State :=
  if x then s.modSys fun y => { y with boot := .stopped, fwRunning := false } else s

theorem expiryStopped_kept (x : Bool) (s : State) : (expiryStopped x s).saf = s.saf ∧ (expiryStopped x s).rack = s.rack ∧
    (expiryStopped x s).acc = s.acc ∧ (expiryStopped x s).crz = s.crz := by
  cases x <;> exact ⟨rfl, rfl, rfl, rfl⟩

theorem frondSafe_kept (s : State) : (frondSafe s).saf = s.saf ∧ (frondSafe s).rack = s.rack ∧ (frondSafe s).acc = s.acc ∧
    (frondSafe s).crz = s.crz := by
  rw [(frondSafe_runsEnded s).afterLatch.frame]
  exact ⟨rfl, rfl, rfl, rfl⟩

theorem watchdog_expires {i : Instr} {s : State} (hrun : running s = true)
    (h : (∃ v, i = .watchdogServe v ∧ v ≠ ~~~s.saf.token) ∨
      ∃ x, i = .watchdogExpiry x ∧ (x = true ∨ s.saf.serveTick + 100 * s.saf.wdtMs ≤ s.sys.tick)) :
    ∃ x, exec i s = .next (wdtExpiry x s) := by
  rcases h with ⟨v, rfl, hwrong⟩ | ⟨x, rfl, hdue⟩
  · exact ⟨false, (if_neg (by rw [hrun]; decide)).trans (if_pos (.inl hwrong))⟩
  · exact ⟨x, if_pos (.inl ⟨beq_iff_eq.1 hrun, hdue.imp_right decide_eq_true⟩)⟩

/-- A serve in time: the next token, firmware runs, listening begins (17 R512). -/
def served (s : State) : State :=
  ((s.draw.2.modSaf fun f => { f with token := s.draw.1.setWidth 8, serveTick := s.sys.tick, served := true }).modRack fun r =>
    { r with listenTick := r.listenTick.or (some s.sys.tick) }).modSys fun y => { y with fwRunning := true }

theorem watchdogServe_row {s : State} (hrun : running s = true) (hintime : s.sys.tick ≤ s.saf.serveTick + 100 * s.saf.wdtMs)
    (hlate : s.sys.fwRunning = true → 4 * s.saf.serveTick + 100 * s.saf.wdtMs ≤ 4 * s.sys.tick) :
    ∃ t, exec (.watchdogServe (~~~s.saf.token)) s = .next t ∧ t.sys = { s.sys with fwRunning := true } ∧
      t.saf = { s.saf with token := (Config.freeValue s.free).setWidth 8, serveTick := s.sys.tick, served := true } ∧
      t.rack = { s.rack with listenTick := s.rack.listenTick.or (some s.sys.tick) } ∧ t.crz = s.crz ∧ t.acc = s.acc := by
  have hearly : (s.sys.fwRunning && decide (4 * s.sys.tick < 4 * s.saf.serveTick + 100 * s.saf.wdtMs)) = false := by
    cases hfw : s.sys.fwRunning with
    | false => rfl
    | true => exact decide_eq_false (Nat.not_lt.2 (hlate hfw))
  have hgood : ¬(~~~s.saf.token ≠ ~~~s.saf.token ∨
      (s.sys.fwRunning && decide (4 * s.sys.tick < 4 * s.saf.serveTick + 100 * s.saf.wdtMs)) = true ∨
      s.saf.serveTick + 100 * s.saf.wdtMs < s.sys.tick) := by
    rw [hearly]
    rintro (hne | hno | hover)
    · exact hne rfl
    · exact Bool.false_ne_true hno
    · exact Nat.not_lt.2 hintime hover
  exact ⟨hattnCheck (served s), (if_neg (by rw [hrun]; decide)).trans (if_neg hgood), rfl, rfl, rfl, rfl, rfl⟩

/-- SAFE at the third expiry. -/
def expirySafe (x : Bool) (s : State) : State := tableCheck (expiryStopped x (frondSafe (enterSafe 4 (expiryNoted s))))

theorem wdtExpiry_third {x : Bool} {s : State}
    (h : 2 ≤ (s.saf.expiries.filter fun x => decide (s.sys.tick < x + 60000000)).length) (hsafe : s.saf.safe = false)
    (htrial : inTrial s = false) : wdtExpiry x s = expirySafe x s := by
  have htrial' : inTrial (expiryNoted s) = false := htrial
  have hsafe' : (expiryNoted s).saf.safe = false := hsafe
  refine if_pos ⟨?_, ?_⟩
  · rw [List.length_cons]
    omega
  · change (!(expiryNoted s).saf.safe) = true ∧ (!inTrial (expiryNoted s)) = true
    rw [htrial', hsafe']
    exact ⟨rfl, rfl⟩

theorem expirySafe_spec (x : Bool) {s : State} (hsafe : s.saf.safe = false) : (expirySafe x s).saf.safe = true ∧
    (expirySafe x s).saf.cause = 4 ∧ (expirySafe x s).rack.detached = true ∧
    ∀ n : Acc, ((expirySafe x s).accAt n).forceSaf = true ∧ ((expirySafe x s).chanAt (accChan n)).target = 0 := by
  obtain ⟨hsaf, -, hrack, hforce, htarget, -, -⟩ := safeEntered_enterSafe (cause := 4) (s := expiryNoted s) hsafe (by decide)
  have hruns := frondSafe_kept (enterSafe 4 (expiryNoted s))
  rw [expirySafe]
  generalize enterSafe 4 (expiryNoted s) = u at hsaf hrack hforce htarget hruns
  obtain ⟨hsaf', hrack', hacc', hcrz'⟩ := hruns
  generalize frondSafe u = v at *
  obtain ⟨hsaf'', hrack'', hacc'', hcrz''⟩ := expiryStopped_kept x v
  generalize expiryStopped x v = w at *
  obtain ⟨-, -, ksaf, kcrz, kacc, -, krack⟩ := tableCheck_kept w
  have hsafe : (tableCheck w).saf = (expiryNoted s).saf.latched 4 (expiryNoted s).sys.tick :=
    ksaf.trans (hsaf''.trans (hsaf'.trans hsaf))
  have hdetached : (tableCheck w).rack = (detach (expiryNoted s)).rack := krack.trans (hrack''.trans (hrack'.trans hrack))
  refine ⟨by rw [hsafe]; rfl, by rw [hsafe]; rfl, by rw [hdetached]; rfl, fun n => ⟨?_, ?_⟩⟩
  · rw [State.accAt, kacc, hacc'', hacc']
    exact hforce n
  · rw [State.chanAt, kcrz, hcrz'', hcrz']
    exact htarget n

/-- Settles O27: the watchdog's registers by their rules, an expiry by `warmReset_spec` or `expirySafe_spec`. -/
theorem watchdogRows : Obligations.WatchdogRows := by
  unfold Obligations.WatchdogRows
  refine ⟨fun ms s hrun hnew hlow hhigh => ?_, fun s hrun hintime hlate => ?_, fun i s hrun h => ?_⟩
  · exact if_neg (by rw [hrun, hnew, decide_eq_false (Nat.not_lt.2 hlow), decide_eq_false (Nat.not_lt.2 hhigh)]; decide)
  · exact watchdogServe_row hrun hintime hlate
  · obtain ⟨x, hnext⟩ := watchdog_expires hrun h
    refine ⟨fun hfew => ?_, fun hmany hsafe htrial => ?_⟩
    · obtain ⟨hboot, hfw, -, -, hsaf, hcrz, hacc, -⟩ := warmReset_spec 3 (expiryNoted s)
      rw [hnext, wdtExpiry_again hfew]
      exact ⟨_, rfl, hboot, hfw, hcrz, by rw [hsaf]; rfl, hacc, by rw [hsaf]; rfl⟩
    · rw [hnext, wdtExpiry_third hmany hsafe htrial]
      exact ⟨_, rfl, expirySafe_spec x hsafe⟩

end Sys2Proof.Machine
end

section
/-! SUPPORT. Cold reset and PORST_N (18 R535, R536), the straps (18 R528, R529) and the start-up self-test (17 R521). -/

set_option Elab.async false

namespace Sys2Proof.Machine

open Sys2Proof

/-- Settles O60. -/
theorem resetHasTheInvariant : Obligations.ResetHasTheInvariant := ⟨rfl, rfl, by decide, by decide⟩

/-! The state that a reset leaves. -/

/-- Every field at its reset value but what AUX3V3, the fuses and the board keep. -/
def coldFrom (s : State) : State :=
  { State.reset with
    nv := s.nv, free := s.free, out := s.out, pending := s.pending, link := { perstN := s.link.perstN },
    acc := Vector.ofFn fun (n : Acc) => { vrAlertN := (s.accAt n).vrAlertN },
    rack := { line := s.rack.line },
    twb := { State.reset.twb with port := Vector.ofFn fun (p : Port) => { (State.reset.portAt p) with
      sdaLow := (s.portAt p).sdaLow, sclLow := (s.portAt p).sclLow, alertLine := (s.portAt p).alertLine } } }

theorem coldState_eq (s : State) : coldState s = coldFrom (cutWrites s) := rfl

theorem coldFrom_acc (s : State) (n : Acc) : ((coldFrom s).accAt n).efuseOn = false ∧ ((coldFrom s).accAt n).rst = true := by
  simp [coldFrom]

/-- What fuses and straps give a state after a cold reset. -/
def coldStarted (s : State) : State :=
  let s := s.modNv fun v => { v with boots := (v.boots + 1) % 2 ^ 32 }
  let s := s.modNet fun n => { n with ctr := s.nv.floor }
  let s := s.modLk fun k => { k with training := k.perstN }
  let s := s.modSec fun c => { c with committed := s.nv.epoch, keys := s.nv.keys }
  s.modSys fun y => { y with boot := .coldRom }

theorem coldReset_next (i : StrapSample) (s : State) :
    exec (.coldReset i) s = .next (latchStraps i (coldStarted (coldFrom (cutWrites s)))) := rfl

theorem coldStarted_sys (s : State) : (coldStarted (coldFrom s)).sys = { State.reset.sys with boot := .coldRom } := rfl

theorem coldStarted_nv (s : State) : (coldStarted (coldFrom s)).nv = { s.nv with boots := (s.nv.boots + 1) % 2 ^ 32 } := rfl

theorem coldStarted_kept (s : State) : (coldStarted s).crz = s.crz ∧ (coldStarted s).acc = s.acc ∧
    (coldStarted s).net.ctr = s.nv.floor ∧ (coldStarted s).rcd = s.rcd ∧ (coldStarted s).pending = s.pending :=
  ⟨rfl, rfl, rfl, rfl, rfl⟩

theorem cutWrites_kept (s : State) : (cutWrites s).pending = s.pending ∧ (cutWrites s).nv.floor = s.nv.floor := by
  have hcut := cutWrites_cutOnly s
  unfold CutOnly at hcut
  rw [hcut]
  exact ⟨rfl, rfl⟩

/-! The straps. -/

/-- STRAP_FAULT of the straps that differ (18 R529). -/
def strapFault (f : Nat) (s : State) : State :=
  if f = 0 then s
  else (emit (s.modSys fun y => { y with tick := 1 }) 7 9 0xFF 0x1201 f).modSys fun y => { y with tick := 0 }

/-- The straps noted, the tray detached where one of its own floats. -/
def strapsNoted (i : StrapSample) (s : State) : State :=
  let u := (s.modSys fun y => { y with strapUp := i.up, strapDown := i.down, wpN := i.wpN, testEn := i.testEn }).modSec fun c =>
    { c with bootSel := if (i.up ^^^ i.down).toNat / 256 = 0 then i.up.toNat / 256 % 4 else 1 }
  if (i.up ^^^ i.down).toNat % 32 = 0 then u else u.modRack fun r => { r with strapDetached := true, detached := true }

theorem latchStraps_eq (i : StrapSample) (s : State) : latchStraps i s = strapFault (i.up ^^^ i.down).toNat (strapsNoted i s) := rfl

/-- What the straps leave as it is. -/
structure StrapKept (s t : State) : Prop where
  nv : t.nv = s.nv
  ctr : t.net.ctr = s.net.ctr
  crz : t.crz = s.crz
  acc : t.acc = s.acc
  pending : t.pending = s.pending
  boot : t.sys.boot = s.sys.boot
  fwRunning : t.sys.fwRunning = s.sys.fwRunning

theorem StrapKept.trans {s t u : State} (h : StrapKept s t) (h' : StrapKept t u) : StrapKept s u :=
  ⟨h'.nv.trans h.nv, h'.ctr.trans h.ctr, h'.crz.trans h.crz, h'.acc.trans h.acc, h'.pending.trans h.pending,
    h'.boot.trans h.boot, h'.fwRunning.trans h.fwRunning⟩

theorem strapFault_kept (f : Nat) (s : State) : StrapKept s (strapFault f s) := by
  unfold strapFault
  split <;> exact ⟨rfl, rfl, rfl, rfl, rfl, rfl, rfl⟩

theorem strapsNoted_kept (i : StrapSample) (s : State) : StrapKept s (strapsNoted i s) := by
  unfold strapsNoted
  dsimp only
  split <;> exact ⟨rfl, rfl, rfl, rfl, rfl, rfl, rfl⟩

/-- The levels as latched. -/
def SysState.strapped (i : StrapSample) (y : SysState) : SysState :=
  { y with strapUp := i.up, strapDown := i.down, wpN := i.wpN, testEn := i.testEn }

theorem strapsNoted_sys (i : StrapSample) (s : State) :
    (strapsNoted i s).sys = s.sys.strapped i ∧ (strapsNoted i s).rcd = s.rcd := by
  unfold strapsNoted
  dsimp only
  split <;> exact ⟨rfl, rfl⟩

theorem strapFault_sys (f : Nat) (s : State) : (strapFault f s).sys = { s.sys with tick := (strapFault f s).sys.tick } := by
  unfold strapFault
  split <;> rfl

theorem strapFault_tick (f : Nat) {s : State} (h : s.sys.tick = 0) : (strapFault f s).sys.tick = 0 := by
  unfold strapFault
  split
  · exact h
  · rfl

/-- What is recorded of the straps. -/
theorem strapFault_merger {s : State} (h : s.rcd.merger = []) (f : Nat) (hf : f < 65536) :
    (f = 0 → (strapFault f s).rcd.merger = []) ∧ (f ≠ 0 → ∃ w, (strapFault f s).rcd.merger = [w] ∧ w.item = .ev
      { stamp := 1, cls := 7, unit := 9, object := 0xFF, code := 0x1201, detail := f }) := by
  refine ⟨fun h0 => ?_, fun hne => ?_⟩
  · rw [strapFault, if_pos h0, h]
  · rw [strapFault, if_neg hne]
    refine ⟨_, congrArg (insertWaiting _) h, ?_⟩
    rw [Nat.mod_eq_of_lt hf]
    rfl

theorem flashKept_booted {s v t : State} (h : FlashKept s v s.nv) (ht : t.nv = { v.nv with boots := (v.nv.boots + 1) % 2 ^ 32 }) :
    FlashKept s t { s.nv with boots := (s.nv.boots + 1) % 2 ^ 32 } := by
  obtain ⟨hkept, hidle⟩ := h
  refine ⟨?_, fun hno => ?_⟩
  · rw [ht, hkept]
  · rw [ht, hidle hno]

theorem xor_toNat_eq_zero {x y : BitVec 10} (h : (x ^^^ y).toNat = 0) : x = y := by
  rw [BitVec.toNat_xor, Nat.xor_eq_zero_iff] at h
  exact BitVec.eq_of_toNat_eq h

/-- COLD_RESET (18 R535). -/
theorem coldReset_row (i : StrapSample) (s : State) : ∃ t, exec (.coldReset i) s = .next t ∧ t.sys.tick = 0 ∧
    t.sys.boot = .coldRom ∧ t.sys.fwRunning = false ∧ t.sys.strapUp = i.up ∧ t.sys.strapDown = i.down ∧ t.sys.wpN = i.wpN ∧
    t.sys.testEn = i.testEn ∧ FlashKept s t { s.nv with boots := (s.nv.boots + 1) % 2 ^ 32 } ∧ t.net.ctr = s.nv.floor ∧
    t.crz = State.reset.crz ∧ (∀ n : Acc, (t.accAt n).efuseOn = false ∧ (t.accAt n).rst = true) ∧ t.pending = s.pending ∧
    (i.up = i.down → t.rcd.merger = []) ∧
    (i.up ≠ i.down → ∃ w, t.rcd.merger = [w] ∧ w.item = .ev
      { stamp := 1, cls := 7, unit := 9, object := 0xFF, code := 0x1201, detail := (i.up ^^^ i.down).toNat }) := by
  obtain ⟨hpending, hfloor⟩ := cutWrites_kept s
  have hnv := flashKept_of_cut (s := s) (t := cutWrites s) rfl rfl rfl
  rw [coldReset_next, latchStraps_eq]
  generalize cutWrites s = v at *
  have hsys := coldStarted_sys v
  have hnv' := coldStarted_nv v
  obtain ⟨hcrz, hacc, hctr, hrcd, hpend⟩ := coldStarted_kept (coldFrom v)
  have hacc' := coldFrom_acc v
  generalize coldStarted (coldFrom v) = u at *
  obtain ⟨knv, kctr, kcrz, kacc, kpending, kboot, kfw⟩ :=
    (strapsNoted_kept i u).trans (strapFault_kept (i.up ^^^ i.down).toNat (strapsNoted i u))
  obtain ⟨hnoted, hrecord⟩ := strapsNoted_sys i u
  have hfault := strapFault_sys (i.up ^^^ i.down).toNat (strapsNoted i u)
  have htick : (strapFault (i.up ^^^ i.down).toNat (strapsNoted i u)).sys.tick = 0 :=
    strapFault_tick _ (by rw [hnoted, hsys]; rfl)
  obtain ⟨hnone, hone⟩ := strapFault_merger (s := strapsNoted i u) (by rw [hrecord, hrcd]; rfl) (i.up ^^^ i.down).toNat (by omega)
  rw [hnoted, hsys] at hfault
  generalize strapFault (i.up ^^^ i.down).toNat (strapsNoted i u) = t at *
  refine ⟨t, rfl, htick, ?_, ?_, ?_, ?_, ?_, ?_, flashKept_booted hnv (knv.trans hnv'), ?_, ?_, fun n => ?_, ?_, fun he => ?_,
    fun hne => ?_⟩
  · rw [hfault]; rfl
  · rw [hfault]; rfl
  · rw [hfault]; rfl
  · rw [hfault]; rfl
  · rw [hfault]; rfl
  · rw [hfault]; rfl
  · exact kctr.trans (hctr.trans hfloor)
  · exact kcrz.trans (hcrz.trans rfl)
  · rw [State.accAt, kacc, hacc]
    exact hacc' n
  · exact kpending.trans (hpend.trans hpending)
  · exact hnone (by rw [he, BitVec.xor_self]; rfl)
  · exact hone fun hzero => hne (xor_toNat_eq_zero hzero)

/-- PORST_N_FALL (18 R536). -/
theorem porstNFall_row (s : State) : ∃ t, exec .porstNFall s = .next t ∧ t.sys.boot = .porst ∧ t.sys.tick = s.sys.tick ∧
    FlashKept s t s.nv ∧ t.crz = State.reset.crz ∧ (∀ n : Acc, (t.accAt n).efuseOn = false ∧ (t.accAt n).rst = true) ∧
    t.rcd.merger = [] ∧ t.pending = s.pending := by
  obtain ⟨hpending, -⟩ := cutWrites_kept s
  have hnv := flashKept_of_cut (s := s) (t := cutWrites s) rfl rfl rfl
  have hnext : exec .porstNFall s = .next ((coldFrom (cutWrites s)).modSys fun y => { y with boot := .porst, tick := s.sys.tick }) :=
    rfl
  rw [hnext]
  generalize cutWrites s = v at *
  exact ⟨_, rfl, rfl, rfl, hnv, rfl, coldFrom_acc v, rfl, hpending⟩

/-! The start-up self-test. -/

/-- One failed test is recorded. -/
def testFailed (k : Fin 7) (s : State) : State := emit s 1 9 (k.1 + 1) 0x1104 (k.1 + 1)

section
variable {s : State} (hboot : s.sys.boot = .coldRom) (hstarted : s.saf.started = false) (hbist : s.saf.bistFail = false)
  (htest : factoryTest s = false)
include hboot hstarted hbist htest

theorem startUpSelfTest_judged (failed : BitVec 7) : exec (.startUpSelfTest failed) s =
    if failed = 0 then .next (tableCheck ((s.modSaf fun f => { f with started := true }).modSys fun y => { y with safOk := true }))
    else .next (forAll ((List.finRange 7).filter fun k => failed.getLsbD k.1) testFailed
      (s.modSaf fun f => { f with bistFail := true })) :=
  if_neg (by rw [hboot, hstarted, hbist, htest]; decide)

theorem startUpSelfTest_passes : ∃ t, exec (.startUpSelfTest 0) s = .next t ∧ t.saf = { s.saf with started := true } ∧
    t.sys = { s.sys with safOk := true } ∧ t.cool.table = true ∧ t.crz = s.crz ∧ t.acc = s.acc := by
  let u := (s.modSaf fun f => { f with started := true }).modSys fun y => { y with safOk := true }
  obtain ⟨hsys, -, hsaf, hcrz, hacc, -, -⟩ := tableCheck_kept u
  have hrun : running u = false := by
    change (s.sys.boot == .running) = false
    rw [hboot]
    rfl
  have hcause : tableCause u ≠ none := by
    unfold tableCause
    rw [hrun]
    split
    · exact nofun
    · exact nofun
  exact ⟨_, (startUpSelfTest_judged hboot hstarted hbist htest 0).trans (if_pos rfl), hsaf, hsys, (tableCheck_table u).2 rfl hcause, hcrz, hacc⟩

theorem startUpSelfTest_fails {failed : BitVec 7} (hfailed : failed ≠ 0) : ∃ t, exec (.startUpSelfTest failed) s = .next t ∧
    (∀ k : Fin 7, failed.getLsbD k.1 = true → Raised t 1 9 (k.1 + 1) 0x1104 (k.1 + 1)) ∧
    t = { s with rcd := t.rcd, saf := { s.saf with bistFail := true } } := by
  refine ⟨_, (startUpSelfTest_judged hboot hstarted hbist htest failed).trans (if_neg hfailed), fun k hk => ?_, ?_⟩
  · exact forAll_at (fun _ => True) (fun t => Raised t 1 9 (k.1 + 1) 0x1104 (k.1 + 1)) _
      (List.mem_filter.2 ⟨List.mem_finRange k, hk⟩) (fun _ _ _ => trivial) (fun t _ => raised_emit t _ _ _ _ _ (by omega))
      (fun m t ht => (RecordGrows.emit t ..).raised ht) trivial
  · exact forAll_inv (fun t : State => t = { s with rcd := t.rcd, saf := { s.saf with bistFail := true } }) _ _
      (fun k t ht => by rw [ht]; rfl) _ rfl

end

/-- Settles O25: each reset by its row, the self-test by its outcome. -/
theorem resetAndSelfTestRows : Obligations.ResetAndSelfTestRows := by
  unfold Obligations.ResetAndSelfTestRows
  exact ⟨coldReset_row, porstNFall_row, fun s hboot hstarted hbist htest => ⟨startUpSelfTest_passes hboot hstarted hbist htest,
    fun failed hfailed => startUpSelfTest_fails hboot hstarted hbist htest hfailed⟩⟩

end Sys2Proof.Machine
end

section
/-! SUPPORT. The boot ROM (16 R470 to R474): the slot it chooses, what it releases, and what firmware restores behind it. -/

set_option Elab.async false

namespace Sys2Proof.Machine

open Sys2Proof

/-! What firmware restores before its first serve (15 R448, 18 R537) leaves what the ROM noted. -/

/-- What the ROM noted stays. -/
structure RomKept (s t : State) : Prop where
  sys : t.sys = s.sys
  saf : t.saf = s.saf
  bootSlot : t.sec.bootSlot = s.sec.bootSlot
  image : t.sec.image = s.sec.image

namespace RomKept

theorem refl (s : State) : RomKept s s := ⟨rfl, rfl, rfl, rfl⟩

theorem trans {s t u : State} (h : RomKept s t) (h' : RomKept t u) : RomKept s u :=
  ⟨h'.sys.trans h.sys, h'.saf.trans h.saf, h'.bootSlot.trans h.bootSlot, h'.image.trans h.image⟩

theorem forAll {α : Type} {f : α → State → State} (h : ∀ x s, RomKept s (f x s)) (l : List α) (s : State) :
    RomKept s (forAll l f s) :=
  forAll_inv (RomKept s) f l (fun x t ht => ht.trans (h x t)) s (.refl s)

end RomKept

theorem putStored_romKept (c : Cmd) (s : State) : RomKept s (putStored c s) := by
  cases c with
  | supSetWindow r w d =>
    simp only [putStored]
    split
    · rw [supPut_frame]; exact ⟨rfl, rfl, rfl, rfl⟩
    · exact .refl s
  | supSetFastWindow k w =>
    simp only [putStored]
    split <;> exact ⟨rfl, rfl, rfl, rfl⟩
  | ledgerSetCoeff b l =>
    simp only [putStored]
    split <;> exact ⟨rfl, rfl, rfl, rfl⟩
  | coolSetLoop l =>
    refine RomKept.forAll (f := fun (i : Loop) s => s.setLoop i fun p => { p with cfg := loopWord p.cfg (l.getD i.1 0) })
      (fun i u => ?_) _ s
    exact ⟨rfl, rfl, rfl, rfl⟩
  | _ => exact ⟨rfl, rfl, rfl, rfl⟩

theorem newCooling_romKept (c : Cmd) (s : State) : RomKept s (newCooling c s) := by
  have hset := newCooling_settingsOnly c s
  unfold SettingsOnly at hset
  rw [hset]
  exact ⟨rfl, rfl, rfl, rfl⟩

theorem checkKeys_romKept (s : State) : RomKept s (checkKeys s) := by
  refine .forAll (fun k s => ?_) _ s
  split
  · exact ⟨rfl, rfl, rfl, rfl⟩
  · exact .refl s

theorem coldRestore_romKept (s : State) : RomKept s (coldRestore s) :=
  ((checkKeys_romKept s).trans (.forAll putStored_romKept _ (checkKeys s))).trans ⟨rfl, rfl, rfl, rfl⟩

theorem warmRestore_romKept (s : State) : RomKept s (warmRestore s) := by
  refine .forAll (fun c s => ?_) s.nv.store s
  split
  · exact putStored_romKept _ s
  · exact putStored_romKept _ s
  · exact putStored_romKept _ s
  · exact newCooling_romKept c s

theorem frondReload_romKept (s : State) : RomKept s (frondReload s) := by
  refine RomKept.forAll (f := fun (x : Slot) s => if s.nv.frdFlash[x].isSome && s.nv.frondEng ≠ 0 then
    s.setFrd x fun k => { k with state := 1 } else s) (fun x s => ?_) (List.finRange 4) s
  split
  · exact ⟨rfl, rfl, rfl, rfl⟩
  · exact .refl s

/-! The slot that boots. -/

/-- The ROM begins: the cause of the boot, no result yet. -/
def romBegun (cold : Bool) (s : State) : State :=
  s.modSec fun c => { c with cause := if cold then 0 else c.nextCause, abResult := 0, gResult := 0 }

/-- The chosen image and its slot are noted. -/
def imageChosen (cold : Bool) (k : Nat) (s : State) : State :=
  let s := if k = 2 then s else setTried s
  s.modSec fun c => { c with image := slotImage s k, bootSlot := k, island := if cold then slotImage s k else c.island }

/-- The identities of the boot, its record, and the host's event for an epoch past the image's (16 R475, R503). -/
def identified (k : Nat) (s : State) : State :=
  let im := s.sec.image
  let s := (deriveIds k s).modSrs fun r => { r with ver := BitVec.ofNat 32 (imgSrs im * 256 + (imgSrs im - 1)) }
  let s := emit s 7 9 k 0x1001 (k + 16 * s.sec.cause)
  if imgEpochMax im < s.sec.committed then hostEvent 12 s else s

/-- The application cluster leaves reset. -/
def clusterStarted (s : State) : State := startWatchdog (s.modSys fun y => { y with boot := .running, fwRunning := false })

theorem romRelease_eq (cold : Bool) (restore : State → State) (s : State) : romRelease cold restore s =
    match (chooseSlot (romBegun cold s)).1 with
    | none => noSlot (chooseSlot (romBegun cold s)).2
    | some k => frondReload (restore (clusterStarted (identified k (imageChosen cold k (chooseSlot (romBegun cold s)).2)))) :=
  rfl

theorem imageChosen_sec (cold : Bool) (k : Nat) (s : State) :
    (imageChosen cold k s).sec.bootSlot = k ∧ (imageChosen cold k s).sec.image = slotImage s k := by
  unfold imageChosen
  split <;> exact ⟨rfl, rfl⟩

theorem identified_sec (k : Nat) (s : State) :
    (identified k s).sec.bootSlot = s.sec.bootSlot ∧ (identified k s).sec.image = s.sec.image := by
  unfold identified
  dsimp only
  split <;> exact ⟨rfl, rfl⟩

/-- A released cluster: firmware not yet running, the image and slot noted, the watchdog unarmed (16 R474, 17 R512). -/
structure Released (k : Nat) (im : List Byte) (t : State) : Prop where
  boot : t.sys.boot = .running
  fwRunning : t.sys.fwRunning = false
  bootSlot : t.sec.bootSlot = k
  image : t.sec.image = im
  armed : t.saf.armed = false
  wdtMs : t.saf.wdtMs = 100

theorem clusterStarted_released (s : State) : Released s.sec.bootSlot s.sec.image (clusterStarted s) :=
  ⟨rfl, rfl, rfl, rfl, rfl, rfl⟩

theorem Released.kept {k : Nat} {im : List Byte} {s t : State} (h : Released k im s) (hkept : RomKept s t) : Released k im t := by
  obtain ⟨hsys, hsaf, hslot, himage⟩ := hkept
  exact ⟨hsys ▸ h.boot, hsys ▸ h.fwRunning, hslot.trans h.bootSlot, himage.trans h.image, hsaf ▸ h.armed, hsaf ▸ h.wdtMs⟩

theorem romRelease_some {cold : Bool} {restore : State → State} {s u : State} {k : Nat}
    (h : chooseSlot (romBegun cold s) = (some k, u)) : romRelease cold restore s =
    frondReload (restore (clusterStarted (identified k (imageChosen cold k u)))) := by
  rw [romRelease_eq, h]

theorem romRelease_none {cold : Bool} {restore : State → State} {s u : State} (h : chooseSlot (romBegun cold s) = (none, u)) :
    romRelease cold restore s = noSlot u := by
  rw [romRelease_eq, h]

/-- A restore that leaves what the ROM noted. -/
theorem romRelease_released {cold : Bool} {restore : State → State} (hrestore : ∀ u, RomKept u (restore u)) {s u : State} {k : Nat}
    (h : chooseSlot (romBegun cold s) = (some k, u)) : Released k (slotImage u k) (romRelease cold restore s) := by
  rw [romRelease_some h]
  obtain ⟨hslot, himage⟩ := imageChosen_sec cold k u
  generalize imageChosen cold k u = v at *
  obtain ⟨hslot', himage'⟩ := identified_sec k v
  generalize identified k v = w at *
  have hw := clusterStarted_released w
  rw [hslot', hslot, himage', himage] at hw
  exact hw.kept ((hrestore _).trans (frondReload_romKept _))

/-- Nothing is released (16 R473). -/
structure NotReleased (s t : State) : Prop where
  boot : t.sys.boot = .noSlot
  hattn : t.mbx.hattn = true
  rack : t.rack = s.rack
  target : ∀ n : Acc, (t.chanAt (accChan n)).target = 0

theorem noSlot_notReleased (s : State) : NotReleased s (noSlot s) := by
  have hrack : (forAll accList (aimAcc · 0) s).rack = s.rack :=
    forAll_keeps (·.rack) _ (fun n u => by rw [aimAcc, (aim_channelsOnly (accChan n) 0 u).frame]) _ s
  have htarget := fun n => accTarget_forAll_aimAcc n 0 s
  unfold noSlot
  generalize forAll accList (aimAcc · 0) s = u at *
  exact ⟨rfl, rfl, hrack, htarget⟩

/-- The result of slot G noted. -/
def goldenJudged (s : State) : State := s.modSec fun c => { c with gResult := verifyImage s 0 (slotImage s 2) }

/-- The straps choose slot G. -/
theorem chooseSlot_golden {s : State} (hsel : s.sec.bootSel = 1 ∨ s.sec.bootSel = 3) :
    chooseSlot s = (if verifyImage s 0 (slotImage s 2) = 1 then some 2 else none, goldenJudged s) := by
  rw [chooseSlot, pickSlot, if_pos hsel]
  exact if_pos rfl

/-- A slot's result noted. -/
def slotJudged (s : State) : State := s.modSec fun c => { c with abResult := 1 }

/-- No strap: the slot of a boot record that is no trial. -/
theorem chooseSlot_record {s : State} {b : BootRec} (h1 : s.sec.bootSel ≠ 1) (h3 : s.sec.bootSel ≠ 3) (hb : s.nv.boot = some b)
    (hactive : b.active ≤ 1) (htrial : b.trial = false) (hgood : verifyImage s 0 (slotImage s b.active) = 1) :
    chooseSlot s = (some b.active, slotJudged s) := by
  have hpick : pickSlot s = (b.active, s) := by
    rw [pickSlot, if_neg fun h => h.elim h1 h3, hb]
    exact if_neg (by rw [htrial]; exact Bool.false_ne_true)
  have himage : (if b.active = 0 then s.nv.slot[(0 : Fin 3)] else s.nv.slot[(1 : Fin 3)]) = slotImage s b.active := by
    unfold slotImage
    rcases Nat.le_one_iff_eq_zero_or_eq_one.1 hactive with h | h <;> rw [h] <;> rfl
  rw [chooseSlot, hpick]
  refine (if_neg (by omega)).trans ?_
  dsimp only
  rw [himage, hgood]
  exact if_pos rfl

theorem slotImage_romBegun (cold : Bool) (s : State) (k : Nat) : slotImage (romBegun cold s) k = slotImage s k := rfl

theorem verifyImage_romBegun (cold : Bool) (s : State) (t : Nat) (b : List Byte) :
    verifyImage (romBegun cold s) t b = verifyImage s t b := rfl

theorem slotImage_goldenJudged (cold : Bool) (s : State) (k : Nat) : slotImage (goldenJudged (romBegun cold s)) k = slotImage s k := rfl

theorem slotImage_slotJudged (cold : Bool) (s : State) (k : Nat) : slotImage (slotJudged (romBegun cold s)) k = slotImage s k := rfl

theorem goldenJudged_rack (cold : Bool) (s : State) : (goldenJudged (romBegun cold s)).rack = s.rack := rfl

/-! The release. -/

/-- What a release does, from the state that the ROM starts from. -/
structure RomRow (s : State) (release : State) : Prop where
  golden : (s.sec.bootSel = 1 ∨ s.sec.bootSel = 3) → verifyImage s 0 (slotImage s 2) = 1 → Released 2 (slotImage s 2) release
  none : (s.sec.bootSel = 1 ∨ s.sec.bootSel = 3) → verifyImage s 0 (slotImage s 2) ≠ 1 →
    ∃ u, u.rack.state = s.rack.state ∧ NotReleased u release
  record : ∀ b : BootRec, s.sec.bootSel ≠ 1 → s.sec.bootSel ≠ 3 → s.nv.boot = some b → b.active ≤ 1 → b.trial = false →
    verifyImage s 0 (slotImage s b.active) = 1 → Released b.active (slotImage s b.active) release

theorem romRelease_row (cold : Bool) {restore : State → State} (hrestore : ∀ u, RomKept u (restore u)) (s : State) :
    RomRow s (romRelease cold restore s) := by
  refine ⟨fun hsel hgood => ?_, fun hsel hbad => ?_, fun b h1 h3 hb hactive htrial hgood => ?_⟩
  · have hchoose := chooseSlot_golden (s := romBegun cold s) hsel
    rw [slotImage_romBegun, verifyImage_romBegun, if_pos hgood] at hchoose
    exact slotImage_goldenJudged cold s 2 ▸ romRelease_released hrestore hchoose
  · have hchoose := chooseSlot_golden (s := romBegun cold s) hsel
    rw [slotImage_romBegun, verifyImage_romBegun, if_neg hbad] at hchoose
    exact ⟨_, congrArg (·.state) (goldenJudged_rack cold s), romRelease_none hchoose ▸ noSlot_notReleased _⟩
  · have hchoose := chooseSlot_record (s := romBegun cold s) h1 h3 hb hactive htrial hgood
    exact slotImage_slotJudged cold s b.active ▸ romRelease_released hrestore hchoose

/-- The tray comes up detached with BOOT_SEL 2 (16 R470). -/
def bootDetached (s : State) : State :=
  if s.sec.bootSel = 2 then s.modRack fun r => { r with detached := true } else s

theorem bootRomRelease_next {s : State} (hstarted : s.saf.started = true ∨ s.saf.bistFail = true) (htest : factoryTest s = false)
    (hboot : s.sys.boot = .coldRom) : exec .bootRomRelease s = .next (romRelease true coldRestore (bootDetached s)) :=
  if_neg fun h => h.elim (fun h => h hboot) fun h => h.elim
    (fun h => by rcases hstarted with h' | h' <;> rw [h'] at h <;> simp at h) fun h => by rw [htest] at h; exact Bool.false_ne_true h

theorem RomRow.of_bootDetached {s t : State} (h : RomRow (bootDetached s) t) : RomRow s t := by
  unfold bootDetached at h
  split at h
  · exact ⟨fun hsel hgood => h.golden hsel hgood, fun hsel hbad => h.none hsel hbad, fun b => h.record b⟩
  · exact h

theorem warmResetRelease_next {s : State} (hboot : s.sys.boot = .warmRom) :
    exec .warmResetRelease s = .next (romRelease false warmRestore s) := if_neg fun h => h hboot

/-- Settles O26: both releases by `romRelease_row`. -/
theorem bootRomReleasesVerifiedImage : Obligations.BootRomReleasesVerifiedImage := by
  unfold Obligations.BootRomReleasesVerifiedImage
  intro s hstarted htest i hi
  obtain ⟨t, hnext, hrow⟩ : ∃ t, exec i s = .next t ∧ RomRow s t := by
    rcases hi with ⟨rfl, hboot⟩ | ⟨rfl, hboot⟩
    · exact ⟨_, bootRomRelease_next hstarted htest hboot, (romRelease_row true coldRestore_romKept _).of_bootDetached⟩
    · exact ⟨_, warmResetRelease_next hboot, romRelease_row false warmRestore_romKept s⟩
  refine ⟨fun hsel hgood => ?_, fun hsel hbad => ?_, fun b h1 h3 hb hactive htrial hgood => ?_⟩
  · obtain ⟨hboot, hfw, hslot, himage, harmed, hms⟩ := hrow.golden hsel hgood
    exact ⟨t, hnext, hboot, hfw, hslot, himage, harmed, hms⟩
  · obtain ⟨u, hstate, hboot, hattn, hrack, htarget⟩ := hrow.none hsel hbad
    exact ⟨t, hnext, hboot, hattn, hrack ▸ hstate, htarget⟩
  · obtain ⟨hboot, hfw, hslot, himage, harmed, hms⟩ := hrow.record b h1 h3 hb hactive htrial hgood
    exact ⟨t, hnext, hboot, hfw, hslot, himage, harmed, hms⟩

end Sys2Proof.Machine
end

section
/-! SUPPORT. Trials of a controller image, slot writes, golden copies, the lifecycle fuses and the debug nonce (16 R472, R483 to R486,
R492 to R496). -/

set_option Elab.async false

namespace Sys2Proof.Machine

open Sys2Proof

/-! Trials. -/

/-- A trial confirmed; RAISE_SVN raises SVN_MIN where slot G is as new (16 R472). -/
def trialPassed (b : BootRec) (up : Bool) (s : State) : State :=
  let u := s.modNv fun v => { v with boot := some { b with trial := false, tried := false } }
  let u := if up then u.modNv fun x => { x with svnMin := max x.svnMin (imgSvn s.sec.image) } else u
  emit u 7 9 b.active 0x1005 (b.active + (if up then 0 else 16))

/-- What a confirmed trial leaves. -/
structure TrialPassed (b : BootRec) (up : Bool) (s t : State) : Prop where
  boot : t.nv.boot = some { b with trial := false, tried := false }
  grows : s.nv.svnMin ≤ t.nv.svnMin
  same : up = false → t.nv.svnMin = s.nv.svnMin
  frame : t = { s with rcd := t.rcd, nv := { s.nv with boot := t.nv.boot, svnMin := t.nv.svnMin } }
  raised : Raised t 7 9 b.active 0x1005 b.active ∨ Raised t 7 9 b.active 0x1005 (b.active + 16)

theorem trialPassed_spec {b : BootRec} (hactive : b.active ≤ 1) (up : Bool) (s : State) : TrialPassed b up s (trialPassed b up s) := by
  cases up with
  | false => exact ⟨rfl, Nat.le_refl _, fun _ => rfl, rfl, .inr (raised_emit _ 7 9 _ 0x1005 (b.active + 16) (by omega))⟩
  | true => exact ⟨rfl, Nat.le_max_left .., nofun, rfl, .inl (raised_emit _ 7 9 _ 0x1005 b.active (by omega))⟩

theorem trialConfirmed_row (b : BootRec) (r : Record) (s : State) (hrun : running s = true) (hfw : s.sys.fwRunning = true)
    (hb : s.nv.boot = some b) (htrial : b.trial = true) (hactive : b.active ≤ 1) (hslot : s.sec.bootSlot = b.active)
    (hmirror : s.rcd.mirror = some r) (hsealed : s.saf.releaseTick ≤ r.sealTick)
    (htick : s.saf.releaseTick + 1000000 ≤ s.sys.tick) :
    ∃ t, exec .trialConfirmed s = .next t ∧ TrialPassed b
      ((imgFlags s.sec.image).testBit 0 && decide (imgSvn s.sec.image ≤ imgSvn (slotImage s 2))) s t := by
  refine ⟨_, ?_, trialPassed_spec hactive _ s⟩
  change execTrialConfirmed s = _
  unfold execTrialConfirmed
  rw [hb, hmirror]
  exact if_neg (by simp [hrun, hfw, htrial, hslot, hsealed, htick])

theorem trialTimeout_row (b : BootRec) (s : State) (hrun : running s = true) (hb : s.nv.boot = some b) (htrial : b.trial = true)
    (hslot : s.sec.bootSlot = b.active) (htick : s.saf.releaseTick + 3000000 ≤ s.sys.tick) :
    ∃ t, exec .trialTimeout s = .next t ∧ t.sys.boot = .warmRom ∧ t.sys.fwRunning = false ∧ t.sec.nextCause = 3 ∧
      t.crz = s.crz ∧ FlashKept s t s.nv := by
  have hnext : exec .trialTimeout s = .next (warmReset 3 s) := by
    change execTrialTimeout s = _
    unfold execTrialTimeout
    rw [hb]
    exact if_neg (by simp [hrun, htrial, hslot, htick])
  obtain ⟨hboot, hfw, hcause, -, -, hcrz, -, hflash⟩ := warmReset_spec 3 s
  exact ⟨_, hnext, hboot, hfw, hcause, hcrz, hflash⟩

theorem activateWarmReset_row (x : Nat) (s : State) (hrun : running s = true) (hx : s.sec.resetTick = some x) (htick : x ≤ s.sys.tick) :
    ∃ t, exec .activateWarmReset s = .next t ∧ t.sys.boot = .warmRom ∧ t.sys.fwRunning = false ∧ t.sec.nextCause = 1 ∧
      t.sec.resetTick = none ∧ t.crz = s.crz ∧ FlashKept s t s.nv := by
  have hnext : exec .activateWarmReset s = .next (warmReset 1 s) := by
    change execActivateWarmReset s = _
    unfold execActivateWarmReset
    rw [hx]
    exact if_neg (by simp [hrun, htick])
  obtain ⟨hboot, hfw, hcause, hreset, -, hcrz, -, hflash⟩ := warmReset_spec 1 s
  exact ⟨_, hnext, hboot, hfw, hcause, hreset, hcrz, hflash⟩

/-! Slot writes. -/

/-- A slot read back: the activation ends (16 R494). -/
def readBackPut (a : Activate) (rb : List Byte) (s : State) : State :=
  (s.modSec fun c => { c with activate := none }).modNv fun v =>
    { v with slot := if a.slot = 0 then v.slot.set 0 rb else v.slot.set 1 rb }

@[simp] abbrev State.slotAt (s : State) (k : Fin 3) : List Byte := s.nv.slot[k]'k.isLt

theorem readBackPut_spec (a : Activate) (rb : List Byte) (s : State) :
    (readBackPut a rb s).slotAt (if a.slot = 0 then 0 else 1) = rb ∧ (readBackPut a rb s).slotAt 2 = s.slotAt 2 ∧
      (readBackPut a rb s).sec.activate = none ∧ (readBackPut a rb s).crz = s.crz := by
  have hslot : (readBackPut a rb s).nv.slot = if a.slot = 0 then s.nv.slot.set 0 rb else s.nv.slot.set 1 rb := rfl
  refine ⟨?_, ?_, rfl, rfl⟩
  · rw [State.slotAt, hslot]
    split
    · exact Vector.getElem_set_self _
    · exact Vector.getElem_set_self _
  · rw [State.slotAt, hslot]
    split
    · exact (getElem_set_ite s.nv.slot 0 2 rb).trans (if_neg nofun)
    · exact (getElem_set_ite s.nv.slot 1 2 rb).trans (if_neg nofun)

theorem activateDone_spec (k : Nat) (s : State) : (activateDone k s).nv.slot = s.nv.slot ∧
    (activateDone k s).nv.boot = some { active := k, trial := true, tried := false } ∧ (activateDone k s).sec.activated = true ∧
    (activateDone k s).sec.activate = s.sec.activate ∧ Raised (activateDone k s) 7 9 0 0x1004 0 ∧ (activateDone k s).crz = s.crz :=
  ⟨rfl, rfl, rfl, rfl, raised_emit _ 7 9 0 0x1004 0 (by omega), rfl⟩

section
variable {a : Activate} {s : State} (hrun : running s = true) (ha : s.sec.activate = some a) (hgolden : a.golden = false)
include hrun ha hgolden

theorem fwSlotWritten_judged (rb : List Byte) : exec (.fwSlotWritten rb) s =
    if Config.sha3 (imgBody rb) ≠ imgHash a.image then .next (readBackPut a rb s)
    else .next (activateDone a.slot (readBackPut a rb s)) := by
  change execFwSlotWritten rb s = _
  unfold execFwSlotWritten
  rw [if_neg (by rw [hrun]; decide), ha]
  dsimp only
  rw [hgolden]
  rfl

theorem fwSlotWritten_good (rb : List Byte) (hgood : Config.sha3 (imgBody rb) = imgHash a.image) :
    ∃ t, exec (.fwSlotWritten rb) s = .next t ∧ t.slotAt (if a.slot = 0 then 0 else 1) = rb ∧
      t.nv.boot = some { active := a.slot, trial := true, tried := false } ∧ t.sec.activated = true ∧ t.sec.activate = none ∧
      Raised t 7 9 0 0x1004 0 ∧ t.slotAt 2 = s.slotAt 2 ∧ t.crz = s.crz := by
  have hnext := (fwSlotWritten_judged hrun ha hgolden rb).trans (if_neg fun h => h hgood)
  obtain ⟨hwritten, hkept, hnone, hcrz⟩ := readBackPut_spec a rb s
  generalize readBackPut a rb s = u at *
  obtain ⟨hslot, hboot, hdone, hactivate, hraised, hcrz'⟩ := activateDone_spec a.slot u
  refine ⟨_, hnext, ?_, hboot, hdone, hactivate.trans hnone, hraised, ?_, hcrz'.trans hcrz⟩
  · rw [State.slotAt, hslot]
    exact hwritten
  · rw [State.slotAt, hslot]
    exact hkept

theorem fwSlotWritten_bad (rb : List Byte) (hbad : Config.sha3 (imgBody rb) ≠ imgHash a.image) :
    ∃ t, exec (.fwSlotWritten rb) s = .next t ∧ t.nv.boot = s.nv.boot ∧ t.sec = { s.sec with activate := none } ∧
      t.rcd = s.rcd ∧ t.crz = s.crz :=
  ⟨_, (fwSlotWritten_judged hrun ha hgolden rb).trans (if_pos hbad), rfl, rfl, rfl, rfl⟩

end

/-! Golden copies (16 R496). -/

/-- The golden copy of a target. -/
def State.goldenCopy (s : State) (k : Fin 3) : List Byte := if k = 0 then s.nv.slot[(2 : Fin 3)] else goldenOf s (k.1 - 1)

@[simp] abbrev State.badAt (s : State) (k : Fin 3) : Bool := s.sec.goldenBad[k]'k.isLt

/-- GOLDEN_BAD of a target. -/
def goldenNoted (k : Fin 3) (bad : Bool) (s : State) : State := s.modSec fun c => { c with goldenBad := c.goldenBad.set k bad k.isLt }

theorem checkGolden_eq (k : Fin 3) (s : State) : checkGolden k s =
    if verifyImage s k.1 (s.goldenCopy k) = 1 then goldenNoted k false s
    else emit (goldenNoted k true s) 7 9 k.1 0x100E k.1 := rfl

/-- From `s` to `t` only the record and GOLDEN_BAD may differ. -/
def GoldenOnly (s t : State) : Prop := t = { s with rcd := t.rcd, sec := { s.sec with goldenBad := t.sec.goldenBad } }

theorem GoldenOnly.trans {s t u : State} (h : GoldenOnly s t) (h' : GoldenOnly t u) : GoldenOnly s u := by
  unfold GoldenOnly at h h' ⊢
  rw [h', h]

theorem GoldenOnly.verify {s t : State} (h : GoldenOnly s t) (k : Fin 3) :
    verifyImage t k.1 (t.goldenCopy k) = verifyImage s k.1 (s.goldenCopy k) := by
  unfold GoldenOnly at h
  rw [h]
  rfl

theorem checkGolden_only (k : Fin 3) (s : State) : GoldenOnly s (checkGolden k s) := by
  rw [checkGolden_eq]
  split <;> rfl

/-- A copy judged: GOLDEN_BAD says whether it fails, and a failure is recorded. -/
def GoldenJudged (good : Prop) (k : Fin 3) (t : State) : Prop :=
  (good → t.badAt k = false) ∧ (¬good → t.badAt k = true ∧ Raised t 7 9 k.1 0x100E k.1)

theorem goldenNoted_badAt (m k : Fin 3) (bad : Bool) (s : State) :
    (goldenNoted m bad s).badAt k = if k = m then bad else s.badAt k := getElem_set_ite s.sec.goldenBad m k bad

theorem checkGolden_judged (k : Fin 3) (s : State) : GoldenJudged (verifyImage s k.1 (s.goldenCopy k) = 1) k (checkGolden k s) := by
  refine ⟨fun hgood => ?_, fun hbad => ?_⟩
  · rw [checkGolden_eq, if_pos hgood, goldenNoted_badAt, if_pos rfl]
  · rw [checkGolden_eq, if_neg hbad]
    exact ⟨(goldenNoted_badAt k k true s).trans (if_pos rfl), raised_emit _ _ _ _ _ _ (by omega)⟩

theorem checkGolden_badAt {m k : Fin 3} (h : k ≠ m) (s : State) : (checkGolden m s).badAt k = s.badAt k := by
  rw [checkGolden_eq]
  split
  · exact (goldenNoted_badAt m k false s).trans (if_neg h)
  · exact (goldenNoted_badAt m k true s).trans (if_neg h)

theorem checkGolden_raised {m : Fin 3} {s : State} {cls unit obj code detail : Nat} (h : Raised s cls unit obj code detail) :
    Raised (checkGolden m s) cls unit obj code detail := by
  rw [checkGolden_eq]
  split
  · exact h.mono rfl fun _ hw => hw
  · exact (h.mono (t := goldenNoted m true s) rfl fun _ hw => hw).emit ..

/-- A check leaves what the check of another copy found, and finds the same again. -/
theorem GoldenJudged.checkGolden {s t : State} {k : Fin 3} (m : Fin 3) (honly : GoldenOnly s t)
    (h : GoldenJudged (verifyImage s k.1 (s.goldenCopy k) = 1) k t) :
    GoldenJudged (verifyImage s k.1 (s.goldenCopy k) = 1) k (checkGolden m t) := by
  by_cases hmk : k = m
  · subst hmk
    rw [← honly.verify k]
    exact checkGolden_judged k t
  · refine ⟨fun hgood => ?_, fun hbad => ?_⟩
    · rw [checkGolden_badAt hmk, h.1 hgood]
    · rw [checkGolden_badAt hmk]
      exact ⟨(h.2 hbad).1, checkGolden_raised (h.2 hbad).2⟩

theorem goldenCheck_row (s : State) (hrun : running s = true) : ∃ t, exec .goldenCheck s = .next t ∧ GoldenOnly s t ∧
    ∀ k : Fin 3, GoldenJudged (verifyImage s k.1 (s.goldenCopy k) = 1) k t := by
  refine ⟨_, if_neg (by rw [hrun]; decide), forAll_inv (GoldenOnly s) _ _ (fun m t ht => ht.trans (checkGolden_only m t)) s rfl,
    fun k => ?_⟩
  have hself : GoldenOnly s s := rfl
  exact (forAll_at (GoldenOnly s) (fun t => GoldenOnly s t ∧ GoldenJudged (verifyImage s k.1 (s.goldenCopy k) = 1) k t) _
    (List.mem_finRange k) (fun m t ht => ht.trans (checkGolden_only m t))
    (fun t ht => ⟨ht.trans (checkGolden_only k t), ht.verify k ▸ checkGolden_judged k t⟩)
    (fun m t ht => ⟨ht.1.trans (checkGolden_only m t), ht.2.checkGolden m ht.1⟩) hself).2

/-- The golden copy of a family written (16 R495). -/
def familyWritten (k : Fin 3) (rb : List Byte) (s : State) : State := putGolden k.1 rb (s.modSec fun c => { c with goldenWrite := none })

theorem goldenOf_familyWritten {k : Fin 3} (hk : k ≠ 0) (rb : List Byte) (s : State) :
    goldenOf (familyWritten k rb s) (k.1 - 1) = rb := by
  match k with
  | 0 => exact absurd rfl hk
  | 1 => simp [goldenOf, familyWritten, putGolden]
  | 2 => simp [goldenOf, familyWritten, putGolden]

theorem familyWritten_frame {k : Fin 3} (hk : k ≠ 0) (rb : List Byte) (s : State) : familyWritten k rb s = { s with
      nv := { s.nv with golden := (familyWritten k rb s).nv.golden }, sec := { s.sec with goldenWrite := none } } ∧
    verifyImage (familyWritten k rb s) k.1 rb = verifyImage s k.1 rb := by
  match k with
  | 0 => exact absurd rfl hk
  | 1 => exact ⟨rfl, rfl⟩
  | 2 => exact ⟨rfl, rfl⟩

theorem familyWritten_next {k : Fin 3} {b rb : List Byte} {s : State} (hrun : running s = true) (hnone : s.sec.activate = none)
    (hwrite : s.sec.goldenWrite = some (k.1, b)) (hk : k ≠ 0) :
    exec (.fwSlotWritten rb) s = .next (checkGolden k (familyWritten k rb s)) := by
  change execFwSlotWritten rb s = _
  unfold execFwSlotWritten
  rw [if_neg (by rw [hrun]; decide), hnone]
  dsimp only
  rw [hwrite]
  match k with
  | 0 => exact absurd rfl hk
  | 1 => rfl
  | 2 => rfl

theorem familyWritten_row (k : Fin 3) (b rb : List Byte) (s : State) (hrun : running s = true) (hnone : s.sec.activate = none)
    (hwrite : s.sec.goldenWrite = some (k.1, b)) (hk : k ≠ 0) : ∃ t, exec (.fwSlotWritten rb) s = .next t ∧
      goldenOf t (k.1 - 1) = rb ∧
      t = { s with rcd := t.rcd, nv := { s.nv with golden := t.nv.golden },
                   sec := { s.sec with goldenWrite := none, goldenBad := t.sec.goldenBad } } ∧
      (verifyImage s k.1 rb = 1 → t.badAt k = false ∧ t.rcd = s.rcd) ∧
      (verifyImage s k.1 rb ≠ 1 → t.badAt k = true ∧ Raised t 7 9 k.1 0x100E k.1) := by
  have hcopy := goldenOf_familyWritten hk rb s
  have hgolden : (familyWritten k rb s).goldenCopy k = rb := (if_neg hk).trans hcopy
  obtain ⟨hframe, hverify⟩ := familyWritten_frame hk rb s
  have hnext := familyWritten_next (rb := rb) hrun hnone hwrite hk
  generalize familyWritten k rb s = u at *
  have honly := checkGolden_only k u
  have hjudged := checkGolden_judged k u
  rw [hgolden, hverify] at hjudged
  refine ⟨_, hnext, ?_, ?_, fun hgood => ⟨hjudged.1 hgood, ?_⟩, hjudged.2⟩
  · rw [honly]
    exact hcopy
  · unfold GoldenOnly at honly
    rw [honly, hframe]
  · rw [checkGolden_eq, hgolden, hverify, if_pos hgood]
    change u.rcd = s.rcd
    rw [hframe]

/-! The lifecycle (16 R483, R484). -/

/-- What a transition leaves in flash, and what zeroisation empties. -/
structure LifecycleMoved (new : Nat) (s t : State) : Prop where
  lc : t.nv.lc = new
  floor : t.nv.floor = s.nv.floor
  journal : t.nv.journal = s.nv.journal
  boot : t.nv.boot = s.nv.boot
  epoch : t.nv.epoch = s.nv.epoch
  zeroised : 3 ≤ new → t.nv.store = [] ∧ t.nv.modelMin = [] ∧ t.nv.unlocks = 0 ∧ t.nv.keys = Vector.replicate 3 none ∧
    t.nv.frdFlash = Vector.replicate 4 none

/-- The transition to the owner takes its root and manifest. -/
def ownerMoved (old new : Nat) (s : State) : State :=
  if old = 0 ∧ new = 1 then s.modNv fun v => { v with
    ownerRoot := Config.sha3 (rootPub v.pendManifest), manifest := if s.sys.wpN then v.pendManifest else v.manifest } else s

/-- The fuses of a new state. -/
def lifecycleSet (new : Nat) (s : State) : State := s.modNv fun v => { v with lc := new, udsKill := v.udsKill || new == 4 }

theorem moveLifecycle_eq (old new : Nat) (s : State) : moveLifecycle old new s =
    lifecycleSet new (if 3 ≤ new then zeroise (ownerMoved old new s) else ownerMoved old new s) := rfl

theorem ownerMoved_kept (old new : Nat) (s : State) : (ownerMoved old new s).nv.floor = s.nv.floor ∧
    (ownerMoved old new s).nv.journal = s.nv.journal ∧ (ownerMoved old new s).nv.boot = s.nv.boot ∧
    (ownerMoved old new s).nv.epoch = s.nv.epoch ∧ (ownerMoved old new s).sec = s.sec := by
  unfold ownerMoved
  split <;> exact ⟨rfl, rfl, rfl, rfl, rfl⟩

theorem moveLifecycle_moved (old new : Nat) (s : State) : LifecycleMoved new s (moveLifecycle old new s) ∧
    (moveLifecycle old new s).sec.lifecycle = s.sec.lifecycle := by
  obtain ⟨hfloor, hjournal, hboot, hepoch, hsec⟩ := ownerMoved_kept old new s
  rw [moveLifecycle_eq]
  generalize ownerMoved old new s = u at *
  by_cases hzero : 3 ≤ new
  · rw [if_pos hzero]
    exact ⟨⟨rfl, hfloor, hjournal, hboot, hepoch, fun _ => ⟨rfl, rfl, rfl, rfl, rfl⟩⟩, congrArg (·.lifecycle) hsec⟩
  · rw [if_neg hzero]
    exact ⟨⟨rfl, hfloor, hjournal, hboot, hepoch, fun h => absurd h hzero⟩, congrArg (·.lifecycle) hsec⟩

/-- The outcome of a transition: signed, and the fuses good. -/
def lifecycleOutcome (s : State) (new : Nat) (sig : List Byte) (bad : Bool) : Nat :=
  let signed := (signerKeys s 4).any fun p => Config.mldsaVerify p (lifecycleMsg s new) "FM8 lifecycle" sig
  if signed = false then 1 else if bad then 2 else 0

/-- The request taken, and the transition made where nothing stopped it. -/
def lifecycleTaken (new outcome : Nat) (s : State) : State :=
  let u := s.modSec fun c => { c with lifecycle := none }
  if outcome = 0 then moveLifecycle u.nv.lc new u else u

theorem lifecycleFused_next {s : State} {new : Nat} {sig : List Byte} (h : s.sec.lifecycle = some (new, sig)) (bad : Bool) :
    exec (.lifecycleFused bad) s = .next (firmware (lifecycleTaken new (lifecycleOutcome s new sig bad) s) 0xFF 0x100B
      (new + 16 * lifecycleOutcome s new sig bad)) := by
  change execLifecycleFused bad s = _
  unfold execLifecycleFused
  rw [h]
  dsimp only
  unfold lifecycleOutcome lifecycleTaken
  cases (signerKeys s 4).any fun p => Config.mldsaVerify p (lifecycleMsg s new) "FM8 lifecycle" sig <;> rfl

theorem lifecycleOutcome_le (s : State) (new : Nat) (sig : List Byte) (bad : Bool) : lifecycleOutcome s new sig bad ≤ 2 := by
  unfold lifecycleOutcome
  dsimp only
  split
  · exact Nat.le_succ 1
  · split
    · exact Nat.le_refl 2
    · exact Nat.zero_le 2

theorem lifecycleFused_row (new : Nat) (sig : List Byte) (bad : Bool) (s : State) (h : s.sec.lifecycle = some (new, sig))
    (hnew : new ≤ 4) : ∃ t, exec (.lifecycleFused bad) s = .next t ∧ t.sec.lifecycle = none ∧ HostDue t 12 ∧
      Raised t 7 9 0xFF 0x100B (new + 16 * lifecycleOutcome s new sig bad) ∧
      (lifecycleOutcome s new sig bad ≠ 0 → t.nv = s.nv) ∧ (lifecycleOutcome s new sig bad = 0 → LifecycleMoved new s t) := by
  have hle := lifecycleOutcome_le s new sig bad
  rw [lifecycleFused_next h bad]
  generalize lifecycleOutcome s new sig bad = o at *
  obtain ⟨hraised, hdue⟩ := raised_firmware (s := lifecycleTaken new o s) (obj := 0xFF) (code := 0x100B)
    (detail := new + 16 * o) (by omega)
  obtain ⟨hmoved, hnone⟩ := moveLifecycle_moved s.nv.lc new (s.modSec fun c => { c with lifecycle := none })
  refine ⟨_, rfl, ?_, hdue, hraised, fun hno => ?_, fun hyes => ?_⟩
  · change (lifecycleTaken new o s).sec.lifecycle = none
    unfold lifecycleTaken
    dsimp only
    split
    · exact hnone
    · rfl
  · change (lifecycleTaken new o s).nv = s.nv
    rw [lifecycleTaken, if_neg hno]
    rfl
  · have htaken : lifecycleTaken new o s = moveLifecycle s.nv.lc new (s.modSec fun c => { c with lifecycle := none }) := if_pos hyes
    rw [htaken]
    exact ⟨hmoved.lc, hmoved.floor, hmoved.journal, hmoved.boot, hmoved.epoch, hmoved.zeroised⟩

theorem debugNonceExpiry_row (x : BitVec 256) (e : Nat) (s : State) (h : s.sec.nonce = some (x, e)) (htick : e ≤ s.sys.tick) :
    exec .debugNonceExpiry s = .next { s with sec := { s.sec with nonce := none } } := by
  change execDebugNonceExpiry s = _
  unfold execDebugNonceExpiry
  rw [h]
  exact if_neg (Nat.not_lt.2 htick)

/-- Settles O28: the trial, the writes, the golden copies, the fuses and the nonce, each by its row. -/
theorem firmwareAndFuseRows : Obligations.FirmwareAndFuseRows := by
  unfold Obligations.FirmwareAndFuseRows
  refine ⟨fun b r s hrun hfw hb htrial hactive hslot hmirror hsealed htick => ?_, trialTimeout_row, activateWarmReset_row,
    fun a rb s hrun ha hgolden => ⟨fwSlotWritten_good hrun ha hgolden rb, fwSlotWritten_bad hrun ha hgolden rb⟩,
    familyWritten_row, goldenCheck_row, fun new sig bad s h hnew => ?_, debugNonceExpiry_row⟩
  · obtain ⟨t, hnext, hboot, hgrows, hsame, hframe, hraised⟩ :=
      trialConfirmed_row b r s hrun hfw hb htrial hactive hslot hmirror hsealed htick
    exact ⟨t, hnext, hboot, hgrows, fun hno => hsame (by rw [hno]; rfl), hframe, hraised⟩
  · obtain ⟨t, hnext, hnone, hdue, hraised, hkept, hmoved⟩ := lifecycleFused_row new sig bad s h hnew
    refine ⟨t, hnext, hnone, hdue, hraised, hkept, fun ho => ?_⟩
    obtain ⟨hlc, hfloor, hjournal, hboot, hepoch, hzero⟩ := hmoved ho
    exact ⟨hlc, hfloor, hjournal, hboot, hepoch, hzero⟩

end Sys2Proof.Machine
end
